-- ==== Sys2Proof/Word.lean ====
section
/-! DEFINITION. The word type of the register window (R59: register accesses are 32 bits wide) and nothing else. -/

namespace Sys2Proof

/-- One 32-bit register word (R59). -/
abbrev Word := BitVec 32

/-- One byte of DRAM (R4, R47). -/
abbrev Byte := BitVec 8

/-- One 64-byte block is sixteen words; an indirect-window element has the same length (R61). -/
abbrev elementWords : Nat := 16

end Sys2Proof
end

