-- ==== Sys2Proof/Syntax.lean ====
section
/-! DEFINITION. The commands of the module, one constructor per row of spec/opcode_table.json, with the data each
carries. `m` is a master ID (R12), `p` a partition; the first words of each doc comment are the table's own. -/

namespace Sys2Proof

/-- A CAN frame as it stands on the bus (R396, R402): identifier, IDE, FDF, BRS, ESI, remote request, data length code
and payload. -/
structure CanFrame where
  id : Nat
  ide : Bool
  fdf : Bool := false
  brs : Bool := false
  esi : Bool := false
  rtr : Bool := false
  dlc : Nat := 0
  bytes : List Byte := []
  deriving DecidableEq, Repr

/-- How a transmission ends (R405): sent and acknowledged, ended by an error, or lost in arbitration. -/
inductive CanEnd where
  | success
  | error
  | arbitrationLost
  deriving DecidableEq, Repr

/-- What one safety channel samples at a tick (R457): the levels of lines A and B of the 32 inputs and of the 16 EDM pairs,
and its count of each group's speed source. -/
structure SafeLines where
  inA : Nat := 0
  inB : Nat := 0
  edmA : Nat := 0
  edmB : Nat := 0
  counts : List Int := []
  deriving DecidableEq, Repr

/-- What both safety channels see at a tick: their samples, the groups whose readback has differed from the command for
longer than 20 µs (R471), and a channel fault with the channels that detect it (R458). -/
structure SafeSample where
  a : SafeLines := {}
  b : SafeLines := {}
  readback : Nat := 0
  chFault : Option Nat := none
  deriving DecidableEq, Repr

/-- What the twin's HELLO block and the board's lines tell (R491, R492): the fields of the checks, the twin's preference and
claim, whether it already leads or runs alone, whether both base images list each other, and the levels of PAIR_HOLD_IN and
PAIR_ROLE_IN. -/
structure Hello where
  pairId : Nat
  part : Nat
  safCrc : Nat
  recipe : Nat
  epoch : Nat
  identity : Nat
  pref : Bool
  claim : Bool
  leads : Bool
  tested : Bool
  holdIn : Bool
  roleIn : Bool
  deriving DecidableEq, Repr

/-- A Pair Link block by its meaning (R498 to R511): the spec gives its classes, not the coding of its kinds. -/
inductive PairMsg where
  /-- heartbeat: the sender's ROLE and its PACE_LOW -/
  | status (role : Nat) (paceLow : Bool)
  | surrender (cause : Nat)
  | propose (b : Nat)
  | accept (b : Nat)
  | abortHandover
  | askHandover
  /-- a forwarded host write (R501) -/
  | hostWrite (m addr : Nat) (data : List Word) (keyed : Bool)
  /-- a forwarded shadow write or write-and-arm of a PWM pair, with the boundary from which it counts at the lead, in 250 ps (R284) -/
  | shadow (pair off : Nat) (data : List Word) (stamp : BitVec 96) (arm : Bool) (bound : Int)
  /-- a forwarded converter result (R500) -/
  | convResult (i e : Nat) (data : Word) (info gen : Nat) (stamp : BitVec 96)
  /-- the outcome of a CAN request at the lead (R409) -/
  | canOutcome (ch o : Nat) (ok : Bool) (lec : Nat) (sof : BitVec 96)
  /-- the lead's digest of an output of a slot or a section of a descriptor, and whether it agrees with the module's own (R504) -/
  | digest (slot : Bool) (key : Nat) (agrees : Bool)
  | mismatch (slot : Bool) (key : Nat)
  /-- the lead's digest of a slot's learning corrections in the repetition that ended with REPS (R219) -/
  | learnDigest (slot reps : Nat) (digest : Word)
  /-- a mirror block and its age in µs (R502) -/
  | mirror (addr : Nat) (data : List Byte) (age : Nat)
  /-- a repair request for a DRAM block, or for an element (R511) -/
  | repair (elem : Bool) (key : Nat)
  /-- the twin's copy of what a repair request names, and whether it is sound (R511) -/
  | repairCopy (elem : Bool) (key : Nat) (data : List Word) (sound : Bool)
  deriving DecidableEq, Repr

/-- The commands of spec/opcode_table.json. -/
inductive Instr where
  /-- WIDE_VALUE_LOW_WORD_READ (R11): A 32-bit read of the lowest word of a wider value captures the remaining words for that master and has the read's side effects. -/
  | wideValueLowWordRead (m addr : Nat)
  /-- RESULT_ALIAS_READ (R19): A read at a result word's consuming alias returns the word with the reader's FRESH bit and then clears that partition's FRESH bit. -/
  | resultAliasRead (m addr size : Nat) (bad : Bool := false)
  /-- DIPSTICK_WINDOW_END (R27): At the end of each 1 µs window Dipstick publishes the pace of every region and the minimum, and the pace decisions of this chapter are taken. -/
  | dipstickWindowEnd (paces : List Nat)
  /-- FLOOR_TIMER_EXPIRY (R35): The floor timer reaches 50 µs, and the module gives up control by surrendering to a ready standby or requesting SS1 on every configured axis. -/
  | floorTimerExpiry
  /-- PACE_RECOVERY_EXPIRY (R37): PACE_FLOOR has stayed clear for 10 s, so a standby may resume the ready state. -/
  | paceRecoveryExpiry
  /-- DIP_TARGET_WRITE (R32): A keyed write of TARGET is stored clamped to the limits derived from LANE_FLOOR. -/
  | dipTargetWrite (m : Nat) (d : Word)
  /-- MEM_USE_INTERVAL_END (R48): At the end of each 1 ms interval MEM_USE_k is updated, and a draw beyond a reservation counts in MEM_OVER_CNT and raises OVER. -/
  | memUseIntervalEnd (draws : List Nat)
  /-- REGISTER_WRITE (R70): A write to a register without behaviour of its own is checked against access size, ownership, power, key and lock, and then applied or refused and logged. -/
  | registerWrite (m addr size : Nat) (data : List Word) (hops : Nat)
  /-- UNIMPLEMENTED_ACCESS (R58): An access to an unimplemented address reads 0 or is discarded, and is logged only in HST_UNIMP_INFO and HST_UNIMP_CNT. -/
  | unimplementedAccess (m addr : Nat) (wr : Bool)
  /-- RC_REGISTER_READ (R9): A read of an RC register returns its value and then clears it, subject to the read rights of R69 for PG_ERRINFO and PG_ERR_CNT. -/
  | rcRegisterRead (m addr size : Nat)
  /-- IWIN_READ (R64): GO with OP = 1 starts a read of one element into the context's DATA after the permission checks. -/
  | iwinRead (m blk inst sel : Nat)
  /-- IWIN_WRITE (R64): GO with OP = 2 starts a replacement of one element from DATA after the permission checks. -/
  | iwinWrite (m blk inst sel : Nat)
  /-- IWIN_DONE (R64): An indirect-window operation ends, clearing BUSY and setting DONE and ERR. -/
  | iwinDone (p blk inst rr : Nat)
  /-- PAGE_ENABLE (R67): A keyed write of PG_CTL.ENABLE starts or stops the instance, after any block-specific enable checks. -/
  | pageEnable (m blk inst : Nat) (d : Word)
  /-- PAGE_SOFT_RESET (R68): A keyed write of SOFT_RESET starts the reset of the instance's registers, result words and window contexts and closes the page. -/
  | pageSoftReset (m blk inst : Nat) (d : Word)
  /-- SOFT_RESET_COMPLETE (R68): A soft reset completes within 10 µs, and READY and register access return. -/
  | softResetComplete (blk inst : Nat)
  /-- DEBUG_FREEZE_WRITE (R67): A write of DEBUG_FREEZE makes the block halt at its next safe point while the test port asserts freeze. -/
  | debugFreezeWrite (m blk inst : Nat) (d : Word)
  /-- PG_OWNER_WRITE (R69): The owner writes PG_OWNER, moving the write right to the new owner and optionally locking the register. -/
  | pgOwnerWrite (m blk inst : Nat) (d : Word)
  /-- PG_KEY_WRITE (R73): A write to PG_KEY advances, completes or breaks the writing partition's key sequence on that page. -/
  | pgKeyWrite (m blk inst : Nat) (d : Word)
  /-- KEY_TIMEOUT (R73): The gap between the two key writes exceeds the page's key timeout, and the sequence breaks with KEY_BROKEN. -/
  | keyTimeout (m blk inst : Nat)
  /-- EVT_PEND_CLEAR (R74): A W1C write of PG_EVT_PEND clears the handled causes, and the page signals the router again if the line stays asserted. -/
  | evtPendClear (m blk inst : Nat) (d : Word)
  /-- EVENT_NOTICE_DELIVERY (R79): The router accepts a notice from an asserted line and delivers it to the routed partition and vector. -/
  | eventNoticeDelivery (line : Nat)
  /-- ROUTE_WRITE (R76): A write of HST_EVR_ROUTE_n by an entitled partition changes the route from the line's next notice. -/
  | routeWrite (m n : Nat) (d : Word)
  /-- VEC_PEND_CLEAR (R77): A core partition clears pending vectors by a W1C write of HST_VEC_PEND. -/
  | vecPendClear (m p off : Nat) (data : List Word)
  /-- MSIX_UNMASK (R78): Unmasking a pending MSI-X vector sends one message and clears its pending bit. -/
  | msixUnmask (m p v : Nat) (d : Word)
  /-- MSIX_HELD_SEND (R78): A function that becomes able to send again sends the messages held as pending. -/
  | msixHeldSend (p v : Nat)
  /-- PCIE_LINK_CHANGE (R85): The link of an endpoint comes up or goes down, or changes speed or width, and HST_EP_STAT follows. -/
  | pcieLinkChange (e : Nat) (up : Bool) (speed width : Nat)
  /-- FUNCTION_LEVEL_RESET (R91): A function-level reset resets the function's configuration space, MSI-X table, window contexts and key state and releases its locks. -/
  | functionLevelReset (e f : Nat)
  /-- PERST_ASSERT (R93): PERST_N of an endpoint held low for 1 µs acts as a fundamental reset of the endpoint and its four partitions. -/
  | perstAssert (e : Nat)
  /-- PERST_RELEASE (R93): PERST_N rises and the endpoint begins link training. -/
  | perstRelease (e : Nat)
  /-- SHM_ENTRY_WRITE (R86): The owner of HST instance 0 writes a shared-memory entry, and a write of EN = 1 beyond the installed DRAM is refused with BAD. -/
  | shmEntryWrite (m k off : Nat) (data : List Word)
  /-- BAR2_READ (R87): A host read through BAR2 is mapped into its window or refused and recorded. -/
  | bar2Read (p off len : Nat) (rr : List Nat) (hops : Nat := 0)
  /-- BAR2_WRITE (R87): A host write through BAR2 is mapped into its window or discarded and recorded. -/
  | bar2Write (p off : Nat) (data : List Byte) (hops : Nat := 0)
  /-- BINDING_WRITE (R96): A write to a binding-table entry is checked, and an accepted write binds the channel and clears its state. -/
  | bindingWrite (m k : Nat) (d : Word)
  /-- BELL_SEND (R100): A write to MBX_BELL_OUT stores the word in the OUT direction, sets FULL and may collide with an untaken word. -/
  | bellSend (m ch : Nat) (d : Word)
  /-- BELL_TAKE (R100): A read of MBX_BELL_TAKE returns the word with WAS_FULL and COLLIDED and clears FULL as one action. -/
  | bellTake (m ch size : Nat) (ok : Bool)
  /-- BELL_IN_READ (R101): A read of the IN word verifies its end-to-end check, and a mismatch gives the poisoned response and sets CHK_FAIL. -/
  | bellInRead (m ch : Nat) (ok : Bool)
  /-- CROSS_TIME_EXPIRY (R102): Both directions of a Bell channel stay full longer than MBX_CROSS_TIME, and CROSS is set and raised to both sides. -/
  | crossTimeExpiry (ch : Nat)
  /-- BUCKET_POST (R108): The producer writes MBX_BKT_POST, and the staged notice is accepted for processing or refused. -/
  | bucketPost (m r : Nat) (d : Word)
  /-- BUCKET_POST_COMMIT (R109): Once the producer's earlier DRAM writes are visible, the post writes the entry at the head and raises RING_POSTED. -/
  | bucketPostCommit (r : Nat)
  /-- BUCKET_TAKE (R110): The consumer writes TAKE_N to release the oldest entries, or the write is refused when larger than COUNT. -/
  | bucketTake (m r : Nat) (d : Word)
  /-- LOCK_READ (R112): A read of MBX_LOCK_n acquires a free lock or returns the holder's ID plus one. -/
  | lockRead (m n : Nat)
  /-- LOCK_RELEASE (R112): The holder releases a lock by writing 0. -/
  | lockRelease (m n : Nat) (d : Word)
  /-- LOCK_FORCE_RELEASE (R112): The owner of the lock page forces a release by a keyed write of 0x80. -/
  | lockForceRelease (m n : Nat) (d : Word)
  /-- COMPLETION_POST (R121): A completion walks its successor list and decrements the tallies of the listed descriptors. -/
  | completionPost
  /-- HOI_SUBMIT (R129): A write to HOI_SUBMIT posts one completion to a descriptor, subject to ownership and the partition's credits. -/
  | hoiSubmit (m : Nat) (d : Word)
  /-- TASK_DISPATCH (R125): Hoist dispatches the highest-ranked ready task of a pool to a free lane or core. -/
  | taskDispatch (pool resends poison : Nat) (bad : List Nat := [])
  /-- TASK_RELEASE (R137): A task releases, its lateness is checked, its flow order applied and its successor list posted. -/
  | taskRelease (desc : Nat)
  /-- HELD_ENTRY_GRANT (R128): A ready-list entry frees, and a held best-effort task receives it in trigger order. -/
  | heldEntryGrant
  /-- CORE_NEXT_READ (R133): A read of HOI_CORE_NEXT takes the task that Hoist offers to the core. -/
  | coreNextRead (m n size : Nat)
  /-- CORE_DONE (R133): A write of HOI_CORE_DONE releases the core task. -/
  | coreDone (m n : Nat) (d : Word)
  /-- CORE_SUSPEND (R134): A write of HOI_CORE_SUSPEND returns the pre-empted task to its ready list with its original trigger instant. -/
  | coreSuspend (m n : Nat) (d : Word)
  /-- PREEMPT_TIMEOUT (R135): A core fails to suspend within 5 µs of a pre-emption request, so its pool is removed from dispatch and its cores are halted. -/
  | preemptTimeout (n : Nat)
  /-- ADMIT (R141): OP 1 of HOI_ADMIT_REQ starts an all-or-nothing admission of a range of descriptors. -/
  | admitTasks (m first : Nat)
  /-- RETIRE (R141): OP 2 of HOI_ADMIT_REQ retires a range of descriptors. -/
  | retire (m first : Nat)
  /-- QUERY (R141): OP 3 of HOI_ADMIT_REQ runs the admission test and reports the result without change. -/
  | query (m first : Nat)
  /-- ADMISSION_DONE (R142): An admission operation ends, setting CODE, CULPRIT and the bound registers and raising ADMIT_DONE. -/
  | admissionDone
  /-- BE_MAX_COST_WRITE (R140): A write of HOI_BE_MAX_COST lowers the cap at once or runs an admission check before raising it. -/
  | beMaxCostWrite (m : Nat) (d : Word)
  /-- BE_ENTRIES_WRITE (R128): A write of HOI_BE_ENTRIES is accepted or refused against the entries reserved for admitted tasks. -/
  | beEntriesWrite (m : Nat) (d : Word)
  /-- CORE_POOL_WRITE (R127): A write of HOI_CORE_POOL is refused with ERR_POOL_BUSY while an admitted task names an affected pool. -/
  | corePoolWrite (m : Nat) (d : Word)
  /-- FLOW_CFG_WRITE (R130): The owner writes a flow entry, which is refused while an admitted task names the flow. -/
  | flowCfgWrite (m n : Nat) (d : Word)
  /-- TRACK_ARM (R152): Command ARM moves a track to ARMED and starts prefetch at HOI_TRK_FIRST. -/
  | trackArm (m t : Nat)
  /-- TRACK_PAUSE (R152): Command PAUSE moves a running or waiting track to PAUSED. -/
  | trackPause (m t : Nat)
  /-- TRACK_RESUME (R152): Command RESUME returns a paused track to RUNNING and advances START by the time paused. -/
  | trackResume (m t : Nat)
  /-- TRACK_ABORT (R152): Command ABORT returns a track to IDLE and discards its pending steps. -/
  | trackAbort (m t : Nat)
  /-- TRACK_CONTINUE (R149): Command CONTINUE ends a WAIT step and advances START. -/
  | trackContinue (m t : Nat)
  /-- STEP_PREFETCH (R150): Hoist prefetches a step into the track buffer and checks it. -/
  | stepPrefetch (t idx rr : Nat)
  /-- RECIPE_STEP_SET (R149): At its instant a SET step applies its actions. -/
  | recipeStepSet (t : Nat)
  /-- RECIPE_STEP_POST (R149): At its instant a POST step applies its actions and posts its successor list. -/
  | recipeStepPost (t : Nat)
  /-- RECIPE_STEP_WAIT (R149): At its instant a WAIT step applies its actions and puts the track in WAITING. -/
  | recipeStepWait (t : Nat)
  /-- RECIPE_STEP_JUMP (R149): At its instant a JUMP step moves the track to its target step and resets START. -/
  | recipeStepJump (t : Nat)
  /-- RECIPE_STEP_END (R149): At its instant an END step applies its actions and moves the track to DONE. -/
  | recipeStepEnd (t : Nat)
  /-- WAIT_LIMIT_EXPIRY (R152): A WAIT step's limit expires, and the track enters HOLD with code 6. -/
  | waitLimitExpiry (t : Nat)
  /-- SLOT_ENABLE (R195): Command ENABLE checks the slot's elements and enables it, publishing COST. -/
  | slotEnable (m slot : Nat)
  /-- SLOT_DISABLE (R195): Command DISABLE disables a slot not named by an admitted task. -/
  | slotDisable (m slot : Nat)
  /-- SLOT_RESET_STATE (R192): Command RESET_STATE sets every state word of the slot to 0. -/
  | slotResetState (m slot : Nat)
  /-- SLOT_CLEAR_STAT (R195): Command CLEAR_STAT clears the slot's sticky status and counters. -/
  | slotClearStat (m slot : Nat)
  /-- SLOT_CMD_DONE (R194): A slot command ends, setting DONE and CODE and raising CMD_DONE. -/
  | slotCmdDone
  /-- SLOT_CTL_WRITE (R180): A write of LOOP_SLOT_CTL changes FREEZE_I, BANK or OUT_HOLD from the slot's next execution. -/
  | slotCtlWrite (m slot : Nat) (d : Word)
  /-- HO_GROUP_WRITE (R182): A write of a hand-over group entry enables the group, takes it out of service or requests a new active slot. -/
  | hoGroupWrite (m g k : Nat) (d : Word)
  /-- LEARN_CLEAR (R203): A write of CLEAR starts setting the slot's learning bins to 0. -/
  | learnClear (m slot : Nat) (d : Word)
  /-- LEARN_CLEAR_DONE (R203): The CLEAR of a learning store completes within 200 µs. -/
  | learnClearDone (slot : Nat)
  /-- LEARN_GAIN_WRITE (R204): A write of GAMMA or RHO is discarded out of range, or otherwise applies and counts as a mode change. -/
  | learnGainWrite (m slot : Nat) (rho : Bool) (d : Word)
  /-- AXIS_TICK (R224): The Profile Generator computes one axis's outputs for a trigger occurrence and writes, records and posts them. -/
  | axisTick (rr : Nat := 0)
  /-- AXIS_ENABLE (R229): Command ENABLE checks the axis configuration and enables the axis in STANDSTILL. -/
  | axisEnable (m a : Nat)
  /-- AXIS_DISABLE (R231): Command DISABLE disables the axis and ends its outputs where they stand. -/
  | axisDisable (m a : Nat)
  /-- MOVE_ABS (R233): Command MOVE_ABS loads a target and limits for a jerk-limited move. -/
  | moveAbs (m a : Nat)
  /-- MOVE_REL (R229): Command MOVE_REL loads a distance and limits for a jerk-limited move. -/
  | moveRel (m a : Nat)
  /-- VELOCITY (R236): Command VELOCITY moves the axis to a target velocity under its limits. -/
  | velocity (m a : Nat)
  /-- GEAR_IN (R241): Command GEAR_IN engages the ratio to a master, at once or at ENGAGE_AT. -/
  | gearIn (m a : Nat) (atPos : Bool)
  /-- CAM_IN (R246): Command CAM_IN engages a cam table at ENGAGE_AT, or switches tables at the next span boundary. -/
  | camIn (m a : Nat)
  /-- SUP_MOVE (R242): Command SUP_MOVE adds a distance to the superimposed target. -/
  | supMove (m a : Nat)
  /-- STOP (R236): Command STOP brings the axis to rest under DMAX and JMAX. -/
  | stop (m a : Nat)
  /-- QSTOP (R248): Command QSTOP stops the axis from any mode under QSTOP_DEC and QSTOP_JERK. -/
  | qstop (m a : Nat)
  /-- LOAD_LIMITS (R237): Command LOAD_LIMITS applies new limits to the present motion from the next tick. -/
  | loadLimits (m a : Nat)
  /-- AXIS_SET_POS (R229): Command SET_POS sets POS at standstill and clears UNREF. -/
  | axisSetPos (m a : Nat)
  /-- RESET_FAULT (R231): Command RESET_FAULT returns an axis at rest from FAULT to STANDSTILL. -/
  | resetFault (m a : Nat)
  /-- STATE_LOST_CLEAR (R259): A write of 1 to PRF_STAT_CLR clears STATE_LOST. -/
  | stateLostClear (m : Nat) (d : Word)
  /-- PWM_PERIOD_BOUNDARY (R268): A pair's counter reaches a period boundary and an armed or AUTO pair transfers its shadows. -/
  | pwmPeriodBoundary (p : Nat) (sub : Nat := 0)
  /-- PWM_HALF_BOUNDARY (R272): A CENTRE pair with HALF reaches its mid-period boundary and may transfer. -/
  | pwmHalfBoundary (p : Nat)
  /-- SHADOW_WRITE (R269): A write to a shadow register is stored for the next transfer, or deferred when inside the guard window. -/
  | shadowWrite (m p off : Nat) (data : List Word) (hops : Nat)
  /-- SHADOW_WRITE_ARM (R268): A write at a write-and-arm alias writes the shadow and arms the pair in one action. -/
  | shadowWriteArm (m p off : Nat) (data : List Word) (hops : Nat)
  /-- PWM_ARM (R270): A write of PWM_ARM_k arms the named pairs that the writer owns. -/
  | pwmArm (m k : Nat) (d : Word) (hops : Nat)
  /-- PWM_COMPARE_MATCH (R274): A pair's counter reaches an enabled trigger compare and raises its PWM trigger line. -/
  | pwmCompareMatch (p n : Nat)
  /-- TRIP_INPUT_ACTIVE (R275): An enabled trip input becomes active outside blanking and forces its masked pairs off. -/
  | tripInputActive (high low sub : Nat)
  /-- BLANK_WINDOW_CLOSE (R276): A blanking window closes while its input is active, and the input trips at that instant. -/
  | blankWindowClose (i : Nat) (sub : Nat := 0)
  /-- TRIP_CLEAR (R278): A write of TRIP_CLR clears the trip latch only if every tripping input is inactive. -/
  | tripClear (m p : Nat) (d : Word)
  /-- TRIP_SELF_TEST (R280): The module tests one gate of a trip input with a pulse inside a blanking window. -/
  | tripSelfTest (i : Nat) (pass : Bool)
  /-- TEST_STALE_EXPIRY (R281): A trip input goes untested for 10 × TEST_INT, and TEST_STALE is set. -/
  | testStaleExpiry (i : Nat)
  /-- TRIP_CFG_WRITE (R277): A keyed write of a trip configuration or mask updates gate A and then gate B. -/
  | tripCfgWrite (m i w : Nat) (d : Word)
  /-- CFG_MISMATCH_EXPIRY (R277): A trip input's two gate copies differ for more than 1 µs, and CFG_MISMATCH is set. -/
  | cfgMismatchExpiry (i : Nat) (copy : List Word)
  /-- ENCODER_COUNT (R292): An accepted quadrature transition changes COUNT and TURNS or sets QERR. -/
  | encoderCount (ch : Nat) (a b : Bool)
  /-- HALL_CHANGE (R296): A change of the Hall code updates the sector, or sets HALL_ERR. -/
  | hallChange (ch h : Nat)
  /-- SSI_FRAME_DONE (R304): An SSI frame ends, and the value is checked and latched, or the frame fails. -/
  | ssiFrameDone (ch v : Nat) (datHigh monoLow : Bool)
  /-- RS485_RESPONSE (R298): An RS-485 response is received whole, checked, and latched or counted as a failed frame. -/
  | rs485Response (ch : Nat) (bytes : List Byte) (stopLow : Bool)
  /-- RS485_RESP_TIMEOUT (R300): No response or an over-long byte gap ends the frame with FRAME_WHY 4. -/
  | rs485RespTimeout (ch : Nat)
  /-- INDEX_PULSE (R308): A qualified index latches IDX and checks or corrects the count. -/
  | indexPulse (ch : Nat) (high : Bool := true)
  /-- REFERENCE_EDGE (R310): A selected reference edge latches REF, or waits for the next index. -/
  | referenceEdge (ch input : Nat) (rising : Bool := true)
  /-- FBK_SET_POS (R295): FBK_CMD SET_POS loads TURNS and COUNT at the next filtered sample. -/
  | fbkSetPos (m ch : Nat)
  /-- REF_ARM (R310): A write of ARM arms a one-shot reference input. -/
  | refArm (m ch : Nat) (d : Word)
  /-- LATCH_CAPTURE_READ (R302): A read of a latch's word at +0x00 captures the whole latch for the reading master. -/
  | latchCaptureRead (m ch l size : Nat)
  /-- GPIO_INPUT_EDGE (R316): An accepted GPIO level change updates FBK_GPIO_IN and sets the selected event bit. -/
  | gpioInputEdge (n : Nat) (high : Bool)
  /-- GPIO_OUT_WRITE (R316): A write of FBK_GPIO_OUT changes the driven levels together. -/
  | gpioOutWrite (m off : Nat) (data : List Word)
  /-- GPIO_SET (R315): A write of FBK_GPIO_SET sets bits of FBK_GPIO_OUT. -/
  | gpioSet (m off : Nat) (data : List Word)
  /-- GPIO_CLR (R315): A write of FBK_GPIO_CLR clears bits of FBK_GPIO_OUT. -/
  | gpioClr (m off : Nat) (data : List Word)
  /-- CNV_SEQUENCE_TRIGGER (R325): A Timebase or PWM trigger activates a sequence or sets its restart flag. -/
  | cnvSequenceTrigger
  /-- CNV_SOFT_TRIGGER (R324): A write of CNV_CMD bits triggers the named enabled sequences. -/
  | cnvSoftTrigger (m i : Nat) (d : Word)
  /-- CNV_ABORT (R335): CNV_CMD ABORT makes every sequence idle and clears the restart flags. -/
  | cnvAbort (m i : Nat) (d : Word)
  /-- CONVERSION_DONE (R321): A conversion resolves, its result is written, the next one begins and a finished sequence posts its list. -/
  | conversionDone (i : Nat) (nv : Int)
  /-- FILTER_ROUND_START (R328): In filtered mode a new round of conversions starts after PACE. -/
  | filterRoundStart (i : Nat)
  /-- CNV_MODE_WRITE (R328): A write of CNV_CFG.MODE switches between normal service and filtered mode after the conversion in progress. -/
  | cnvModeWrite (m i : Nat) (d : Word)
  /-- CNV_ENTRY_WRITE (R327): A write of an entry is checked, and a gain change marks the entry's next results settling. -/
  | cnvEntryWrite (m i e : Nat) (d : Word)
  /-- CNV_SEQ_CFG_WRITE (R335): A write of a sequence configuration enables, disables or is refused. -/
  | cnvSeqCfgWrite (m i seq : Nat) (d : Word)
  /-- CNV_RESULT_READ (R322): A read of a converter result word captures its stamp into CNV_RTS for the reading master. -/
  | cnvResultRead (m i e size : Nat) (consuming : Bool)
  /-- PLAUS_PARTNER_TIMEOUT (R332): A result stays unpaired until its stamp plus SKEW plus 200 ns and counts as a failure with MISSING. -/
  | plausPartnerTimeout (k : Nat)
  /-- PLAUS_CLEAR (R334): A write of CNV_PLAUS_CLR clears a unit's FAULT when its last compare passed. -/
  | plausClear (m : Nat) (d : Word)
  /-- PLAUS_CFG_WRITE (R331): A write of a unit's configuration enables it, or is refused when the entries differ. -/
  | plausCfgWrite (m k w : Nat) (d : Word)
  /-- TREF_LOSS (R339): TREF is lost, and the counter runs on the Edge PLL in holdover. -/
  | trefLoss
  /-- TREF_RETURN (R339): TREF has been stable for 1 ms, and the counter changes back to it without a step. -/
  | trefReturn
  /-- PTP_SYNC_RX (R351): A Sync is received and timestamped, giving an offset that drives the servo. -/
  | ptpSyncRx (p domain t1 : Nat) (corr : Int) (twoStep tagged : Bool)
  /-- PTP_FOLLOW_UP_RX (R351): A Follow_Up completes a two-step Sync's offset. -/
  | ptpFollowUpRx (p t1 : Nat) (corr : Int)
  /-- FOLLOW_UP_TIMEOUT (R351): A Sync's Follow_Up does not arrive within one interval, so no offset is produced. -/
  | followUpTimeout (p : Nat)
  /-- PTP_SYNC_TX (R350): A master port sends a one-step Sync at its interval. -/
  | ptpSyncTx (p : Nat)
  /-- PDELAY_REQ_TX (R351): A port sends a Pdelay_Req at its interval. -/
  | pdelayReqTx (p : Nat)
  /-- PDELAY_REQ_RX (R350): A received Pdelay_Req is answered with a one-step Pdelay_Resp. -/
  | pdelayReqRx (p stay : Nat) (tagged : Bool)
  /-- PDELAY_RESP_RX (R351): A Pdelay response updates the mean link delay, NRR and ASCAPABLE. -/
  | pdelayRespRx (p : Nat) (turn : Int) (t3 : Option Int)
  /-- SYNC_TIMEOUT (R343): No valid offset for three Sync intervals moves the servo to FREE or HOLDOVER. -/
  | syncTimeout
  /-- TIME_STEP_APPLY (R344): A step of time is applied at a TREF tick, incrementing EPOCH and re-arming triggers. -/
  | timeStepApply
  /-- TIM_STEP_GO (R347): Keyed STEP_GO applies TIM_STEP_VAL in ACQUIRE with SERVO = 1, or is refused. -/
  | timStepGo (m : Nat)
  /-- TIM_REACQ (R343): Keyed REACQ moves the servo to ACQUIRE. -/
  | timReacq (m : Nat)
  /-- BACKUP_CLOCK_WRITE (R340): While LOCKED the Timebase writes network time to the backup-domain clock every 1,000 s. -/
  | backupClockWrite
  /-- TRIGGER_OCCURRENCE (R353): A cycle-start trigger reaches an occurrence, strobes its consumers and posts its list. -/
  | triggerOccurrence (n : Nat)
  /-- TRIGGER_ENABLE (R354): A write of EN = 1 arms a trigger for its first occurrence at least 2 µs later. -/
  | triggerEnable (m n : Nat) (d : Word)
  /-- TRIGGER_DISABLE (R354): A write of EN = 0 stops a trigger at once. -/
  | triggerDisable (m n : Nat) (d : Word)
  /-- PULSE_AT_WRITE (R357): A write of TIM_PLS_AT arms a one-shot pulse, or sets LATE when too close. -/
  | pulseAtWrite (m n off : Nat) (data : List Word)
  /-- PULSE_AT_REACHED (R357): A one-shot pulse output reaches AT and produces its pulse. -/
  | pulseAtReached (n : Nat)
  /-- CAPTURE_EDGE (R359): An accepted capture edge is stamped and queued, or lost when the FIFO is full. -/
  | captureEdge (n : Nat) (rising : Bool)
  /-- CAPTURE_POP (R359): A read of word 0 of TIM_CAP_POP removes the oldest capture entry. -/
  | capturePop (m n size : Nat)
  /-- PTP_CFG_WRITE (R352): A write of a PTP port's configuration, with a second SLAVE refused. -/
  | ptpCfgWrite (m p : Nat) (d : Word)
  /-- ETH_FRAME_RX (R364): A frame arrives at a port and is accepted, discarded, counted, or passed to PTP, cyclic or ring handling. -/
  | ethFrameRx (p : Nat) (bytes : List Byte) (fcsOk : Bool) (rr : List Nat := [])
  /-- CYCLIC_FRAME_RX (R384): A Gikai frame is matched, checked and written into RX entries, or discarded. -/
  | cyclicFrameRx (hops : Nat)
  /-- RX_DEADLINE (R386): At RX_DEADLINE a descriptor with no accepted frame counts a miss, possibly entering LOST. -/
  | rxDeadline (d : Nat)
  /-- CYCLIC_FRAME_TX (R380): At a descriptor's send instant the frame is assembled from snapshots and queued. -/
  | cyclicFrameTx (d : Nat) (bad : List Nat)
  /-- TX_FRAME_DROP (R380): A frame that has not started by the next partner cycle start is dropped with TX_LATE. -/
  | txFrameDrop (d : Nat)
  /-- GATE_DROP (R382): A frame that waited a whole gate-list cycle without a long enough window is dropped. -/
  | gateDrop (p q : Nat) (rr : List Nat := [])
  /-- GCL_ENTRY_EXPIRY (R383): A gate-list entry's duration ends, and the next entry's gates apply. -/
  | gclEntryExpiry (p : Nat)
  /-- GCL_SWAP (R383): A write of SWAP checks the admin list, and it is accepted or refused with GCL_WHY. -/
  | gclSwap (m p : Nat) (d : Word)
  /-- GCL_SWAP_EFFECT (R383): At the chosen base instant the admin bank becomes operational. -/
  | gclSwapEffect (p : Nat)
  /-- NET_TX_PUT (R390): A write of NET_TX_PUT stores a value in a TX entry with the acceptance time as stamp. -/
  | netTxPut (m e : Nat) (value : Word)
  /-- CYC_ENABLE (R390): A write of NET_CYC_CFG.EN starts cyclic exchange, or is refused with CYC_ERR. -/
  | cycEnable (m : Nat) (d : Word)
  /-- TX_RING_TAIL_WRITE (R388): Software writes TAIL of a transmit ring, handing descriptors to the module. -/
  | txRingTailWrite (m p q : Nat) (d : Word)
  /-- RX_RING_TAIL_WRITE (R388): Software writes TAIL of the receive ring, handing buffers to the module. -/
  | rxRingTailWrite (m p : Nat) (d : Word)
  /-- HOST_FRAME_TX_DONE (R388): A host-ring frame has been sent, and its descriptor gets DONE. -/
  | hostFrameTxDone (p q : Nat) (rr : List Nat := [])
  /-- NET_LINK_CHANGE (R389): A port's link comes up or goes down. -/
  | netLinkChange (p : Nat) (up an : Bool)
  /-- MDIO_FRAME_START (R391): A write of NET_MDIO_CTL with GO starts a management frame. -/
  | mdioFrameStart (m : Nat) (d : Word)
  /-- MDIO_DONE (R391): A management frame ends, and GO clears and MDIO_DONE is raised. -/
  | mdioDone (data : Nat) (noPhy : Bool)
  /-- CAN_FRAME_RX (R402): A validated CAN frame is stored in the matching receive object, or counted as unmatched. -/
  | canFrameRx (ch : Nat) (frame : CanFrame) (age : Nat)
  /-- CAN_TX_REQUEST (R404): A REQ write takes a snapshot of a send object and makes or replaces its request. -/
  | canTxRequest (m ch o : Nat) (bad : Bool)
  /-- CAN_DATA0_WRITE (R404): A write of DATA_0 with TX_TRIG = 1 fills the payload and makes a send request. -/
  | canData0Write (m ch o : Nat) (data : List Word) (bad : Bool)
  /-- CAN_TX_ABORT (R404): A write of ABORT cancels a request that has not started. -/
  | canTxAbort (m ch o : Nat)
  /-- CAN_TX_START (R405): At bus idle the pending send object that wins arbitration starts on the wire. -/
  | canTxStart (ch : Nat)
  /-- CAN_TX_DONE (R405): A transmission ends in success or error, ending, retrying or counting the request. -/
  | canTxDone (ch : Nat) (how : CanEnd) (delay : Nat)
  /-- CAN_ERROR_DETECTED (R407): A bus error updates TEC, REC, LEC and the error state. -/
  | canErrorDetected (ch lec : Nat) (sending exempt : Bool) (eights : Nat)
  /-- BUS_OFF_RECOVERY (R407): After 128 occurrences of 11 recessive bits the controller leaves bus-off. -/
  | busOffRecovery (ch : Nat)
  /-- CAN_SLEEP (R408): Command SLEEP stops the controller at bus idle and raises CAN_STB. -/
  | canSleep (m ch : Nat) (idle : Bool)
  /-- CAN_WAKE (R408): Command WAKE takes the controller out of sleep. -/
  | canWake (m ch : Nat)
  /-- CAN_RECOVER (R407): Command RECOVER starts bus-off recovery. -/
  | canRecover (m ch : Nat)
  /-- CAN_ABORT_ALL (R410): Command ABORT_ALL cancels every request that has not started. -/
  | canAbortAll (m ch : Nat)
  /-- CAN_WAKE_EVENT (R408): A dominant level or wake frame wakes a sleeping controller and possibly the module. -/
  | canWakeEvent (ch width : Nat) (frame : Option CanFrame)
  /-- CAN_RESULT_READ (R400): A read of an object's result word captures its status, stamp and payload, and an owner's alias read clears NEWDAT. -/
  | canResultRead (m ch o size : Nat) (consuming : Bool)
  /-- ADT_SAMPLE_INTAKE (R412): A sample enters Adit, is narrowed, seen by trigger units and kept, decimated or dropped. -/
  | adtSampleIntake
  /-- ADT_RECORD_UPDATE (R415): A kept sample leaves the intake queue and updates its record and stream entries. -/
  | adtRecordUpdate (rr : Nat)
  /-- ADT_WINDOW_END (R421): At the end of each 1 µs window intake raises or lowers decimation exponents. -/
  | adtWindowEnd
  /-- STREAM_FLUSH_TIMEOUT (R433): FLUSH_US after its first entry a stream block is closed. -/
  | streamFlushTimeout (ch : Nat)
  /-- STREAM_BLOCK_WRITTEN (R433): A closed block has been written to DRAM, and WR advances. -/
  | streamBlockWritten (ch : Nat)
  /-- STREAM_RD_WRITE (R434): A host writes ADT_STR_RD, and a value behind RD or above WR is refused. -/
  | streamRdWrite (m ch : Nat) (data : List Word)
  /-- STREAM_ENABLE (R430): A write of EN = 1 enables a stream channel, or is refused with WHY. -/
  | streamEnable (m ch : Nat) (d : Word)
  /-- STREAM_DISABLE (R430): A write of EN = 0 closes the open block and stops the channel. -/
  | streamDisable (m ch : Nat) (d : Word)
  /-- ADT_CLEAR_STATS (R437): ADT_CMD OP 1 clears the statistics of a range of records. -/
  | adtClearStats (m : Nat)
  /-- ADT_SET_POLICY (R437): ADT_CMD OP 2 sets the policy of a range of records. -/
  | adtSetPolicy (m : Nat)
  /-- ADT_SET_AND_CLEAR (R437): ADT_CMD OP 3 sets the policy and clears the statistics of a range of records. -/
  | adtSetAndClear (m : Nat)
  /-- ADT_CMD_DONE (R437): A bulk command ends, and CMD_CODE and CMD_DONE are set. -/
  | adtCmdDone
  /-- ADT_ENABLE (R439): A keyed write of ADT_CTL.EN starts intake and, the first time, clears the directory. -/
  | adtEnable (m : Nat) (d : Word)
  /-- DIR_CLEAR_DONE (R439): Directory clearing ends, and DIR_READY is raised. -/
  | dirClearDone
  /-- ADT_TRG_CFG_WRITE (R425): A write of a trigger unit's configuration enables it, is refused, or is locked while enabled. -/
  | adtTrgCfgWrite (m u : Nat) (d : Word)
  /-- ADT_TRG_RESULT_READ (R428): A read of a trigger unit's result word captures the fire's stamp into ADT_TRG_RTS. -/
  | adtTrgResultRead (m u size : Nat) (consuming : Bool)
  /-- TALLY_EVENT_INTAKE (R444): An event enters the Tally intake queue, or is dropped when the queue is full. -/
  | tallyEventIntake
  /-- TALLY_EVENT_FOLD (R448): A queued event takes a token and folds into its record, or counts as dropped. -/
  | tallyEventFold
  /-- TALLY_TOKEN_REFILL (R446): REFILL_US after the last refill, a token is added to a code's bucket. -/
  | tallyTokenRefill (code : Nat)
  /-- TLY_POST32 (R443): A write of TLY_POST32 posts an owned code with a 16-bit value. -/
  | tlyPost32 (m : Nat) (d : Word)
  /-- TLY_POST64 (R443): A write of TLY_POST64 posts an owned code with a 32-bit value. -/
  | tlyPost64 (m : Nat) (data : List Word)
  /-- TALLY_CLEAR (R450): TLY_CMD CLEAR resets a range of records and fills their buckets. -/
  | tallyClear (m first : Nat)
  /-- TALLY_FLUSH (R451): TLY_CMD FLUSH requests a flush with reason COMMAND. -/
  | tallyFlush (m : Nat)
  /-- TALLY_CMD_DONE (R450): A Tally command ends, and CMD_CODE and CMD_DONE are set. -/
  | tallyCmdDone
  /-- TALLY_FLUSH_DONE (R452): A flush writes its trailer, or ends with FLUSH_FAIL, and intake resumes or stays frozen. -/
  | tallyFlushDone (ok : Bool)
  /-- TALLY_CFG_WRITE (R445): A write of TLY_CFG_c configures a code and refills its bucket, clearing the histogram on a change of HBASE or SIGNED. -/
  | tallyCfgWrite (m code : Nat) (d : Word)
  /-- QLOSS_CLEAR (R455): A write of 1 to TLY_CTL[28] clears QLOSS. -/
  | qlossClear (m : Nat) (d : Word)
  /-- SAFETY_TICK (R457): Each safety channel samples its inputs, updates input and group states, sets its outputs and exchanges with the other channel. -/
  | safetyTick (smp : SafeSample)
  /-- DISCREPANCY_TIMEOUT (R463): The second line of an input has not followed within DT, and the input enters FAULT. -/
  | discrepancyTimeout (i : Nat)
  /-- TEST_PULSE_START (R466): A test-pulse output begins its low pulse at its period, and its lines are checked. -/
  | testPulseStart (p actA actB : Nat)
  /-- OUTPUT_TEST_PULSE (R471): A channel drives an energised STO line low for OT_W at its period and reads it back. -/
  | outputTestPulse (g ch : Nat) (differs : Bool)
  /-- SS1_EXPIRY (R470): The SS1 monitoring time runs out, and the group enters STO with SS1_EXPIRED. -/
  | ss1Expiry (g : Nat)
  /-- EDM_TIMEOUT (R473): The contactor feedback does not reach its expected state within T_EDM, and the group enters FAULT. -/
  | edmTimeout (g : Nat)
  /-- SAFETY_STARTUP_DONE (R459): After the self-tests, each channel verifies the active set and the unit enters RUN or NO_SET. -/
  | safetyStartupDone (okA okB readA readB : Bool)
  /-- COMMISSION (R479): Keyed SAF_CMD COMMISSION enters commissioning when every group is in STO, OFF or FAULT. -/
  | commission (m : Nat)
  /-- VERIFY (R479): SAF_CMD VERIFY makes both channels check the staged parameter set. -/
  | verify (m : Nat)
  /-- SAFETY_VERIFY_DONE (R479): VERIFY ends with CODE and each channel's computed CHECK. -/
  | safetyVerifyDone (flip : Word)
  /-- ABORT (R480): SAF_CMD ABORT leaves commissioning and keeps the previous set. -/
  | abort (m : Nat)
  /-- SAF_CONFIRM (R480): A keyed write of the confirmed check value activates the verified set, or is refused. -/
  | safConfirm (m : Nat) (d : Word)
  /-- SAF_SS1_REQ (R484): A write of SAF_SS1_REQ makes or withdraws SS1 demands on groups. -/
  | safSs1Req (m : Nat) (d : Word)
  /-- SAF_STO_REQ (R484): A write of SAF_STO_REQ makes or withdraws STO demands on groups. -/
  | safStoReq (m : Nat) (d : Word)
  /-- SAF_RESET_REQ (R484): A keyed write of SAF_RESET_REQ makes reset requests for groups that allow register resets. -/
  | safResetReq (m : Nat) (d : Word)
  /-- PAIR_ENABLE (R494): A write of PAI_CFG.EN = 1 moves the module to FORMING and brings up the Pair Link. -/
  | pairEnable (m : Nat) (d : Word)
  /-- PAIR_DISABLE (R494): A write of EN = 0 in ALONE returns the module to OFF. -/
  | pairDisable (m : Nat) (d : Word)
  /-- PAIR_HELLO_RX (R491): The twin's HELLO is received, the forming checks run and roles are settled. -/
  | pairHelloRx (h : Hello)
  /-- ROLE_CLAIM_DELAY (R492): A module with PREF = 0 raises its claim after 10 ms. -/
  | roleClaimDelay (roleIn : Bool)
  /-- PAIR_LINK_TIMEOUT (R492): The link has not come up within 100 ms, and the module runs ALONE or stays FORMING. -/
  | pairLinkTimeout (roleIn holdIn : Bool)
  /-- PAIR_LINK_UP (R494): The Pair Link comes up, and an ALONE module may form a pair. -/
  | pairLinkUp (lanes : Nat)
  /-- PAIR_LINK_DOWN (R494): Both lanes are down, and each role reacts under its transition. -/
  | pairLinkDown
  /-- LINK_LOST_GRACE_EXPIRY (R494): 20 µs after the link is lost, a READY standby whose hold input is still high enters SYNCING. -/
  | linkLostGraceExpiry (holdIn : Bool)
  /-- PAIR_LINK_BLOCK_RX (R497): A Pair Link block is checked and delivered in class order, or refused with a NAK. -/
  | pairLinkBlockRx (lane seq : Nat) (ok nak : Bool) (msg : PairMsg)
  /-- PAIR_LANE_DOWN (R497): A lane fails its third re-send or loses block lock, and its traffic moves to the other lane. -/
  | pairLaneDown (lane : Nat)
  /-- PAIR_LANE_RETURN (R497): A retrained lane returns after 1 s without error. -/
  | pairLaneReturn (lane : Nat)
  /-- PAIR_TIME_EXCHANGE (R499): Every 31.25 µs the twins exchange time blocks, and the standby corrects offset and rate. -/
  | pairTimeExchange (theta : Int) (epoch : Nat) (delta : Option Int)
  /-- HOLD_LATCH_REFRESH (R495): Hoist or the power manager refreshes the hold latch every 4 µs. -/
  | holdLatchRefresh
  /-- HOLD_WATCHDOG_EXPIRY (R495): The hold latch goes 8 µs without refresh and clears in hardware. -/
  | holdWatchdogExpiry
  /-- HOLD_IN_FALL (R508): PAIR_HOLD_IN falls outside a planned hand-over, and a READY standby takes the pins. -/
  | holdInFall
  /-- BULK_COPY_DONE (R503): The standby's bulk copy completes. -/
  | bulkCopyDone (copy : List (Nat × Word))
  /-- STANDBY_READY (R503): The standby's READY conditions are all met, and it enters READY or STANDBY_ONLY. -/
  | standbyReady
  /-- PAIR_SELFTEST_DONE (R505): The extended self-test ends, and its outcome decides a transient, a surrender or a failed standby. -/
  | pairSelftestDone (own peer : Bool)
  /-- HANDOVER (R509): PAI_CMD HANDOVER at the lead proposes a hand-over instant B. -/
  | handover (m : Nat)
  /-- RESYNC (R517): PAI_CMD RESYNC at the standby repeats the bulk copy. -/
  | resync (m : Nat)
  /-- DISSOLVE (R494): PAI_CMD DISSOLVE at a module that is not LEAD moves it to OFF, or is refused. -/
  | dissolve (m : Nat)
  /-- SURRENDER (R506): PAI_CMD SURRENDER at the lead makes it surrender with cause COMMAND. -/
  | surrender (m : Nat)
  /-- HANDOVER_CHECK (R509): At B − 20 µs each module checks the hand-over conditions and may abort. -/
  | handoverCheck
  /-- HANDOVER_INSTANT (R509): At B the lead releases and the standby drives the local pins. -/
  | handoverInstant
  /-- HOLD_STUCK_CHECK (R509): At B + 100 ns a new lead whose hold input is still high keeps the pins and raises HOLD_STUCK. -/
  | holdStuckCheck (holdIn : Bool)
  /-- HOLD_DOWN_EXPIRY (R510): The revertive hold-down ends, and the preferred module asks for a planned hand-over. -/
  | holdDownExpiry
  /-- REPAIR_COMPLETE (R511): The twin's copy arrives and is written back, or the repair fails. -/
  | repairComplete (elem : Bool) (key : Nat) (data : List Word) (ok : Bool)
  /-- BOOT_COMPLETE (R529): The Image Authority finishes verifying and loading the images and releases the cores in RUN, MAINTENANCE or RECOVERY. -/
  | bootComplete (bad : List Nat)
  /-- STAGE_CHECK (R528): COR_CMD STAGE_CHECK verifies a staged image. -/
  | stageCheck (m bad : Nat)
  /-- WRITE_SLOT (R531): COR_CMD WRITE_SLOT verifies a staged image and programs it into the inactive slot as PENDING. -/
  | writeSlot (m bad : Nat)
  /-- CONFIRM (R533): COR_CMD CONFIRM ends a trial, making the slot ACTIVE and advancing the security counter. -/
  | confirm (m : Nat)
  /-- KEY_ORDER (R530): COR_CMD KEY_ORDER verifies a key order and provisions or revokes a key slot. -/
  | keyOrder (m bad : Nat)
  /-- RESTART (R541): COR_CMD RESTART performs a software module reset. -/
  | restart (m : Nat)
  /-- COR_CMD_DONE (R541): A COR command ends, setting CODE and raising CMD_DONE. -/
  | corCmdDone
  /-- ATTEST_GO (R538): A write of GO requests an attestation report for the partition. -/
  | attestGo (m p : Nat) (d : Word)
  /-- ATTEST_DONE (R538): The signed report is written, and REPORT_DONE is raised. -/
  | attestDone
  /-- POWER_REQUEST (R547): A keyed write of PWR_REQ is checked and starts a transition, or is refused. -/
  | powerRequest (m : Nat) (d : Word)
  /-- POWER_RUNG_ENTERED (R548): A transition reaches the next rung, raises STATE_CHANGE and posts Tally. -/
  | powerRungEntered
  /-- WAKE_EVENT (R549): An enabled wake event returns the module to FLOW or TRICKLE. -/
  | wakeEvent (e : Nat)
  /-- RTC_ALARM (R549): The real-time clock reaches its alarm instant and wakes the module. -/
  | rtcAlarm
  /-- RESET_PIN (R550): RESET_N held low for 1 µs resets the module. -/
  | resetPin (width : Nat)
  /-- RESET_RELEASE (R551): Reset is released when supplies are good and RESET_N is high, and the Safety Unit, Timebase and boot start. -/
  | resetRelease (pinHigh : Bool)
  /-- SUPPLY_CHANGE (R542): A supply crosses its good or fail level, and its status bit follows. -/
  | supplyChange (i : Nat) (good : Bool)
  /-- POWER_FAIL_DETECT (R554): VIN below 10.0 V for 2 µs sets PFAIL and starts the flush from VHOLD. -/
  | powerFailDetect
  /-- POWERFAIL_FLUSH_DONE (R554): The flush ends, and the module resets, enters CAPPED or enters DRY. -/
  | powerfailFlushDone
  /-- TAMPER (R552): TAMPER_N falls and sets the tamper latch. -/
  | tamper
  /-- PWR_STAT_CLEAR (R559): A write of PWR_STAT_CLR clears TAMPER or WAKE_NO_SUPPLY. -/
  | pwrStatClear (m : Nat) (d : Word)
  /-- THERMAL_SAMPLE (R557): Every 1 ms the die temperature is reported and the thermal actions are applied. -/
  | thermalSample (tj : Int) (sensor : Nat)
  /-- THERMAL_CRIT_EXPIRY (R558): T_J stays at or above 115 °C for 10 ms, and the module gives up control. -/
  | thermalCritExpiry
  /-- TAP_RESET (R578): TRST_N or Test-Logic-Reset puts IDCODE in the instruction register. -/
  | tapReset
  /-- EXTEST (R578): Instruction EXTEST drives and captures the balls from the chain and clears the hold latch. -/
  | extest (pins tdi : List Bool := [])
  /-- SAMPLE_PRELOAD (R578): Instruction SAMPLE/PRELOAD captures the balls while they keep their function. -/
  | samplePreload (pins tdi : List Bool := [])
  /-- IDCODE (R579): Instruction IDCODE selects the identification register. -/
  | idcode
  /-- HIGHZ (R578): Instruction HIGHZ puts the chain's balls in high impedance. -/
  | highz
  /-- CLAMP (R578): Instruction CLAMP drives the balls from the chain with bypass selected. -/
  | clamp
  /-- EXTEST_PULSE (R582): Instruction EXTEST_PULSE tests the HSS balls under IEEE 1149.6. -/
  | extestPulse (pins tdi : List Bool := [])
  /-- EXTEST_TRAIN (R582): Instruction EXTEST_TRAIN tests the HSS balls under IEEE 1149.6. -/
  | extestTrain (pins tdi : List Bool := [])
  /-- REG_ACCESS (R584): Instruction REG_ACCESS selects the register-access data register for master 23. -/
  | regAccess
  /-- MOD_RESET (R578): Instruction MOD_RESET resets the module with cause TEST at Run-Test/Idle. -/
  | modReset
  /-- FREEZE (R578): Instruction FREEZE asserts the debug freeze while held. -/
  | freeze
  /-- BYPASS (R578): Instruction BYPASS selects the bypass register. -/
  | bypass (op : Nat)
  /-- TAP_TEST_EXIT (R583): Leaving EXTEST, CLAMP, HIGHZ or an 1149.6 instruction resets the module with cause TEST, deferred during a power-fail flush. -/
  | tapTestExit (op : Nat)
  /-- REG_ACCESS_UPDATE (R584): Update-DR issues one 32-bit register access as master 23. -/
  | regAccessUpdate (wr : Bool) (addr : Nat) (d : Word)
  /-- REG_ACCESS_CAPTURE (R584): Capture-DR returns the outcome of the last register access. -/
  | regAccessCapture
  /-- PCIE_CONFIG_WRITE (R92): A host configuration write to a function changes its MSI-X enable, bus-master enable or power state (D0/D3hot), updating HST_EP_STAT and whether the partition counts as powered down. -/
  | pcieConfigWrite (p : Nat) (msix master fnMask d3 : Bool)
  /-- PDELAY_RESP_TIMEOUT (R351): A Pdelay exchange receives no response in time, so it counts as failed, TIM_PTP_PDELAY_FAIL_CNT increments, PDELAY_FAIL is raised, and ASCAPABLE may clear. -/
  | pdelayRespTimeout (p : Nat)
  /-- CAN_BUS_INTEGRATED (R408): After enable, wake, or a protocol exception, the controller sees 11 recessive bits and moves from INTEGRATING to active participation on the bus. -/
  | canBusIntegrated (ch : Nat)
  /-- CORE_DRAM_ACCESS (R502): A core reads or writes DRAM, drawing on the cores' reservation; a write to a mirror region is forwarded to the standby, and a read may meet a storage fault. -/
  | coreDramAccess (m : Nat) (island wr : Bool) (addr len : Nat) (data : List Byte) (rr : List Nat) (hops : Nat := 0)
  deriving DecidableEq, Repr

end Sys2Proof
end

