-- ==== Sys2Proof/Decode.lean ====
section
/-! DEFINITION. Commands from words. spec/opcode_table.json gives no row any bits: a command comes from outside as what it is, so
no word spells one (log 1, DESIGN CHOICE). -/

namespace Sys2Proof

/-- The command that a word of `nbits` bits spells: none, as the table gives no row any bits. Log 1, DESIGN CHOICE. -/
def decodeTableWord (_nbits _w : Nat) : Option Instr := none

end Sys2Proof
end

