-- ==== Sys2Proof/Config.lean ====
section
/-! DEFINITION. What the spec leaves open: free values without a body (nothing in Lean can evaluate them).
Each is named in the assumption log (notes/assumptions). -/

namespace Sys2Proof.Config

/-- FREE VALUE: the n-th open 32-bit value the machine meets (log 8, DESIGN CHOICE). -/
opaque freeWord : Nat → BitVec 32

/-- FREE VALUE: the n-th open natural number, for instance a choice among several lanes (log 8, DESIGN CHOICE). -/
opaque freeNat : Nat → Nat

/-- FREE VALUE: the n-th open yes-or-no (log 8, DESIGN CHOICE). -/
opaque freeBool : Nat → Bool

/-- FREE VALUE: the n-th open integer (log 8, DESIGN CHOICE). -/
opaque freeInt : Nat → Int

/-- FREE VALUE: the cost that the base image with a digest lists for a core task entry; the spec gives the task table of the image no
layout (R136, R520; log 76, DESIGN CHOICE). -/
opaque coreCost : Nat → Nat → Nat

/-- FREE VALUE: the CRC-32C of a repetition's learning corrections goes on by one correction, given as a fraction; the spec does not give
the form in which a correction enters it (R219; log 45, DEDUCED). -/
opaque digestStep : BitVec 32 → Int → Nat → BitVec 32

/-- FREE VALUE: does a cell of segment 6 belong to plant network port 2 or 3? The order of the cells is in the BSDL, outside the spec
(R580; log 20, DESIGN CHOICE). -/
opaque portCell : Nat → Bool

/-- FREE VALUE: is a cell of segment 6 the one of a transmit pair? (R580; log 20, DESIGN CHOICE). -/
opaque sendCell : Nat → Bool

/-- FREE VALUE: the data cell of an output ball in the chain, outputs numbered as Chip.ownPin has them; its enable cell is the next one
(R580; log 20, DESIGN CHOICE). -/
opaque ballCell : Nat → Nat

/-- FREE VALUE: the destination term T_DEST of a reserved DEST value, which R117 does not give (log 10, DESIGN CHOICE). -/
opaque tDestReserved : Nat → Nat

end Sys2Proof.Config
end

