-- ==== Sys2Proof/Machine/Bits.lean ====
section
/-! DEFINITION. Bit fields of a word, sign extension, the narrowing of R6 and the integer square root. -/

namespace Sys2Proof.Machine

/-- The field of `n` bits whose lowest bit is `lo`. -/
def getBits (w : Word) (lo n : Nat) : Nat := (w.toNat >>> lo) % 2 ^ n

/-- The mask of the field of `n` bits at `lo`. -/
def fieldMask (lo n : Nat) : Word := BitVec.ofNat 32 ((2 ^ n - 1) <<< lo)

/-- The word with the field of `n` bits at `lo` replaced by `v` modulo its width. -/
def putBits (w : Word) (lo n v : Nat) : Word :=
  (w &&& ~~~(fieldMask lo n)) ||| (BitVec.ofNat 32 (v <<< lo) &&& fieldMask lo n)

/-- Bit `i` of a natural number. -/
def natBit (v i : Nat) : Bool := v.testBit i

/-- 1 for true. -/
def b2n (b : Bool) : Nat := if b then 1 else 0

/-- The natural number with bit `i` set to `b`. -/
def setNatBit (v i : Nat) (b : Bool) : Nat :=
  if b then v ||| (1 <<< i) else (v ||| (1 <<< i)) - (1 <<< i)

/-- An `n`-bit field read as a two's-complement number. -/
def signed (n v : Nat) : Int :=
  let m := v % 2 ^ n
  if 2 * m < 2 ^ n then (m : Int) else (m : Int) - (2 ^ n : Nat)

/-- A two's-complement number as the natural number of its `n`-bit field (it wraps). -/
def unsigned (n : Nat) (i : Int) : Nat := (i % ((2 ^ n : Nat) : Int)).toNat

/-- R6: saturation to the range of an `n`-bit two's-complement field. -/
def satS (n : Nat) (i : Int) : Int :=
  let hi : Int := (2 ^ (n - 1) : Nat) - 1
  let lo : Int := -((2 ^ (n - 1) : Nat) : Int)
  if i > hi then hi else if i < lo then lo else i

/-- R6: did saturation to `n` bits change the value? -/
def satHit (n : Nat) (i : Int) : Bool := satS n i != i

/-- R6: the quotient rounded to nearest, ties away from zero (0 for a zero divisor). -/
def roundDiv (a : Int) (b : Nat) : Int :=
  if b = 0 then 0
  else
    let q := (2 * a.natAbs + b) / (2 * b)
    if a < 0 then -(q : Int) else (q : Int)

/-- R6: a value shifted right by `n` bits, rounded to nearest with ties away from zero. -/
def roundShift (a : Int) (n : Nat) : Int := roundDiv a (2 ^ n)

/-- R6: rounded division with a signed divisor (0 for a zero divisor). -/
def roundDivI (a b : Int) : Int := if b < 0 then roundDiv (-a) b.natAbs else roundDiv a b.natAbs

/-- The value limited to an interval. -/
def clampI (lo hi x : Int) : Int := if x < lo then lo else if x > hi then hi else x

/-- The natural number limited to an interval (the lower limit wins, as in R32). -/
def clampN (lo hi x : Nat) : Nat := if x < lo then lo else if hi < x then max lo hi else x

/-- The quotient rounded up (0 for a zero divisor). -/
def ceilDiv (a b : Nat) : Nat := if b = 0 then 0 else (a + b - 1) / b

/-- Increment saturating at an `n`-bit field's end. -/
def satAdd (n a d : Nat) : Nat := min (2 ^ n - 1) (a + d)

/-- The low word of a natural number. -/
def word0 (v : Nat) : Word := BitVec.ofNat 32 v

/-- Word `k` of a wide value, the lowest first (R15). -/
def wordN (v k : Nat) : Word := BitVec.ofNat 32 (v >>> (32 * k))

/-- The number whose words are given lowest first (R4, R15). -/
def wordsNat : List Word → Nat
  | [] => 0
  | w :: r => w.toNat + 2 ^ 32 * wordsNat r

/-- The number whose bytes are given lowest first (R4). -/
def bytesNat : List Byte → Nat
  | [] => 0
  | b :: r => b.toNat + 256 * bytesNat r

/-- The `n` lowest bytes of a number, lowest first (R4). -/
def natBytes : Nat → Nat → List Byte
  | 0, _ => []
  | n + 1, v => BitVec.ofNat 8 v :: natBytes n (v / 256)

/-- The `n` lowest bytes of a number, highest first (R371). -/
def beBytes (n v : Nat) : List Byte := (natBytes n v).reverse

/-- The number whose bytes are given highest first (R371). -/
def beNat (l : List Byte) : Nat := l.foldl (fun r b => r * 256 + b.toNat) 0

/-- The number of set bits among the `n` lowest. -/
def popCount (n v : Nat) : Nat := ((List.range n).filter (v.testBit ·)).length

/-- The lowest set bit below `n`, if any. -/
def lowestBit (n v : Nat) : Option Nat := (List.range n).find? (v.testBit ·)

/-- CRC-16 with polynomial 0x1021, most significant bit first, over one byte. -/
def crc16Byte (crc : Nat) (b : Nat) : Nat :=
  (List.range 8).foldl (fun r _ => if r.testBit 15 then ((2 * r) % 65536) ^^^ 0x1021 else 2 * r % 65536)
    (crc ^^^ (b * 256))

/-- The CRC-16 of R298: initial value 0xFFFF, no reflection, no final XOR. -/
def crc16 (bs : List Byte) : Nat := bs.foldl (fun r b => crc16Byte r b.toNat) 0xFFFF

/-- CRC-32C (polynomial 0x1EDC6F41 reflected) over one byte. -/
def crc32cByte (crc : Nat) (b : Nat) : Nat :=
  (List.range 8).foldl (fun r _ => if r.testBit 0 then (r / 2) ^^^ 0x82F6_3B78 else r / 2) (crc ^^^ b)

/-- CRC-32C of a list of bytes. -/
def crc32c (bs : List Byte) : Nat := (bs.foldl (fun r b => crc32cByte r b.toNat) 0xFFFF_FFFF) ^^^ 0xFFFF_FFFF

/-- CRC-32 (polynomial 0x04C11DB7 reflected) over one byte. -/
def crc32Byte (crc : Nat) (b : Nat) : Nat :=
  (List.range 8).foldl (fun r _ => if r.testBit 0 then (r / 2) ^^^ 0xEDB8_8320 else r / 2) (crc ^^^ b)

/-- The CRC-32 of R475. -/
def crc32 (bs : List Byte) : Nat := (bs.foldl (fun r b => crc32Byte r b.toNat) 0xFFFF_FFFF) ^^^ 0xFFFF_FFFF

/-- A Gray code of `n` bits as a binary number. -/
def grayToBin (n g : Nat) : Nat :=
  ((List.range n).foldl (fun (acc : Nat × Bool) k =>
    let i := n - 1 - k
    let b := acc.2 != g.testBit i
    (2 * acc.1 + b2n b, b)) (0, false)).1

end Sys2Proof.Machine
end

