-- ==== Sys2Proof/Machine/Tab.lean ====
section
/-! DEFINITION. Sparse tables: a list of (key, value) pairs in one canonical form (keys strictly rising, no entry
equal to what an unlisted key reads as). DRAM, the register words and every repeated item are held so. -/

namespace Sys2Proof.Machine

/-- A sparse table; the default of an unlisted key is given where it is read or written. -/
abbrev Tab (α : Type) := List (Nat × α)

/-- What key `k` reads as; `d` gives an unlisted key. -/
def tabGet {α : Type} (d : Nat → α) (t : Tab α) (k : Nat) : α :=
  match t with
  | [] => d k
  | (k', v) :: r => if k' = k then v else tabGet d r k

/-- The table without key `k`. -/
def tabErase {α : Type} (t : Tab α) (k : Nat) : Tab α := t.filter (fun e => !(e.1 == k))

/-- The table with (k, v) put in key order. -/
def tabInsert {α : Type} (k : Nat) (v : α) : Tab α → Tab α
  | [] => [(k, v)]
  | (k', v') :: r => if k < k' then (k, v) :: (k', v') :: r else (k', v') :: tabInsert k v r

/-- The table in which key `k` reads as `v`: writing what an unlisted key reads as removes the entry. -/
def tabSet {α : Type} [DecidableEq α] (d : Nat → α) (t : Tab α) (k : Nat) (v : α) : Tab α :=
  if v = d k then tabErase t k else tabInsert k v (tabErase t k)

/-- The table without the keys `lo` to `hi - 1`. -/
def tabClear {α : Type} (t : Tab α) (lo hi : Nat) : Tab α := t.filter (fun e => e.1 < lo || hi ≤ e.1)

/-- The keys rise strictly. -/
def tabSorted {α : Type} : Tab α → Bool
  | [] => true
  | [_] => true
  | (k, _) :: (k', v') :: r => (k < k') && tabSorted ((k', v') :: r)

/-- The canonical form: keys strictly rising, no entry equal to the default of its key. -/
def tabWf {α : Type} [DecidableEq α] (d : Nat → α) (t : Tab α) : Bool :=
  tabSorted t && t.all (fun e => !(decide (e.2 = d e.1)))

/-- A table with one default for every key. -/
def tab {α : Type} (d : α) (t : Tab α) (k : Nat) : α := tabGet (fun _ => d) t k

/-- Setting a key of a table with one default for every key. -/
def tabPut {α : Type} [DecidableEq α] (d : α) (t : Tab α) (k : Nat) (v : α) : Tab α := tabSet (fun _ => d) t k v

end Sys2Proof.Machine
end

