-- ==== Sys2Proof/Machine/RegRow.lean ====
section
/-! DEFINITION. How one register of a page or a table window is described (R9, R10, R11), and the addresses of the
register window (R56). -/

namespace Sys2Proof.Machine

/-- The part: FVK-8640 or FVK-8620 (R1, R2, R3). -/
inductive Part where
  | fvk8640
  | fvk8620
  deriving DecidableEq, Repr

/-- One register, or a row of equal registers, of a page or a table window: its byte offset, the words of its value,
how often it repeats and at which stride, and the access codes of R9 as masks over the whole value. A field in no mask
is read only. -/
structure RegRow where
  /-- byte offset of the first one -/
  off : Nat
  /-- words of the value (R11) -/
  words : Nat := 1
  /-- how often it repeats -/
  count : Nat := 1
  /-- byte distance of two repeats -/
  stride : Nat := 4
  /-- RW fields -/
  rw : Nat := 0
  /-- RWK fields -/
  rwk : Nat := 0
  /-- RWL fields -/
  rwl : Nat := 0
  /-- W1C fields -/
  w1c : Nat := 0
  /-- the bit of the value that locks its RWL fields -/
  lock : Nat := 31
  /-- reset value -/
  rst : Nat := 0
  /-- RC: a read clears it -/
  rc : Bool := false
  /-- WO: a read returns 0 -/
  wo : Bool := false
  /-- R586: every partition has its own copy -/
  per : Bool := false
  deriving DecidableEq, Repr

/-- All 32 bits of a word. -/
def m32 : Nat := 0xFFFF_FFFF
/-- All 64 bits of a value. -/
def m64 : Nat := 0xFFFF_FFFF_FFFF_FFFF
/-- All 96 bits of a value. -/
def m96 : Nat := 0xFFFF_FFFF_FFFF_FFFF_FFFF_FFFF

/-- A read-only register. -/
def ro (off : Nat) (words : Nat := 1) (rst : Nat := 0) : RegRow := { off := off, words := words, rst := rst }
/-- A row of read-only registers. -/
def roN (off count stride : Nat) (words : Nat := 1) (rst : Nat := 0) : RegRow :=
  { off := off, count := count, stride := stride, words := words, rst := rst }
/-- An RC counter (R9). -/
def rc (off : Nat) (words : Nat := 1) : RegRow := { off := off, words := words, rc := true }
/-- A row of RC counters. -/
def rcN (off count stride : Nat) : RegRow := { off := off, count := count, stride := stride, rc := true }
/-- An RW register. -/
def rw (off mask : Nat) (rst : Nat := 0) (words : Nat := 1) : RegRow :=
  { off := off, rw := mask, rst := rst, words := words }
/-- A row of RW registers. -/
def rwN (off count stride mask : Nat) (rst : Nat := 0) (words : Nat := 1) : RegRow :=
  { off := off, count := count, stride := stride, rw := mask, rst := rst, words := words }
/-- An RWK register. -/
def rwk (off mask : Nat) (rst : Nat := 0) (words : Nat := 1) : RegRow :=
  { off := off, rwk := mask, rst := rst, words := words }
/-- A row of RWK registers. -/
def rwkN (off count stride mask : Nat) (rst : Nat := 0) (words : Nat := 1) : RegRow :=
  { off := off, count := count, stride := stride, rwk := mask, rst := rst, words := words }
/-- A row of RWL registers with their own lock bit. -/
def rwlN (off count stride mask : Nat) (lock : Nat := 31) (rst : Nat := 0) (words : Nat := 1) : RegRow :=
  { off := off, count := count, stride := stride, rwl := mask, lock := lock, rst := rst, words := words }
/-- A W1C register. -/
def w1cN (off count stride mask : Nat) (words : Nat := 1) : RegRow :=
  { off := off, count := count, stride := stride, w1c := mask, words := words }
/-- A write-only register. -/
def wo (off : Nat) (count : Nat := 1) (stride : Nat := 4) : RegRow :=
  { off := off, count := count, stride := stride, wo := true }
/-- The same row with every partition's own copy (R586). -/
def RegRow.own (r : RegRow) : RegRow := { r with per := true }

/-- Rows of the registers of an indirect window at W (R61, R62, R63); every partition has its own copy (R60). -/
def iwinRows (w : Nat) : List RegRow :=
  [ (rw w m64 0 2).own, (rw (w + 8) 0x0F00_FF00).own, (ro (w + 0xC)).own, (rwN (w + 0x10) 16 4 m32).own ]

/-- A row found for an offset: the row, the index of the repeat and the word within the value. -/
structure RegHit where
  row : RegRow
  idx : Nat
  word : Nat
  deriving DecidableEq, Repr

/-- Does the row hold the word at byte offset `o`? -/
def RegRow.hit (r : RegRow) (o : Nat) : Option RegHit :=
  if o < r.off then none
  else
    let d := o - r.off
    let i := d / r.stride
    let w := d % r.stride / 4
    if r.count = 1 then (if d / 4 < r.words then some ⟨r, 0, d / 4⟩ else none)
    else if i < r.count && w < r.words then some ⟨r, i, w⟩ else none

/-- The first row that holds the word at byte offset `o`. -/
def findRow (rows : List RegRow) (o : Nat) : Option RegHit := rows.findSome? (·.hit o)

/-! ### Addresses of the register window (R56) -/

/-- The address of an offset in an instance page (R56). -/
def pageAddr (block inst off : Nat) : Nat := block * 0x10_0000 + inst * 0x1000 + off
/-- The address of an offset in a block's table window (R56). -/
def twAddr (block off : Nat) : Nat := block * 0x10_0000 + 0x8_0000 + off
/-- BLOCK of an address (R56). -/
def blockOf (a : Nat) : Nat := a / 0x10_0000 % 32
/-- TW of an address (R56). -/
def isTw (a : Nat) : Bool := a / 0x8_0000 % 2 == 1
/-- INSTANCE of an address (R56). -/
def instOf (a : Nat) : Nat := a / 0x1000 % 128
/-- OFFSET within the page (R56). -/
def offOf (a : Nat) : Nat := a % 0x1000
/-- TW_OFFSET of an address (R56). -/
def twOf (a : Nat) : Nat := a % 0x8_0000
/-- The first address of the page that holds an address. -/
def pageOf (a : Nat) : Nat := a - a % 0x1000
/-- The key of view `v` of an address: a partition's own copy of a register (R586), or a side's view of a Bell page (R104). -/
def viewKey (v a : Nat) : Nat := 2 ^ 25 * (1 + v) + a
/-- The key of word `w` of element `i` of store `st`: a store that no register address reaches (R60 to R64). -/
def elemKey (st i w : Nat) : Nat := 2 ^ 80 * (1 + st) + i * 1024 + w

/-! ### Block codes (the sixteen subsystems and the infrastructure) -/
def HST : Nat := 0x01
def MBX : Nat := 0x02
def COR : Nat := 0x03
def HOI : Nat := 0x04
def LOOP : Nat := 0x05
def PRF : Nat := 0x06
def PWM : Nat := 0x07
def FBK : Nat := 0x08
def CNV : Nat := 0x09
def ADT : Nat := 0x0A
def TLY : Nat := 0x0B
def TIM : Nat := 0x0C
def NET : Nat := 0x0D
def BUS : Nat := 0x0E
def SAF : Nat := 0x0F
def PAI : Nat := 0x10
def MEM : Nat := 0x11
def PWR : Nat := 0x12
def DIP : Nat := 0x13
def TST : Nat := 0x14

/-! ### Offsets of the page header (R67) -/
def PG_IDENT : Nat := 0x000
def PG_CAPS : Nat := 0x004
def PG_CTL : Nat := 0x008
def PG_STAT : Nat := 0x00C
def PG_EVT_RAW : Nat := 0x010
def PG_EVT_EN : Nat := 0x014
def PG_EVT_PEND : Nat := 0x018
def PG_EVT_LINE : Nat := 0x01C
def PG_OWNER : Nat := 0x020
def PG_KEY : Nat := 0x024
def PG_ERRINFO : Nat := 0x028
def PG_ERR_CNT : Nat := 0x030

/-- The header rows of every page (R67). -/
def headerRows : List RegRow :=
  [ ro PG_IDENT, ro PG_CAPS, { off := PG_CTL, rw := 4, rwk := 3 }, ro PG_STAT, ro PG_EVT_RAW, rw PG_EVT_EN m32,
    { off := PG_EVT_PEND, w1c := m32 }, ro PG_EVT_LINE,
    { off := PG_OWNER, rwl := 0x800F_FFFF, rst := 1 }, wo PG_KEY, rc PG_ERRINFO, ro 0x02C, rc PG_ERR_CNT ]

end Sys2Proof.Machine
end

