-- ==== Sys2Proof/Machine/RegMap.lean ====
section
/-! DEFINITION. The pages, registers and table windows of the register window, and what each word reads as after reset. -/

namespace Sys2Proof.Machine

/-! ### HST (R84, R85, R75, R77, R86) -/

/-- HST instance 0 (R85). -/
def hst0Rows : List RegRow := [ rc 0x034, rc 0x038, rc 0x03C, rc 0x100 2, roN 0x108 2 4 ]

/-- A partition page: vectors, lines, the MSI-X table and its pending bits (R77, R78). -/
def hstPartRows (p : Nat) : List RegRow :=
  [ { off := 0x100, words := 2, w1c := if p < 8 then m64 else 0 },
    { off := 0x108, words := 2, rw := if p < 8 then m64 else 0, rst := if p < 8 then m64 else 0 },
    roN 0x110 32 4 ] ++
  (if p < 8 then [] else
    [ ro 0x380 2, rwN 0x400 64 16 m32, rwN 0x404 64 16 m32, rwN 0x408 64 16 m32, rwN 0x40C 64 16 1 1 ])

/-- HST table window: the route table (R75) and the shared-memory entries (R86). -/
def hstTw : List RegRow :=
  [ rwlN 0x0000 1024 4 0xC000_0F3F 30,
    { off := 0x2000, words := 2, count := 8, stride := 0x20, rwl := m64 - 0x1F_FFFF },
    { off := 0x2008, count := 8, stride := 0x20, rwl := 0x1FFF },
    { off := 0x200C, count := 8, stride := 0x20, rwl := 0x8000_3F03, rst := 0x100 },
    { off := 0x2010, count := 8, stride := 0x20, rc := true } ]

/-! ### MBX (R95, R99, R106, R107, R111, R114) -/

/-- Mailbox control (R114). -/
def mbx0Rows : List RegRow :=
  [ { off := 0x100, rwl := 0x8000_0000 }, ro 0x104, rw 0x108 0x3FF 0xA ]
/-- A Bell channel page (R99); each side sees its own view. -/
def mbxBellRows : List RegRow :=
  [ rc 0x034, rc 0x038, rw 0x100 m32, ro 0x104, ro 0x108 2, { off := 0x110, w1c := 0x2C }, { off := 0x114, w1c := m32 } ]
/-- A Bucket ring page (R107). -/
def mbxRingRows : List RegRow :=
  [ rc 0x034, rw 0x100 m64 0 2, rw 0x108 m32, rw 0x10C 0xFFFF, wo 0x110, wo 0x114, ro 0x118, rw 0x11C 0x1FF 0x80, ro 0x120 ]
/-- The lock page (R111, R112). -/
def mbxLockRows : List RegRow := [ rc 0x034, rwN 0x100 128 4 0, roN 0x300 128 4 ]
/-- The binding table (R95) and the ring entries (R106). -/
def mbxTw : List RegRow :=
  [ rwlN 0 96 4 0x803F_3F3F, roN 0x4_0000 (32 * 1024) 4 ]

/-! ### HOI (R115, R116, R133, R141, R142, R146, R153) -/

/-- Hoist control (R146 and the rules it names). -/
def hoi0Rows : List RegRow :=
  [ rcN 0x034 5 4, (wo 0x100).own, (rw 0x104 0x1_FFFF 1).own, rwk 0x108 0xFFFF, (wo 0x10C).own, (ro 0x110).own,
    (ro 0x114).own, rwk 0x118 0x7FFF 0x400, rwk 0x11C m32 0x3E8, (ro 0x120).own, (ro 0x124).own, ro 0x128 ] ++
  iwinRows 0x200
/-- A core's dispatch port (R133). -/
def hoiPortRows : List RegRow := [ rc 0x034, ro 0x100 2, wo 0x108, wo 0x10C, ro 0x110 ]
/-- A recipe track (R153). -/
def hoiTrackRows : List RegRow :=
  [ rc 0x034, rc 0x038, rw 0x100 0xC001_FFFF, wo 0x104, rw 0x108 m64 0 2, rw 0x110 0xFFFF, ro 0x114, ro 0x118 2, ro 0x120 ]
/-- Flows (R130), descriptor ownership (R118) and credits (R129). -/
def hoiTw : List RegRow :=
  [ rwN 0x0000 4096 4 0x8000_00F0, rwlN 0x4000 256 4 0x8000_000F, rwN 0x4400 16 4 0x3FFF 0x40 ]

/-! ### LOOP (R156, R157, R180, R182, R194, R201) -/

/-- Loop control (R194). -/
def loop0Rows : List RegRow := [ rcN 0x034 5 4, (wo 0x100).own, (ro 0x104).own, ro 0x108, ro 0x10C ] ++ iwinRows 0x200
/-- Slot ownership, hand-over groups, slot control and parameters, learning blocks. -/
def loopTw : List RegRow :=
  [ rwlN 0x0000 32 4 0x8000_000F,
    rwN 0x0400 256 16 0x80FF_F000, rwN 0x0404 256 16 0x00FF_FFFF, roN 0x0408 256 16, roN 0x040C 256 16,
    rwN 0x1_0000 4096 16 0xE000_0000, rwN 0x1_0004 4096 16 0xFFFF, rwN 0x1_0008 4096 16 0xFFFF, rwN 0x1_000C 4096 16 0xFFFF,
    rwN 0x2_0000 4096 64 0xFFFF_F800, rwN 0x2_0004 4096 64 m32, rwN 0x2_0008 4096 64 m32, rwN 0x2_000C 4096 64 m32,
    rwN 0x2_0010 4096 64 m32, rwN 0x2_0014 4096 64 m64 0 2, rwN 0x2_001C 4096 64 0x1FF_FFFF, rwN 0x2_0020 4096 64 0xC000_0000,
    rwN 0x2_0024 4096 64 0xF_FFFF, rwN 0x2_0028 4096 64 0xF_FFFF, roN 0x2_002C 4096 64, roN 0x2_0030 4096 64,
    roN 0x2_0034 4096 64, roN 0x2_0038 4096 64, roN 0x2_003C 4096 64 ]

/-! ### PRF (R222, R223, R226, R244, R250, R253, R258, R259) -/

/-- Profile Generator control (R259). -/
def prf0Rows : List RegRow := [ rcN 0x034 4 4, ro 0x100, rw 0x104 0 ] ++ iwinRows 0x200
/-- An event page (R258). -/
def prfEvtRows : List RegRow := [ ro 0x100 2 ]
/-- Registers of 64 bits in the axis blocks that are plain RW. -/
def axisWide : List Nat :=
  [0x10, 0x18, 0x20, 0x28, 0x30, 0x38, 0x48, 0x50, 0x58, 0x60, 0x68, 0x70, 0x78, 0x80, 0x88, 0xC8]
/-- Axis blocks, step channels, coil blocks, cam headers and ownership. -/
def prfTw : List RegRow :=
  (axisWide.map fun o => { off := o, words := 2, count := 1152, stride := 0x100, rw := m64 }) ++
  [ rwN 0x00 1152 0x100 0x7FF0_0000, { off := 0x04, count := 1152, stride := 0x100, wo := true }, roN 0x08 1152 0x100,
    rwN 0x0C 1152 0x100 0xFF_07FF, rwN 0x40 1152 0x100 m32, rwN 0x44 1152 0x100 m32,
    roN 0x90 1152 0x100 2, roN 0x98 1152 0x100 2, roN 0xA0 1152 0x100 2, roN 0xA8 1152 0x100 3, roN 0xB4 1152 0x100,
    roN 0xB8 1152 0x100 2, roN 0xC0 1152 0x100 2, rwN 0xD0 1152 0x100 0xE1FF_FFF8, rwN 0xD4 1152 0x100 m32,
    rwN 0xD8 1152 0x100 0x8001_FFFF, rwN 0xDC 1152 0x100 0x1FF_FFF8, rwN 0xE0 1152 0x100 0x1FF_FFFF,
    w1cN 0xE4 1152 0x100 0xFFF, rwN 0xE8 1152 0x100 0xFFF, roN 0xEC 1152 0x100, roN 0xF0 1152 0x100 4,
    rwN 0x5_0000 32 0x40 0xE0FF_FFFF 0x00_A014, rwN 0x5_0004 32 0x40 0xFF_FFFF, rwN 0x5_0008 32 0x40 0x7F_FFFF,
    roN 0x5_000C 32 0x40, roN 0x5_0010 32 0x40,
    rwN 0x5_0800 32 0x40 0xE000_0000, rwN 0x5_0804 32 0x40 m32, rwN 0x5_0808 32 0x40 0x0FFF_0FFF,
    rwN 0x5_080C 32 0x40 0x7FFF_7FFF, rwN 0x5_0810 32 0x40 m32, rwN 0x5_0814 32 0x40 m32, rwN 0x5_0818 32 0x40 m32,
    roN 0x5_081C 32 0x40, roN 0x5_0820 32 0x40,
    rwN 0x5_1000 256 0x10 0xE000_1FFF, roN 0x5_1004 256 0x10, rwN 0x5_1008 256 0x10 m64 0 2,
    rwlN 0x6_0000 18 4 0x8000_000F, rwlN 0x6_0100 16 4 0x8000_000F ]

/-! ### PWM (R262, R286, R288) -/

/-- PWM control (R288). -/
def pwm0Rows : List RegRow :=
  [ rc 0x034, rwkN 0x100 48 16 0xE07F_03FF 0x207F_0000, rwkN 0x104 48 16 m32, rwkN 0x108 48 16 m32, rwkN 0x10C 48 16 m32,
    roN 0x400 48 4, wo 0x500 3, roN 0x510 3 4, rwk 0x520 0x8000_FFFF 0x8000_000A ]
/-- A pair page (R286). -/
def pwmPairRows : List RegRow :=
  [ rcN 0x034 4 4, rw 0x100 m32 0x4000_0000, rw 0x104 0x8000_0001, ro 0x108, rw 0x10C m32,
    rw 0x110 0x7_FFFF_FFFF 0 2, rw 0x118 0x7_FFFF_FFFF 0 2, rw 0x120 0x0FFF_0FFF, rwN 0x128 4 4 m32, ro 0x138 3,
    ro 0x180 2, ro 0x188 2, ro 0x190, roN 0x198 4 4, ro 0x1A8 3, ro 0x1C0 3,
    { off := 0x210, words := 2, wo := true }, { off := 0x218, words := 2, wo := true }, wo 0x220, wo 0x228 4 ]

/-! ### FBK (R311, R312, R315) and CNV (R335, R336) -/

/-- A feedback channel (R311, R312). -/
def fbkRows : List RegRow :=
  [ rcN 0x034 5 4, rw 0x100 m32 0x0006_0001, rw 0x104 m32, rw 0x108 0xFEFF_FFFF 0x0C00_0004, rw 0x10C m32,
    rw 0x110 0xDF3F_00FF 0x0800_0001, rw 0x114 0xFFFF, rw 0x118 0x0FFF_FFFF 0x2710, rw 0x11C m32, rw 0x120 m32 0x6406_4340,
    rw 0x124 m32 0x07D0_0050, rw 0x128 0xFFFF, rw 0x12C 0xFFF8_F0FF 0x0190_000A, rw 0x130 m64 0 2, rw 0x138 m64 0 2,
    wo 0x140, rwN 0x144 3 4 0x8001_FFFF, { off := 0x150, w1c := 0x00FC_0000 }, ro 0x158 2, ro 0x160, ro 0x164,
    { off := 0x200, words := 13, count := 3, stride := 0x40 } ]
/-- The GPIO page (R315). -/
def gpioRows : List RegRow :=
  [ rc 0x034, ro 0x100 2, rw 0x108 m64 0 2, { off := 0x110, words := 2, wo := true }, { off := 0x118, words := 2, wo := true },
    { off := 0x120, words := 2, w1c := m64 }, rwN 0x200 64 4 0xF800_00FF 1 ]
/-- A converter page (R335). -/
def cnvRows : List RegRow :=
  [ rcN 0x034 4 4, rw 0x100 0x8000_0000, rw 0x104 0x0007_07FF 0x0003_0040, rw 0x108 0xFF_FFFF, rw 0x10C 0x1FF_FFFF, wo 0x110,
    ro 0x114, rwN 0x120 4 8 0xFFF0_7C1F 0x4000_0000, rwN 0x124 4 8 0x8001_FFFF, rwN 0x180 32 4 0xBFFC_03FF 0x14, ro 0x300 3 ]
/-- The plausibility page (R336). -/
def plausRows : List RegRow :=
  [ rc 0x034, rwN 0x100 16 16 0xDF1F_FFFF 0x40, rwN 0x104 16 16 0xFF00_FFFF 0x0300_000A, rwN 0x108 16 16 0x1_FFFF,
    roN 0x10C 16 16, wo 0x200 ]

/-! ### TIM (R356, R360 to R363) -/

/-- The counter page (R362). -/
def tim0Rows : List RegRow :=
  [ rcN 0x034 4 4, ro 0x100 3, ro 0x110 3, ro 0x120 2 0x8_0000_0000, rwk 0x128 0xFF_FFFF_FFFF 0x8_0000_0000 2,
    rwk 0x130 0xFC00_0000, ro 0x134, rwk 0x138 m32 0x0089_0000, rwk 0x13C m32 0x0011_0000, rwk 0x140 m32 0x3E8,
    rwk 0x144 m32 0x0800_0032, rwk 0x148 0x7FFF_FFFF 0x0068_DB8C, ro 0x14C, rwk 0x150 m32, rwk 0x154 (m96 - 0xFFFF) 0 3,
    ro 0x160 2, roN 0x200 4 32 8 ]
/-- A PTP port page (R363). -/
def timPtpRows : List RegRow :=
  [ rcN 0x034 5 4, rw 0x100 0xE07F_FFFF 0xFD00, rw 0x104 m32, rw 0x108 0xFF_FFFF 0x320, ro 0x10C, ro 0x110 2, ro 0x118,
    ro 0x120 3, ro 0x130 3 ]
/-- The pulse and capture page (R360). -/
def timPlsRows : List RegRow :=
  [ rwN 0x100 16 32 0xE0FF_0000, rwN 0x104 16 32 m32, rwN 0x108 16 32 m64 0 2, roN 0x110 16 32,
    rwN 0x400 16 16 0xFF01_FFFF, roN 0x500 16 16 4, ro 0x600 ]
/-- Trigger entries and their ownership (R356). -/
def timTw : List RegRow :=
  [ rwN 0x00 256 64 0xE001_FFFF, rwN 0x04 256 64 m32, rwN 0x08 256 64 0xFFFF, roN 0x0C 256 64, rwN 0x10 256 64 m64 0 2,
    roN 0x18 256 64, roN 0x1C 256 64, roN 0x20 256 64 3, roN 0x2C 256 64 5, rwlN 0x4000 8 4 0x8000_000F ]

/-! ### NET (R366, R383, R389, R390) -/

/-- A port page (R389). -/
def netPortRows : List RegRow :=
  [ rcN 0x034 5 4, rw 0x100 0xFFE0_0000 0x02C0_0000, ro 0x104, rw 0x108 0xFFFF_FFFF_FFFF 0 2, rwk 0x110 0xC000_07FF,
    rwk 0x118 m64 0 2, rwk 0x120 0x3FFF_FFFF, ro 0x124, ro 0x128 2, rwN 0x200 8 16 (m64 - 15) 0 2, rwN 0x208 8 16 0x1FFF,
    rwN 0x20C 8 16 0xFFFF, rw 0x280 (m64 - 15) 0 2, rw 0x288 0x1FFF, rw 0x28C 0xFFFF ]
/-- The control page (R390). -/
def netCtlRows : List RegRow :=
  [ rcN 0x034 5 4, rwk 0x100 0x8007_00FF, rwk 0x104 0xFFFF 0x88B5, { off := 0x108, words := 2, wo := true, per := true }, (ro 0x110).own,
    rw 0x114 0x8001_FFFF, rw 0x120 0xF01F_1F00, rw 0x124 0xFFFF, rw 0x128 0xFF 0x63, roN 0x400 128 4 ] ++ iwinRows 0x200
/-- Gate lists and descriptor ownership (R383, R374). -/
def netTw : List RegRow := [ rwN 0 8192 4 m32 0xFF00_0000, rwlN 0x8000 32 4 0x8000_000F ]

/-! ### BUS (R398, R399, R410) -/

/-- A CAN controller page (R410). -/
def busRows : List RegRow :=
  [ rcN 0x034 6 4, rw 0x100 0xFC00_0000 0x4000_0000, wo 0x104, ro 0x108, ro 0x10C, rw 0x110 0xFFFF_FF7F 0x001F_0F0F,
    rw 0x114 0x1F1F_0F0F 0x0006_0101, rw 0x118 0x807F_0000, rw 0x11C 0x9FFF_FFFF, rw 0x120 0x1FFF_FFFF, w1cN 0x130 4 4 m32 ]
/-- The message objects (R399). -/
def busTw : List RegRow :=
  [ rwN 0x00 512 0x80 0xFFFF_FFF0, rwN 0x04 512 0x80 0x1FFF_FFFF, rwN 0x08 512 0x80 0x1FFF_FFFF, roN 0x0C 512 0x80,
    roN 0x10 512 0x80 3, { off := 0x1C, count := 512, stride := 0x80, wo := true } ] ++
  ((List.range 16).map fun k => rwN (0x20 + 4 * k) 512 0x80 m32) ++
  [ rwN 0x60 512 0x80 0x8001_FFFF, rwN 0x64 512 0x80 0x1FF_FFFF, roN 0x68 512 0x80, roN 0x6C 512 0x80,
    roN 0x70 512 0x80, roN 0x74 512 0x80, roN 0x78 512 0x80, roN 0x7C 512 0x80 ]

/-! ### ADT (R417, R425, R429, R436) -/

/-- The control page of Adit (R436). -/
def adt0Rows : List RegRow :=
  [ rcN 0x034 6 4, rwk 0x100 0x8000_0000, (ro 0x104).own, { off := 0x108, words := 2, rwl := m64 - 0x7FFF_FFFF, lock := 64 },
    ro 0x110, ro 0x114, (wo 0x118).own, (rw 0x11C 0x1FF_FFFF).own, (rw 0x120 0x3FF_FFFF).own, (rw 0x124 0xFFFF).own,
    ro 0x128 ] ++ iwinRows 0x200
/-- A stream channel (R429). -/
def adtStrRows : List RegRow :=
  [ rcN 0x034 3 4, rw 0x100 0x83FF_000F 0x0064_0000, rw 0x108 m64 0 2, rw 0x110 0x1FFF, rw 0x114 0x1F_FFFF, ro 0x118 2,
    rw 0x120 m64 0 2, ro 0x128 2 ]
/-- The trigger units (R425). -/
def adtTrgRows : List RegRow :=
  [ rwN 0x100 64 16 m32 0x2000_0000, rwN 0x104 64 16 m32, rwN 0x108 64 16 m32, rwN 0x10C 64 16 m32, rwN 0x500 64 4 0x8001_FFFF,
    roN 0x600 64 4, ro 0x700 3, w1cN 0x780 1 4 m64 2 ]

/-! ### TLY (R445, R455) -/

/-- The page of Tally (R455). -/
def tlyRows : List RegRow :=
  [ rcN 0x034 4 4, rwk 0x100 0x8000_0000, (ro 0x104).own, { off := 0x108, words := 2, wo := true, per := true }, (wo 0x110).own,
    (wo 0x114).own, (rw 0x118 0x1_FFFF).own, ro 0x120 2 ] ++ iwinRows 0x200
/-- The configuration of codes and their ownership (R445). -/
def tlyTw : List RegRow := [ rwN 0 65536 4 0xFEFF_FFFF 0x1400_0000, rwlN 0x4_0000 16 4 0x8000_000F ]

/-! ### SAF (R475, R481, R486) -/

/-- The page of the Safety Unit (R481). -/
def safRows : List RegRow :=
  [ rcN 0x034 4 4, ro 0x100, rwk 0x104 0xF, ro 0x108, rwk 0x10C m32, ro 0x110, ro 0x114, ro 0x118, ro 0x11C, ro 0x120,
    rw 0x124 0xFFFF, rw 0x128 0xFFFF, rwk 0x12C 0xFFFF, ro 0x130, ro 0x134, ro 0x138, ro 0x13C, roN 0x140 16 4, ro 0x180 ]
/-- The staging area and the group axis map (R479, R486). -/
def safTw : List RegRow := [ rwN 0 205 4 m32, rwN 0x800 64 4 0x87FF_87FF ]

/-! ### PAI (R513, R518) -/

/-- The page of the Pair Unit (R513). -/
def paiRows : List RegRow :=
  [ rcN 0x034 6 4, rwk 0x100 0xF7FF_FFFF 0x2000_0000, rwk 0x104 0xF, ro 0x108, rwk 0x10C 0xFFFF_00FF 0x000A_0000, ro 0x110, ro 0x118 2,
    ro 0x120, ro 0x124, ro 0x128, ro 0x130 2, ro 0x138 ]
/-- The mirror regions (R518). -/
def paiTw : List RegRow := [ rwN 0 64 16 0x8000_0000, rwN 4 64 16 0x0FFF_FFFF, rwN 8 64 16 m64 0 2 ]

/-! ### COR (R538, R541) -/

/-- The page of the Image Authority (R541). -/
def cor0Rows : List RegRow :=
  [ ro 0x100, rwk 0x104 0xF, ro 0x108, ro 0x10C 1 1, ro 0x110, ro 0x114, ro 0x120 8, rw 0x140 m64 0 2, rw 0x148 m32, rw 0x14C 1,
    ro 0x150 3, roN 0x160 4 16 4 ]
/-- An attestation page (R538). -/
def corAttRows : List RegRow := [ rw 0x100 (2 ^ 256 - 1) 0 8, rw 0x120 m64 0 2, wo 0x128, ro 0x12C ]

/-! ### MEM, PWR, DIP (R48, R49, R559) -/

/-- The memory controller page (R48). -/
def memRows : List RegRow := [ rc 0x034, rc 0x038, rc 0x03C, ro 0x100, ro 0x108 2, ro 0x110 1 400, ro 0x114 1 160,
    ro 0x118 1 160, ro 0x11C 1 240, ro 0x120 1 160, ro 0x124 1 80, ro 0x128 1 60, ro 0x12C 1 40, ro 0x130 1 600, roN 0x140 9 4 ]
/-- The power manager page (R559). -/
def pwrRows : List RegRow :=
  [ rc 0x034, rc 0x038, rc 0x03C, rwk 0x100 0x77, ro 0x104, ro 0x108, rw 0x10C 0, rw 0x110 0x8000_007F, ro 0x114,
    ro 0x118, rwk 0x11C m32 0x2710_2904, ro 0x120 2, rw 0x128 m64 0 2, ro 0x130 ] ++ iwinRows 0x200
/-- The Dipstick page (R49). -/
def dipRows : List RegRow :=
  [ ro 0x100, rwk 0x104 0xFFFF 0x4B0, ro 0x108, ro 0x10C 1 0x2BC, rc 0x110, rc 0x114, rc 0x118, rc 0x11C ]

/-- The page of the test access port (R585). -/
def tstRows : List RegRow := [ { off := 0x100, rwl := 0x8000_0000 }, ro 0x104 1 2 ]

/-! ### Which pages exist (R56, R58, R3) -/

/-- Does the block have a page of this number on FVK-8640? -/
def hasPage (b i : Nat) : Bool :=
  match b with
  | 0x01 => i < 17
  | 0x02 => i < 98
  | 0x03 => i < 17
  | 0x04 => i < 9 || (16 ≤ i && i < 80)
  | 0x05 => i < 33
  | 0x06 => i < 19
  | 0x07 => i < 97
  | 0x08 => i < 33
  | 0x09 => i < 5
  | 0x0A => i < 4
  | 0x0B => i == 0
  | 0x0F => i == 0
  | 0x10 => i == 0
  | 0x0C => i < 7
  | 0x0D => i < 128
  | 0x0E => i < 4
  | 0x11 | 0x12 | 0x13 | 0x14 => i == 0
  | _ => false

/-- R3: the pages that FVK-8620 does not have. -/
def absent8620 (b i : Nat) : Bool :=
  match b with
  | 0x05 => 17 ≤ i
  | 0x06 => 9 ≤ i && i < 17
  | 0x0C => i == 3 || i == 4
  | 0x0D => i == 2 || i == 3
  | _ => false

/-- Does the page exist on this part (R58)? -/
def pageExists (part : Part) (b i : Nat) : Bool :=
  hasPage b i && !(part == .fvk8620 && absent8620 b i)

/-- The block registers of a page (offsets 0x034 and up). -/
def blockRows (b i : Nat) : List RegRow :=
  match b with
  | 0x01 => if i = 0 then hst0Rows else hstPartRows (i - 1)
  | 0x02 => if i = 0 then mbx0Rows else if i < 65 then mbxBellRows else if i < 97 then mbxRingRows else mbxLockRows
  | 0x03 => if i = 0 then cor0Rows else corAttRows
  | 0x04 => if i = 0 then hoi0Rows else if i < 9 then hoiPortRows else hoiTrackRows
  | 0x05 => if i = 0 then loop0Rows else []
  | 0x06 => if i = 0 then prf0Rows else prfEvtRows
  | 0x07 => if i = 0 then pwm0Rows else pwmPairRows
  | 0x08 => if i < 32 then fbkRows else gpioRows
  | 0x09 => if i < 4 then cnvRows else plausRows
  | 0x0A => if i = 0 then adt0Rows else if i < 3 then adtStrRows else adtTrgRows
  | 0x0B => tlyRows
  | 0x0C => if i = 0 then tim0Rows else if i < 5 then timPtpRows else if i = 5 then timPlsRows else [w1cN 0x100 8 4 m32]
  | 0x0D => if i < 4 then netPortRows else if i = 127 then netCtlRows else []
  | 0x0E => busRows
  | 0x0F => safRows
  | 0x10 => paiRows
  | 0x11 => memRows | 0x12 => pwrRows | 0x13 => dipRows
  | 0x14 => tstRows
  | _ => []

/-- The registers of a block's table window. -/
def twRows (b : Nat) : List RegRow :=
  match b with
  | 0x01 => hstTw | 0x02 => mbxTw | 0x04 => hoiTw | 0x05 => loopTw | 0x06 => prfTw | 0x0A => [rwlN 0 256 4 0x8000_000F] | 0x0B => tlyTw | 0x0C => timTw | 0x0D => netTw
  | 0x0E => busTw
  | 0x0F => safTw
  | 0x10 => paiTw
  | _ => []

/-- R3: the words of a table window that FVK-8620 does not have. -/
def twAbsent8620 (b o : Nat) : Bool :=
  match b with
  | 0x05 => (0x40 ≤ o && o < 0x80) || (0x1_8000 ≤ o && o < 0x2_0000) || 0x4_0000 ≤ o
  | 0x06 => (0x2_0000 ≤ o && o < 0x4_0000) || (0x6_0020 ≤ o && o < 0x6_0040)
  | 0x0D => 0x4000 ≤ o && o < 0x8000
  | _ => false

/-- The number of result words of a page (R17). -/
def resultCount (b i : Nat) : Nat :=
  match b with
  | 0x05 => if i = 0 then 0 else 128
  | 0x08 => if i < 32 then 4 else 0
  | 0x09 => if i < 4 then 32 else 0
  | 0x0A => if i = 3 then 64 else 0
  | 0x0D => if 4 ≤ i && i < 127 then 128 else 0
  | 0x0E => 128
  | 0x0F => 32
  | 0x12 => 1 | 0x13 => 17
  | _ => 0

/-- INFO of a result word from reset: the fields its block fixes (R16). -/
def resultInfo (b i k : Nat) : Nat :=
  match b with
  | 0x08 => 256 * i
  | 0x0A => k
  | 0x0F => k / 2 + 16 * (k % 2)
  | 0x13 => if k = 0 then 0 else k - 1
  | _ => 0

/-! ### Finding the register at an address -/

/-- The row that holds the word at address `a`: header, block registers or table window; result words and their
aliases are found by `resultAt`. -/
def rowAt (part : Part) (a : Nat) : Option RegHit :=
  if isTw a then
    if part == .fvk8620 && twAbsent8620 (blockOf a) (twOf a) then none
    else findRow (twRows (blockOf a)) (twOf a)
  else if pageExists part (blockOf a) (instOf a) then
    if offOf a < 0x034 then findRow headerRows (offOf a) else findRow (blockRows (blockOf a) (instOf a)) (offOf a)
  else none

/-- A result word found at an address: its base address, whether the address is its alias, and the word (0 the lower). -/
structure ResultHit where
  base : Nat
  consuming : Bool
  word : Nat
  deriving DecidableEq, Repr

/-- The result word at address `a` (R17). -/
def resultAt (part : Part) (a : Nat) : Option ResultHit :=
  if isTw a || !pageExists part (blockOf a) (instOf a) then none
  else
    let o := offOf a
    if o < 0x800 then none
    else
      let al := decide (0xC00 ≤ o)
      let r := if al then o - 0xC00 else o - 0x800
      if r / 8 < resultCount (blockOf a) (instOf a) then
        some { base := pageOf a + 0x800 + r / 8 * 8, consuming := al, word := r / 4 % 2 }
      else none

/-- Is the address implemented on this part (R58)? -/
def implemented (part : Part) (a : Nat) : Bool := (rowAt part a).isSome || (resultAt part a).isSome

/-- The address of word 0 of the value that holds the word at `a`. -/
def valueBase (part : Part) (a : Nat) : Nat :=
  match resultAt part a with
  | some r => if r.consuming then r.base + 0x400 else r.base
  | none => match rowAt part a with
    | some h => a - 4 * h.word
    | none => a

/-- The number of words of the value that holds the word at `a` (R11). -/
def valueWords (part : Part) (a : Nat) : Nat :=
  match resultAt part a with
  | some _ => 2
  | none => match rowAt part a with
    | some h => h.row.words
    | none => 1

/-! ### Reset values -/

/-- What a register word reads as after reset. PG_OWNER of the HST partition pages and the COR attestation pages names
the page's partition and is locked (R69). -/
def regReset (a : Nat) : Word :=
  let b := blockOf a
  let i := instOf a
  if !isTw a && offOf a == PG_OWNER && (b == HST || b == COR) && i != 0 then
    BitVec.ofNat 32 (0x8000_0001 + (i - 1) * 0x1_0000)
  else if !isTw a && b == CNV && i < 4 && 0x180 ≤ offOf a && offOf a < 0x200 then
    -- INPUT of entry e: the converter's lowest input plus e (R335)
    BitVec.ofNat 32 ((32 * (i / 2) + (offOf a - 0x180) / 4) * 2 ^ 24 + 0x14)
  else match resultAt .fvk8640 a with
    | some r => if r.word = 0 then BitVec.ofNat 32 (resultInfo b i ((offOf r.base - 0x800) / 8)) else 0
    | none => match rowAt .fvk8640 a with
      | some h => wordN h.row.rst h.word
      | none => 0

/-- The number of a block's store: its block code and the SEL that names it (R62). -/
def storeOf (b sel : Nat) : Nat := b * 256 + sel

/-- What a word of an element of a store reads as when nothing has written it (R200, R414, R447). -/
def elemReset (st w : Nat) : Word :=
  if st = storeOf LOOP 0x01 then
    match w with
    | 1 => 0x2000_0000
    | 4 => 0xFF_FFFF
    | 5 => 0xFF_FFFF
    | _ => 0
  else if st = storeOf ADT 0x01 then (if w = 0 then 0x1000 else 0)
  else if st = storeOf TLY 0x01 then (if w = 1 then 0x8000_0000 else 0)
  else if st = storeOf NET 0x01 then
    match w with
    | 0 => 0x2E00
    | 15 => 0x0300_0000
    | _ => 0
  else 0

/-- What an unlisted word reads as. -/
def wordReset (k : Nat) : Word :=
  if k < 2 ^ 80 then regReset (k % 2 ^ 25) else elemReset (k / 2 ^ 80 - 1) (k % 1024)

/-! ### Event lines (R13) -/

/-- The event line of a page; none for a page that raises no line. `s` is the side of a Bell view (R104). -/
def lineOf (b i s : Nat) : Option Nat :=
  match b with
  | 0x01 => some i
  | 0x02 => if 1 ≤ i && i < 65 then some (0x040 + 2 * (i - 1) + s) else none
  | 0x03 => some (0x0C0 + i)
  | 0x04 => some (0x100 + i)
  | 0x05 => some (0x180 + i)
  | 0x06 => some (0x1C0 + i)
  | 0x07 => some (0x200 + i)
  | 0x08 => some (0x280 + i)
  | 0x09 => some (0x2C0 + i)
  | 0x0A => some (0x300 + i)
  | 0x0B => some 0x340
  | 0x0C => some (0x360 + i)
  | 0x0D => if i < 4 then some (0x3A0 + i) else if i = 127 then some 0x3A4 else none
  | 0x0E => some (0x3C0 + i)
  | 0x0F => some 0x3D0
  | 0x10 => some 0x3E0
  | 0x11 => some 0x3F0 | 0x12 => some 0x3F4 | 0x13 => some 0x3F8
  | 0x14 => some 0x3FC
  | _ => none

/-- Is the cause a level (R74)? Every cause that is not named here is an edge. -/
def isLevel (b i c : Nat) : Bool :=
  match b with
  | 0x01 => i == 0 && (c == 1 || c == 2)
  | 0x06 => i != 0 && c == 0
  | 0x07 => i != 0 && c == 5
  | 0x08 => i == 32 && c == 0
  | 0x0A => i == 3 && c == 0
  | 0x0C => i == 6 && c == 0
  | 0x0D => decide (i < 4) && c == 0
  | _ => false

end Sys2Proof.Machine
end

