-- ==== Sys2Proof/Machine/Motion.lean ====
section
/-! DEFINITION. The jerk-limited motion of a profile axis (R232 to R238): the advance above a tick, the stop point, the
phases of a positioning move in whole ticks, and one tick of such a move, of a velocity ramp and of a stop. Positions,
velocities and accelerations have 64 fractional bits; a tick period is a number of seconds. -/

namespace Sys2Proof.Machine

/-- The integer square root, by its bits from bit `n - 1` down. -/
def isqrtGo (x : Nat) : Nat → Nat → Nat
  | 0, r => r
  | n + 1, r => isqrtGo x n (if (r + 2 ^ n) * (r + 2 ^ n) ≤ x then r + 2 ^ n else r)

/-- The integer square root of a number below 2^512. -/
def isqrt (x : Nat) : Nat := isqrtGo x 256 0

/-- A rational rounded to nearest, ties away from zero (R6). -/
def ratRound (q : Rat) : Int := roundDiv q.num q.den

/-- The square root of a rational, to the unit below. -/
def ratSqrt (q : Rat) : Rat := (isqrt q.floor.toNat : Rat)

/-- -1, 0 or 1. -/
def sgn (x : Int) : Int := if x < 0 then -1 else if x = 0 then 0 else 1

/-- The sign of a rational. -/
def ratSgn (x : Rat) : Rat := if x < 0 then -1 else if x = 0 then 0 else 1

/-- A trajectory with 64 fractional bits: position, velocity and acceleration (R232). -/
structure Traj where
  s : Int := 0
  v : Int := 0
  a : Int := 0
  deriving DecidableEq, Repr

/-- A set of motion limits, each with 32 fractional bits (R7, R229). -/
structure Limits where
  v : Int := 0
  a : Int := 0
  d : Int := 0
  j : Int := 0
  deriving DecidableEq, Repr

/-- The limits with 64 fractional bits. -/
def Limits.fine (l : Limits) : Limits := { v := l.v * 2 ^ 32, a := l.a * 2 ^ 32, d := l.d * 2 ^ 32, j := l.j * 2 ^ 32 }

/-- R232: a tick of `t` seconds with jerk `j`. -/
def Traj.advance (x : Traj) (j : Rat) (t : Rat) : Traj :=
  { s := x.s + ratRound (x.v * t + x.a * t * t / 2 + j * t * t * t / 6),
    v := x.v + ratRound (x.a * t + j * t * t / 2),
    a := x.a + ratRound (j * t) }

/-- The absolute value of a rational. -/
def ratAbs (q : Rat) : Rat := if q < 0 then -q else q

/-- R235: a_p of the shortest stop from (v, a) with v > 0. -/
def stopPeak (v a d j : Rat) : Rat := if 2 * j * v + a * a ≥ 2 * d * d then d else ratSqrt (j * v + a * a / 2)

/-- R235: the distance of the shortest stop in the direction of travel. -/
def stopAhead (v a d j : Rat) : Rat :=
  let p := stopPeak v a d j
  let t1 := (if a + p < 0 then -(a + p) else a + p) / j
  let j1 := -(ratSgn (a + p)) * j
  let v1 := v + a * t1 + j1 * t1 * t1 / 2
  let d1 := v * t1 + a * t1 * t1 / 2 + j1 * t1 * t1 * t1 / 6
  let t2 := if p = d then max 0 ((v1 - p * p / (2 * j)) / p) else 0
  let d2 := v1 * t2 - p * t2 * t2 / 2
  let v2 := v1 - p * t2
  let t3 := p / j
  d1 + d2 + v2 * t3 - p * t3 * t3 / 2 + j * t3 * t3 * t3 / 6

/-- R235: does the stop from (v, a) end in the positive direction? -/
def stopSide (v a j : Rat) : Rat := ratSgn (2 * j * v + a * (if a < 0 then -a else a))

/-- R235: the signed distance to the stop point. -/
def stopDist (x : Traj) (l : Limits) : Rat :=
  if stopSide x.v x.a l.j < 0 then -(stopAhead (-x.v) (-x.a) l.d l.j) else stopAhead x.v x.a l.d l.j

/-- R235: the velocity crosses zero before the axis comes to rest, by more than the rounding of the outputs. Log 46, DESIGN CHOICE. -/
def stopReverses (x : Traj) (l : Limits) : Bool :=
  let g := sgn x.v
  decide (g != 0) && ((g * x.v : Int) : Rat) + g * x.a * (x.a.natAbs : Int) / (2 * l.j) < -(2 ^ 31)

/-- A jerk that would bring the acceleration to `goal` at the end of a tick, limited to the jerk limit. -/
def jerkTo (a goal j t : Rat) : Rat :=
  let q := if t = 0 then 0 else (goal - a) / t
  max (-j) (min j q)

/-- What a tick of a motion gave. -/
structure Moved where
  x : Traj
  landed : Bool := false
  deriving DecidableEq, Repr

/-! ### A velocity that moves (R241) -/

/-- R241: one tick towards a velocity `vt` that moves at acceleration `at'`, as it has since the tick's start: J towards the limit A or D, then J back so that velocity and acceleration meet the target together, the last two ticks with the jerks that meet it
exactly. Log 46, DESIGN CHOICE. -/
def velTick (x : Traj) (vt at' : Int) (l : Limits) (t : Rat) : Moved :=
  let j : Rat := l.j
  -- velocity and acceleration relative to the target's
  let e : Rat := x.v - vt + at' * t
  let b : Rat := x.a - at'
  let g : Int := if e + b * ratAbs b / (2 * j) < 0 then 1 else -1
  let lim : Rat := if g * x.v ≥ 0 then l.a else l.d
  let last := -b / t
  let first := -(e + 3 / 2 * b * t) / (t * t)
  if t ≤ 0 || j ≤ 0 then { x := x }
  else if ratAbs (e + b * t / 2) ≤ 2 && ratAbs last ≤ j then
    { x := { x.advance last t with v := vt, a := at' }, landed := true }
  else if ratAbs first ≤ j && ratAbs (last - first) ≤ j && ratAbs (x.a + first * t) ≤ max lim (ratAbs x.a) then
    { x := x.advance first t }
  else
    let most := g * jerkTo x.a (g * lim) j t
    -- what is left beyond the target once the acceleration has come back at the rate J
    let past (q : Rat) : Bool :=
      let w := g * b + q * t
      g * e + g * b * t + q * t * t / 2 + w * ratAbs w / (2 * j) > 0
    let root := ratSqrt (max 0 (j * j * t * t / 4 - 2 * j * (g * e + g * b * t / 2))) - j * t / 2
    { x := x.advance (g * (if past most then max (-j) (min most ((max 0 root - g * b) / t)) else most)) t }

/-! ### The phases of ramps and moves (R233 to R236) -/

/-- A phase: a constant jerk and how long it lasts. -/
abbrev JerkPhase := Rat × Rat

/-- R232: the distance that phases cover from velocity `v` and acceleration `a`. -/
def travel (v a : Rat) : List JerkPhase → Rat
  | [] => 0
  | (j, t) :: r => v * t + a * t * t / 2 + j * t * t * t / 6 + travel (v + a * t + j * t * t / 2) (a + j * t) r

/-- R233: a ramp from velocity `v` and acceleration `a` to velocity `goal` at rest in acceleration: its peak and its three times. -/
def rampTimes (v a goal up down j : Rat) : Rat × Rat × Rat × Rat :=
  let e := goal - v - a * ratAbs a / (2 * j)
  let g : Rat := if e < 0 then -1 else 1
  let lim := if e < 0 then down else up
  let b := g * a
  let dv := g * (goal - v)
  let sq := j * dv + b * b / 2
  let p := if sq ≥ lim * lim then lim else ratSqrt (max 0 sq)
  let t1 := ratAbs (p - b) / j
  let t3 := p / j
  (g * p, t1, if p = 0 then 0 else max 0 ((dv - (b + p) / 2 * t1 - p / 2 * t3) / p), t3)

/-- The jerk that takes the acceleration from `a` to `b` in `t`. -/
def slope (a b t : Rat) : Rat := if t = 0 then 0 else (b - a) / t

/-- The distance of a ramp of R233. -/
def rampDist (v a goal up down j : Rat) : Rat :=
  let (p, t1, t2, t3) := rampTimes v a goal up down j
  travel v a [(slope a p t1, t1), (0, t2), (slope p 0 t3, t3)]

/-- R233: the largest speed up to `vmax` from which the move does not pass the distance `dist`, by its bits from bit `n - 1` down. -/
def topSpeed (v a dist : Rat) (l : Limits) : Nat → Nat → Nat
  | 0, r => r
  | n + 1, r =>
    let q : Rat := ((r + 2 ^ n : Nat) : Rat)
    let fits := q ≤ l.v && rampDist v a q l.a l.d l.j + rampDist q 0 0 l.d l.d l.j ≤ dist
    topSpeed v a dist l n (if fits then r + 2 ^ n else r)

/-- The phases of a move as numbers of ticks: three of the ramp up, the cruise plus one, three of the ramp down. -/
structure Counts where
  up : Nat × Nat × Nat
  cruise : Nat
  down : Nat × Nat × Nat
  deriving DecidableEq, Repr

/-- The length of a move in ticks. -/
def Counts.total (n : Counts) : Nat := n.up.1 + n.up.2.1 + n.up.2.2 + n.cruise + n.down.1 + n.down.2.1 + n.down.2.2

/-- The speed that a ramp up with acceleration peak `p` reaches. -/
def Counts.speed (n : Counts) (v a p t : Rat) : Rat :=
  v + (a + p) / 2 * (n.up.1 * t) + p * (n.up.2.1 * t) + p / 2 * (n.up.2.2 * t)

/-- The phases of a move with acceleration peak `p`, in ticks: with no cruise and one tick less, the last tick of the ramp up
is the first of the ramp down. -/
def Counts.phases (n : Counts) (v a p t : Rat) : List (Rat × Nat) :=
  let q := n.speed v a p t / (((n.down.1 + n.down.2.2 : Nat) : Rat) / 2 * t + n.down.2.1 * t)
  let a1 := slope a p (n.up.1 * t)
  let a3 := slope p 0 (n.up.2.2 * t)
  let d1 := slope 0 (-q) (n.down.1 * t)
  let d3 := slope (-q) 0 (n.down.2.2 * t)
  let middle := if n.cruise = 0 then [(a3, n.up.2.2 - 1), (a3 + d1, 1), (d1, n.down.1 - 1)]
    else [(a3, n.up.2.2), (0, n.cruise - 1), (d1, n.down.1)]
  ([(a1, n.up.1), (0, n.up.2.1)] ++ middle ++ [(0, n.down.2.1), (d3, n.down.2.2)]).filter (·.2 != 0)

/-- The distance of a move. -/
def Counts.dist (n : Counts) (v a p t : Rat) : Rat := travel v a ((n.phases v a p t).map fun (j, k) => (j, k * t))

/-- The move that covers exactly `dist`, where its jerks, accelerations and speed keep the limits (R234). -/
def Counts.fit (n : Counts) (v a dist : Rat) (l : Limits) (t : Rat) : Option (List (Rat × Nat)) :=
  let d0 := n.dist v a 0 t
  let d1 := n.dist v a 1 t
  if d1 = d0 then none
  else
    let p := (dist - d0) / (d1 - d0)
    let ph := n.phases v a p t
    let top := n.speed v a p t
    let q := top / (((n.down.1 + n.down.2.2 : Nat) : Rat) / 2 * t + n.down.2.1 * t)
    if 0 ≤ top && top ≤ l.v && p ≤ l.a && -p ≤ l.d && q ≤ l.d && ph.all fun x => ratAbs x.1 ≤ l.j then some ph else none

/-- The whole ticks of a ramp: each of its three times rounded up, less or more by what `o` says. -/
def rampTicks (r : Rat × Rat × Rat × Rat) (t : Rat) (o : Int × Int × Int) : Nat × Nat × Nat :=
  let n1 := max 1 ((r.2.1 / t).ceil + o.1).toNat
  (n1, (((r.2.1 + r.2.2.1) / t).ceil + o.2.1).toNat - n1, max 1 ((r.2.2.2 / t).ceil + o.2.2).toNat)

/-- The shortest of the candidates. -/
def shortest (l : List (List (Rat × Nat))) : List (Rat × Nat) :=
  let len (p : List (Rat × Nat)) : Nat := p.foldl (fun n x => n + x.2) 0
  l.foldl (fun b p => if b.isEmpty || len p < len b then p else b) []

/-- All the triples of offsets. -/
def triples (os : List Int) : List (Int × Int × Int) := os.flatMap fun x => os.flatMap fun y => os.map fun z => (x, y, z)

/-- R235, R236: the phases of a ramp from `x` to velocity `vt` at rest in acceleration, in whole ticks: its three times rounded to ticks by
one of the offsets, the shortest that keeps J and the limit. Log 46, DESIGN CHOICE. -/
def rampPhases (x : Traj) (vt : Int) (l : Limits) (t : Rat) : List (Rat × Nat) :=
  let g : Rat := if x.v < 0 || (x.v = 0 && vt < 0) then -1 else 1
  let v := g * x.v
  let a := g * x.a
  let r := rampTimes v a (g * vt) l.a l.d l.j
  let lim : Rat := if r.1 < 0 then l.d else l.a
  let fit (o : Int × Int × Int) : List (Rat × Nat) :=
    let n := rampTicks r t o
    let p := (g * vt - v - a * (n.1 * t) / 2) / (((n.1 + n.2.2 : Nat) : Rat) / 2 * t + n.2.1 * t)
    let ph := [(g * slope a p (n.1 * t), n.1), (0, n.2.1), (g * slope p 0 (n.2.2 * t), n.2.2)].filter (·.2 != 0)
    if ratAbs p ≤ max lim (ratAbs a) && ph.all fun y => ratAbs y.1 ≤ l.j then ph else []
  shortest (((triples [0, -1]).map fit ++ (triples [0, 1, 2]).map fit).filter (!·.isEmpty))

/-- R233, R234: the phases of a move over `dist` > 0 in whole ticks: the seven phases of R233, each rounded to ticks by one of the
offsets `os`, the shortest that lands exactly. -/
def bestPhases (v a dist : Rat) (l : Limits) (t : Rat) (os : List Int) : List (Rat × Nat) :=
  let top : Rat := ((topSpeed v a dist l 128 0 : Nat) : Rat)
  let r1 := rampTimes v a top l.a l.d l.j
  let r2 := rampTimes top 0 0 l.d l.d l.j
  let ns := (triples os).flatMap fun o1 => (triples os).flatMap fun o2 =>
    let n : Counts := { up := rampTicks r1 t o1, cruise := 1, down := rampTicks r2 t o2 }
    let p := (top - v - a * (n.up.1 * t) / 2) / (((n.up.1 + n.up.2.2 : Nat) : Rat) / 2 * t + n.up.2.1 * t)
    let left := if top = 0 then 0 else ((dist - n.dist v a p t) / (top * t)).floor
    let k := left.toNat
    (if left < 0 then [0, 1] else [k + 1, k + 2]).map fun c => { n with cruise := c }
  shortest (ns.filterMap fun n => n.fit v a dist l t)

/-- R233, R234: the phases of a move from `x` to `target`, in whole ticks: none where it cannot land on the target before it stops.
Log 46, DESIGN CHOICE. -/
def movePhases (x : Traj) (target : Int) (l : Limits) (t : Rat) : List (Rat × Nat) :=
  let g := sgn (target - x.s)
  let dist : Rat := ((target - x.s).natAbs : Nat)
  let v : Rat := g * x.v
  let a : Rat := g * x.a
  let ph := match bestPhases v a dist l t [0, -1] with
    | [] => bestPhases v a dist l t [0, 1, 2]
    | p => p
  ph.map fun (j, n) => (g * j, n)

/-! ### One tick (R232 to R238) -/

/-- The phases that the evaluation of a motion has found, and what it found them for: as long as nothing of that changes, the next
evaluation finds the rest of them. Log 46, DESIGN CHOICE. -/
structure Ahead where
  from' : Traj := {}
  /-- towards a velocity, not a position -/
  ramp : Bool := false
  target : Int := 0
  lim : Limits := {}
  tick : Rat := 0
  phases : List (Rat × Nat) := []
  deriving DecidableEq, Repr

/-- One tick of a motion, and the phases that lie ahead. -/
structure MoveTick where
  x : Traj
  landed : Bool := false
  ahead : Ahead := {}
  deriving DecidableEq, Repr

/-- What lies ahead of `x`, where it was found for this very motion. -/
def Ahead.known (h : Ahead) (x : Traj) (ramp : Bool) (target : Int) (l : Limits) (t : Rat) : List (Rat × Nat) :=
  if h.from' == x && h.ramp == ramp && h.target == target && h.lim == l && h.tick == t then h.phases else []

/-- One tick along phases; the last of them ends at `goal`. -/
def follow (x goal : Traj) (ramp : Bool) (target : Int) (l : Limits) (t : Rat) : List (Rat × Nat) → MoveTick
  | [] => { x := x }
  | (j, n) :: r =>
    let y := x.advance j t
    let rest := if n ≤ 1 then r else (j, n - 1) :: r
    if rest.isEmpty then { x := if ramp then { goal with s := y.s } else goal, landed := true }
    else { x := y, ahead := { from' := y, ramp := ramp, target := target, lim := l, tick := t, phases := rest } }

/-- R235 to R237: one tick of a ramp to velocity `target`: across zero by way of rest, and never above VMAX. Log 46, DESIGN CHOICE. -/
def rampTick (x : Traj) (target : Int) (l : Limits) (t : Rat) (h : Ahead) : MoveTick :=
  let goal := clampI (-l.v) l.v target
  let vt := if sgn x.v * sgn goal < 0 then 0 else goal
  if x.a = 0 && x.v = vt then { x := { x with s := x.s + ratRound (vt * t) }, landed := true }
  else
    let ph := match h.known x true vt l t with
      | [] => if t ≤ 0 || l.j ≤ 0 then [] else rampPhases x vt l t
      | p => p
    let m := if ph.isEmpty then { x := (velTick x vt 0 l t).x } else follow x { v := vt } true vt l t ph
    { m with landed := m.landed && vt == goal }

/-- R235, R236: one tick of a stop, under D alone. Log 46, DESIGN CHOICE. -/
def stopTick (x : Traj) (l : Limits) (t : Rat) (h : Ahead) : MoveTick := rampTick x 0 { l with a := l.d } t h

/-- R233, R234, R237, R238: one tick of a positioning move: a stop where the stop point lies at or beyond the target, else the next
tick of the phases to it; the last of them ends at rest on the target. Log 46, DESIGN CHOICE. -/
def moveTick (x : Traj) (target : Int) (l : Limits) (t : Rat) (h : Ahead) : MoveTick :=
  let dir := if x.v = 0 then sgn x.a else sgn x.v
  let past := decide (dir != 0) && ((x.s : Rat) + stopDist x l - target) * dir ≥ 0
  if x == { s := target } then { x := x, landed := true }
  else
    let ph := match h.known x false target l t with
      | [] => if past || t ≤ 0 || l.j ≤ 0 then [] else movePhases x target l t
      | p => p
    if ph.isEmpty then { stopTick x l t h with landed := false } else follow x { s := target } false target l t ph

end Sys2Proof.Machine
end

