-- ==== Sys2Proof/Machine/State.lean ====
section
/-! DEFINITION. State: everything the spec gives the module, as plain data, and the state after reset. Registers and
elements of stores are words under their addresses (see Machine/RegMap for their reset values); what the module holds
outside its registers stands in one structure per block. -/

namespace Sys2Proof.Machine

/-- A TS96 stamp (R14): NS in [95:32], FRAC in [31:16], EPOCH in [15:8], flags in [3:0]. -/
abbrev Stamp := BitVec 96

/-- How an access was answered (R70); the model's own record of the last access. -/
inductive RespStatus where
  /-- no access has been answered yet -/
  | idle
  /-- completed; a read carries its words -/
  | done
  /-- PCIe completer abort -/
  | completerAbort
  /-- bus error at a core -/
  | busError
  /-- completion with the poisoned mark -/
  | poisoned
  /-- a write that was discarded without a sign to its master (a posted host write) -/
  | discarded
  deriving DecidableEq, Repr

/-- The answer to the last access: its status and the words read, lowest first. -/
structure Resp where
  status : RespStatus := .idle
  data : List Word := []
  deriving DecidableEq, Repr

/-- Where a master's key sequence on a page stands (R73). -/
inductive KeySt where
  | closed
  /-- the first key word has been accepted -/
  | half
  /-- the next write is the keyed write -/
  | opened
  deriving DecidableEq, Repr

/-- An indirect-window operation in progress (R64): what it does, and whether its context still waits for it. -/
structure IwinOp where
  op : Nat
  sel : Nat
  addr : Nat
  data : List Word
  live : Bool
  deriving DecidableEq, Repr

/-- A notice of an asserted line on its way to the router, with PG_EVT_PEND & PG_EVT_EN when it was raised (R74, R442). -/
structure LineNotice where
  line : Nat
  value : Nat
  deriving DecidableEq, Repr

/-- A completion on its way to Hoist: the head of its successor list and its stamp (R121). -/
structure Post where
  head : Nat
  stamp : Stamp
  deriving DecidableEq, Repr

/-- A sample on its way to Adit (R412): its signal, its value with its number of bits, and its stamp. -/
structure Sample where
  sig : Nat
  value : Int
  stamp : Stamp
  deriving DecidableEq, Repr

/-- An event on its way to Tally (R444): its code, its value and its stamp. -/
structure TallyEvent where
  code : Nat
  value : Nat
  stamp : Stamp
  deriving DecidableEq, Repr

/-- Dipstick's own counters behind its registers (R34, R35, R37). -/
structure Dip where
  /-- consecutive windows at or above 1.08 of the floor while PACE_LOW is set (R34) -/
  lowClear : Nat := 0
  /-- consecutive later windows at or above the floor while PACE_FLOOR is set (R35) -/
  good : Nat := 0
  /-- PACE_FLOOR has been clear for 10 s, or has not been set since reset (R37) -/
  recovered : Bool := true
  /-- the floor timer has reached 50 and awaits FLOOR_TIMER_EXPIRY (R35) -/
  expired : Bool := false
  deriving DecidableEq, Repr

/-- One direction of a Bell channel (R99, R100). -/
structure BellDir where
  word : Word := 0
  full : Bool := false
  collided : Bool := false
  rxseq : Nat := 0
  deriving DecidableEq, Repr

/-- A Bell channel: its two directions, CROSS, and the W1C flags of each side's view (R99). -/
structure Bell where
  d0 : BellDir := {}
  d1 : BellDir := {}
  cross : Bool := false
  deriving DecidableEq, Repr

/-- A notice that was posted and waits until its producer's earlier writes are visible (R109). -/
structure Notice where
  ptr : Nat
  len : Nat
  tag : Nat
  deriving DecidableEq, Repr

/-- A Bucket ring behind its registers (R106 to R110). -/
structure Bucket where
  tail : Nat := 0
  count : Nat := 0
  nextSeq : Nat := 0
  lastRefuse : Bool := false
  why : Nat := 0
  staged : List Notice := []
  deriving DecidableEq, Repr

/-- What the host ports hold outside their registers: function masks of MSI-X (R78), and cores that are power-gated
(R92). -/
structure Hst where
  fnMask : Nat := 0
  coreGated : Nat := 0
  deriving DecidableEq, Repr

/-- Where the present run of a task descriptor stands (R116's STATE without VALID, admission and retirement). -/
inductive Phase where
  /-- no run: WAITING, UNADMITTED or INVALID -/
  | idle
  | ready
  | held
  | running
  | waitOrder
  deriving DecidableEq, Repr

/-- An output of a loop slot that waits in a flow's release buffer (R131). -/
structure HeldOut where
  slot : Nat
  k : Nat
  value : Int
  stamp : Stamp
  /-- EXEC_CNT of the execution, counted from 0 (R174) -/
  exec : Nat
  deriving DecidableEq, Repr

/-- A task descriptor behind its words: the present run and the one queued behind it (R121 to R124). -/
structure Inst where
  phase : Phase := .idle
  /-- the trigger that started the present run's bound (R121) -/
  trig : Stamp := 0
  /-- demoted to best-effort work (R124) -/
  demoted : Bool := false
  /-- a further run is queued behind the present one (R121, R123) -/
  queued : Bool := false
  qTrig : Stamp := 0
  qDemoted : Bool := false
  /-- the queued run has found no best-effort entry (R128) -/
  qHeld : Bool := false
  /-- the instant of the trigger before (R124), if any, in 2^-16 ns -/
  prevTrig : Option Nat := none
  /-- the present run has been dispatched, and perhaps suspended since (R123, R134, R141) -/
  dispatched : Bool := false
  /-- the flows that the present run and the queued one have joined (R130, R131) -/
  flow : Option Nat := none
  qFlow : Option Nat := none
  /-- retirement has been requested (R141) -/
  retiring : Bool := false
  /-- the descriptor becomes INVALID at its release (R119) -/
  ending : Bool := false
  /-- the present run is offered to a core (R133) -/
  offered : Bool := false
  /-- outputs held until its turn in the flow (R131) -/
  held : List HeldOut := []
  deriving DecidableEq, Repr

/-- An admission request waiting its turn or in progress (R141, R140, R586): `op` 1 ADMIT, 2 RETIRE, 3 QUERY, 4 a
raised HOI_BE_MAX_COST. `code` and `culprit` are those of a RETIRE, known at its start. -/
structure AdmitReq where
  p : Nat
  op : Nat
  first : Nat
  count : Nat
  cap : Nat := 0
  code : Nat := 0
  culprit : Nat := 0
  deriving DecidableEq, Repr

/-- A core's dispatch port behind its registers (R133): the task on the core, the task offered to it, and a pre-emption that shedding
has asked for (R35). -/
structure CorePort where
  current : Option Nat := none
  next : Option Nat := none
  shed : Bool := false
  deriving DecidableEq, Repr

/-- A step in a track's prefetch buffer with the fault code of its checks, 0 for none (R150). -/
structure Prefetched where
  idx : Nat
  data : List Word
  code : Nat
  deriving DecidableEq, Repr

/-- A recipe track behind its registers (R149 to R152). -/
structure Track where
  buf : List Prefetched := []
  /-- instant of the pause -/
  pausedAt : Nat := 0
  /-- instant and limit in ns of the WAIT step applied last; 0 for no limit -/
  waitAt : Nat := 0
  waitLimit : Nat := 0
  waitIdx : Nat := 0
  /-- AT of the step applied last, in µs -/
  last : Option Nat := none
  /-- remaining counts of JUMP steps, under their index -/
  jumps : Tab (Option Nat) := []
  /-- network time in ns at which the next step became the next one (R152) -/
  since : Nat := 0
  deriving DecidableEq, Repr

/-- Hoist behind its registers. -/
structure Hoi where
  inst : Tab Inst := []
  /-- the descriptor on each lane, plus 1; 0 is a free lane -/
  lanes : Tab Nat := []
  /-- the order of each flow's runs, oldest first (R131) -/
  flows : Tab (List Nat) := []
  admitted : List Nat := []
  requests : List AdmitReq := []
  ports : Tab CorePort := []
  /-- the core pools removed from dispatch (R135), one bit each -/
  poolOut : Nat := 0
  tracks : Tab Track := []
  deriving DecidableEq, Repr

/-- A value fetched from a register for a loop operand: the 64-bit value, its stamp, and for a result word its GEN and
SETTLING (R162 to R164). -/
structure SrcVal where
  v : Nat := 0
  stamp : Stamp := 0
  gen : Option Nat := none
  settling : Bool := false
  deriving DecidableEq, Repr

/-- What a loop slot keeps outside its elements: the operands' last GEN and last valid value (R164), the previous trigger
(R158), the first execution after enable (R167), and the learning path's position (R205 to R210). -/
structure SlotRun where
  lastGen : Tab Nat := []
  lastVal : Tab Int := []
  first : Bool := true
  /-- the trigger before, in 2^-16 ns (R158) -/
  prevTrig : Option Nat := none
  ulNext : Int := 0
  pos : Nat := 0
  tPrev : Nat := 0
  phiPrev : Nat := 0
  noPrev : Bool := true
  /-- FREEZE_I as the last execution saw it (R215) -/
  frozenI : Bool := false
  /-- the digest of the corrections written in the repetition in progress (R219) -/
  digest : Word := 0
  /-- REPS and the digest that the lead has sent for a repetition which the standby has not completed yet (R219) -/
  peer : Option (Nat × Word) := none
  /-- being re-synchronised from the twin (R214, reason 9) -/
  resync : Bool := false
  deriving DecidableEq, Repr

/-- A slot command in progress or waiting (R194, R586): its partition, command, slot and, once begun, its code. -/
structure SlotCmd where
  p : Nat
  cmd : Nat
  slot : Nat
  code : Nat := 0
  deriving DecidableEq, Repr

/-- The Loop Array behind its registers. -/
structure Loop where
  slots : Tab SlotRun := []
  enabled : List Nat := []
  cmds : List SlotCmd := []
  /-- BLEND_N as a running blend began with it, per group (R186) -/
  blendOf : Tab Nat := []
  deriving DecidableEq, Repr

/-- Bytes on their way to DRAM (R174, R388, R433, R538). -/
structure DramWrite where
  addr : Nat
  data : List Byte
  deriving DecidableEq, Repr

/-- A command accepted and waiting for the axis's next tick, with the staged registers it loaded (R229). -/
structure AxisCmd where
  code : Nat
  target : Int := 0
  lim : Limits := {}
  num : Int := 0
  den : Nat := 1
  master : Nat := 0
  cam : Nat := 0
  engageAt : Int := 0
  deriving DecidableEq, Repr

/-- How a GEARED axis stands to its master (R241, R246). -/
inductive Follow where
  | none
  | gearSync
  | gearLocked
  | camOn
  deriving DecidableEq, Repr

/-- An axis behind its block (R225, R232, R240 to R246). -/
structure Axis where
  base : Traj := {}
  target : Int := 0
  vTarget : Int := 0
  lim : Limits := {}
  sup : Traj := {}
  supTarget : Int := 0
  supLim : Limits := {}
  /-- the phases found ahead of the base and of the superimposed motion (the model's own record; log 46, DESIGN CHOICE) -/
  ahead : Ahead := {}
  supAhead : Ahead := {}
  /-- P_trim with 64 fractional bits (R243) -/
  trim : Int := 0
  pending : Option AxisCmd := Option.none
  /-- an engagement that waits for ENGAGE_AT or for the end of the present table (R241, R246) -/
  waiting : Option AxisCmd := Option.none
  follow : Follow := .none
  master : Nat := 0
  num : Int := 0
  den : Nat := 1
  rem : Int := 0
  /-- the master's unwrapped position used last, with 32 fractional bits -/
  mPrev : Int := 0
  cam : Nat := 0
  /-- the unwrapped master position at which the table starts, and the offset that keeps POS continuous -/
  camX0 : Int := 0
  camOff : Int := 0
  /-- the running sum of the increments of POS, never wrapped, with 32 fractional bits (R239) -/
  upos : Int := 0
  /-- P_base + P_sup + P_trim + IN_POS of the last tick, not wrapped -/
  raw : Int := 0
  /-- the last increment of POS -/
  dpos : Int := 0
  /-- the trigger stamp of the last tick -/
  ticked : Stamp := 0
  /-- the motion being ended is a STOP or QSTOP (R258, cause 5) -/
  stopping : Bool := false
  /-- the target step count of R251 as the last tick had it, and the microsteps not yet issued -/
  stepTarget : Int := 0
  behind : Int := 0
  stepDir : Bool := false
  lagging : Bool := false
  /-- the start of the last pulse and the last edge of STP_DIR, in 2 ns of the Timebase (R251) -/
  pulseAt : Int := 0
  dirAt : Int := 0
  /-- the sign of the velocity in the present motion (R238) -/
  dir : Int := 0
  /-- coil drive: ns since energising and since coming to rest (R254) -/
  onNs : Nat := 0
  restNs : Nat := 0
  deriving DecidableEq, Repr

/-- An axis tick that is due: the axis and the stamp of its trigger (R224). -/
structure TickDue where
  axis : Nat
  stamp : Stamp
  deriving DecidableEq, Repr

/-- The Profile Generator behind its registers. -/
structure Prf where
  axes : Tab Axis := []
  enabled : List Nat := []
  due : List TickDue := []
  deriving DecidableEq, Repr

/-- An edge of a pair's pins in the present period: its time from the boundary in 250 ps, the high-side pin or the low-side
pin, and whether the pin turns on (R264, R265). -/
structure PwmEdge where
  at' : Nat
  high : Bool
  on : Bool
  deriving DecidableEq, Repr

/-- An intended change of the high side of a pair: its time from the boundary in 250 ps, on or off, and the dead time of the turn-on that
follows it (R264, R265). -/
structure PwmChange where
  at' : Nat
  high : Bool
  delay : Nat
  deriving DecidableEq, Repr

/-- A shadow write or an arm that came inside the guard window and waits for the boundary to pass (R269). -/
structure PwmLate where
  off : Nat
  words : List Word
  stamp : Stamp
  arm : Bool
  deriving DecidableEq, Repr

/-- A PWM pair behind its page. -/
structure Pair where
  /-- instant of the last boundary, in 250 ps of the Timebase -/
  bAt : Int := 0
  /-- correction of the present period, in counts of 2 ns (R267) -/
  adj : Int := 0
  /-- the switching edges of the present period, and the intended changes and the delayed turn-ons of the period before that they
  come from -/
  edges : List PwmEdge := []
  plan : List PwmChange := []
  carry : List PwmEdge := []
  /-- the two sides, high and low, as the present period found them, and the high side as it was intended then and is at the end -/
  hiOn : Bool := false
  loOn : Bool := false
  startHigh : Bool := false
  endHigh : Bool := false
  /-- switching edges at the balls before the present period, as far as a blanking window reaches, in 250 ps of the Timebase (R276) -/
  past : List Int := []
  /-- the edge from which FORCE_OFF holds, in 250 ps of the Timebase (R286) -/
  forceAt : Option Int := none
  late : List PwmLate := []
  /-- the compares that have fired in the present period (R274) -/
  fired : Nat := 0
  /-- the inputs that have tripped the pair since the last clear (R278) -/
  srcs : Nat := 0
  /-- tripped by a fault of a trip path: not clearable (R281) -/
  faultTrip : Bool := false
  /-- the pins stay off until the next boundary (R278, R282) -/
  hold : Bool := false
  deriving DecidableEq, Repr

/-- The PWM Array behind its registers. -/
structure Pwm where
  pairs : Tab Pair := []
  /-- levels of the TRIP_IN balls -/
  balls : Nat := 0
  /-- the instant of the last edge at each ball (R279) -/
  edgeAt : Tab Stamp := []
  /-- gate B's copy of the configuration and mask words that differ from gate A's, under their address (R277) -/
  gateB : Tab (Option Word) := []
  /-- the gate that an input's next self-test takes, and its failures in a row: 0 gate A, 1 gate B -/
  testGate : Tab Nat := []
  deriving DecidableEq, Repr

/-- An absolute encoder's frame in progress: the instant of its start in ns, and whether this module drives its line (R297, R298,
R509). -/
structure AbsFrame where
  t0 : Nat
  frac : Nat
  own : Bool := false
  deriving DecidableEq, Repr

/-- A feedback channel behind its page. -/
structure Fbk where
  /-- accepted levels of A and B -/
  a : Bool := false
  b : Bool := false
  /-- the filtered Hall code (R296) -/
  hall : Nat := 0
  frame : Option AbsFrame := none
  /-- no SSI frame starts before this instant (R297) -/
  monoEnd : Nat := 0
  /-- no good frame yet since enabling (R313) -/
  first : Bool := true
  /-- the last counted edge: position and instant at the ball in ns, and those at the latch before (R306) -/
  pb : Int := 0
  tb : Nat := 0
  pa : Int := 0
  ta : Nat := 0
  /-- an edge has been counted since the latch before -/
  edged : Bool := false
  /-- raw and filtered speed in counts per ns -/
  vRaw : Rat := 0
  v : Rat := 0
  /-- the extreme position in the present direction (R307) -/
  ext : Int := 0
  /-- QERR since the CYC, IDX and REF latch was last taken, one bit each (R293) -/
  qerr : Nat := 0
  /-- WARN of the last good frame -/
  warn : Bool := false
  deriving DecidableEq, Repr

/-- The Feedback Interface behind its registers: its channels and the levels of the GPIO balls. -/
structure FbkAll where
  ch : Tab Fbk := []
  gpio : Nat := 0
  deriving DecidableEq, Repr

/-- A conversion in progress: its entry, the entry word and the mode with which it began, the sequence it belongs to, the
number of marked results it belongs to (0 for none), and whether it is a channel change (R321, R327, R335). -/
structure Conv where
  entry : Nat
  ent : Word
  seq : Option Nat
  mark : Nat := 0
  /-- END of the sequence as it stood when the conversion began -/
  fin : Nat := 0
  /-- the sequence has been disabled meanwhile (R335) -/
  stop : Bool := false
  deriving DecidableEq, Repr

/-- The sinc filter of an entry (R329). -/
structure Sinc where
  ints : List Int := [0, 0, 0, 0]
  combs : List Int := [0, 0, 0, 0]
  n : Nat := 0
  deriving DecidableEq, Repr

/-- A converter behind its page. -/
structure Cnv where
  cur : Option Conv := none
  /-- INPUT, DIFF and GAIN of the previous conversion (R327) -/
  prev : Option Nat := none
  /-- the next entry of each active sequence (R325) -/
  next : Tab Nat := []
  /-- results of an entry still to be marked (R327) -/
  settle : Tab Nat := []
  /-- filtered words of an entry still to be marked (R327, R330) -/
  words : Tab Nat := []
  sinc : Tab Sinc := []
  /-- entries still to convert in the present round (R328) -/
  round : List Nat := []
  /-- the next round begins as soon as this one ends -/
  again : Bool := false
  deriving DecidableEq, Repr

/-- A result that waits for its partner (R332). -/
structure PlausWait where
  isX : Bool
  value : Int
  stamp : Stamp
  deriving DecidableEq, Repr

/-- The Converter Subsystem behind its registers. -/
structure CnvAll where
  conv : Tab Cnv := []
  plaus : Tab (List PlausWait) := []
  deriving DecidableEq, Repr

/-- A cycle-start trigger behind its entry (R353 to R355): the next occurrence and the last one, in 2^-16 ns. -/
structure Trig where
  /-- armed or firing -/
  armed : Bool := false
  next : Nat := 0
  last : Nat := 0
  fired : Bool := false
  /-- disabled, with an occurrence within 20 ns that may still be delivered (R354) -/
  grace : Bool := false
  /-- occurrences that were due, and not yet delivered, at a step or at a disabling (R354, R355) -/
  owed : List Stamp := []
  deriving DecidableEq, Repr

/-- A Sync that waits for its Follow_Up (R351). -/
structure SyncRx where
  t2 : Int
  corr : Int
  deriving DecidableEq, Repr

/-- A PTP port behind its page (R351, R363); times in 2^-16 ns. -/
structure PtpPort where
  sync : Option SyncRx := none
  /-- t1 of the Pdelay exchange in progress -/
  pdT1 : Option Int := none
  /-- exchanges that have succeeded in a row, at most 3 -/
  good : Nat := 0
  /-- t3 and t4 of the exchange before -/
  prev3 : Option Int := none
  prev4 : Int := 0
  deriving DecidableEq, Repr

/-- An entry of a capture FIFO (R359). -/
structure CapEntry where
  rising : Bool
  ovf : Bool
  seq : Nat
  stamp : Stamp
  deriving DecidableEq, Repr

/-- A capture input behind its registers (R359). -/
structure CapIn where
  fifo : List CapEntry := []
  seq : Nat := 0
  lost : Bool := false
  deriving DecidableEq, Repr

/-- A step that waits for its tick (R344, R347): Δ = -(theta + nu × (t_s - tb)) of the servo, or a fixed Δ, in 2^-16 ns. -/
structure StepDue where
  theta : Int
  nu : Rat
  tb : Int
  deriving DecidableEq, Repr

/-- The Timebase counter (R338) and what the servo and the PTP engine hold outside their registers. -/
structure Tim where
  ns : Nat := 0
  frac : Nat := 0
  /-- the integral, in RATE units with 32 fractional bits (R345) -/
  integ : Int := 0
  /-- θa and its local time, in 2^-16 ns (R344) -/
  thA : Option (Int × Int) := none
  stepDue : Option StepDue := none
  /-- consecutive offsets within LOCK_THR, and beyond STEP_THR (R343) -/
  lockRun : Nat := 0
  beyond : Nat := 0
  /-- RATE at the last 16 offsets, newest first (R346) -/
  rates : List Int := []
  /-- the backup-domain clock: the network time in ns it was given, when it is valid (R340) -/
  backup : Option Nat := none
  trigs : Tab Trig := []
  ports : Tab PtpPort := []
  caps : Tab CapIn := []
  /-- one-shot pulses that are armed, one bit each (R357) -/
  plsArmed : Nat := 0
  /-- the end of the present pulse of each TPULSE, in 2^-16 ns (R357) -/
  plsEnd : Tab Nat := []
  deriving DecidableEq, Repr

/-- A partner slot descriptor behind its elements (R377, R380, R386). -/
structure NetDesc where
  /-- CYCLE and start of the present partner cycle, in ns -/
  cycle : Nat := 0
  start : Nat := 0
  /-- a partner cycle has started since cyclic exchange did -/
  begun : Bool := false
  /-- a frame has been sent in this partner cycle -/
  sent : Bool := false
  /-- a frame has been accepted in this partner cycle; its deadline has been missed -/
  got : Bool := false
  missed : Bool := false
  /-- a write with VALID = 0 that waits for the next partner cycle start -/
  dying : Option (List Word) := none
  deriving DecidableEq, Repr

/-- A cyclic frame that waits in an egress queue (R382). -/
structure EgFrame where
  port : Nat
  queue : Nat
  desc : Nat
  bytes : List Byte
  deriving DecidableEq, Repr

/-- A received cyclic frame that waits for its checks (R384): its port, its bytes without FCS, the instant of its last bit. -/
structure CycFrame where
  port : Nat
  bytes : List Byte
  stamp : Stamp
  deriving DecidableEq, Repr

/-- A port's operational gate list behind its registers (R383). -/
structure Gcl where
  idx : Nat := 0
  elapsed : Nat := 0
  len : Nat := 0
  /-- an accepted swap: the instant at which it takes effect, and the length, base and cycle that it was checked with -/
  swapAt : Nat := 0
  swapLen : Nat := 0
  swapBase : Nat := 0
  swapCycle : Nat := 0
  deriving DecidableEq, Repr

/-- The Plant Network Ports behind their registers. -/
structure Net where
  desc : Tab NetDesc := []
  egress : List EgFrame := []
  rxq : List CycFrame := []
  gcl : Tab Gcl := []
  /-- TX entries written since their descriptor last sent (R367) -/
  written : Tab Bool := []
  /-- TX entries whose check has failed since they were last written (R369) -/
  txBad : Tab Bool := []
  /-- NET_MDIO_CTL of the management frame that runs (R391) -/
  mdio : Word := 0
  deriving DecidableEq, Repr

/-- The snapshot of a send request: configuration, identifier and payload (R404). -/
structure CanReq where
  cfg : Word
  id : Word
  data : List Word
  deriving DecidableEq, Repr

/-- A send object behind its registers: its request, the next one held while a frame is on the wire, and an ABORT that
came while its frame was there (R404, R405). -/
structure CanObj where
  cur : Option CanReq := none
  next : Option CanReq := none
  aborted : Bool := false
  /-- attempts of the present request that ended in an error (R405) -/
  tries : Nat := 0
  deriving DecidableEq, Repr

/-- A CAN controller behind its registers. -/
structure CanCtl where
  /-- the object whose frame is on the wire, and its start of frame -/
  wire : Option Nat := none
  sof : Stamp := 0
  /-- the frame on the wire began while the controller was error-passive (R400) -/
  esi : Bool := false
  /-- after a planned hand-over the former lead still sends this frame: CAN_TX changes at the next bus idle (R509) -/
  turn : Bool := false
  /-- the RECOVER command has come (R407) -/
  recovering : Bool := false
  /-- the controller sleeps at the next bus idle (R408) -/
  sleepReq : Bool := false
  /-- the SLEEP command holds until WAKE or a wake event (R408) -/
  told : Bool := false
  deriving DecidableEq, Repr

/-- The Message Bus Controllers behind their registers; `caps` holds what a master's read of a result word captured
(R400). -/
structure Can where
  objs : Tab CanObj := []
  ctls : Tab CanCtl := []
  caps : Tab (List Word) := []
  deriving DecidableEq, Repr

/-- A kept sample in the intake queue (R422): its signal, the narrowed value, whether narrowing saturated, its stamp, its
rank, and the rank's exponent at intake. -/
structure AdtSample where
  sig : Nat
  v : Int
  clip : Bool
  stamp : Stamp
  rank : Nat
  d : Nat
  deriving DecidableEq, Repr

/-- An account of the present window: kept samples, and the ranks that had samples in it, one bit each (R419, R421). -/
structure AdtAcct where
  kept : Nat := 0
  ranks : Nat := 0
  deriving DecidableEq, Repr

/-- A trigger unit behind its registers: NS of its last fire since the enable, and the crossings since (R427). -/
structure AdtTrg where
  last : Option Nat := none
  crossings : Nat := 0
  deriving DecidableEq, Repr

/-- A stream block that is open, or closed and on its way to DRAM (R431): where it goes, its header fields and its entries
without padding. -/
structure StrBlock where
  addr : Nat
  seq : Nat
  baseNs : Nat
  opened : Word
  dropped : Nat := 0
  pair : Word
  entries : List (List Word) := []
  deriving DecidableEq, Repr

/-- A stream channel behind its page: the open block, the closed blocks oldest first, and the next SEQ (R430 to R434). -/
structure StrChan where
  block : Option StrBlock := none
  closed : List StrBlock := []
  nextSeq : Nat := 0
  deriving DecidableEq, Repr

/-- A bulk command waiting or in progress (R437, R586). -/
structure AdtCmd where
  p : Nat
  op : Nat
  first : Nat
  count : Nat
  arg : Nat
  deriving DecidableEq, Repr

/-- Adit behind its registers; records are words of the directory's store. -/
structure Adt where
  /-- the directory has been declared empty since reset (R439) -/
  declared : Bool := false
  queue : List AdtSample := []
  /-- the accounts TOTAL, COLD, CH0, CH1 (R419) -/
  accts : Tab AdtAcct := []
  /-- the decimation LFSR of each rank (R420) -/
  lfsr : Tab Nat := []
  /-- ranks with a queue drop in this window and in the one before -/
  dropNow : Nat := 0
  dropBefore : Nat := 0
  /-- consecutive quiet windows (R421) -/
  quiet : Nat := 0
  trgs : Tab AdtTrg := []
  chans : Tab StrChan := []
  cmds : List AdtCmd := []
  deriving DecidableEq, Repr

/-- A Tally image in the image store (R452, R453): header, the record words at the freeze, and trailer. -/
structure TlyImage where
  header : List Word := []
  records : Tab Word := []
  trailer : List Word := []
  deriving DecidableEq, Repr

/-- A flush in progress (R451, R452): its slot and FLUSH_SEQ, and the records at the freeze. -/
structure TlyFlush where
  slot : Nat
  seq : Nat
  records : Tab Word
  deriving DecidableEq, Repr

/-- A Tally command waiting or in progress (R450, R586). -/
structure TlyCmd where
  p : Nat
  op : Nat
  first : Nat
  count : Nat
  deriving DecidableEq, Repr

/-- Tally behind its registers; live records are words of its store. -/
structure Tly where
  queue : List TallyEvent := []
  /-- tokens in each code's bucket (R446) -/
  tokens : Tab Nat := []
  /-- a queue drop has been raised in this 1 µs window (R444) -/
  lossSeen : Bool := false
  flush : Option TlyFlush := none
  /-- intake stays frozen after a flush with POWER_FAIL or LOW_POWER (R452) -/
  frozen : Bool := false
  /-- FLUSH_SEQ used last; kept through reset (R453) -/
  seq : Nat := 0
  /-- the images in slots A and B of the image store -/
  images : Tab TlyImage := []
  cmds : List TlyCmd := []
  deriving DecidableEq, Repr

/-- A change of one line of an input that waits for the other (R463): its direction, its line, and the ticks since. -/
structure SafePend where
  active : Bool
  lineA : Bool
  ticks : Nat
  deriving DecidableEq, Repr

/-- One safety channel (R461, R463, R469): accepted levels, samples in a row that differ from them (inputs A 0 to 31, inputs
B 32 to 63, EDM A 64 to 79, EDM B 80 to 95), pending changes, inputs whose return was accepted, and counts of past ticks. -/
structure SafeChan where
  accA : Nat := 0
  accB : Nat := 0
  edmA : Nat := 0
  edmB : Nat := 0
  runs : Tab Nat := []
  pend : Tab (Option SafePend) := []
  returned : Nat := 0
  hist : Tab (List Int) := []
  deriving DecidableEq, Repr

/-- The state of a safety input (R462 to R465). -/
inductive SafeIn where
  | demand
  | run
  | fault
  deriving DecidableEq, Repr

/-- A group behind its status word (R469 to R473). -/
structure SafeGrp where
  /-- |v| of channels A and B on entry to SS1, and the ticks since -/
  v0a : Nat := 0
  v0b : Nat := 0
  ss1Ticks : Nat := 0
  /-- consecutive ticks with a speed difference beyond SPD_TOL -/
  apart : Nat := 0
  /-- ticks since the lines were last energised or de-energised; the contactor has followed -/
  since : Nat := 0
  followed : Bool := false
  /-- consecutive ticks in which the EDM lines disagree -/
  disagree : Nat := 0
  /-- the readback differs -/
  readback : Bool := false
  deriving DecidableEq, Repr

/-- The Safety Unit behind its page. Parameter sets are lists of 205 words; an empty list is no set. -/
structure Saf where
  a : SafeChan := {}
  b : SafeChan := {}
  inputs : Tab SafeIn := []
  /-- ticks for which both lines of a reset input have been active (R465) -/
  press : Tab Nat := []
  grps : Tab SafeGrp := []
  active : List Word := []
  /-- the set in the image store; kept through reset -/
  stored : List Word := []
  /-- the set that VERIFY checked last, its code, and the CHECK values of both channels agree -/
  verified : List Word := []
  verdict : Option Nat := none
  deriving DecidableEq, Repr

/-- A lane's receive side (R497): the SEQ delivered next, and the blocks held behind a refused one. -/
structure LaneRx where
  expect : Nat := 0
  held : List (Nat × PairMsg) := []
  deriving DecidableEq, Repr

/-- The Pair Unit behind its page. -/
structure Pai where
  /-- the hold latch: PAIR_HOLD_OUT (R495) -/
  latch : Bool := false
  /-- PAIR_ROLE_OUT -/
  claim : Bool := false
  /-- network time of the last refresh of the latch, in ns -/
  refreshed : Nat := 0
  /-- the twin's HELLO that passed the checks -/
  hello : Option Hello := none
  peerRole : Nat := 0
  /-- the bulk copy is complete; control cycles in a row without a mismatch (R503) -/
  bulk : Bool := false
  agreed : Nat := 0
  /-- failed the extended self-test: stays in SYNCING until module reset (R505) -/
  failed : Bool := false
  /-- the slots (true) and descriptors of the mismatches under test -/
  mism : List (Bool × Nat) := []
  /-- network time at which the hold-down began (R510) -/
  hdStart : Option Nat := none
  /-- B proposed and not yet accepted; the lead role was taken at a planned instant (R509) -/
  proposal : Option Nat := none
  planned : Bool := false
  /-- the link is lost, and its 20 µs run (R494) -/
  grace : Bool := false
  lanes : Tab LaneRx := []
  deriving DecidableEq, Repr

/-- A partner entry of an image (R525). -/
structure Partner where
  kind : Nat
  epoch : Nat
  lo : Nat
  hi : Nat
  deriving DecidableEq, Repr

/-- An image by the fields of its header (R524); `formOk` is check 1 of R528. -/
structure Image where
  formOk : Bool
  kind : Nat
  keySlot : Nat
  ver : Nat
  secVer : Nat
  epoch : Nat
  part : Nat
  expSafety : Nat
  bodyLen : Nat
  digest : Nat
  partners : List Partner
  /-- the body, which a recipe image's sections make up (R521) -/
  body : List Byte := []
  deriving DecidableEq, Repr

/-- The boot record of one KIND, with the backup domain's own count of tries (R523). -/
structure BootRec where
  active : Nat := 0
  pending : Option Nat := none
  tries : Nat := 0
  backup : Nat := 0
  deriving DecidableEq, Repr

/-- A COR command in progress (R541): its OP, the code and VERIFY_WHY it will report, and what it will do. -/
structure CorCmd where
  op : Nat
  code : Nat
  why : Nat := 0
  /-- WRITE_SLOT: the slot 0 to 3 and its image -/
  write : Option (Nat × Image) := none
  /-- KEY_ORDER: operation, slot and hash -/
  order : Option (Nat × Nat × Nat) := none
  deriving DecidableEq, Repr

/-- The Image Authority behind its registers. Slots 0 to 3 are base A, base B, recipe A, recipe B. -/
structure Cor where
  slots : Tab (Option Image) := []
  /-- boot records of base (0) and recipe images (1) -/
  recs : Tab BootRec := []
  /-- fused hashes of the key slots, their states as in COR_KEY_STAT, and the counters as in COR_SEC_CNT -/
  hashes : Tab Nat := []
  keyStat : Nat := 1
  secCnt : Nat := 0
  /-- resets since manufacture, from the backup domain -/
  boots : Nat := 0
  /-- the images that run -/
  base : Option Image := none
  recipe : Option Image := none
  cmd : Option CorCmd := none
  /-- cores halted or held in reset (R536, R540), one bit each -/
  halted : Nat := 0xFF
  /-- attestation requests, oldest first -/
  att : List Nat := []
  deriving DecidableEq, Repr

/-- A last-state summary in the image store (R555): its words 0x000 to 0x077, and SUM_SEQ. -/
structure Summary where
  words : List Word
  seq : Nat
  deriving DecidableEq, Repr

/-- The power manager behind its page. -/
structure Pwr where
  /-- the supplies that are good, bits as in PWR_STAT [5:0] (R542); reset is released with VIN, VAON and both VIO banks
  good (R551) -/
  supplies : Nat := 0x3C
  /-- the state that a transition goes to (R548), and whether PWR_REQ asked for it -/
  target : Option Nat := none
  asked : Bool := false
  /-- a wake event that waits (R545, R548) -/
  wake : Option Nat := none
  /-- the reset that is held, with its cause (R550, R551) -/
  held : Option Nat := none
  /-- a thermal reset is held until T_J < 100 °C (R558) -/
  hot : Bool := false
  /-- a reset of cause TEST waits for the end of the flush (R583) -/
  testReset : Bool := false
  /-- T_J has been at or above 115 °C since this instant (R558) -/
  critSince : Option Nat := none
  /-- the module has been in SUMP or below since it last stood in TRICKLE -/
  deep : Bool := false
  /-- CISTERN or below has lost the state since the last reset (R257, R544) -/
  lost : Bool := false
  /-- CAPPED or DRY was entered from a power-fail flush (R554) -/
  afterFlush : Bool := false
  /-- last-state summaries of the two halves and the last SUM_SEQ (R555) -/
  sums : Tab (Option Summary) := []
  sumSeq : Nat := 0
  /-- the tamper latch (R552), and a wake from DRY without a supply (R549) -/
  tamper : Bool := false
  noSupply : Bool := false
  /-- the backup domain has lost its contents (R543, R550) -/
  empty : Bool := false
  /-- the resume island, by byte (R546) -/
  island : Tab Byte := []
  deriving DecidableEq, Repr

/-- The test access port (R577, R578, R584): the instruction held, whether it acts, and the outcome of the last register
access. -/
structure Tap where
  ir : Nat := 2
  acts : Bool := true
  done : Bool := false
  offset : Nat := 0
  cause : Nat := 0
  data : Word := 0
  /-- the update latches of the boundary cells, from TDI to TDO, by which the chain drives (R580; log 20, DESIGN CHOICE) -/
  cells : List Bool := List.replicate 1400 false
  /-- what the cells captured last (R580) -/
  captured : List Bool := List.replicate 1400 false
  deriving DecidableEq, Repr

/-- What the module sends outside (the model's own record). -/
inductive Out where
  /-- an MSI-X message of a host partition (R78) -/
  | msix (p addrLo addrHi : Nat) (data : Word)
  /-- an endpoint begins link training (R93) -/
  | linkTraining (e : Nat)
  /-- a pulse of STP_PULSE of step channel `n` to a level, its start in 2 ns of the Timebase and its width in 2 ns (R250, R251) -/
  | stepPulse (n : Nat) (high : Bool) (at' width : Nat)
  /-- STP_DIR of step channel `n` goes to a level, at an instant in 2 ns (R250, R251) -/
  | stepDir (n : Nat) (high : Bool) (at' : Nat)
  /-- the SSI clock of a frame: the first falling edge in 2^-16 ns, half a period in ns, and its pulses (R297) -/
  | ssiClock (ch t0 half bits : Nat)
  /-- an RS-485 position request (R298) -/
  | rs485 (ch : Nat) (bytes : List Byte)
  /-- a one-step Sync of a port: seconds and nanoseconds of originTimestamp, what correctionField grows by in 2^-16 ns, and RATE for the
  Follow_Up information TLV (R350) -/
  | ptpSync (port : Nat) (sec nanos corr rate : Int)
  /-- a Pdelay_Req of a port (R351) -/
  | pdelayReq (port : Nat)
  /-- a one-step Pdelay_Resp of a port: what it adds to correctionField, in 2^-16 ns (R350) -/
  | pdelayResp (port : Nat) (corr : Int)
  /-- a pulse of TPULSE[n] to a level: its start in 2^-16 ns and its width in ns (R357) -/
  | pulse (n : Nat) (high : Bool) (at' width : Nat)
  /-- a frame leaves a port, without its FCS (R371, R388) -/
  | frame (port : Nat) (bytes : List Byte)
  /-- an MDIO frame starts: NET_MDIO_CTL and the data sent (R391) -/
  | mdio (ctl : Word) (data : Nat)
  /-- a CAN frame starts (R405) -/
  | can (ch : Nat) (frame : CanFrame)
  /-- a low test pulse of SAFE_TP[p], in ticks (R466) -/
  | safePulse (p ticks : Nat)
  /-- a dark pulse of the STO line of group g by channel ch, in µs (R471) -/
  | stoPulse (g ch width : Nat)
  /-- a Pair Link block (R498) -/
  | pair (msg : PairMsg)
  /-- a HELLO block (R491) -/
  | hello
  /-- the HSS transmitters send a pulse, or a train of them, of the polarity of their cells (R582) -/
  | hssTest (train : Bool) (cells : List Bool)
  /-- a block is refused with NAK (R497) -/
  | nak (lane seq : Nat)
  deriving DecidableEq, Repr

/-- Everything of the module but DRAM and the queue of waiting commands. -/
structure Chip where
  /-- the part (R2, R3); fixed per module (log 3, DESIGN CHOICE) -/
  part : Part := .fvk8640
  /-- DIP_FLOOR.LANE_FLOOR, fused (R29; log 4, DESIGN CHOICE) -/
  laneFloor : Nat := 900
  /-- every register of the window under its address, every partition's own copies and every element of a store: a
  word that is not listed reads as its reset value -/
  words : Tab Word := []
  /-- the sixteen FRESH bits of each result word, under its address (R19) -/
  fresh : Tab (BitVec 16) := []
  /-- the TS96 of each result word and of each produced value, under its address (R163) -/
  stamps : Tab Stamp := []
  /-- captured upper words of wide values, under master and address (R11) -/
  caps : Tab (List Word) := []
  /-- key sequences, under page and master (R73) -/
  keys : Tab KeySt := []
  /-- notices of asserted lines that the router has not accepted yet (R74, R79) -/
  notices : List LineNotice := []
  /-- indirect-window operations in progress, under page and partition (R64) -/
  iwin : Tab IwinOp := []
  /-- completions on their way to Hoist -/
  posts : List Post := []
  /-- samples on their way to Adit -/
  samples : List Sample := []
  /-- events on their way to Tally -/
  tallyIn : List TallyEvent := []
  hst : Hst := {}
  bells : Tab Bell := []
  rings : Tab Bucket := []
  hoi : Hoi := {}
  /-- elements of stores in DRAM that are marked poisoned, under the key of their word 0 (R47) -/
  elemPoison : Tab Bool := []
  loop : Loop := {}
  prf : Prf := {}
  pwm : Pwm := {}
  fbk : FbkAll := {}
  cnv : CnvAll := {}
  net : Net := {}
  can : Can := {}
  adt : Adt := {}
  tly : Tly := {}
  saf : Saf := {}
  pai : Pai := {}
  cor : Cor := {}
  pwr : Pwr := {}
  tap : Tap := {}
  /-- trigger lines raised that the converters have not taken yet: n for Timebase trigger n, 256 + l for PWM line l
  (R274, R324) -/
  strobes : List (Nat × Stamp) := []
  /-- outputs of lane tasks that have been released and are on their way to their destinations (R131, R174) -/
  outQ : List HeldOut := []
  /-- writes on their way to DRAM -/
  dramQ : List DramWrite := []
  dip : Dip := {}
  tim : Tim := {}
  /-- the master number that errors of the access in progress are logged under, where it is not its own (R12; the model's own
  record, log 73, DEDUCED) -/
  logAs : Option Nat := none
  /-- errors logged so far (the model's own record, by which a block sees that its write was refused: R179; log 32, DEDUCED) -/
  logged : Nat := 0
  /-- the answer to the last access (the model's own record) -/
  resp : Resp := {}
  /-- what the module has sent outside, oldest first (the model's own record) -/
  outs : List Out := []
  /-- how many free values have been drawn (the model's own counter, log 8, DESIGN CHOICE) -/
  freeCount : Nat := 0
  deriving DecidableEq, Repr

/-- The machine: the module, DRAM with its poisoned blocks (R47), and the commands waiting, first in first out. -/
structure State where
  chip : Chip := {}
  /-- DRAM bytes; an unlisted byte reads 0 (log 5, DESIGN CHOICE) -/
  dram : List Host.Cell := []
  /-- the 64-byte blocks marked poisoned, by block number (R47) -/
  dramPoison : Tab Bool := []
  pending : List Instr := []
  deriving DecidableEq, Repr

/-- Why a command stops the machine. No command of this model does: every row of the table has an effect. -/
inductive Fault where
  /-- raised by no meaning; safe -/
  | halted
  deriving DecidableEq, Repr

/-- Why a command has no meaning. -/
inductive Refusal where
  /-- raised by an arm of exec whose command has no meaning yet; safe -/
  | notModelled (mnemonic : String)
  deriving DecidableEq, Repr

/-- The machine right after module reset: every register at its reset value, every queue empty. The counter has been loaded
with 0, as the backup-domain clock reports no valid time; the load counts as a step (R340): EPOCH is 1, STEPPED is set,
TIM_STEP_CNT, the step log and the cause STEP show it. Log 2, DESIGN CHOICE. Log 3, DESIGN CHOICE. Log 4, DESIGN CHOICE.
Log 35, PRESUMED. Log 54, PRESUMED. -/
def State.reset : State :=
  { chip := { words := [(pageAddr TIM 0 0x010, 1), (pageAddr TIM 0 0x034, 1), (pageAddr TIM 0 0x134, 0x1_0004),
                        (pageAddr TIM 0 0x200, 1), (pageAddr TIM 0 0x214, 0x104)] } }

end Sys2Proof.Machine
end

