-- ==== Sys2Proof/Machine/Ops.lean ====
section
/-! DEFINITION. The named operations every block shares: words and their fields, event causes, result words,
counters, stamps, and the completions, samples and events a block hands on. -/

namespace Sys2Proof.Machine

/-! ### Words -/

/-- The word under key `k`. -/
def Chip.word (c : Chip) (k : Nat) : Word := tabGet wordReset c.words k

/-- The chip with the word under key `k` set. -/
def Chip.setWord (c : Chip) (k : Nat) (w : Word) : Chip := { c with words := tabSet wordReset c.words k w }

/-- The word under key `k` as a number. -/
def Chip.nat (c : Chip) (k : Nat) : Nat := (c.word k).toNat

/-- A field of the word under key `k`. -/
def Chip.fld (c : Chip) (k lo n : Nat) : Nat := getBits (c.word k) lo n

/-- The chip with a field of the word under key `k` set. -/
def Chip.setFld (c : Chip) (k lo n v : Nat) : Chip := c.setWord k (putBits (c.word k) lo n v)

/-- A bit of the word under key `k`. -/
def Chip.bit (c : Chip) (k i : Nat) : Bool := (c.word k).getLsbD i

/-- The chip with a bit of the word under key `k` set. -/
def Chip.setBit (c : Chip) (k i : Nat) (b : Bool) : Chip := c.setFld k i 1 (b2n b)

/-- The chip with the word under key `k` set from a number. -/
def Chip.setNat (c : Chip) (k v : Nat) : Chip := c.setWord k (BitVec.ofNat 32 v)

/-- The `n` words from key `k` on as one number, the lowest first (R4). -/
def Chip.wide (c : Chip) (k : Nat) : Nat → Nat
  | 0 => 0
  | n + 1 => (c.word k).toNat + 2 ^ 32 * c.wide (k + 4) n

/-- The chip with the `n` words from key `k` on set from one number. -/
def Chip.setWide (c : Chip) (k n v : Nat) : Chip :=
  match n with
  | 0 => c
  | n + 1 => (c.setWord k (BitVec.ofNat 32 v)).setWide (k + 4) n (v / 2 ^ 32)

/-- The 64-bit value under key `k`. -/
def Chip.u64 (c : Chip) (k : Nat) : Nat := c.wide k 2

/-- The 64-bit value under key `k` as a two's-complement number. -/
def Chip.s64 (c : Chip) (k : Nat) : Int := signed 64 (c.wide k 2)

/-- The chip with the 64-bit value under key `k` set. -/
def Chip.setU64 (c : Chip) (k v : Nat) : Chip := c.setWide k 2 v

/-- The chip with the 64-bit value under key `k` set from an integer. -/
def Chip.setS64 (c : Chip) (k : Nat) (v : Int) : Chip := c.setWide k 2 (unsigned 64 v)

/-- Every word whose key lies in `lo` to `hi - 1` returns to its reset value. -/
def Chip.clearWords (c : Chip) (lo hi : Nat) : Chip := { c with words := tabClear c.words lo hi }

/-! ### Free values (log 8, DESIGN CHOICE) -/

/-- A free 32-bit value. Log 8, DESIGN CHOICE. -/
def Chip.freeWord (c : Chip) : Word × Chip := (Config.freeWord c.freeCount, { c with freeCount := c.freeCount + 1 })
/-- A free natural number. Log 8, DESIGN CHOICE. -/
def Chip.freeNat (c : Chip) : Nat × Chip := (Config.freeNat c.freeCount, { c with freeCount := c.freeCount + 1 })
/-- A free yes-or-no. Log 8, DESIGN CHOICE. -/
def Chip.freeBool (c : Chip) : Bool × Chip := (Config.freeBool c.freeCount, { c with freeCount := c.freeCount + 1 })
/-- A free integer. Log 8, DESIGN CHOICE. -/
def Chip.freeInt (c : Chip) : Int × Chip := (Config.freeInt c.freeCount, { c with freeCount := c.freeCount + 1 })

/-! ### Stamps (R14, R15, R342) -/

/-- The TIM status word: EPOCH and FLAGS of every stamp (R342, R362). -/
def aTimStat : Nat := pageAddr TIM 0 0x134

/-- A stamp from its fields (R14). -/
def mkStamp (ns frac epoch flags : Nat) : Stamp :=
  BitVec.ofNat 96 (ns % 2 ^ 64 * 2 ^ 32 + frac % 2 ^ 16 * 2 ^ 16 + epoch % 2 ^ 8 * 2 ^ 8 + flags % 16)

/-- NS of a stamp (R14). -/
def Stamp.ns (s : Stamp) : Nat := s.toNat / 2 ^ 32
/-- FRAC of a stamp (R14). -/
def Stamp.frac (s : Stamp) : Nat := s.toNat / 2 ^ 16 % 2 ^ 16
/-- EPOCH of a stamp (R14). -/
def Stamp.epoch (s : Stamp) : Nat := s.toNat / 2 ^ 8 % 2 ^ 8
/-- The flags of a stamp (R14). -/
def Stamp.flags (s : Stamp) : Nat := s.toNat % 16

/-- The instant of a stamp in 2^-16 ns (R14). -/
def Stamp.fine (s : Stamp) : Nat := s.ns * 2 ^ 16 + s.frac

/-- The present TS96: the counter truncated to 16 fractional bits, with EPOCH and flags (R14, R15, R342). -/
def Chip.now (c : Chip) : Stamp :=
  mkStamp c.tim.ns (c.tim.frac / 2 ^ 16) (c.fld aTimStat 16 8) (c.fld aTimStat 0 4)

/-- The present network time in ns. -/
def Chip.nowNs (c : Chip) : Nat := c.tim.ns

/-- The stamp of a given instant of the present epoch. -/
def Chip.stampAt (c : Chip) (ns frac : Nat) : Stamp := mkStamp ns frac (c.fld aTimStat 16 8) (c.fld aTimStat 0 4)

/-- A stamp stored in three words under key `k` (R15). -/
def Chip.setStamp (c : Chip) (k : Nat) (s : Stamp) : Chip := c.setWide k 3 s.toNat

/-- The stamp stored in three words under key `k` (R15). -/
def Chip.stampOf (c : Chip) (k : Nat) : Stamp := BitVec.ofNat 96 (c.wide k 3)

/-! ### Event causes (R74) -/

/-- Is the line of the page whose header stands at `k` asserted (R74)? -/
def Chip.lineUp (c : Chip) (k : Nat) : Bool := !((c.word (k + PG_EVT_PEND) &&& c.word (k + PG_EVT_EN)) == 0)

/-- A notice to the router from the page view whose header stands at `k`, where it raises a line (R74, R79, R442).
Log 31, DESIGN CHOICE. -/
def Chip.notify (c : Chip) (k : Nat) (line : Option Nat) : Chip :=
  match line with
  | some l =>
    { c with notices := c.notices ++
        [{ line := l, value := (c.word (k + PG_EVT_PEND) &&& c.word (k + PG_EVT_EN)).toNat }] }
  | none => c

/-- PEND is set for cause `i` when it is enabled; a line that rises signals the router (R74). -/
def Chip.pend (c : Chip) (k i : Nat) (line : Option Nat) : Chip :=
  if c.bit (k + PG_EVT_EN) i then
    let up := c.lineUp k
    let c := c.setBit (k + PG_EVT_PEND) i true
    if up then c else c.notify k line
  else c

/-- R74: the edge cause `i` occurs in the header view at `k`. -/
def Chip.causeAt (c : Chip) (k i : Nat) (line : Option Nat) : Chip :=
  (c.setBit (k + PG_EVT_RAW) i true).pend k i line

/-- R74: the edge cause `i` of a page occurs. -/
def Chip.cause (c : Chip) (b inst i : Nat) : Chip := c.causeAt (pageAddr b inst 0) i (lineOf b inst 0)

/-- R74, R104: the edge cause `i` of side `s`'s view of Bell channel `ch` occurs. -/
def Chip.bellCause (c : Chip) (ch s i : Nat) : Chip :=
  c.causeAt (viewKey s (pageAddr MBX (1 + ch) 0)) i (lineOf MBX (1 + ch) s)

/-- R74: the level cause `i` of a page takes level `v`; PEND is set on the rising edge. -/
def Chip.level (c : Chip) (b inst i : Nat) (v : Bool) : Chip :=
  let k := pageAddr b inst 0
  let was := c.bit (k + PG_EVT_RAW) i
  let c := c.setBit (k + PG_EVT_RAW) i v
  if v && !was then c.pend k i (lineOf b inst 0) else c

/-! ### Counters -/

/-- A counter that saturates at 0xFFFF_FFFF (R9, R67). -/
def Chip.count (c : Chip) (k : Nat) (n : Nat := 1) : Chip := c.setNat k (satAdd 32 (c.nat k) n)

/-- A field that counts and saturates. -/
def Chip.countFld (c : Chip) (k lo n : Nat) (d : Nat := 1) : Chip := c.setFld k lo n (satAdd n (c.fld k lo n) d)

/-- A field that counts and wraps. -/
def Chip.wrapFld (c : Chip) (k lo n : Nat) (d : Nat := 1) : Chip := c.setFld k lo n (c.fld k lo n + d)

/-- R24: a block that crosses its fabric hops with `n` re-sends asked for: three are made at most, and a block that fails again is
delivered poisoned. Log 73, DEDUCED. -/
def Chip.hopSends (c : Chip) (n : Nat) : Chip :=
  let c := if n = 0 then c else (c.count (pageAddr DIP 0 0x118) (min n 3)).cause DIP 0 4
  if 3 < n then (c.count (pageAddr DIP 0 0x11C)).cause DIP 0 5 else c

/-- The block is delivered poisoned (R24). -/
def hopFails (n : Nat) : Bool := decide (3 < n)

/-! ### Re-reads and storage faults in DRAM (R47, R48) -/

/-- A register of the MEM page. Log 72, DESIGN CHOICE. -/
def memA (o : Nat) : Nat := pageAddr MEM 0 o

/-- R47: a check mismatch of the block at `a` that persisted: counters, MEM_POISON_ADDR and the cause. Log 65, DEDUCED. -/
def Chip.memPoison (c : Chip) (a : Nat) : Chip :=
  ((c.count (memA 0x038)).setU64 (memA 0x108) (2 ^ 63 + a / 64 * 64 % 2 ^ 34)).cause MEM 0 0

/-- Re-reads after a check mismatch (R47, R48). Log 65, DEDUCED. -/
def Chip.memRereads (c : Chip) (n : Nat) : Chip := if n = 0 then c else c.count (memA 0x034) n

/-- The element at `k` of a store in DRAM is read with `rr` re-reads (R47): more than three poison it. `a` is its DRAM address, which is
free where the spec gives none. Log 42, DEDUCED. Log 73, DEDUCED. -/
def Chip.elemRead (c : Chip) (k rr : Nat) (a : Option Nat) : Chip :=
  let c := c.memRereads (min rr 3)
  if rr ≤ 3 then c
  else
    let (n, c) := match a with
      | some a => (a, c)
      | none => c.freeNat
    { c.memPoison n with elemPoison := tabPut false c.elemPoison k true }

/-! ### Result words (R16, R19, R21) -/

/-- GEN of the result word at `a`. -/
def Chip.gen (c : Chip) (a : Nat) : Nat := c.fld a 24 8

/-- DATA of the result word at `a`. -/
def Chip.resData (c : Chip) (a : Nat) : Word := c.word (a + 4)

/-- R16, R19, R21: a new result. GEN advances, every FRESH bit is set; `settle` is the number of marked results that
still follow when this one is marked; `s` is the stamp it carries. -/
def Chip.newResult (c : Chip) (a : Nat) (data : Word) (info : Nat) (s : Stamp) (settling : Bool := false)
    (settle : Nat := 0) : Chip :=
  let low := (c.gen a + 1) % 256 * 2 ^ 24 + b2n settling * 2 ^ 22 + settle % 16 * 2 ^ 16 + info % 2 ^ 16
  let c := (c.setNat a low).setWord (a + 4) data
  { c with fresh := tabPut 0 c.fresh a 0xFFFF#16, stamps := tabPut 0 c.stamps a s }

/-- The lower word of the result word at `a` as master `m` reads it: with its partition's FRESH (R16, R19). -/
def Chip.resultLow (c : Chip) (m a : Nat) : Word :=
  let f := decide (m < 16) && (tab 0 c.fresh a).getLsbD m
  putBits (c.word a) 23 1 (b2n f)

/-- R19: an alias read by master `m` clears its partition's FRESH. -/
def Chip.consume (c : Chip) (m a : Nat) : Chip :=
  if m < 16 then
    { c with fresh := tabPut 0 c.fresh a (tab 0 c.fresh a &&& ~~~(BitVec.ofNat 16 (1 <<< m))) }
  else c

/-! ### What a block hands on -/

/-- A completion posts a successor list (R121): it is on its way to Hoist (log 7, DESIGN CHOICE). Log 31, DESIGN CHOICE. -/
def Chip.post (c : Chip) (head : Nat) (s : Stamp) : Chip := { c with posts := c.posts ++ [{ head := head, stamp := s }] }

/-- A post that an enable bit governs. -/
def Chip.postIf (c : Chip) (en : Bool) (head : Nat) (s : Stamp) : Chip := if en then c.post head s else c

/-- A sample issued to Adit (R412): it is on its way to intake. -/
def Chip.sample (c : Chip) (sig : Nat) (v : Int) (s : Stamp) : Chip :=
  { c with samples := c.samples ++ [{ sig := sig, value := v, stamp := s }] }

/-- An event posted to Tally (R443, R444): it is on its way to intake. -/
def Chip.tally (c : Chip) (code value : Nat) : Chip :=
  { c with tallyIn := c.tallyIn ++ [{ code := code, value := value, stamp := c.now }] }

/-- Something sent outside. Log 31, DESIGN CHOICE. Log 71, DESIGN CHOICE. -/
def Chip.out (c : Chip) (o : Out) : Chip := { c with outs := c.outs ++ [o] }

/-- The answer to an access. Log 31, DESIGN CHOICE. -/
def Chip.answer (c : Chip) (st : RespStatus) (d : List Word := []) : Chip := { c with resp := { status := st, data := d } }

/-! ### Power state (R544, R546) and lists of effects -/

/-- PWR_STAT (R559). -/
def aPwrStat : Nat := pageAddr PWR 0 0x108

/-- MOD_STATE: 0 FLOW to 7 DRY (R544). -/
def Chip.modState (c : Chip) : Nat := c.fld aPwrStat 29 3

/-- The flush of a power failure runs (R554, R559). -/
def Chip.flushing (c : Chip) : Bool := c.bit aPwrStat 27

/-- The module is in FLOW or TRICKLE, and no power-fail flush runs (R554). -/
def Chip.running (c : Chip) : Bool := c.modState ≤ 1 && !c.flushing

/-- I/O bank A (bank 0) or B (bank 1) has a good supply (R543). -/
def Chip.bankGood (c : Chip) (b : Nat) : Bool := natBit c.pwr.supplies (3 - b)

/-- PAI_STAT (R515). -/
def aPaiStat : Nat := pageAddr PAI 0 0x108

/-- ROLE of the Pair Unit (R493). -/
def Chip.role (c : Chip) : Nat := c.fld aPaiStat 28 4

/-- Is the Pair Link up? (R515) -/
def Chip.linkUp (c : Chip) : Bool := c.bit aPaiStat 27

/-- The module is a member of a formed pair (R493). -/
def Chip.paired (c : Chip) : Bool := 3 ≤ c.role && c.role ≤ 6

/-- The module holds pin ownership and drives its local pins (R493, R495): always in OFF, with its hold latch in ALONE and
LEAD. Log 71, DESIGN CHOICE. -/
def Chip.drives (c : Chip) : Bool := c.role = 0 || ((c.role = 1 || c.role = 3) && c.pai.latch)

/-- The module is the standby of a formed pair (R493). -/
def Chip.standby (c : Chip) : Bool := 4 ≤ c.role && c.role ≤ 6

/-- Does a mirror region hold address `a` (R502, R518)? -/
def Chip.mirrored (c : Chip) (a : Nat) : Bool :=
  (List.range 64).any fun n =>
    let k := twAddr PAI (16 * n)
    let b := c.u64 (k + 8)
    c.bit k 31 && b ≤ a && a < b + 64 * c.fld (k + 4) 0 28

/-- R502: the lead of a pair whose link is up sends a write to a mirror region to its twin. Log 66, DEDUCED. -/
def Chip.mirrorOut (c : Chip) (a : Nat) (data : List Byte) : Chip :=
  if c.role = 3 && c.linkUp && c.mirrored a then c.out (.pair (.mirror a data 0)) else c

/-- A write of bytes on its way to this module's DRAM alone: directory records and stream blocks are not mirrored (R440).
Log 31, DESIGN CHOICE. -/
def Chip.dramPut (c : Chip) (a : Nat) (data : List Byte) : Chip := { c with dramQ := c.dramQ ++ [{ addr := a, data := data }] }

/-- Writes of bytes on their way to DRAM, in order. Log 31, DESIGN CHOICE. -/
def Chip.toDram (c : Chip) (l : List (Nat × List Byte)) : Chip :=
  l.foldl (fun c e => (c.mirrorOut e.1 e.2).dramPut e.1 e.2) c

/-- SAF_STAT (R481, R482). -/
def aSafStat : Nat := pageAddr SAF 0 0x100

/-- The Safety Unit reports STO for group `g`: its STO lines are de-energised (R471, R482). -/
def Chip.stoGroup (c : Chip) (g : Nat) : Bool := !c.bit aSafStat g

/-- The axes that the axis map of group `g` names (R486). -/
def Chip.groupAxes (c : Chip) (g : Nat) : List Nat :=
  (List.range 8).filterMap fun j =>
    let k := twAddr SAF (0x800 + 16 * g + 4 * (j / 2))
    if c.bit k (16 * (j % 2) + 15) then some (c.fld k (16 * (j % 2)) 11) else none

/-- The Safety Unit reports STO for axis `a`. -/
def Chip.stoAxis (c : Chip) (a : Nat) : Bool := (List.range 16).any fun g => c.stoGroup g && (c.groupAxes g).contains a

/-- COR_STATE (R541). -/
def aCorState : Nat := pageAddr COR 0 0x100

/-- The module is in MAINTENANCE (R535, R541). -/
def Chip.maintenance (c : Chip) : Bool := c.fld aCorState 28 4 = 2

/-- The part number, as in PG_CAPS of HST instance 0 (R67, R491). -/
def Chip.partNo (c : Chip) : Nat := match c.part with
  | .fvk8640 => 0x8640
  | .fvk8620 => 0x8620

/-- Installed DRAM in bytes: 16 GiB on FVK-8640, 8 GiB on FVK-8620 (R48). -/
def Chip.dramBytes (c : Chip) : Nat := match c.part with
  | .fvk8640 => 16 * 2 ^ 30
  | .fvk8620 => 8 * 2 ^ 30

/-- Every element of a store returns to its reset value (R439). -/
def Chip.clearStore (c : Chip) (st : Nat) : Chip :=
  { c.clearWords (elemKey st 0 0) (elemKey (st + 1) 0 0) with
    elemPoison := tabClear c.elemPoison (elemKey st 0 0) (elemKey (st + 1) 0 0) }

/-- An effect for every item of a list, in order. -/
def Chip.each {α : Type} (c : Chip) (l : List α) (f : Chip → α → Chip) : Chip := l.foldl f c

/-- An effect under a condition. -/
def Chip.when (c : Chip) (b : Bool) (f : Chip → Chip) : Chip := if b then f c else c

/-! ### DRAM -/

/-- One byte of DRAM; an unlisted byte reads 0 (log 5, DESIGN CHOICE). -/
def dramByte (m : List Host.Cell) (a : Nat) : Byte := tab 0 m a

/-- Bytes stored from address `a` on. -/
def dramStore (m : List Host.Cell) (a : Nat) : List Byte → List Host.Cell
  | [] => m
  | b :: r => dramStore (tabPut 0 m a b) (a + 1) r

/-- The `n` bytes from address `a` on. -/
def dramLoad (m : List Host.Cell) (a : Nat) : Nat → List Byte
  | 0 => []
  | n + 1 => dramByte m a :: dramLoad m (a + 1) n

/-- The canonical form of DRAM: addresses strictly rising, no byte listed that an unlisted address reads as.
Log 5, DESIGN CHOICE. -/
def Memory.wf (m : List Host.Cell) : Bool := tabWf (fun _ => (0 : Byte)) m

/-- The blocks that `n` bytes at `a` touch. -/
def blocksOf (a n : Nat) : List Nat := if n = 0 then [] else (List.range ((a + n - 1) / 64 - a / 64 + 1)).map (a / 64 + ·)

/-- R47, R88: a write that covers a block whole ends its poison. -/
def unpoison (t : Tab Bool) (a n : Nat) : Tab Bool :=
  ((blocksOf a n).filter fun b => a ≤ 64 * b && 64 * b + 64 ≤ a + n).foldl (fun t b => tabPut false t b false) t

/-- The writes on their way reach DRAM, oldest first. -/
def State.flushDram (s : State) : State :=
  { s with dram := s.chip.dramQ.foldl (fun m w => dramStore m w.addr w.data) s.dram,
           dramPoison := s.chip.dramQ.foldl (fun t w => unpoison t w.addr w.data.length) s.dramPoison,
           chip := { s.chip with dramQ := [] } }

end Sys2Proof.Machine
end

