-- ==== Sys2Proof/Machine/Guard.lean ====
section
/-! DEFINITION. Who may read and write what (R60, R65, R66, R69, R76, R86, R96, R97, R118, R586 and the ownership blocks
of each chapter), the domain of a page (R546, R98), and the error record of a page (R72). -/

namespace Sys2Proof.Machine

/-! ### The page header -/

/-- OWNER of the page that starts at `k` (R67). -/
def Chip.owner (c : Chip) (k : Nat) : Nat := c.fld (k + PG_OWNER) 16 4

/-- The owner of a block's page. -/
def Chip.pageOwner (c : Chip) (b i : Nat) : Nat := c.owner (pageAddr b i 0)

/-- May partition `p` read the page's registers: its owner, or a bit of READ_MASK (R69)? -/
def Chip.readsPage (c : Chip) (k p : Nat) : Bool := c.owner k == p || c.bit (k + PG_OWNER) p

/-- OWNER in an ownership block's word: [3:0] (R118 and its like). -/
def Chip.ownWord (c : Chip) (k : Nat) : Nat := c.fld k 0 4

/-- The page whose PG_ERRINFO records an error at `a`: the page itself; for a table window the page of number 0 of its
block (the example of R79). -/
def errPage (a : Nat) : Nat := if isTw a then pageAddr (blockOf a) 0 0 else pageOf a

/-! ### Ownership blocks of the chapters -/

/-- R118: the owner of a task descriptor. -/
def Chip.descOwner (c : Chip) (i : Nat) : Nat := c.ownWord (twAddr HOI (0x4000 + 4 * (i / 256)))

/-- R157: the owner of a loop slot. -/
def Chip.slotOwner (c : Chip) (s : Nat) : Nat := c.ownWord (twAddr LOOP (4 * (s / 128)))

/-- R374: the owner of a partner slot descriptor. -/
def Chip.netOwner (c : Chip) (d : Nat) : Nat := c.ownWord (twAddr NET (0x8000 + 4 * (d / 128)))

/-- R223: the owner of an axis. -/
def Chip.axisOwner (c : Chip) (a : Nat) : Nat := c.ownWord (twAddr PRF (0x6_0000 + 4 * (a / 64)))

/-- R223: the owner of a cam table. -/
def Chip.camOwner (c : Chip) (t : Nat) : Nat := c.ownWord (twAddr PRF (0x6_0100 + 4 * (t / 16)))

/-- The owner of a table-window word: that of the block's ownership table for the entry, an ownership word being its own
OWNER's; without one, the owner of the block's page 0 (R174). -/
def Chip.twOwner (c : Chip) (b o : Nat) : Nat :=
  match b with
  | 0x04 => if 0x4000 ≤ o && o < 0x4400 then c.ownWord (twAddr b o) else c.pageOwner b 0
  | 0x05 =>
    if o < 0x80 then c.ownWord (twAddr b o)
    else if o < 0x1_0000 then c.pageOwner b 0
    else if o < 0x2_0000 then c.slotOwner ((o - 0x1_0000) / 16)
    else c.slotOwner ((o - 0x2_0000) / 64)
  | 0x06 =>
    if o < 0x4_8000 then c.axisOwner (o / 0x100)
    else if 0x5_0000 ≤ o && o < 0x5_0800 then c.axisOwner (1024 + (o - 0x5_0000) / 0x40)
    else if 0x5_0800 ≤ o && o < 0x5_1000 then c.axisOwner (1056 + (o - 0x5_0800) / 0x40)
    else if 0x5_1000 ≤ o && o < 0x5_2000 then c.camOwner ((o - 0x5_1000) / 0x10)
    else c.ownWord (twAddr b o)
  | 0x0A => c.ownWord (twAddr b o)
  | 0x0B => c.ownWord (twAddr b (if o < 0x4_0000 then 0x4_0000 + 4 * (o / 0x4000) else o))
  | 0x0C => c.ownWord (twAddr b (if o < 0x4000 then 0x4000 + 4 * (o / 2048) else o))
  | 0x0D => if o < 0x8000 then c.pageOwner b 0 else c.ownWord (twAddr b o)
  | 0x0E => c.pageOwner b (o / 0x4000)
  | _ => c.pageOwner b 0

/-- R174: the owner of the element in which an address lies. -/
def Chip.ownerAt (c : Chip) (a : Nat) : Nat :=
  if isTw a then c.twOwner (blockOf a) (twOf a) else c.pageOwner (blockOf a) (instOf a)

/-! ### Mailbox sides (R95, R97) -/

/-- The word of binding entry `k` (R95). -/
def aBind (k : Nat) : Nat := twAddr MBX (4 * k)

/-- The side of master `m` in binding entry `k`, when the entry is bound to it. -/
def Chip.sideOf (c : Chip) (k m : Nat) : Option Nat :=
  if !c.bit (aBind k) 31 then none
  else if c.fld (aBind k) 0 6 = m then some 0
  else if c.fld (aBind k) 8 6 = m then some 1
  else none

/-- The master of side `s` of binding entry `k`. -/
def Chip.sideMaster (c : Chip) (k s : Nat) : Nat := if s = 0 then c.fld (aBind k) 0 6 else c.fld (aBind k) 8 6

/-- R92: is the partition of master `m` powered down? A host partition is while its link is down or its function is in
D3hot; a core partition is while its core is power-gated. -/
def Chip.masterDown (c : Chip) (m : Nat) : Bool :=
  if m < 8 then natBit c.hst.coreGated m
  else if m < 16 then
    let k := pageAddr HST 0 (0x108 + 4 * ((m - 8) / 4))
    !c.bit k 31 || c.bit k ((m - 8) % 4)
  else false

/-! ### Domains (R67, R98, R546) -/

/-- DOMAIN of a page: 0 powered in FLOW and TRICKLE; below, 2 retained down to SUMP and 3 off from CISTERN on, but the
blocks whose chapters let them run in DRIP and SEEP stay powered there (log 9, DEDUCED); a mailbox page follows its bound masters
(R98). -/
def Chip.domain (c : Chip) (b i : Nat) : Nat :=
  let ms := c.modState
  let base :=
    if ms ≤ 1 then 0
    else if ms ≤ 3 && (b == HST || b == PWR || b == TIM || b == TLY || b == SAF || b == PAI) then 0
    else if ms ≤ 4 then 2 else 3
  if b = MBX && 1 ≤ i && i < 97 && base < 2 then
    let k := if i < 65 then i - 1 else i - 1
    if c.bit (aBind k) 31 && (c.masterDown (c.sideMaster k 0) || c.masterDown (c.sideMaster k 1)) then 2 else base
  else base

/-- The page is enabled (R67). -/
def Chip.pageOn (c : Chip) (b i : Nat) : Bool := c.bit (pageAddr b i PG_CTL) 0

/-- The pages that operate whatever their ENABLE reads: what serves every page and runs from reset by its own chapter - host ports,
mailbox control and locks, the Image Authority, the counter page of the Timebase, the trip path, the Safety Unit, memory, power,
Dipstick and the test access port (R26, R27, R67, R340, R460, R529; log 12, DEDUCED). -/
def ungated (b i : Nat) : Bool :=
  b == HST || b == COR || b == SAF || b == MEM || b == PWR || b == DIP || b == TST ||
    (b == MBX && (i == 0 || i == 97)) || (b == TIM && i == 0) || (b == PWM && i == 0)

/-- Is the page in a soft reset (R68)? -/
def Chip.resetting (c : Chip) (b i : Nat) : Bool := c.bit (pageAddr b i PG_CTL) 1

/-! ### Error records (R72, R85) -/

/-- R72: PG_ERRINFO of the page at `k` keeps the first error, later ones set OVERFLOW; PG_ERR_CNT counts and cause 31
is raised. On the Dipstick page as well, whose RAW R55 lists without bit 31 (log 74, DEDUCED). An access carried out for another
block is logged under that block's master number (R12). -/
def Chip.logAt (c : Chip) (k cause m off : Nat) (line : Option Nat) : Chip :=
  let c :=
    if c.bit (k + PG_ERRINFO) 31 then c.setBit (k + PG_ERRINFO) 30 true
    else c.setNat (k + PG_ERRINFO) (2 ^ 31 + cause % 16 * 2 ^ 26 + c.logAs.getD m % 64 * 2 ^ 20 + off % 2 ^ 20)
  { (c.count (k + PG_ERR_CNT)).causeAt k 31 line with logged := c.logged + 1 }

/-- The causes of PG_ERRINFO (the PG_ERRINFO table). -/
def ecNotOwner : Nat := 1
def ecNoRead : Nat := 2
def ecPoweredDown : Nat := 3
def ecUnimp : Nat := 4
def ecKeyBroken : Nat := 5
def ecNoKey : Nat := 6
def ecLocked : Nat := 7
def ecSize : Nat := 8
def ecWinBusy : Nat := 9
def ecPoison : Nat := 10
def ecResetting : Nat := 11

/-- R72: an error of master `m` at address `a` is logged on its page; on a Bell page cause 31 shows in the views of both sides,
which carry the page's causes (R104; log 74, DEDUCED). -/
def Chip.logErr (c : Chip) (cause m a : Nat) : Chip :=
  let k := errPage a
  let c := c.logAt k cause m (a % 0x10_0000) (if blockOf a = MBX then none else lineOf (blockOf k) (instOf k) 0)
  if blockOf a = MBX && !isTw a && 1 ≤ instOf a && instOf a < 65 then
    (c.bellCause (instOf a - 1) 0 31).bellCause (instOf a - 1) 1 31
  else c

/-- R58, R85: an unimplemented access is recorded in HST_UNIMP_INFO and HST_UNIMP_CNT and raises cause 0 of HST page 0. -/
def Chip.logUnimp (c : Chip) (m a : Nat) : Chip :=
  let k := pageAddr HST 0 0x100
  let c :=
    if c.bit k 31 then c.setBit k 30 true
    else (c.setNat k (2 ^ 31 + ecUnimp * 2 ^ 26 + c.logAs.getD m % 64 * 2 ^ 20 + a % 0x10_0000)).setNat (k + 4) (blockOf a)
  { (c.count (pageAddr HST 0 0x034)).cause HST 0 0 with logged := c.logged + 1 }

/-! ### Permission -/

/-- May partition `p` write the table window word at `a`? -/
def Chip.twWriter (c : Chip) (p a : Nat) : Bool :=
  let b := blockOf a
  let o := twOf a
  -- R76: a route entry is written by the owner of the page that raises the line as well
  c.twOwner b o == p || (b == HST && o < 0x1000 && lineOwners c (o / 4) p)
where
  /-- Is `p` the owner of the page that raises line `n` (R76, R104)? -/
  lineOwners (c : Chip) (n p : Nat) : Bool :=
    if 0x040 ≤ n && n < 0x0C0 then
      c.bit (aBind ((n - 0x40) / 2)) 31 && c.sideMaster ((n - 0x40) / 2) (n % 2) == p
    else ((List.range 0x15).any fun b => (List.range 128).any fun i =>
      pageExists c.part b i && lineOf b i 0 == some n && c.pageOwner b i == p)

/-- May partition `p` write the register at `a` (R69, R76, R86, R96, R97, R586)? Log 34, DEDUCED. -/
def Chip.mayWrite (c : Chip) (p a : Nat) (per : Bool) : Bool :=
  if per then true
  else if isTw a then c.twWriter p a
  else
    let b := blockOf a
    let i := instOf a
    let o := offOf a
    if o = PG_KEY then true
    else if b = MBX && 1 ≤ i && i < 97 then
      if o ≥ 0x100 || (i < 65 && (o = PG_EVT_EN || o = PG_EVT_PEND)) then
        match c.sideOf (i - 1) p with
        | none => false
        | some s =>
          if i < 65 then true
          -- R110: the producer writes PTR, LEN, TAG and POST, the consumer TAKE_N and CFG
          else if o < 0x114 then s = 0 else s = 1
      else c.owner (pageOf a) == p
    else if b = MBX && i = 97 && 0x100 ≤ o && o < 0x300 then c.readsPage (pageOf a) p   -- R111; R112 decides by the holder
    else c.owner (pageOf a) == p

/-- May partition `p` read the register at `a` (R69, R97, R106, R586)? R75, R76 and R86 give the table window of HST no read rights:
there, as in every table window, the owner and READ_MASK of the block's page 0 decide. Log 34, DEDUCED. -/
def Chip.mayRead (c : Chip) (p a : Nat) (per : Bool) : Bool :=
  if per then true
  else
    let b := blockOf a
    let i := instOf a
    let o := offOf a
    if isTw a then
      if b = MBX && twOf a ≥ 0x4_0000 then (c.sideOf (64 + (twOf a - 0x4_0000) / 0x1000) p).isSome
      else c.readsPage (pageAddr b 0 0) p
    else if o < 0x034 then true
    else if b = MBX && 1 ≤ i && i < 97 && o ≥ 0x100 then (c.sideOf (i - 1) p).isSome
    else c.readsPage (pageOf a) p

end Sys2Proof.Machine
end

