-- ==== Sys2Proof/Machine/Hoist.lean ====
section
/-! DEFINITION. Hoist (04_hoist_dispatcher): task descriptors, completions and tallies, ready lists, ordered flows,
cores, and the admission test. Lane tasks themselves are run in Machine/Lanes. -/

namespace Sys2Proof.Machine

/-! ### Addresses and fields -/

/-- Word `w` of task descriptor `i` (R116, R589). -/
def dK (i w : Nat) : Nat := elemKey (storeOf HOI 0x01) i w
/-- Successor entry `e` (R120, R589). -/
def succK (e : Nat) : Nat := elemKey (storeOf HOI 0x02) (e / 16) (e % 16)
/-- Word `w` of step `i` of track `t` (R148, R589). -/
def stepK (t i w : Nat) : Nat := elemKey (storeOf HOI (0x80 + t)) i w
/-- A register of HOI page 0. -/
def hoiA (off : Nat) : Nat := pageAddr HOI 0 off
/-- Entry of flow `n` (R130). -/
def flowK (n : Nat) : Nat := twAddr HOI (4 * n)

/-- The run state of descriptor `i`. -/
def Chip.inst (c : Chip) (i : Nat) : Inst := tab {} c.hoi.inst i
/-- REQ_BOUND (R116). -/
def Chip.reqBound (c : Chip) (i : Nat) : Nat := c.nat (dK i 10)
/-- KIND (R116). -/
def Chip.kind (c : Chip) (i : Nat) : Nat := c.fld (dK i 0) 28 3
/-- PRIORITY (R116). -/
def Chip.prio (c : Chip) (i : Nat) : Nat := c.fld (dK i 0) 20 4
/-- COST (R116). -/
def Chip.costOf (c : Chip) (i : Nat) : Nat := c.fld (dK i 3) 0 24
/-- The flow that a run of descriptor `i` joins as it becomes ready: that of an ordered task whose flow is enabled. An ordered
best-effort task whose flow is disabled runs unordered and does not count in INFLIGHT, which R130 leaves open (log 41, DEDUCED). -/
def Chip.flowOf (c : Chip) (i : Nat) : Option Nat :=
  if c.bit (dK i 0) 19 && c.bit (flowK (c.fld (dK i 0) 0 12)) 31 then some (c.fld (dK i 0) 0 12) else none
/-- Bounded work: a task with a bound whose present run is not demoted (R124). -/
def Chip.boundedRun (c : Chip) (i : Nat) (x : Inst) : Bool := c.reqBound i != 0 && !x.demoted

/-- STATE of a descriptor, from its run (R116). A run whose next one is held reads RUNNING_READY or WAIT_ORDER until its release
(R128 leaves it open; log 41, DEDUCED). -/
def Chip.stateCode (c : Chip) (i : Nat) (x : Inst) : Nat :=
  match x.phase with
  | .idle => if !c.bit (dK i 0) 31 then 0 else if c.reqBound i != 0 && !c.hoi.admitted.contains i then 1 else 2
  | .ready => if x.retiring then 8 else 3
  | .held => 6
  | .running => if x.retiring then 8 else if x.queued then 5 else 4
  | .waitOrder => if x.retiring then 8 else 7

/-- The run of a descriptor changes, and STATE with it. -/
def Chip.setInst (c : Chip) (i : Nat) (x : Inst) : Chip :=
  let c := { c with hoi := { c.hoi with inst := tabPut {} c.hoi.inst i x } }
  c.setFld (dK i 13) 28 4 (c.stateCode i x)

/-- TALLY is reloaded from TALLY_INIT (R123). -/
def Chip.reloadTally (c : Chip) (i : Nat) : Chip := c.setFld (dK i 1) 0 16 (c.fld (dK i 1) 16 16)

/-! ### Best-effort entries, credits and flows (R128, R129, R131) -/

/-- How many best-effort entries of the ready lists are in use (R128). -/
def Chip.beUsed (c : Chip) : Nat :=
  (c.hoi.inst.map fun e =>
    if c.reqBound e.1 != 0 then 0
    else b2n (e.2.phase == .ready) + b2n (e.2.queued && !e.2.qHeld)).sum

/-- Is a best-effort entry free (R128)? -/
def Chip.beFree (c : Chip) : Bool := c.beUsed < c.fld (hoiA 0x118) 0 15

/-- Does a run wait for a best-effort entry (R128)? -/
def Chip.anyHeld (c : Chip) : Bool := c.hoi.inst.any fun e => e.2.phase == .held || (e.2.queued && e.2.qHeld)

/-- The best-effort runs of partition `p`'s descriptors that are ready or held (R129). -/
def Chip.beOf (c : Chip) (p : Nat) : Nat :=
  (c.hoi.inst.map fun e =>
    if c.reqBound e.1 != 0 || c.descOwner e.1 != p then 0
    else b2n (e.2.phase == .ready || e.2.phase == .held) + b2n e.2.queued).sum

/-- HOI_CREDIT of partition `p` (R129). -/
def Chip.creditsLeft (c : Chip) (p : Nat) : Nat := c.fld (twAddr HOI (0x4400 + 4 * p)) 0 14 - c.beOf p

/-- The runs of flow `n` in the order in which they became ready (R131). -/
def Chip.flowOrder (c : Chip) (n : Nat) : List Nat := tab [] c.hoi.flows n

/-- The order of flow `n` changes, and INFLIGHT with it (R130). -/
def Chip.setFlow (c : Chip) (n : Nat) (l : List Nat) : Chip :=
  let c := { c with hoi := { c.hoi with flows := tabPut [] c.hoi.flows n l } }
  c.setFld (flowK n) 8 5 (min 16 l.length)

/-- Does the flow window let descriptor `i` be dispatched (R131)? -/
def Chip.flowLets (c : Chip) (i : Nat) : Bool :=
  match (c.inst i).flow with
  | none => true
  | some n => ((c.flowOrder n).take (c.fld (flowK n) 4 4 + 1)).contains i

/-! ### Completions and tallies (R120 to R124, R140) -/

/-- A trigger that is counted as a spacing violation (R124, R140). -/
def Chip.spacingHit (c : Chip) (i : Nat) : Chip :=
  (((c.countFld (dK i 14) 16 16).count (hoiA 0x03C))).cause HOI 0 3

/-- R140: a best-effort run that cannot run: its COST exceeds the cap or its KIND is reserved. -/
def Chip.cannotRun (c : Chip) (i : Nat) : Bool :=
  c.reqBound i == 0 && (c.costOf i > c.nat (hoiA 0x11C) || c.kind i ≥ 3)

/-! ### Pools, ranking and core ports (R125 to R127, R133 to R135) -/

/-- The pool of a run: 0 lane 0, 1 lanes 1 to 63, 2 to 5 the core pools, 6 relays (R125, R126). -/
def Chip.poolOf (c : Chip) (i : Nat) (x : Inst) : Nat :=
  match c.kind i with
  | 0 => if c.boundedRun i x && c.prio i = 0 then 0 else 1
  | 1 => 2 + c.fld (dK i 0) 24 2
  | _ => 6

/-- R125: does run `i` go before run `j`? -/
def Chip.before (c : Chip) (i j : Nat) : Bool :=
  let x := c.inst i
  let y := c.inst j
  let bi := c.boundedRun i x
  let bj := c.boundedRun j y
  if bi != bj then bi
  else if c.prio i != c.prio j then c.prio i < c.prio j
  else if x.trig.fine != y.trig.fine then x.trig.fine < y.trig.fine
  else i < j

/-- Best-effort dispatch is stopped (R35, R558). -/
def Chip.shedding (c : Chip) : Bool := c.bit (pageAddr DIP 0 0x108) 2 || c.bit aPwrStat 25

/-- A run that may be dispatched now: ready, let by its flow, within the cap, and not shed (R35, R125, R131, R140). -/
def Chip.eligible (c : Chip) (i : Nat) (x : Inst) : Bool :=
  x.phase == .ready && c.flowLets i && !c.cannotRun i && (c.boundedRun i x || !c.shedding)

/-- The highest-ranked run of a pool that may be dispatched and is offered to no core (R125). -/
def Chip.pick (c : Chip) (pool : Nat) : Option Nat :=
  let l := (c.hoi.inst.filter fun e => !e.2.offered && c.poolOf e.1 e.2 == pool && c.eligible e.1 e.2).map (·.1)
  l.foldl (fun b i => match b with
    | none => some i
    | some j => if c.before i j then some i else some j) none

/-- A register of the dispatch port of core `n`. -/
def portA (n off : Nat) : Nat := pageAddr HOI (1 + n) off
/-- The port of core `n`. -/
def Chip.port (c : Chip) (n : Nat) : CorePort := tab {} c.hoi.ports n
/-- The pool of core `n` (R127). -/
def Chip.corePool (c : Chip) (n : Nat) : Nat := c.fld (hoiA 0x108) (2 * n) 2
/-- The cores of core pool `k` (R127). -/
def Chip.poolCores (c : Chip) (k : Nat) : List Nat := (List.range 8).filter fun n => c.corePool n == k

/-- The port of core `n` changes, and its registers with it: HOI_CORE_NEXT and DISPATCH_REQ show the offered task while the core is
idle, PREEMPT_REQ one that waits for a busy core (R133). -/
def Chip.setPort (c : Chip) (n : Nat) (x : CorePort) : Chip :=
  let c := { c with hoi := { c.hoi with ports := tabPut {} c.hoi.ports n x } }
  let c := c.setBit (portA n 0x110) 31 (x.current.isSome && (x.next.isSome || x.shed))
  match x.current, x.next with
  | none, some i =>
    ((c.setNat (portA n 0x100) (2 ^ 31 + i % 2 ^ 16)).setNat (portA n 0x104) (c.nat (dK i 9))).setBit (portA n 0x110) 30 true
  | _, _ => ((c.setNat (portA n 0x100) 0).setNat (portA n 0x104) 0).setBit (portA n 0x110) 30 false

/-- Run `i` is offered to core `n` (R133, R134). -/
def Chip.offer (c : Chip) (n i : Nat) : Chip :=
  (c.setInst i { c.inst i with offered := true }).setPort n { c.port n with next := some i }

/-- The offer to core `n` is withdrawn. -/
def Chip.unoffer (c : Chip) (n : Nat) : Chip :=
  match (c.port n).next with
  | some i => (c.setInst i { c.inst i with offered := false }).setPort n { c.port n with next := none }
  | none => c

/-- The offer to core `n` follows what is ready (R125, R127, R133 to R135, R140): one that may not run there any more is withdrawn, and
a run that has come to rank higher takes its place. -/
def Chip.reoffer (c : Chip) (n : Nat) : Chip :=
  let p := c.port n
  let k := c.corePool n
  match p.next with
  | none => c
  | some i =>
    let outranks := match p.current with
      | some j => c.before i j
      | none => true
    if !c.eligible i (c.inst i) || c.poolOf i (c.inst i) != 2 + k || natBit c.hoi.poolOut k || !outranks then c.unoffer n
    else match c.pick (2 + k) with
      | some j => if c.before j i then (c.unoffer n).offer n j else c
      | none => c

/-- Every offer follows what is ready. -/
def Chip.reofferAll (c : Chip) : Chip := c.each (List.range 8) Chip.reoffer

/-- R121, R123, R124, R128, R140: TALLY of descriptor `i` has reached 0 by a completion with stamp `s`. An entry that is free goes to
a held run before a new one. Log 41, DEDUCED. -/
def Chip.taskReady (c : Chip) (i : Nat) (s : Stamp) : Chip :=
  let x := c.inst i
  if c.cannotRun i then
    let c := if c.bit (dK i 0) 27 then (c.setBit (dK i 0) 31 false).setInst i x else c.reloadTally i
    c.spacingHit i
  else
    let dem := c.reqBound i != 0 &&
      (match x.prevTrig with
       | some t => decide (s.fine < t + c.nat (dK i 4) * 2 ^ 16)
       | none => false)
    let c := if dem then c.spacingHit i else c
    let hold := c.reqBound i == 0 && (!c.beFree || c.anyHeld)
    let f := c.flowOf i
    let c := match f with
      | some n => c.setFlow n (c.flowOrder n ++ [i])
      | none => c
    let x := { x with prevTrig := some s.fine }
    let busy := x.phase == .running || x.phase == .waitOrder || (x.phase == .ready && x.dispatched)
    let x :=
      if busy then { x with queued := true, qTrig := s, qDemoted := dem, qHeld := hold, qFlow := f }
      else { x with phase := if hold then .held else .ready, trig := s, demoted := dem, flow := f }
    let c := c.setInst i x
    let c := if hold then (c.count (hoiA 0x044)).cause HOI 0 5 else c
    c.reofferAll

/-- R121, R122: one completion with stamp `s` reaches descriptor `i`. A trigger that is merged (R122) is no previous trigger for R124
and is not checked against MIN_SPACING itself, which R124 leaves open. Log 41, DEDUCED. -/
def Chip.decrement (c : Chip) (i : Nat) (s : Stamp) : Chip :=
  let x := c.inst i
  let st := c.stateCode i x
  if st = 0 || st = 1 || st = 8 || x.ending then c
  else if st = 3 || st = 6 || x.queued then
    ((c.countFld (dK i 13) 0 16).count (hoiA 0x038)).cause HOI 0 2
  else
    let t := c.fld (dK i 1) 0 16
    if t = 0 then c
    else
      let c := c.setFld (dK i 1) 0 16 (t - 1)
      if t = 1 then c.taskReady i s else c

/-- LIST_LONG is set and raised (R120). -/
def Chip.listLong (c : Chip) : Chip := (c.setBit (hoiA 0x128) 1 true).cause HOI 0 7

/-- R120: the list from entry `e` on, at most `n` entries. Log 41, DEDUCED. -/
def Chip.walkList (c : Chip) (e : Nat) (s : Stamp) : Nat → Chip
  | 0 => c.listLong
  | n + 1 =>
    let w := c.word (succK e)
    let c := c.decrement (getBits w 0 16) s
    if w.getLsbD 31 then c
    else if e = 131071 then c.listLong
    else c.walkList (e + 1) s n

/-- COMPLETION_POST (R120, R121): the oldest completion on its way walks its successor list. Log 41, DEDUCED. -/
def Chip.completionPost (c : Chip) : Chip :=
  match c.posts with
  | [] => c
  | q :: r => ({ c with posts := r }).walkList (q.head % 2 ^ 17) q.stamp 256

/-- HOI_SUBMIT (R118, R121, R129): one completion to a descriptor from partition `p`. Log 41, DEDUCED. -/
def Chip.submit (c : Chip) (p i a : Nat) : Chip :=
  if c.descOwner i != p then c.logErr ecNotOwner p a
  else
    let x := c.inst i
    let st := c.stateCode i x
    let makes := c.reqBound i == 0 && (st = 2 || st = 4 || (st = 7 && !x.queued)) && !x.ending &&
      c.fld (dK i 1) 0 16 = 1 && !c.cannotRun i
    if makes && c.creditsLeft p = 0 then (c.count (hoiA 0x040)).cause HOI 0 4
    else c.decrement i c.now

/-- HELD_ENTRY_GRANT (R128): a free best-effort entry goes to the held run triggered first. Log 41, DEDUCED. -/
def Chip.grantHeld (c : Chip) : Chip :=
  if !c.beFree then c
  else
    let l := c.hoi.inst.filterMap fun e =>
      if e.2.phase == .held then some (e.2.trig.fine, e.1)
      else if e.2.queued && e.2.qHeld then some (e.2.qTrig.fine, e.1) else none
    match l.foldl (fun b e => match b with
        | none => some e
        | some m => if e.1 < m.1 then some e else some m) none with
    | none => c
    | some (_, i) =>
      let x := c.inst i
      if x.phase == .held then (c.setInst i { x with phase := .ready }).reofferAll else c.setInst i { x with qHeld := false }

/-! ### Dispatch (R123, R134, R135) -/

/-- Dispatch of descriptor `i` (R123): it runs, and TALLY is reloaded unless ONESHOT; a task that resumes after a pre-emption has
been reloaded before. -/
def Chip.startRun (c : Chip) (i : Nat) : Chip :=
  let c := if c.bit (dK i 0) 27 || (c.inst i).dispatched then c else c.reloadTally i
  c.setInst i { c.inst i with phase := .running, offered := false, dispatched := true }

/-- R134: the core of the pool that runs the lowest-ranked task that is not RTC. -/
def Chip.weakest (c : Chip) (k : Nat) : Option (Nat × Nat) :=
  ((c.poolCores k).filterMap fun n =>
      match (c.port n).current with
      | some j => if c.bit (dK j 0) 26 || (c.port n).next.isSome then none else some (n, j)
      | none => none).foldl
    (fun b e => match b with
      | none => some e
      | some m => if c.before m.2 e.2 then some e else some m) none

/-- Dispatch in core pool `k` (R125, R127, R134, R135): to an idle core, or a pre-emption request when the task
outranks a running one. -/
def Chip.dispatchCore (c : Chip) (k : Nat) : Chip :=
  if natBit c.hoi.poolOut k then c
  else match c.pick (2 + k) with
    | none => c
    | some i =>
      match (c.poolCores k).find? fun n => (c.port n).current.isNone && (c.port n).next.isNone with
      | some n => c.offer n i
      | none =>
        if (c.poolCores k).all fun n => (c.port n).current.isSome then
          match c.weakest k with
          | some (n, j) => if c.before i j then c.offer n i else c
          | none => c
        else c

/-- R35: best-effort tasks on cores are pre-empted, but for RTC ones, and none is offered any more. -/
def Chip.shedCores (c : Chip) : Chip :=
  (c.each (List.range 8) fun c n =>
    match (c.port n).current with
    | some j => if !c.boundedRun j (c.inst j) && !c.bit (dK j 0) 26 then c.setPort n { c.port n with shed := true } else c
    | none => c).reofferAll

/-- CORE_NEXT_READ (R133): the read of an idle core takes the offered task. -/
def Chip.takeNext (c : Chip) (n : Nat) : Chip :=
  match (c.port n).current, (c.port n).next with
  | none, some i => ((c.setPort n { current := some i }).setFld (portA n 0x110) 0 16 i).startRun i
  | _, _ => c

/-- The core has no task any more: PREEMPT_REQ falls and a task offered to it shows. -/
def Chip.freeCore (c : Chip) (n : Nat) : Chip := c.setPort n { c.port n with current := none, shed := false }

/-- CORE_SUSPEND (R134): the task named by the core returns to its ready list with its first trigger. A descriptor other than CURRENT is
ignored and not logged, which R133 leaves open. Log 41, DEDUCED. -/
def Chip.suspend (c : Chip) (n i : Nat) : Chip :=
  if (c.port n).current = some i && c.bit (portA n 0x110) 31 then
    let c := c.setInst i { c.inst i with phase := .ready }
    ((c.count (portA n 0x034)).freeCore n).reofferAll
  else c

/-- PREEMPT_TIMEOUT (R135): the core's pool leaves dispatch until module reset, and what it was offered is withdrawn. -/
def Chip.preemptTimeout (c : Chip) (n : Nat) : Chip :=
  if n < 8 && c.bit (portA n 0x110) 31 then
    let c := (c.setBit (portA n 0x110) 29 true).cause HOI 0 6
    { c with hoi := { c.hoi with poolOut := setNatBit c.hoi.poolOut (c.corePool n) true } }.reofferAll
  else c

/-! ### Release (R123, R131, R132, R137, R141, R145) -/

/-- HOI_STAT [31:16]: admitted tasks / 4 (R146). -/
def Chip.setAdmitted (c : Chip) (l : List Nat) : Chip :=
  let c := { c with hoi := { c.hoi with admitted := l } }
  c.setFld (hoiA 0x128) 16 16 (l.length / 4)

/-- R141: the descriptor becomes UNADMITTED: its ready entry is freed and TALLY reloaded. -/
def Chip.unadmit (c : Chip) (i : Nat) : Chip :=
  let c := c.setAdmitted (c.hoi.admitted.filter (· != i))
  let c := ((c.reloadTally i).setNat (dK i 11) 0).setNat (dK i 12) 0
  c.setInst i { prevTrig := (c.inst i).prevTrig }

/-- R145: the lateness check and MAX_RESP of a bounded release; MAX_RESP is rounded to whole ns (R6). -/
def Chip.checkLate (c : Chip) (i : Nat) (x : Inst) : Chip :=
  if c.boundedRun i x then
    let resp := c.now.fine - x.trig.fine
    let c := c.setNat (dK i 15) (max (c.nat (dK i 15)) (min ((resp + 2 ^ 15) / 2 ^ 16) (2 ^ 32 - 1)))
    if resp > c.nat (dK i 11) * 2 ^ 16 then ((c.countFld (dK i 14) 0 16).count (hoiA 0x034)).cause HOI 0 1 else c
  else c

/-- R116, R119: the descriptor becomes INVALID at a release; an admitted ONESHOT task gives up its admission with it
(log 41, DEDUCED). -/
def Chip.spend (c : Chip) (i : Nat) (x : Inst) : Chip :=
  let c := if c.hoi.admitted.contains i then
      ((c.setAdmitted (c.hoi.admitted.filter (· != i))).setNat (dK i 11) 0).setNat (dK i 12) 0
    else c
  (c.setBit (dK i 0) 31 false).setInst i { prevTrig := x.prevTrig }

/-- The descriptor's state after a release: retired, ended, spent, its queued run ready, or waiting. -/
def Chip.afterRelease (c : Chip) (i : Nat) (x : Inst) : Chip :=
  if x.retiring then c.unadmit i
  else if x.ending || c.bit (dK i 0) 27 then c.spend i x
  else if x.queued then
    (c.setInst i { phase := if x.qHeld then .held else .ready, trig := x.qTrig, demoted := x.qDemoted, prevTrig := x.prevTrig,
                   flow := x.qFlow }).reofferAll
  else c.setInst i { prevTrig := x.prevTrig }

/-- Released outputs join those on their way. -/
def Chip.handOn (c : Chip) (o : HeldOut) : Chip := { c with outQ := c.outQ ++ [o] }

/-- Run `i` leaves the flow it has joined (R130, R131). -/
def Chip.leaveFlow (c : Chip) (i : Nat) (f : Option Nat) : Chip :=
  match f with
  | some n => c.setFlow n ((c.flowOrder n).erase i)
  | none => c

/-- A queued run of descriptor `i`, the later of its two in the flow, is dropped (R119, R141). -/
def Chip.dropQueued (c : Chip) (i : Nat) (x : Inst) : Chip :=
  match x.qFlow with
  | some n => if x.queued then c.setFlow n ((c.flowOrder n).reverse.erase i).reverse else c
  | none => c

/-- A run is released: held outputs leave in order, lateness is checked, the successor list is posted (R131, R137). -/
def Chip.releaseOne (c : Chip) (i : Nat) : Chip :=
  let x := c.inst i
  let c := ((c.each x.held Chip.handOn).checkLate i x).leaveFlow i x.flow
  let c := c.postIf (c.bit (dK i 8) 31) (c.fld (dK i 8) 0 17) c.now
  c.afterRelease i x

/-- R131: the waiting runs at the head of the flow are released in order. -/
def Chip.releaseWaiting (c : Chip) (n : Nat) : Nat → Chip
  | 0 => c
  | k + 1 =>
    match c.flowOrder n with
    | [] => c
    | j :: _ => if (c.inst j).phase == .waitOrder then (c.releaseOne j).releaseWaiting n k else c

/-- The runs that wait behind a place that has become free in flow `f` are released (R131). -/
def Chip.flowMoves (c : Chip) (f : Option Nat) : Chip :=
  match f with
  | some n => (c.releaseWaiting n (c.flowOrder n).length).reofferAll
  | none => c

/-- A run has finished: it is released, or it waits for its predecessor in the flow (R131). -/
def Chip.finish (c : Chip) (i : Nat) : Chip :=
  match (c.inst i).flow with
  | none => c.releaseOne i
  | some n =>
    if (c.flowOrder n).head? = some i then (c.releaseOne i).flowMoves (some n)
    else c.setInst i { c.inst i with phase := .waitOrder }

/-- TASK_RELEASE (R137): a lane task has spent its cost; its lane is free again. -/
def Chip.taskRelease (c : Chip) (i : Nat) : Chip :=
  match c.hoi.lanes.find? (·.2 == i + 1) with
  | none => c
  | some e =>
    let c := { c with hoi := { c.hoi with lanes := tabPut 0 c.hoi.lanes e.1 0 } }
    c.finish i

/-- CORE_DONE (R133): the core releases its task. A descriptor other than CURRENT is ignored and not logged, which R133 leaves open.
Log 41, DEDUCED. -/
def Chip.coreDone (c : Chip) (n i : Nat) : Chip :=
  if (c.port n).current = some i then (c.freeCore n).finish i else c

/-! ### The admission test (R136 to R144) -/

/-- What the admission test knows of a task. -/
structure AdmTask where
  i : Nat
  kind : Nat
  prio : Nat
  pool : Nat
  rtc : Bool
  cost : Nat
  hops : Nat
  dest : Nat
  spacing : Nat
  phased : Bool
  phase : Nat
  jitter : Nat
  trigRef : Nat
  period : Nat
  req : Nat
  flow : Option Nat
  deriving DecidableEq, Repr

/-- PERIOD_NS of a Timebase trigger (R356). -/
def Chip.trigPeriod (c : Chip) (n : Nat) : Nat := c.nat (twAddr TIM (64 * n) + 4)

/-- MIN_SPACING of descriptor `i` is the period of trigger `n` (R139, R143): a fractional or a zero period is no number of ns
that it could equal. -/
def Chip.spacingFits (c : Chip) (i n : Nat) : Bool :=
  c.nat (dK i 4) == c.trigPeriod n && c.trigPeriod n != 0 && c.fld (twAddr TIM (64 * n) + 8) 0 16 == 0

/-- A descriptor as the test sees it; `pool` is numbered as in `poolOf`. Log 39, DEDUCED. -/
def Chip.admTask (c : Chip) (i : Nat) : AdmTask :=
  { i := i, kind := c.kind i, prio := c.prio i, pool := c.poolOf i {}, rtc := c.bit (dK i 0) 26, cost := c.costOf i,
    hops := c.fld (dK i 3) 24 5, dest := c.fld (dK i 3) 29 3, spacing := c.nat (dK i 4), phased := c.bit (dK i 0) 18,
    phase := c.nat (dK i 5), jitter := c.nat (dK i 6), trigRef := c.fld (dK i 7) 0 8,
    period := c.trigPeriod (c.fld (dK i 7) 0 8), req := c.reqBound i,
    flow := if c.bit (dK i 0) 19 then some (c.fld (dK i 0) 0 12) else none }

/-- R30, R137: t_lane, rounded up to a whole ns. -/
def tLane (floor n : Nat) : Nat := ceilDiv (n * 1000) floor + 20
/-- R137: t_core, rounded up to a whole ns. -/
def tCore (floor n : Nat) : Nat := ceilDiv (n * 1000) floor + 200
/-- R134: the charge of one pre-emption. -/
def cPre : Nat := 800

/-- R117: the destination term. Log 10, DESIGN CHOICE. Log 39, DEDUCED. -/
def tDest (d : Nat) : Nat :=
  match d with
  | 0 => 0 | 1 => 40 | 2 => 40 | 3 => 300 | 4 => 100 | 5 => 60
  | _ => Config.tDestReserved d

/-- R138: how many triggers of `j` can fall around a trigger of `i` in a wait of `w`. -/
def nTriggers (i j : AdmTask) (w : Nat) : Nat :=
  let n :=
    if i.phased && j.phased && i.trigRef == j.trigRef then
      let t : Int := j.period
      if j.period = 0 then 2 ^ 32
      else
        let hi := ((i.phase + i.jitter + w : Nat) : Int) - j.phase
        let lo := ((i.phase : Int) - w) - (j.phase + j.jitter : Nat)
        (hi.fdiv t - (-((-lo).fdiv t)) + 1).toNat
    else
      let ji := if i.phased then i.jitter else 0
      if j.spacing = 0 then 2 ^ 32 else (2 * w + ji) / j.spacing + 1
  if i.i = j.i then n - 1 else n

/-- The charge of task `j` in the sum of R138. -/
def chargeOf (floor : Nat) (j : AdmTask) : Nat := if j.kind = 0 then tLane floor j.cost else tCore floor j.cost + cPre

/-- m of R138: the lanes or cores that share the work. -/
def serversOf (cores : Nat → Nat) (pool : Nat) : Nat := if pool = 0 then 1 else if pool = 1 then 63 else cores (pool - 2)

/-- B_p of R138. -/
def blocking (floor cap : Nat) (ts : List AdmTask) (pool p : Nat) : Nat :=
  if pool = 0 then 0
  else if pool = 1 then
    ((ts.filter fun j => j.pool = 1 && j.prio > p).map fun j => tLane floor j.cost).foldl max (tLane floor cap)
  else
    cPre + ((ts.filter fun j => j.pool = pool && j.rtc && j.prio > p).map fun j => tCore floor j.cost).foldl max
      (tCore floor cap)

/-- One step of the iteration of R138; `none` when the pool has no server. Log 39, DEDUCED. Log 40, DEDUCED. -/
def waitStep (floor cap : Nat) (cores : Nat → Nat) (ts : List AdmTask) (pool p w : Nat) : Option Nat :=
  let js := ts.filter fun j => j.pool = pool && j.prio ≤ p
  let m := serversOf cores pool
  let sums := (ts.filter fun i => i.pool = pool && i.prio = p).map fun i =>
    (js.map fun j => nTriggers i j w * chargeOf floor j).sum
  if m = 0 then none else some (blocking floor cap ts pool p + ceilDiv (sums.foldl max 0) m)

/-- The limit of a wait term: beyond it the test diverges (R143). Log 40, DEDUCED. -/
def waitLimit : Nat := 1000000

/-- R138: the smallest fixed point, or a value beyond the limit. Log 40, DEDUCED. -/
def waitFix (floor cap : Nat) (cores : Nat → Nat) (ts : List AdmTask) (pool p : Nat) (w : Nat) : Nat → Nat
  | 0 => w
  | n + 1 =>
    match waitStep floor cap cores ts pool p w with
    | none => waitLimit + 1
    | some w' =>
      if w' = w then w
      else if w' > waitLimit then w'
      else waitFix floor cap cores ts pool p w' n

/-- R138: the wait term of a level of a pool. Log 40, DEDUCED. -/
def waitTerm (floor cap : Nat) (cores : Nat → Nat) (ts : List AdmTask) (pool p : Nat) : Nat :=
  waitFix floor cap cores ts pool p (blocking floor cap ts pool p) (waitLimit + 2)

/-- R137, R126: the response bound of a task by itself. -/
def ownBound (floor : Nat) (w : Nat) (t : AdmTask) : Nat :=
  match t.kind with
  | 0 => 150 + w + 60 + tLane floor t.cost + 25 * t.hops + tDest t.dest + 120
  | 1 => 150 + w + tCore floor t.cost + 120
  | _ => 50

/-- The wait term that a task meets; a relay meets none (R126). Log 39, DEDUCED. -/
def waitOf (floor cap : Nat) (cores : Nat → Nat) (ts : List AdmTask) (t : AdmTask) : Nat :=
  if t.pool = 6 then 0 else waitTerm floor cap cores ts t.pool t.prio

/-- R137: R_i of a task. -/
def respBound (floor cap : Nat) (cores : Nat → Nat) (ts : List AdmTask) (t : AdmTask) : Nat :=
  ownBound floor (waitOf floor cap cores ts t) t

/-- R139: the bound a task is admitted against: the largest R_i among the tasks of its flow, which are the admitted and the requested
ones (log 39, DEDUCED). -/
def flowBound (floor cap : Nat) (cores : Nat → Nat) (ts : List AdmTask) (t : AdmTask) : Nat :=
  let own := respBound floor cap cores ts t
  match t.flow with
  | none => own
  | some f => ((ts.filter fun u => u.flow = some f).map (respBound floor cap cores ts)).foldl max own

/-- The cost a task's target states for itself (R136): the slot's COST, or what the base image that runs lists for the entry.
Log 76, DESIGN CHOICE. -/
def Chip.targetCost (c : Chip) (i : Nat) : Nat :=
  match c.kind i with
  | 0 => c.fld (elemKey (storeOf LOOP 0x01) (c.fld (dK i 2) 0 12) 4) 0 24
  | 1 => match c.cor.base with
    | some b => Config.coreCost b.digest (c.nat (dK i 2))
    | none => 0
  | _ => 0

/-- Is the loop slot present on the part (R3, R155)? -/
def slotPresent (part : Part) (s : Nat) : Bool := if part = .fvk8620 then s < 2048 else s < 4096

/-- R143, check 10: an invalid descriptor. Log 39, DEDUCED. -/
def Chip.admInvalid (c : Chip) (i : Nat) : Bool :=
  i ≥ 65536 || !c.bit (dK i 0) 31 || c.fld (dK i 1) 16 16 = 0 || c.kind i ≥ 3 ||
  (c.kind i = 0 && !slotPresent c.part (c.fld (dK i 2) 0 12)) ||
  (c.bit (dK i 0) 18 && !c.spacingFits i (c.fld (dK i 7) 0 8))

/-- R143, check 9: the requester owns the descriptor, and the slot it names (R118, R157). -/
def Chip.admOwns (c : Chip) (p i : Nat) : Bool :=
  c.descOwner i == p && (c.kind i != 0 || c.slotOwner (c.fld (dK i 2) 0 12) == p)

/-- R143, check 5: the flow is disabled, mixed, or a lane task of it has more than 8 outputs. The tasks of a flow are the admitted and
the requested ones; best-effort and unadmitted descriptors are not among them, which R139 leaves open (log 39, DEDUCED). -/
def Chip.flowMix (c : Chip) (ts : List AdmTask) (i : Nat) : Bool :=
  let t := c.admTask i
  match t.flow with
  | none => false
  | some f =>
    !c.bit (flowK f) 31 ||
    (ts.any fun u => u.flow = some f && (u.kind != t.kind || u.prio != t.prio || (t.kind = 1 && u.pool != t.pool))) ||
    (t.kind = 0 && c.fld (elemKey (storeOf LOOP 0x01) (c.fld (dK i 2) 0 12) 0) 4 4 > 8)

/-- How an admission test ended: CODE, CULPRIT and its bound and wait (R142). -/
structure Verdict where
  code : Nat
  culprit : Nat
  bound : Nat := 0
  wait : Nat := 0
  deriving DecidableEq, Repr

/-- The cores of each pool, counted. -/
def Chip.coreCount (c : Chip) (k : Nat) : Nat := (c.poolCores k).length

/-- The tasks that stand admitted once the request is added. Log 39, DEDUCED. -/
def Chip.admSet (c : Chip) (req : List Nat) : List AdmTask :=
  ((c.hoi.admitted.filter fun i => !req.contains i) ++ req).map c.admTask

/-- R143: the checks of an ADMIT or QUERY request of partition `p`, in the order of the table. Log 39, DEDUCED. -/
def Chip.admitTest (c : Chip) (p : Nat) (req : List Nat) : Verdict :=
  let ts := c.admSet req
  let cap := c.nat (hoiA 0x11C)
  let bnd (i : Nat) := flowBound c.laneFloor cap c.coreCount ts (c.admTask i)
  let resp (i : Nat) := respBound c.laneFloor cap c.coreCount ts (c.admTask i)
  let wt (i : Nat) := waitOf c.laneFloor cap c.coreCount ts (c.admTask i)
  let full (code i : Nat) : Verdict := { code := code, culprit := i, bound := resp i, wait := wt i }
  let others := c.hoi.admitted.filter fun i =>
    !req.contains i && req.any fun r => (c.admTask r).pool = (c.admTask i).pool
  let newOnes := req.filter fun i => !c.hoi.admitted.contains i
  let free := 16384 - c.fld (hoiA 0x118) 0 15 - c.hoi.admitted.length
  match req.find? c.admInvalid with
  | some i => full 10 i
  | none => match req.find? fun i => !c.admOwns p i with
  | some i => full 9 i
  | none =>
    if c.bit (pageAddr DIP 0 0x108) 1 then full 8 (req.headD 0)
    else match req.find? fun i => c.prio i = 0 && (c.kind i != 0 || c.costOf i > 160) with
  | some i => full 4 i
  | none => match req.find? (c.flowMix ts) with
  | some i => full 5 i
  | none => match req.find? fun i => c.costOf i < c.targetCost i with
  | some i => full 3 i
  | none =>
    if newOnes.length > free then full 6 (newOnes.getD free 0)
    else match (req ++ others).find? fun i => wt i > waitLimit with
  | some i => full 2 i
  | none => match req.find? fun i => bnd i > c.reqBound i with
  | some i => full 1 i
  | none => match others.find? fun i => bnd i > c.reqBound i with
  | some i => full 7 i
  | none =>
    match req.foldl (fun b i => match b with
        | none => some i
        | some j => if resp i > resp j then some i else some j) none with
    | some i => full 0 i
    | none => { code := 10, culprit := 0 }

/-- R144: a successful ADMIT: the members are admitted and every level of the touched pools is rewritten. -/
def Chip.admitApply (c : Chip) (req : List Nat) : Chip :=
  let ts := c.admSet req
  let cap := c.nat (hoiA 0x11C)
  let cores := c.coreCount
  let pools := req.map fun i => (c.admTask i).pool
  let newOnes := req.filter fun i => !c.hoi.admitted.contains i
  let c := c.setAdmitted (c.hoi.admitted ++ newOnes)
  let c := c.each newOnes fun c i => (c.reloadTally i).setInst i {}
  c.each (ts.filter fun t => pools.contains t.pool) fun c t =>
    (c.setNat (dK t.i 11) (min (2 ^ 32 - 1) (flowBound c.laneFloor cap cores ts t))).setNat (dK t.i 12)
      (min (2 ^ 32 - 1) (waitOf c.laneFloor cap cores ts t))

/-- R141: retirement of one descriptor: a run that has been dispatched completes, one that has not is dropped. Log 41, DEDUCED. -/
def Chip.retireOne (c : Chip) (i : Nat) : Chip :=
  let x := c.inst i
  if !c.hoi.admitted.contains i then c
  else if x.phase == .running || x.phase == .waitOrder || (x.phase == .ready && x.dispatched) then
    (c.dropQueued i x).setInst i { x with retiring := true, queued := false, qHeld := false, qFlow := none }
  else (((c.leaveFlow i x.flow).unadmit i).flowMoves x.flow).reofferAll

/-- The descriptors of a request: FIRST to FIRST + COUNT - 1 (R141). -/
def reqRange (first count : Nat) : List Nat := (List.range count).map (first + ·)

/-- A request comes to its turn: a RETIRE is carried out then (R141). Log 41, DEDUCED. -/
def Chip.startRequest (c : Chip) : Chip :=
  match c.hoi.requests with
  | [] => c
  | q :: r =>
    if q.op = 2 then
      let l := reqRange q.first q.count
      match l.find? fun i => i ≥ 65536 || !c.bit (dK i 0) 31 with
      | some i => { c with hoi := { c.hoi with requests := { q with code := 10, culprit := i } :: r } }
      | none =>
        match l.find? fun i => c.descOwner i != q.p with
        | some i => { c with hoi := { c.hoi with requests := { q with code := 9, culprit := i } :: r } }
        | none => c.each l Chip.retireOne
    else c

/-- HOI_ADMIT_STAT of partition `p` (R142). -/
def admStatK (p : Nat) : Nat := viewKey p (hoiA 0x110)

/-- R141, R586: a request of partition `p` is queued, and starts when it is the first. Log 39, DEDUCED. -/
def Chip.request (c : Chip) (p op first cap : Nat) (a : Nat) : Chip :=
  if c.bit (admStatK p) 31 then c.logErr ecWinBusy p a
  else
    let c := c.setNat (admStatK p) (2 ^ 31)
    let q : AdmitReq := { p := p, op := op, first := first, count := c.fld (viewKey p (hoiA 0x104)) 0 17, cap := cap }
    let idle := c.hoi.requests.isEmpty
    let c := { c with hoi := { c.hoi with requests := c.hoi.requests ++ [q] } }
    if idle then c.startRequest else c

/-- A write of HOI_ADMIT_REQ by partition `p` (R141). -/
def Chip.admitReqWrite (c : Chip) (p : Nat) (d : Word) : Chip :=
  c.request p (getBits d 30 2) (getBits d 0 16) 0 (hoiA 0x100)

/-- R140: the test of a raised cap. -/
def Chip.capTest (c : Chip) (cap : Nat) : Verdict :=
  let ts := c.hoi.admitted.map c.admTask
  let bnd (i : Nat) := flowBound c.laneFloor cap c.coreCount ts (c.admTask i)
  let wt (i : Nat) := waitOf c.laneFloor cap c.coreCount ts (c.admTask i)
  match c.hoi.admitted.find? fun i => wt i > waitLimit || bnd i > c.reqBound i with
  | some i =>
    { code := 7, culprit := i, bound := respBound c.laneFloor cap c.coreCount ts (c.admTask i), wait := wt i }
  | none => { code := 0, culprit := 0 }

/-- The verdict of the request at the front, and the module after its effect. Log 39, DEDUCED. -/
def Chip.decideRequest (c : Chip) (q : AdmitReq) : Verdict × Chip :=
  if q.op = 4 then
    let v := c.capTest q.cap
    (v, if v.code = 0 then c.setNat (hoiA 0x11C) q.cap else c)
  else if q.op = 2 then ({ code := q.code, culprit := if q.code = 0 then q.first else q.culprit }, c)
  else if q.count = 0 || q.first + q.count > 65536 || q.op = 0 then ({ code := 10, culprit := q.first }, c)
  else
    let l := reqRange q.first q.count
    let v := c.admitTest q.p l
    if v.code = 0 && q.op = 1 && c.maintenance then
      -- R535: nothing is admitted in MAINTENANCE; the code is free
      let (n, c) := c.freeNat
      ({ v with code := 1 + n % 15 }, c)
    else (v, if v.code = 0 && q.op = 1 then c.admitApply l else c)

/-- ADMISSION_DONE (R142): the request at the front ends; the next one starts. Log 41, DEDUCED. -/
def Chip.admissionDone (c : Chip) : Chip :=
  match c.hoi.requests with
  | [] => c
  | q :: r =>
    let (v, c) := c.decideRequest q
    let c := { c with hoi := { c.hoi with requests := r } }
    let c := c.setNat (admStatK q.p) (2 ^ 30 + v.code % 16 * 2 ^ 24 + v.culprit % 2 ^ 16)
    let c := if q.op = 2 || (q.op = 4 && v.code = 0) then c
      else (c.setNat (viewKey q.p (hoiA 0x120)) v.bound).setNat (viewKey q.p (hoiA 0x124)) v.wait
    let c := c.cause HOI 0 0
    c.startRequest

/-! ### Control registers with rules of their own (R127, R128, R130, R140) -/

/-- R140: a keyed write of HOI_BE_MAX_COST by partition `p`. Log 39, DEDUCED. -/
def Chip.capWrite (c : Chip) (p : Nat) (d : Word) : Chip :=
  if d.toNat ≤ c.nat (hoiA 0x11C) then (c.setWord (hoiA 0x11C) d).reofferAll else c.request p 4 0 d.toNat (hoiA 0x11C)

/-- R128: a keyed write of HOI_BE_ENTRIES by master `m`. Log 39, DEDUCED. -/
def Chip.beEntriesWrite (c : Chip) (m : Nat) (d : Word) : Chip :=
  let v := getBits d 0 15
  if v > 16384 || 16384 - v < c.hoi.admitted.length then c.logErr ecNoKey m (hoiA 0x118)
  else c.setNat (hoiA 0x118) v

/-- R127: a keyed write of HOI_CORE_POOL. -/
def Chip.corePoolWrite (c : Chip) (d : Word) : Chip :=
  let busy := (List.range 8).any fun n =>
    let old := c.corePool n
    let new := getBits d (2 * n) 2
    old != new && c.hoi.admitted.any fun i =>
      c.kind i = 1 && c.fld (dK i 0) 24 2 == old
  if busy then c.setBit (hoiA 0x128) 2 true
  else ((c.setNat (hoiA 0x108) (d.toNat % 2 ^ 16)).setBit (hoiA 0x128) 2 false).reofferAll

/-- R130: a write of a flow entry by master `m`. -/
def Chip.flowWrite (c : Chip) (m n : Nat) (d : Word) : Chip :=
  if c.hoi.admitted.any fun i => c.bit (dK i 0) 19 && c.fld (dK i 0) 0 12 == n then c.logErr ecLocked m (flowK n)
  else c.setWord (flowK n) ((c.word (flowK n) &&& 0x1F00#32) ||| (d &&& 0x8000_00F0#32))

/-- R119: an indirect-window write replaces descriptor `i`; the answer is the ERR code. A write with VALID = 0 to a best-effort
descriptor that holds an instance stores none of its other words, and VALID reads 1 until the release, which R119 leaves open
(log 41, DEDUCED). -/
def Chip.descWrite (c : Chip) (i : Nat) (data : List Word) : Nat × Chip :=
  let x := c.inst i
  let st := c.stateCode i x
  let w (k : Nat) : Word := data.getD k 0
  let be := c.reqBound i == 0
  let valid := (w 0).getLsbD 31
  if st = 0 || st = 1 || (be && st = 2) then
    let c := c.each [0, 2, 3, 4, 5, 6, 7, 8, 9, 10] fun c k => c.setWord (dK i k) (w k &&&
      (match k with
       | 0 => 0xFFFC_0FFF#32
       | 7 => 0xFF#32
       | 8 => 0x8001_FFFF#32
       | _ => 0xFFFF_FFFF#32))
    let c := c.setFld (dK i 1) 16 16 (getBits (w 1) 16 16)
    let c := if valid then c.reloadTally i else c
    (0, c.setInst i {})
  else if be && !valid then
    (0, (c.dropQueued i x).setInst i { x with ending := true, queued := false, qHeld := false, qFlow := none })
  else (2, c)

end Sys2Proof.Machine
end

