-- ==== Sys2Proof/Machine/LoopLaw.lean ====
section
/-! DEFINITION. The arithmetic of a loop slot (R159 to R170, R173, R185, R186) and of the learning law (R205 to R211),
and the structure of a slot: its fetched operands, its cost (R171, R216) and the checks of ENABLE (R195, R204). -/

namespace Sys2Proof.Machine

/-! ### Slot elements (R188 to R193, R201) -/

/-- Word `w` of element `sel` of slot `s`. -/
def slotK (s sel w : Nat) : Nat := elemKey (storeOf LOOP sel) s w
/-- The header element (R188). -/
def hdrK (s w : Nat) : Nat := slotK s 0x01 w
/-- LOOP_SLOT_CTL of slot `s` (R180). -/
def ctlK (s : Nat) : Nat := twAddr LOOP (0x1_0000 + 16 * s)
/-- Word `w` of the learning block of slot `s` (R201). -/
def lrnK (s w : Nat) : Nat := twAddr LOOP (0x2_0000 + 64 * s + 4 * w)
/-- Word `w` of the hand-over group entry `g` (R182). -/
def grpK (g w : Nat) : Nat := twAddr LOOP (0x400 + 16 * g + 4 * w)
/-- A register of LOOP page 0. -/
def loopA (off : Nat) : Nat := pageAddr LOOP 0 off

/-- The header of a slot, its fields named as in R188. -/
structure SlotHdr where
  enabled : Bool
  groupEn : Bool
  group : Nat
  rsInit : Bool
  nmeas : Nat
  noutf : Nat
  slewEn : Bool
  pEn : Bool
  iEn : Bool
  dEn : Bool
  nff : Nat
  trackEn : Bool
  nout : Nat
  learnEn : Bool
  settleSkip : Bool
  stampOp : Nat
  stampOldest : Bool
  period : Nat
  sigBase : Nat
  record : Nat
  deriving DecidableEq, Repr

/-- The header of slot `s` (R188). -/
def Chip.slotHdr (c : Chip) (s : Nat) : SlotHdr :=
  let b (i : Nat) := c.bit (hdrK s 0) i
  { enabled := b 31, groupEn := b 30, group := c.fld (hdrK s 0) 22 8, rsInit := b 21, nmeas := c.fld (hdrK s 0) 18 3,
    noutf := c.fld (hdrK s 0) 15 3, slewEn := b 14, pEn := b 13, iEn := b 12, dEn := b 11, nff := c.fld (hdrK s 0) 9 2,
    trackEn := b 8, nout := c.fld (hdrK s 0) 4 4, learnEn := b 3, settleSkip := b 2,
    stampOp := c.fld (hdrK s 1) 29 3, stampOldest := c.bit (hdrK s 1) 28, period := c.fld (hdrK s 1) 0 16,
    sigBase := c.fld (hdrK s 2) 0 25, record := c.fld (hdrK s 3) 0 16 }

/-- MODE of operand `n` (R189). -/
def Chip.opMode (c : Chip) (s n : Nat) : Nat := c.fld (slotK s 0x02 (2 * n)) 30 2
/-- BITPOS of operand `n` (R189). -/
def Chip.opBit (c : Chip) (s n : Nat) : Nat := c.fld (slotK s 0x02 (2 * n + 1)) 25 6
/-- SRC of operand `n` (R189), 8-byte aligned. -/
def Chip.opSrc (c : Chip) (s n : Nat) : Nat := c.fld (slotK s 0x02 (2 * n)) 0 25 / 8 * 8
/-- SRC2 of operand `n` (R189), 8-byte aligned. -/
def Chip.opSrc2 (c : Chip) (s n : Nat) : Nat := c.fld (slotK s 0x02 (2 * n + 1)) 0 25 / 8 * 8
/-- Word `w` of output `j` (R193). -/
def outK (s j w : Nat) : Nat := slotK s (if j < 4 then 0x06 else 0x07) (4 * (j % 4) + w)
/-- A coefficient word of the bank in use (R190, R180). -/
def Chip.coef (c : Chip) (s w : Nat) : Word := c.word (slotK s (if c.bit (ctlK s) 30 then 0x0A else 0x03) w)
/-- Coefficient `w` of biquad section `i`: b0, b1, b2, a1, a2 (R191). -/
def Chip.bq (c : Chip) (s i w : Nat) : Word := c.word (slotK s (if i < 3 then 0x04 else 0x05) (5 * (i % 3) + w))

/-! ### Coefficients and narrowing (R159, R160) -/

/-- MANT of a COEF word. -/
def mant (w : Word) : Int := signed 16 (getBits w 0 16)
/-- SHIFT of a COEF word. -/
def shiftOf (w : Word) : Int := signed 4 (getBits w 16 4)
/-- The value of a COEF word: MANT × 2^(SHIFT - 15) (R159). -/
def coefRat (w : Word) : Rat := (mant w : Rat) * (2 : Rat) ^ (shiftOf w - 15)

/-- R159: the Q1.31 product of a coefficient and a Q15 operand, shifted by SHIFT (a right shift rounds under R6). -/
def coefProd (w : Word) (x : Int) : Int :=
  let p := 2 * mant w * x
  let h := shiftOf w
  if h < 0 then roundShift p h.natAbs else p * 2 ^ h.toNat

/-- R159: an addition into the 40-bit accumulator. -/
def accAdd (a b : Int) : Int := satS 40 (a + b)

/-- A value with the mark that a narrowing limited it (R170). -/
structure Nar where
  v : Int
  hit : Bool
  deriving DecidableEq, Repr

/-- R160: a narrowing of the accumulator to Q15. Log 44, DEDUCED. -/
def toQ15 (a : Int) : Nar := let r := roundShift a 16; { v := satS 16 r, hit := satHit 16 r }
/-- R160: a narrowing of the accumulator to a state word. Log 44, DEDUCED. -/
def toState (a : Int) : Nar := { v := satS 32 a, hit := satHit 32 a }
/-- A state word entering a product: narrowed to Q15 (R160). -/
def stateQ15 (a : Int) : Int := (toQ15 a).v
/-- A Q15 value entering a sum. -/
def q31 (x : Int) : Int := x * 65536

/-- R166: one section of the cascade: output, states and the mark. -/
structure BqOut where
  out : Int
  s1 : Int
  s2 : Int
  hit : Bool
  deriving DecidableEq, Repr

/-- R166: the transposed direct form II. Log 44, DEDUCED. -/
def bqStep (b0 b1 b2 a1 a2 : Word) (s1 s2 x : Int) : BqOut :=
  let o := toQ15 (accAdd (coefProd b0 x) s1)
  let n1 := toState (accAdd (accAdd (coefProd b1 x) (-(coefProd a1 o.v))) s2)
  let n2 := toState (accAdd (coefProd b2 x) (-(coefProd a2 o.v)))
  { out := o.v, s1 := n1.v, s2 := n2.v, hit := o.hit || n1.hit || n2.hit }

/-- A state word of slot `s` (R192). -/
def Chip.slotState (c : Chip) (s w : Nat) : Int := signed 32 (c.nat (slotK s 0x08 w))

/-- A cascade of `n` sections from section `i` on: the output, the new states (s1, s2 per section) and the mark. -/
def Chip.cascade (c : Chip) (s i : Nat) (x : Int) : Nat → Int × List (Nat × Int × Int) × Bool
  | 0 => (x, [], false)
  | n + 1 =>
    let r := bqStep (c.bq s i 0) (c.bq s i 1) (c.bq s i 2) (c.bq s i 3) (c.bq s i 4)
      (c.slotState s (4 + 2 * i)) (c.slotState s (5 + 2 * i)) x
    let (o, l, h) := c.cascade s (i + 1) r.out n
    (o, (i, r.s1, r.s2) :: l, r.hit || h)

/-- R185, step 2: the steady states of a section at input and output `u`. -/
def bqSteady (b0 b2 a2 : Word) (u : Int) : Int × Int :=
  ((toState (q31 u - coefProd b0 u)).v, (toState (coefProd b2 u - coefProd a2 u)).v)

/-! ### Output conversion (R173) -/

/-- R173: the written value of output `j` of slot `s` for the Q15 signal `x`. -/
def Chip.convert (c : Chip) (s j : Nat) (x : Int) : Nar :=
  let g := signed 32 (c.nat (outK s j 1))
  let o := signed 32 (c.nat (outK s j 2))
  let w := o + roundDiv (x * g) 32768
  match c.fld (outK s j 3) 30 2 with
  | 0 => { v := satS 32 w, hit := satHit 32 w }
  | 1 =>
    let w := satS 32 w * 2 ^ c.fld (outK s j 3) 24 6
    { v := satS 64 w, hit := satHit 64 w || satHit 32 (o + roundDiv (x * g) 32768) }
  | _ => { v := x, hit := false }

/-! ### Operands that a structure fetches (R171) -/

/-- The PID or the slew limiter is enabled. -/
def SlotHdr.control (h : SlotHdr) : Bool := h.pEn || h.iEn || h.dEn || h.slewEn

/-- Does learning take its error from operand 6 (R202)? -/
def Chip.lrnErrOp (c : Chip) (s : Nat) : Bool := c.bit (lrnK s 0) 30
/-- Is learning indexed by angle (R202)? -/
def Chip.lrnAngle (c : Chip) (s : Nat) : Bool := c.bit (lrnK s 0) 31

/-- The fetched operands of a slot, in order (R171, R216). -/
def Chip.fetched (c : Chip) (s : Nat) : List Nat :=
  let h := c.slotHdr s
  (if h.control then [0, 1] else []) ++ (List.range h.nff).map (· + 2) ++ (if h.trackEn then [5] else []) ++
  (if h.learnEn && c.lrnErrOp s then [6] else []) ++ (if h.learnEn && c.lrnAngle s then [7] else [])

/-! ### Cost (R171, R216) -/

/-- The cost of one output (R171). -/
def Chip.outCost (c : Chip) (s j : Nat) : Nat :=
  (match c.fld (outK s j 3) 30 2 with
   | 0 => 4 | 1 => 5 | _ => 2) + (if c.fld (outK s j 0) 25 3 = 5 then 2 else 0)

/-- The cost of the learning path (R216). -/
def Chip.learnCost (c : Chip) (s : Nat) : Nat :=
  if (c.slotHdr s).learnEn then
    8 + 4 + 10 * c.fld (lrnK s 0) 26 2 + 6 + 4 + 4 + 1 + (if c.fld (lrnK s 7) 0 25 = 0 then 0 else 1)
  else 0

/-- COST_OUT0 of R171: the part of the cost that precedes the release of output 0. -/
def Chip.costOut0 (c : Chip) (s : Nat) : Nat :=
  let h := c.slotHdr s
  10 + ((c.fetched s).map fun n => if c.opMode s n = 2 then 4 else 2).sum +
  (if h.slewEn then 4 else 0) + 7 * (h.nmeas + h.noutf) + (if h.pEn then 3 else 0) + (if h.iEn then 6 else 0) +
  (if h.dEn then 6 else 0) + 2 * h.nff + 2 + (if h.nout = 0 then 0 else c.outCost s 0) + (if h.groupEn then 12 else 0)

/-- COST of R171. -/
def Chip.slotCost (c : Chip) (s : Nat) : Nat :=
  let h := c.slotHdr s
  c.costOut0 s + 4 + (((List.range h.nout).drop 1).map (c.outCost s)).sum + h.nout + popCount 8 (h.record / 256) +
  c.learnCost s

/-! ### The learning store (R198 to R200, R208) -/

/-- The key of the word that holds sample `n` of the learning store: element n / 32, word n mod 32 / 2 (R200). -/
def sampleK (n : Nat) : Nat := elemKey (storeOf LOOP 0x10) (n / 32) (n % 32 / 2)

/-- Sample `n` of the learning store (R198, R200). -/
def Chip.lrnSample (c : Chip) (n : Nat) : Int := signed 16 (c.fld (sampleK n) (16 * (n % 2)) 16)

/-- Sample `n` set. -/
def Chip.setSample (c : Chip) (n : Nat) (v : Int) : Chip := c.setFld (sampleK n) (16 * (n % 2)) 16 (unsigned 16 v)

/-- Is the element of sample `n` poisoned (R198)? -/
def Chip.samplePoison (c : Chip) (n : Nat) : Bool := tab false c.elemPoison (elemKey (storeOf LOOP 0x10) (n / 32) 0)

/-- NBINS of slot `s` (R202). -/
def Chip.nbins (c : Chip) (s : Nat) : Nat := c.fld (lrnK s 1) 0 16 + 1
/-- The first sample of the slot's range (R199). -/
def Chip.firstSample (c : Chip) (s : Nat) : Nat := 4096 * c.fld (lrnK s 0) 11 11

/-- Bin `b` of slot `s`, taken as 0 when its element is poisoned or CLEAR runs (R203, R214, R220). -/
def Chip.bin (c : Chip) (s b : Nat) : Int :=
  let n := c.firstSample s + b
  if c.bit (lrnK s 11) 24 || c.samplePoison n then 0 else c.lrnSample n

/-- R208: the store read at a position in 1/65,536 bin, taken modulo NBINS. -/
def Chip.lrnAt (c : Chip) (s : Nat) (x : Int) : Rat :=
  let n := c.nbins s
  let p := (x % ((n * 65536 : Nat) : Int)).toNat
  let j := p / 65536
  let f : Rat := (p % 65536 : Nat) / (65536 : Rat)
  (1 - f) * (c.bin s j : Rat) + f * (c.bin s ((j + 1) % n) : Rat)

/-- R6: a rational rounded to nearest, ties away from zero. Log 45, DEDUCED. -/
def roundRat (q : Rat) : Int := roundDiv q.num q.den

/-! ### Checks of ENABLE (R195, R204) -/

/-- R204: the learning checks of ENABLE. -/
def Chip.learnBad (c : Chip) (s : Nat) : Bool :=
  let nb := c.nbins s
  let nseg := c.fld (lrnK s 0) 22 4 + 1
  let first := c.fld (lrnK s 0) 11 11
  let taps := c.fld (lrnK s 0) 26 2
  let q0 := signed 16 (c.fld (lrnK s 2) 0 16)
  let q1 := if taps ≥ 1 then signed 16 (c.fld (lrnK s 2) 16 16) else 0
  let q2 := if taps ≥ 2 then signed 16 (c.fld (lrnK s 3) 0 16) else 0
  let gamma := coefRat (c.word (lrnK s 9))
  let rho := coefRat (c.word (lrnK s 10))
  let overlap := c.loop.enabled.any fun t =>
    t != s && (c.slotHdr t).learnEn &&
      (let f2 := c.fld (lrnK t 0) 11 11
       let n2 := c.fld (lrnK t 0) 22 4 + 1
       first < f2 + n2 && f2 < first + nseg)
  nb > 4096 * nseg || first + nseg > 2048 || overlap ||
  taps = 3 || q0.natAbs + 2 * q1.natAbs + 2 * q2.natAbs > 32768 + 8 ||
  gamma ≤ 0 || gamma ≥ 2 || rho < 1 / 2 || rho > 1 ||
  (c.lrnAngle s && c.opMode s 7 != 0 && c.opMode s 7 != 2) ||
  (c.lrnErrOp s && c.opMode s 6 = 3 && c.opBit s 6 % 4 = 3) ||
  (!c.lrnAngle s && c.nat (lrnK s 4) * 4 < nb * c.fld (hdrK s 1) 0 16 * 125)

/-- R195, code 4: the structure is refused. -/
def Chip.structureBad (c : Chip) (s : Nat) : Bool :=
  let h := c.slotHdr s
  h.nmeas + h.noutf > 6 || h.nout > 8 ||
  ((List.range h.nout).any fun j => c.fld (outK s j 0) 28 4 > 8 || c.fld (outK s j 3) 30 2 = 3) ||
  ((c.fetched s).any fun n => c.opMode s n ≤ 1 && c.opBit s n + 15 > 63) ||
  !(c.fetched s).contains h.stampOp

/-- R183: a DC gain other than one in the output cascade: more than 2^-12 apart. -/
def Chip.dcBad (c : Chip) (s : Nat) : Bool :=
  let h := c.slotHdr s
  (List.range h.noutf).any fun k =>
    let i := h.nmeas + k
    let d := coefRat (c.bq s i 0) + coefRat (c.bq s i 1) + coefRat (c.bq s i 2) -
      (1 + coefRat (c.bq s i 3) + coefRat (c.bq s i 4))
    d > 1 / 4096 || d < -1 / 4096

/-- R183, R195 code 6: a group member is refused. -/
def Chip.groupBad (c : Chip) (s : Nat) : Bool :=
  let h := c.slotHdr s
  h.groupEn &&
  (c.fld (outK s 0 0) 28 4 != 0 || c.dcBad s ||
   (c.loop.enabled.filter fun t => t != s && (c.slotHdr t).groupEn && (c.slotHdr t).group = h.group).length ≥ 8)

/-- R46: the class-5 record rate over the enabled slots and slot `s`, in bytes per ns. -/
def Chip.dramRate (c : Chip) (s : Nat) : Rat :=
  (((c.loop.enabled.filter (· != s)) ++ [s]).map fun t =>
    let h := c.slotHdr t
    let n := ((List.range h.nout).filter fun j => c.fld (outK t j 0) 25 3 = 5).length
    if h.period = 0 then (0 : Rat) else ((n * 128 * 4 : Nat) : Rat) / ((h.period * 125 : Nat) : Rat)).foldl (· + ·) 0

/-- The slots that count as fast (R158). -/
def Chip.fastSlots (c : Chip) : Nat := (c.loop.enabled.filter fun t => (c.slotHdr t).period < 500).length

end Sys2Proof.Machine
end

