-- ==== Sys2Proof/Machine/Loop.lean ====
section
/-! DEFINITION. The Loop Array (05_loop_array) and repetitive learning (06_repetitive_learning): one execution of a slot,
the learning path, slot commands, hand-over groups. -/

namespace Sys2Proof.Machine

/-- What a slot keeps outside its elements. -/
def Chip.slotRun (c : Chip) (s : Nat) : SlotRun := tab {} c.loop.slots s
/-- What a slot keeps outside its elements changes. -/
def Chip.setSlotRun (c : Chip) (s : Nat) (x : SlotRun) : Chip :=
  { c with loop := { c.loop with slots := tabPut {} c.loop.slots s x } }

/-- A sticky bit of the slot's STAT (R188). -/
def Chip.slotFlag (c : Chip) (s i : Nat) (b : Bool) : Chip := if b then c.setBit (hdrK s 6) i true else c

/-- A sixteen-bit counter of the slot's header (R188). -/
def Chip.slotCount (c : Chip) (s w lo : Nat) : Chip := c.countFld (hdrK s w) lo 16

/-- LOOP_FAST_SLOTS and LOOP_ENABLED follow the enabled slots (R194). -/
def Chip.syncSlots (c : Chip) : Chip :=
  (c.setNat (loopA 0x108) (c.fastSlots % 512)).setNat (loopA 0x10C) (c.loop.enabled.length % 8192)

/-- A slot is disabled: COST reads 0xFF_FFFF again (R172). -/
def Chip.slotOff (c : Chip) (s : Nat) : Chip :=
  let c := { c with loop := { c.loop with enabled := c.loop.enabled.filter (· != s) } }
  (((c.setBit (hdrK s 0) 31 false).setFld (hdrK s 4) 0 24 0xFF_FFFF).setFld (hdrK s 5) 0 24 0xFF_FFFF).syncSlots

/-- R164: an execution is skipped: it changes no state, and is counted. -/
def Chip.skipExec (c : Chip) (s : Nat) : Chip := (c.slotCount s 8 16).count (loopA 0x038)

/-- A module of a pair asks its twin for a poisoned element on die (R197, R220, R511). -/
def Chip.askElem (c : Chip) (k : Nat) : Chip := if c.linkUp then c.out (.pair (.repair true k)) else c

/-- R197: SLOT_FAULT: a state element is found poisoned: the slot is disabled and, in a pair, its repair is asked for. -/
def Chip.slotFault (c : Chip) (s : Nat) : Chip :=
  let k := slotK s 0x08 0
  let c := { c with elemPoison := tabPut false c.elemPoison k true }
  (((c.slotOff s).slotFlag s 9 true).cause LOOP 0 5).askElem k

/-! ### Operands (R162 to R164) -/

/-- A fetched operand. -/
structure Operand where
  n : Nat
  v : Int := 0
  hit : Bool := false
  stamp : Stamp := 0
  gen : Option Nat := none
  stale : Bool := false
  held : Bool := false
  skip : Bool := false
  deriving DecidableEq, Repr

/-- The Q15 value of an operand from its source values (R162). -/
def convertOperand (mode bit : Nat) (a b : Nat) : Nar :=
  match mode with
  | 0 => { v := signed 16 (a >>> bit), hit := false }
  | 1 => { v := signed 16 ((a >>> bit) % 65536 ^^^ 0x8000), hit := false }
  | _ =>
    let d := roundShift (signed 64 a - signed 64 b) bit
    { v := satS 16 d, hit := satHit 16 d }

/-- R206: the angle that operand 7 gives, before DIR: a field taken as unsigned, or a difference without saturation. -/
def angleOperand (mode bit : Nat) (a b : Nat) : Nar :=
  { v := if mode = 0 then ((a >>> bit) % 65536 : Nat) else (signed 64 a - signed 64 b).fdiv (2 ^ bit : Nat) % 65536, hit := false }

/-- R162 to R164, R206: operand `n` of slot `s`; a PARAM operand carries the trigger's stamp. -/
def Chip.fetchOperand (src : Chip → Nat → SrcVal) (c : Chip) (s n : Nat) (trig : Stamp) : Operand :=
  let m := c.opMode s n
  let bit := c.opBit s n
  if m = 3 then
    { n := n, stamp := trig,
      v := if bit % 4 = 3 then 0 else signed 16 (c.nat (ctlK s + 4 + 4 * (bit % 4))) }
  else
    let x := src c (c.opSrc s n)
    let y := if m = 2 && !(n = 7 && c.opSrc2 s n = 0) then (src c (c.opSrc2 s n)).v else 0
    let r := if n = 7 then angleOperand m bit x.v y else convertOperand m bit x.v y
    let run := c.slotRun s
    let stale := match x.gen with
      | some g => decide (tab 0 run.lastGen n = g + 1)
      | none => false
    let skipping := (c.slotHdr s).settleSkip
    { n := n, stamp := x.stamp, gen := x.gen, stale := stale, held := x.settling && !skipping,
      skip := x.settling && skipping, hit := r.hit,
      v := if x.settling then tab 0 run.lastVal n else r.v }

/-! ### The learning path (R205 to R215, R219, R220) -/

/-- What the control law hands to the learning path. -/
structure LearnIn where
  stamp : Stamp
  err : Int
  errStale : Bool
  aw : Int
  blending : Bool
  angle : Nat
  fresh : Bool
  deriving DecidableEq, Repr

/-- The bins an execution at position `p` reads for the update (R209). -/
def binsRead (nb h p : Nat) : List Nat :=
  (List.range (2 * h + 2)).map fun k => (p / 65536 + nb * 4 + k - h) % nb

/-- R214: the freeze reason of an execution, 0 when it updates. Log 45, DEDUCED. -/
def Chip.freezeWhy (c : Chip) (s : Nat) (x : LearnIn) (poison : Bool) (left : Nat) (a : Int) : Nat :=
  if c.bit (lrnK s 11) 24 then 8
  else if x.blending then 3
  else if (c.slotRun s).resync then 9
  else if poison then 10
  else if c.bit (lrnK s 8) 31 then 1
  else if left > 0 then 4
  else if x.aw != 0 then 2
  else if x.errStale then 7
  else if a < (c.fld (lrnK s 3) 16 16 : Int) || a ≤ 0 then 5
  else if a > 65536 then 6
  else 0

/-- R209: the target of the update. Log 45, DEDUCED. -/
def Chip.lrnTarget (c : Chip) (s p : Nat) (a err : Int) : Rat :=
  let h := c.fld (lrnK s 0) 26 2
  let tap (k : Nat) : Rat := (signed 16 (if k = 0 then c.fld (lrnK s 2) 0 16 else if k = 1 then c.fld (lrnK s 2) 16 16
    else c.fld (lrnK s 3) 0 16) : Rat) / 32768
  let side := ((List.range h).map fun k =>
    tap (k + 1) * (c.lrnAt s ((p : Int) - (k + 1) * 65536) + c.lrnAt s ((p : Int) + (k + 1) * 65536))).foldl (· + ·) 0
  let q := tap 0 * c.lrnAt s p + side
  let g : Rat := if c.bit (lrnK s 0) 29 then ((min a.natAbs 65536 : Nat) : Rat) / 65536 else 1
  coefRat (c.word (lrnK s 10)) * q + coefRat (c.word (lrnK s 9)) * g * (err : Rat)

/-- R209, steps 5 and 6, R219: the two bins around `p` take their shares of the correction, which enters the repetition's digest; the
mark says one saturated. Log 45, DEDUCED. -/
def Chip.lrnUpdate (c : Chip) (s p : Nat) (a err : Int) : Chip × Bool :=
  let nb := c.nbins s
  let corr := c.lrnTarget s p a err - c.lrnAt s p
  let j := p / 65536
  let f : Rat := (p % 65536 : Nat) / (65536 : Rat)
  let n0 := roundRat ((c.bin s j : Rat) + (1 - f) * corr)
  let n1 := roundRat ((c.bin s ((j + 1) % nb) : Rat) + f * corr)
  let c := c.setSample (c.firstSample s + j) (satS 16 n0)
  let c := c.setSample (c.firstSample s + (j + 1) % nb) (satS 16 n1)
  let run := c.slotRun s
  let c := c.setSlotRun s { run with digest := Config.digestStep run.digest corr.num corr.den }
  (c, satHit 16 n0 || satHit 16 n1)

/-- R220: a module alone zeroes a poisoned element, which clears its mark. -/
def Chip.zeroElement (c : Chip) (e : Nat) : Chip :=
  let k := elemKey (storeOf LOOP 0x10) e 0
  let c := c.clearWords k (k + 16)
  { c with elemPoison := tabPut false c.elemPoison k false }

/-- R198: the elements of `bad` that hold one of the bins about to be read are found poisoned at their fourth reading. -/
def Chip.lrnFound (c : Chip) (s : Nat) (bins bad : List Nat) : Chip :=
  c.each bins fun c b =>
    let e := (c.firstSample s + b) / 32
    if bad.contains e then { c with elemPoison := tabPut false c.elemPoison (elemKey (storeOf LOOP 0x10) e 0) true } else c

/-- The end of a repetition (R219): LRN_DIGEST, REPS, and the lead's digest for its twin. -/
def Chip.lrnRepEnd (c : Chip) (s : Nat) : Chip :=
  let d := (c.slotRun s).digest
  let reps := c.nat (lrnK s 15) + 1
  let c := (c.setWord (lrnK s 13) d).setNat (lrnK s 15) reps
  let c := c.setSlotRun s { c.slotRun s with digest := 0 }
  if c.role = 3 && c.linkUp then c.out (.pair (.learnDigest s (reps % 2 ^ 32) d)) else c

/-- The learning path of one execution (R205 to R215); `bad` names elements of the store whose check fails persistently at this
reading (R198). The corrections of an execution that ends a repetition belong to the next one. Log 45, DEDUCED. -/
def Chip.learnPath (c : Chip) (s : Nat) (x : LearnIn) (bad : List Nat) : Chip :=
  let run := c.slotRun s
  let nb := c.nbins s
  let rep := c.nat (lrnK s 4)
  let t := x.stamp.ns
  let phi := if c.bit (lrnK s 0) 28 then (65536 - x.angle) % 65536 else x.angle
  let noPrev := run.noPrev || x.fresh
  let angle := c.lrnAngle s
  let p : Nat :=
    if angle then phi * nb
    else ((((t : Int) - c.u64 (lrnK s 5)) % (rep : Int)).toNat * nb * 65536) / rep
  let a : Int :=
    if noPrev then 0
    else if angle then ((((phi : Int) - run.phiPrev + 32768) % 65536) - 32768) * nb
    else (((t : Int) - run.tPrev) * nb * 65536).tdiv rep
  let freezeN := c.fld (lrnK s 1) 16 8
  let unfrozen := run.frozenI && !c.bit (ctlK s) 31
  let c := if noPrev || unfrozen then c.setFld (lrnK s 11) 0 8 freezeN else c
  let left := c.fld (lrnK s 11) 0 8
  let lead := c.fld (lrnK s 1) 24 8
  let next : Int := (p : Int) + (1 + lead : Nat) * a
  let nextP := (next % ((nb * 65536 : Nat) : Int)).toNat
  let bins := binsRead nb (c.fld (lrnK s 0) 26 2) p ++ binsRead nb 0 nextP
  let c := c.lrnFound s bins bad
  let met := bins.filter fun b => c.samplePoison (c.firstSample s + b)
  let wraps := !noPrev && a > 0 && (decide (p < run.pos) || decide (a ≥ ((nb * 65536 : Nat) : Int)))
  let c := if wraps then c.lrnRepEnd s else c
  let why := c.freezeWhy s x (!met.isEmpty) left a
  let (c, hit) := if why = 0 then c.lrnUpdate s p a x.err else (c, false)
  let c := c.slotFlag s 3 hit
  let c := if why = 0 then c else c.countFld (lrnK s 14) 16 16
  let c := if why = 6 then c.countFld (lrnK s 14) 0 16 else c
  let ul := satS 16 (roundRat (c.lrnAt s next))
  let c := if met.isEmpty then c
    else
      let c := c.setBit (lrnK s 11) 25 true
      let es := (met.map fun b => (c.firstSample s + b) / 32).eraseDups
      if c.paired then c.each es fun c e => c.askElem (elemKey (storeOf LOOP 0x10) e 0) else c.each es Chip.zeroElement
  let c := (c.setBit (lrnK s 11) 31 (why = 0)).setFld (lrnK s 11) 26 4 why
  let c := if left > 0 then c.setFld (lrnK s 11) 0 8 (left - 1) else c
  let c := c.setNat (lrnK s 12) p
  let sig := c.fld (lrnK s 7) 0 25
  let c := if sig = 0 then c else c.sample sig ul x.stamp
  c.setSlotRun s { c.slotRun s with ulNext := ul, pos := p, tPrev := t, phiPrev := phi, noPrev := false,
                                    frozenI := c.bit (ctlK s) 31 }

/-! ### One execution (R165 to R178, R183 to R187) -/

/-- Every quantity of one execution of the control law. -/
structure Law where
  yf : Int
  mst : List (Nat × Int × Int)
  rs : Int
  ei : Int
  ed : Int
  pTerm : Int
  iTerm : Int
  iNew : Int
  dNew : Int
  v : Int
  u : Int
  ost : List (Nat × Int × Int)
  usat : Int
  aw : Int
  satHi : Bool
  satLo : Bool
  iSat : Bool
  intSat : Bool
  /-- the clamp of the back-solve changed I_req (R186) -/
  blend : Bool
  deriving DecidableEq, Repr

/-- R165: the slewed setpoint. Log 44, DEDUCED. -/
def slewStep (prev r up dn : Int) : Nar :=
  let d := min (max (r - prev) (-dn)) up
  toState (prev + d)

/-- R165 to R169, R185: the control law of slot `s`; `takes` on the hand-over sample, `active` for a slot that holds the
token or stands in no group. The output cascade's preset of R185 has been stored before. Log 44, DEDUCED. -/
def Chip.controlLaw (c : Chip) (s : Nat) (val : Nat → Int) (takes active : Bool) (uPrev : Int) : Law :=
  let h := c.slotHdr s
  let run := c.slotRun s
  let r := val 0
  let (yf, mst, mhit) := c.cascade s 0 (val 1) h.nmeas
  let k (i : Nat) := c.coef s i
  let prev := if takes then (if h.rsInit then q31 yf else q31 r) else c.slotState s 0
  let rs : Nar := if h.slewEn then slewStep prev (q31 r) (k 11).toNat (k 12).toNat else { v := q31 r, hit := false }
  let ep := toQ15 (accAdd (coefProd (k 0) (stateQ15 rs.v)) (-(q31 yf)))
  let ei := toQ15 (accAdd rs.v (-(q31 yf)))
  let ed := toQ15 (accAdd (coefProd (k 1) (stateQ15 rs.v)) (-(q31 yf)))
  let edPrev := if run.first then ed.v else signed 16 (c.fld (slotK s 0x08 3) 0 16)
  let pT := if h.pEn then coefProd (k 2) ep.v else 0
  let dT : Nar := if h.dEn then
      toState (accAdd (coefProd (k 5) (stateQ15 (c.slotState s 2))) (coefProd (k 4) (satS 16 (ed.v - edPrev))))
    else { v := 0, hit := false }
  let ff := ((List.range h.nff).map fun j => coefProd (k (7 + j)) (val (2 + j))).foldl accAdd 0
  let bias := let b := signed 16 (getBits (k 10) 0 16)
    if h.learnEn && !c.bit (lrnK s 11) 24 then satS 16 (b + run.ulNext) else b
  let iOld := c.slotState s 1
  let iMin := signed 32 (k 15).toNat
  let iMax := signed 32 (k 14).toNat
  let awPrev := signed 16 (c.fld (slotK s 0x08 3) 16 16)
  let raw : Int :=
    if takes then (toState (q31 uPrev - (accAdd (accAdd (accAdd pT dT.v) ff) (q31 bias)))).v
    else accAdd (accAdd iOld (coefProd (k 3) ei.v)) (coefProd (k 6) awPrev)
  let works := h.iEn && active && (takes || !c.bit (ctlK s) 31)
  let iNew := if works then clampI iMin iMax raw else iOld
  let iSat := works && iNew != raw
  let iTerm := if h.iEn then iNew else 0
  let v := toQ15 (accAdd (accAdd (accAdd (accAdd pT iTerm) dT.v) ff) (q31 bias))
  let (u, ost, ohit) := c.cascade s h.nmeas v.v h.noutf
  let uMin := signed 16 (getBits (k 13) 16 16)
  let uMax := signed 16 (getBits (k 13) 0 16)
  let usat := min (max u uMin) uMax
  let aw := satS 16 ((if h.trackEn then val 5 else usat) - u)
  { yf := yf, mst := mst, rs := rs.v, ei := ei.v, ed := ed.v, pTerm := pT, iTerm := iTerm, iNew := iNew,
    dNew := dT.v, v := v.v, u := u, ost := ost, usat := usat, aw := aw, satHi := u > uMax, satLo := u < uMin,
    iSat := iSat,
    intSat := mhit || rs.hit || ei.hit || (h.pEn && ep.hit) || (h.dEn && (ed.hit || dT.hit)) || v.hit || ohit,
    blend := takes && iSat }

/-- R173: the Q15 signal that SIG selects. Log 44, DEDUCED. -/
def Law.signal (l : Law) (sig : Nat) : Int :=
  match sig with
  | 0 => l.usat
  | 1 => l.v
  | 2 => l.ei
  | 3 => (toQ15 l.pTerm).v
  | 4 => (toQ15 l.iTerm).v
  | 5 => (toQ15 l.dNew).v
  | 6 => (toQ15 l.rs).v
  | 7 => l.yf
  | _ => l.u

/-- R178: the internal signal of RECORD_MASK bit `b`. Log 44, DEDUCED. -/
def Law.recorded (l : Law) (b : Nat) : Int :=
  match b with
  | 8 => l.ei
  | 9 => (toQ15 l.pTerm).v
  | 10 => (toQ15 l.iTerm).v
  | 11 => (toQ15 l.dNew).v
  | 12 => (toQ15 l.rs).v
  | 13 => l.yf
  | 14 => l.v
  | _ => l.u

/-- R186: the blended value of sample `n` of a blend of `tot` samples, limited by HO_SLEW and the output limit. -/
def blendValue (base usat last slew uMin uMax : Int) (n tot : Nat) : Int :=
  let w : Int := min (n * ceilDiv 32768 tot) 32768
  let x := base + roundDiv (w * (usat - base)) 32768
  let x := if slew = 0 then x else clampI (last - slew) (last + slew) x
  min (max x uMin) uMax

/-- States of cascade sections stored (R192). -/
def Chip.storeSections (c : Chip) (s : Nat) (l : List (Nat × Int × Int)) : Chip :=
  c.each l fun c e => (c.setNat (slotK s 0x08 (4 + 2 * e.1)) (unsigned 32 e.2.1)).setNat (slotK s 0x08 (5 + 2 * e.1))
    (unsigned 32 e.2.2)

/-- R185, step 2: the output cascade preset to the steady state at `u`. Log 44, DEDUCED. -/
def Chip.presetOut (c : Chip) (s : Nat) (u : Int) : Chip :=
  let h := c.slotHdr s
  c.storeSections s ((List.range h.noutf).map fun k =>
    let i := h.nmeas + k
    (i, bqSteady (c.bq s i 0) (c.bq s i 2) (c.bq s i 4) u))

/-- R184: the incoming slot takes the token. -/
def Chip.takeToken (c : Chip) (g s : Nat) : Chip :=
  ((c.setFld (grpK g 0) 0 12 s).setFld (grpK g 0) 29 2 0).setFld (grpK g 1) 24 8 0

/-- R186: a blend begins on the hand-over sample. -/
def Chip.beginBlend (c : Chip) (g : Nat) (uPrev : Int) : Chip :=
  let n := c.fld (grpK g 1) 16 8
  let c := (c.setFld (grpK g 3) 0 16 (unsigned 16 uPrev)).setFld (grpK g 1) 24 8 n
  let c := { c with loop := { c.loop with blendOf := tabPut 0 c.loop.blendOf g n } }
  ((c.setBit (grpK g 0) 29 (n > 0)).count (loopA 0x040)).cause LOOP 0 3

/-- R186: one sample of a running blend is used up. -/
def Chip.stepBlend (c : Chip) (g : Nat) : Chip :=
  let l := c.fld (grpK g 1) 24 8
  (c.setFld (grpK g 1) 24 8 (l - 1)).setBit (grpK g 0) 29 (l > 1)

/-- R176: the stamp of an execution: that of STAMP_OP, or the earliest by NS and FRAC. -/
def stampOfRun (h : SlotHdr) (ops : List Operand) : Stamp :=
  match ops.find? (·.n == h.stampOp) with
  | none => 0
  | some o =>
    if h.stampOldest then
      (ops.foldl (fun (b : Operand) e => if e.stamp.toNat / 2 ^ 16 < b.stamp.toNat / 2 ^ 16 then e else b) o).stamp
    else o.stamp

/-- The result word of slot `s` (R196). -/
def slotResult (s : Nat) : Nat := pageAddr LOOP (1 + s / 128) (0x800 + 8 * (s % 128))

/-- An execution with its operands at hand (R165 to R178, R183 to R187, R209): the module after it, and the outputs. `bad` names
elements of the learning store that are found poisoned (R198).
Log 44, DEDUCED. -/
def Chip.runSlot (c : Chip) (s : Nat) (ops : List Operand) (bad : List Nat) : Chip × List HeldOut :=
  let h := c.slotHdr s
  let g := h.group
  let inGroup := h.groupEn
  let takes := inGroup && c.bit (grpK g 0) 31 && c.fld (grpK g 0) 12 12 = s && c.fld (grpK g 0) 0 12 != s
  let active := !inGroup || takes || c.fld (grpK g 0) 0 12 = s
  let last := signed 16 (c.fld (grpK g 2) 0 16)
  let uPrev := last
  let c := if takes then (c.takeToken g s).presetOut s uPrev else c
  let val (n : Nat) : Int := match ops.find? (·.n == n) with
    | some o => o.v
    | none => 0
  let l := c.controlLaw s val takes active uPrev
  let c := if takes then (if l.blend then c.beginBlend g uPrev else c.cause LOOP 0 2) else c
  let blending := inGroup && active && c.bit (grpK g 0) 29
  let left := c.fld (grpK g 1) 24 8
  let tot := tab 0 c.loop.blendOf g
  let uOut :=
    if blending then
      blendValue (signed 16 (c.fld (grpK g 3) 0 16)) l.usat last (c.fld (grpK g 1) 0 16)
        (signed 16 (getBits (c.coef s 13) 16 16)) (signed 16 (getBits (c.coef s 13) 0 16)) (tot - left + 1) tot
    else l.usat
  let stamp := stampOfRun h ops
  let sig0 := c.fld (outK s 0 0) 28 4
  let x (j : Nat) : Int :=
    let sg := c.fld (outK s j 0) 28 4
    if j = 0 && sg = 0 then uOut else l.signal sg
  let outs := (List.range h.nout).map fun j => (j, c.convert s j (x j))
  let data : Word :=
    if h.nout = 0 then BitVec.ofInt 32 (l.signal sig0) else BitVec.ofInt 32 (c.convert s 0 (x 0)).v
  let stale := ops.any (·.stale)
  let held := ops.any (·.held)
  let intSat := l.intSat || ops.any (·.hit) || outs.any (·.2.hit)
  let info := b2n l.satHi + 2 * b2n l.satLo + 4 * b2n l.iSat + 8 * b2n intSat + 16 * b2n l.blend + 32 * b2n stale +
    64 * b2n held + 128 * b2n (!active)
  -- the outputs leave; the slot's result word follows output 0 (R175, R196)
  let c := c.newResult (slotResult s) data info stamp
  let c := if inGroup && active then c.setFld (grpK g 2) 0 16 (unsigned 16 (if blending then uOut else l.usat)) else c
  let c := if blending then c.stepBlend g else c
  -- sticky flags and counters (R170, R188)
  let c := ((((((c.slotFlag s 0 l.satHi).slotFlag s 1 l.satLo).slotFlag s 2 l.iSat).slotFlag s 3 intSat).slotFlag s 4
    l.blend).slotFlag s 5 stale).slotFlag s 6 held
  let c := if l.satHi || l.satLo then c.slotCount s 9 0 else c
  let c := if stale then c.slotCount s 9 16 else c
  -- the state store (R192); an inactive member keeps I, aw and its output cascade (R183)
  let c := c.setNat (slotK s 0x08 0) (unsigned 32 l.rs)
  let c := if h.dEn then c.setNat (slotK s 0x08 2) (unsigned 32 l.dNew) else c
  let c := c.setFld (slotK s 0x08 3) 0 16 (unsigned 16 l.ed)
  let c := c.storeSections s l.mst
  let c := if active then
      ((c.setNat (slotK s 0x08 1) (unsigned 32 l.iNew)).setFld (slotK s 0x08 3) 16 16 (unsigned 16 l.aw)).storeSections s
        l.ost
    else c
  let run := c.slotRun s
  let c := c.setSlotRun s { run with
    first := false,
    lastGen := ops.foldl (fun t o => match o.gen with
      | some gn => tabPut 0 t o.n (gn + 1)
      | none => t) run.lastGen,
    lastVal := ops.foldl (fun t o => if o.held then t else tabPut 0 t o.n o.v) run.lastVal }
  -- samples (R178); an inactive member issues none (R183)
  let c := if active then
      let c := c.each outs fun c e => c.sample (h.sigBase + e.1) e.2.v stamp
      c.each ((List.range 16).filter fun b => 8 ≤ b && natBit h.record b) fun c b =>
        c.sample (h.sigBase + b) (l.recorded b) stamp
    else c
  -- the learning path (R209, R213)
  let c := if h.learnEn && active then
      let op6 := ops.find? (·.n == 6)
      c.learnPath s
        { stamp := stamp, err := if c.lrnErrOp s then val 6 else l.ei,
          errStale := c.lrnErrOp s && (match op6 with
            | some o => o.stale || o.held
            | none => false),
          aw := l.aw, blending := blending, angle := (val 7).toNat, fresh := takes } bad
    else c
  let k := c.nat (hdrK s 7)
  let c := c.setNat (hdrK s 7) (k + 1)
  (c, if active then outs.map fun e => { slot := s, k := e.1, value := e.2.v, stamp := stamp, exec := k } else [])

/-- R158: the spacing of the slot's triggers. -/
def Chip.checkSpacing (c : Chip) (s : Nat) (trig : Stamp) : Chip :=
  let run := c.slotRun s
  let p := c.fld (hdrK s 1) 0 16
  let c := c.setSlotRun s { run with prevTrig := some trig.fine }
  match run.prevTrig with
  | none => c
  | some t =>
    let d := (trig.fine - t) * 32
    if d < 875 * p * 2 ^ 16 || d > 1125 * p * 2 ^ 16 then c.slotCount s 8 0 else c

/-- LOOP_EXECUTION (R164, R172, R175, R195, R197): slot `s` runs once for a task of declared cost `cost`; bit n of
`poison` says that operand n arrived poisoned, and bit 8 that the slot's state element is found poisoned; `bad` names such elements
of the learning store. The outputs are handed on. -/
def Chip.runSlotFor (src : Chip → Nat → SrcVal) (c : Chip) (s cost poison : Nat) (bad : List Nat) (trig : Stamp) :
    Chip × List HeldOut :=
  if !slotPresent c.part s || !(c.slotHdr s).enabled then (c, [])
  else if natBit poison 8 || tab false c.elemPoison (slotK s 0x08 0) then (c.slotFault s, [])
  else
    let c := c.checkSpacing s trig
    if cost < c.fld (hdrK s 4) 0 24 then (((c.slotFlag s 8 true).skipExec s).cause LOOP 0 4, [])
    else
      let fs := c.fetched s
      if fs.any (natBit poison ·) then
        ((((c.slotFlag s 7 true).count (loopA 0x034)).skipExec s).cause LOOP 0 1, [])
      else
        let ops := fs.map fun n => Chip.fetchOperand src c s n trig
        if ops.any (·.skip) then (c.skipExec s, [])
        else c.runSlot s ops bad

/-! ### Slot commands (R194, R195) -/

/-- LOOP_SLOT_RESP of partition `p`. -/
def slotRespK (p : Nat) : Nat := viewKey p (loopA 0x104)

/-- Does an admitted task name the slot (R195, code 7)? -/
def Chip.slotAdmitted (c : Chip) (s : Nat) : Bool :=
  c.hoi.admitted.any fun i => c.kind i = 0 && c.fld (dK i 2) 0 12 == s

/-- R174: a destination of class 1 to 4 that the slot's owner does not own. -/
def Chip.destBad (c : Chip) (s : Nat) : Bool :=
  (List.range (c.slotHdr s).nout).any fun j =>
    let d := c.fld (outK s j 0) 25 3
    1 ≤ d && d ≤ 4 && c.ownerAt (c.fld (outK s j 0) 0 25) != c.slotOwner s

/-- R195: the code of ENABLE. -/
def Chip.enableCode (c : Chip) (p s : Nat) : Nat :=
  let h := c.slotHdr s
  if !slotPresent c.part s then 2
  else if c.slotOwner s != p then 1
  else if h.enabled then 0
  else if h.period < 250 || h.period > 32000 || (h.period < 500 && c.fastSlots ≥ 256) then 3
  else if c.structureBad s then 4
  else if c.destBad s then 5
  else if c.groupBad s then 6
  else if h.sigBase = 0 || h.sigBase + 15 > 33554431 then 8
  else if h.learnEn && c.learnBad s then 9
  else if c.dramRate s > 8 then 10
  else 0

/-- R195, R172, R167: a slot is enabled, with its cost published. -/
def Chip.slotOn (c : Chip) (s : Nat) : Chip :=
  if (c.slotHdr s).enabled then c
  else
    let c := ((c.setFld (hdrK s 4) 0 24 (c.slotCost s)).setFld (hdrK s 5) 0 24 (c.costOut0 s)).setBit (hdrK s 0) 31 true
    let c := { c with loop := { c.loop with enabled := c.loop.enabled ++ [s] } }
    (c.setSlotRun s { ulNext := (c.slotRun s).ulNext, lastVal := (c.slotRun s).lastVal }).syncSlots

/-- R195: the code of DISABLE and RESET_STATE (checks 1, 2 and 7) and of CLEAR_STAT (checks 1 and 2). -/
def Chip.plainCode (c : Chip) (p s : Nat) (check7 : Bool) : Nat :=
  if !slotPresent c.part s then 2
  else if c.slotOwner s != p then 1
  else if check7 && c.slotAdmitted s then 7
  else 0

/-- R192: every state word of the slot is 0, which ends the poison of the element (R47); the learning position is forgotten (R207). -/
def Chip.slotClearState (c : Chip) (s : Nat) : Chip :=
  let c := c.clearWords (slotK s 0x08 0) (slotK s 0x08 16)
  let c := { c with elemPoison := tabPut false c.elemPoison (slotK s 0x08 0) false }
  c.setSlotRun s { c.slotRun s with ulNext := 0, noPrev := true }

/-- R195, R203: sticky status and counters are cleared. -/
def Chip.slotClearStat (c : Chip) (s : Nat) : Chip :=
  ((((c.setFld (hdrK s 6) 0 10 0).setNat (hdrK s 7) 0).setNat (hdrK s 8) 0).setNat (hdrK s 9) 0).setBit (lrnK s 11) 25
    false

/-- A slot command comes to its turn: its effect, with its code noted. Log 43, DEDUCED. -/
def Chip.startSlotCmd (c : Chip) : Chip :=
  match c.loop.cmds with
  | [] => c
  | q :: r =>
    let code := match q.cmd with
      | 1 => c.enableCode q.p q.slot
      | 2 => if slotPresent c.part q.slot && c.slotOwner q.slot == q.p && !(c.slotHdr q.slot).enabled then 0
        else c.plainCode q.p q.slot true
      | 3 => c.plainCode q.p q.slot true
      | _ => c.plainCode q.p q.slot false
    let c := if code = 0 then
        (match q.cmd with
         | 1 => c.slotOn q.slot
         | 2 => if (c.slotHdr q.slot).enabled then c.slotOff q.slot else c
         | 3 => c.slotClearState q.slot
         | 4 => c.slotClearStat q.slot
         | _ => c)
      else c
    { c with loop := { c.loop with cmds := { q with code := code } :: r } }

/-- A write of LOOP_SLOT_CMD by partition `p` (R194, R586). Log 43, DEDUCED. -/
def Chip.slotCmdWrite (c : Chip) (p : Nat) (d : Word) : Chip :=
  if c.bit (slotRespK p) 31 then c.logErr ecWinBusy p (loopA 0x100)
  else
    let s := getBits d 0 12
    let c := c.setNat (slotRespK p) (2 ^ 31 + s)
    let idle := c.loop.cmds.isEmpty
    let c := { c with loop := { c.loop with cmds := c.loop.cmds ++ [{ p := p, cmd := getBits d 28 4, slot := s }] } }
    if idle then c.startSlotCmd else c

/-- SLOT_CMD_DONE (R194): the command in progress ends; the next one starts. Log 43, DEDUCED. -/
def Chip.slotCmdDone (c : Chip) : Chip :=
  match c.loop.cmds with
  | [] => c
  | q :: r =>
    let c := { c with loop := { c.loop with cmds := r } }
    let c := (c.setNat (slotRespK q.p) (2 ^ 30 + q.code * 2 ^ 24 + q.slot)).cause LOOP 0 0
    c.startSlotCmd

/-! ### Slot control, groups and learning registers (R180, R182, R187, R201, R203, R204, R215) -/

/-- A mode change sets FREEZE_LEFT = FREEZE_N (R215). -/
def Chip.modeChange (c : Chip) (s : Nat) : Chip := c.setFld (lrnK s 11) 0 8 (c.fld (lrnK s 1) 16 8)

/-- R180, R215: a write of LOOP_SLOT_CTL, and with it of BANK, which is a mode change whether or not BANK changes. -/
def Chip.slotCtlWrite (c : Chip) (s : Nat) (d : Word) : Chip := (c.setWord (ctlK s) (d &&& 0xE000_0000#32)).modeChange s

/-- Is slot `s` a member of group `g` (R183)? -/
def Chip.memberOf (c : Chip) (g s : Nat) : Bool := slotPresent c.part s && (c.slotHdr s).groupEn && (c.slotHdr s).group = g

/-- R182, R187: a write by master `m` of word `k` of hand-over group `g`. Log 44, DEDUCED. -/
def Chip.groupWrite (c : Chip) (m g k : Nat) (d : Word) : Chip :=
  if k = 0 then
    let req := getBits d 12 12
    let was := c.bit (grpK g 0) 31
    let en := d.getLsbD 31
    if (req != c.fld (grpK g 0) 12 12 || (en && !was)) && !c.memberOf g req then c.logErr ecNotOwner m (grpK g 0)
    else
      let c := (c.setBit (grpK g 0) 31 en).setFld (grpK g 0) 12 12 req
      -- the slot that is given the token has no previous position (R207)
      let c := if en && !was then
          (c.when (c.fld (grpK g 0) 0 12 != req) fun c => c.setSlotRun req { c.slotRun req with noPrev := true }).setFld
            (grpK g 0) 0 12 req
        else c
      c.setBit (grpK g 0) 30 (en && c.fld (grpK g 0) 0 12 != req)
  else if k = 1 then c.setFld (grpK g 1) 0 24 (getBits d 0 24)
  else c

/-- The bins of slot `s` set to 0 (R203). -/
def Chip.clearBins (c : Chip) (s : Nat) : Chip :=
  let f := c.firstSample s
  let n := c.nbins s
  c.each (List.range n) fun c b => if c.lrnSample (f + b) = 0 then c else c.setSample (f + b) 0

/-- R203: a write of LOOP_LRN_CTL: FREEZE, and CLEAR begins, with the learning term at 0. -/
def Chip.lrnCtlWrite (c : Chip) (s : Nat) (d : Word) : Chip :=
  let clear := c.bit (lrnK s 8) 30 || d.getLsbD 30
  let c := (c.setWord (lrnK s 8) (d &&& 0x8000_0000#32)).setBit (lrnK s 8) 30 clear
  if d.getLsbD 30 then (c.setBit (lrnK s 11) 24 true).setSlotRun s { c.slotRun s with ulNext := 0 } else c

/-- LEARN_CLEAR_DONE (R203). -/
def Chip.lrnClearDone (c : Chip) (s : Nat) : Chip :=
  if c.bit (lrnK s 11) 24 then ((c.clearBins s).setBit (lrnK s 8) 30 false).setBit (lrnK s 11) 24 false else c

/-- R204, R215: a write by master `m` of GAMMA or RHO. -/
def Chip.lrnGainWrite (c : Chip) (m s : Nat) (rho : Bool) (d : Word) : Chip :=
  let d := d &&& 0xF_FFFF#32
  let v := coefRat d
  let bad := if rho then decide (v < 1 / 2) || decide (v > 1) else decide (v ≤ 0) || decide (v ≥ 2)
  let k := lrnK s (if rho then 10 else 9)
  if (c.slotHdr s).enabled then
    if bad then c.logErr ecNoKey m k else (c.setWord k d).modeChange s
  else c.setWord k d

/-- R201, R215: a write of words 0 to 7 of a learning block: unchanged while the slot is enabled, though a write of the Q taps is then a
mode change. -/
def Chip.lrnCfgWrite (c : Chip) (s w : Nat) (d : Word) : Chip :=
  if (c.slotHdr s).enabled then (if w = 2 || w = 3 then c.modeChange s else c)
  else c.setWord (lrnK s w) (if w = 7 then d &&& 0x1FF_FFFF#32 else if w = 0 then d &&& 0xFFFF_F800#32 else d)

/-! ### The elements of a slot through the window (R181, R188, R190, R200) -/

/-- Which bits of word `w` of element `sel` a write changes: RO fields are ignored (R188), and reserved fields read 0 (R10). -/
def elemMask (sel w : Nat) : Word :=
  if sel = 0x01 then
    match w with
    | 0 => 0x7FFF_FFFC
    | 1 => 0xF000_FFFF
    | 2 => 0x01FF_FFFF
    | 3 => 0x0000_FFFF
    | _ => 0
  else if sel = 0x02 then (if w % 2 = 0 then 0xC1FF_FFFF else 0x7FFF_FFFF)
  else if sel = 0x03 || sel = 0x0A then (if w < 10 then 0x000F_FFFF else if w = 10 then 0xFFFF else 0xFFFF_FFFF)
  else if sel = 0x04 || sel = 0x05 then (if w < 15 then 0x000F_FFFF else 0)
  else if sel = 0x06 || sel = 0x07 then (if w % 4 = 3 then 0xFF00_0000 else 0xFFFF_FFFF)
  else 0xFFFF_FFFF

/-- R190: U_MIN > U_MAX or I_MIN > I_MAX. -/
def coefBad (w : Nat → Word) : Bool :=
  signed 16 (getBits (w 13) 16 16) > signed 16 (getBits (w 13) 0 16) || signed 32 (w 15).toNat > signed 32 (w 14).toNat

/-- R181, R190: an indirect-window write of an element of slot `s`; the answer is the ERR code. -/
def Chip.slotElemWrite (c : Chip) (s sel : Nat) (data : List Word) : Nat × Chip :=
  let w (k : Nat) : Word := data.getD k 0
  if (c.slotHdr s).enabled && (sel = 0x01 || sel = 0x02 || sel = 0x06 || sel = 0x07 || sel = 0x08) then (2, c)
  else if (sel = 0x03 || sel = 0x0A) && coefBad w then (2, c)
  else
    (0, c.each (List.range 16) fun c k =>
      c.setWord (slotK s sel k) ((c.word (slotK s sel k) &&& ~~~(elemMask sel k)) ||| (w k &&& elemMask sel k)))

/-- R200: the enabled learning slot whose range covers element `e` of the learning store. -/
def Chip.coverSlot (c : Chip) (e : Nat) : Option Nat :=
  c.loop.enabled.find? fun s =>
    (c.slotHdr s).learnEn &&
      (let f := c.fld (lrnK s 0) 11 11 * 128
       let n := (c.fld (lrnK s 0) 22 4 + 1) * 128
       f ≤ e && e < f + n)

end Sys2Proof.Machine
end

