-- ==== Sys2Proof/Machine/Profile.lean ====
section
/-! DEFINITION. The Profile Generator (07_motion_profiles): axes and their commands, one axis tick, gears and cams,
step channels, the coil drive, and what the Safety Unit asks of an axis. -/

namespace Sys2Proof.Machine

/-! ### Addresses (R222, R226, R250, R253, R244, R245) -/

/-- A register of axis block `a`. -/
def axK (a o : Nat) : Nat := twAddr PRF (0x100 * a + o)
/-- A register of step channel `n`. -/
def stpK (n o : Nat) : Nat := twAddr PRF (0x5_0000 + 0x40 * n + o)
/-- A register of coil drive block `l`. -/
def coilK (l o : Nat) : Nat := twAddr PRF (0x5_0800 + 0x40 * l + o)
/-- Word `w` of cam header `t`. -/
def camK (t w : Nat) : Nat := twAddr PRF (0x5_1000 + 0x10 * t + 4 * w)
/-- The element that holds point `i` of cam table `t`. -/
def camElem (t i : Nat) : Nat := 1024 * t + i / 4
/-- A 64-bit value of point `i` of cam table `t`: P at 0, S at 2. -/
def Chip.camVal (c : Chip) (t i w : Nat) : Int :=
  let k := elemKey (storeOf PRF 1) (camElem t i) (4 * (i % 4) + w)
  signed 64 (c.nat k + 2 ^ 32 * c.nat (k + 1))

/-- What axis `a` holds outside its block. -/
def Chip.axis (c : Chip) (a : Nat) : Axis := tab {} c.prf.axes a
/-- What axis `a` holds outside its block changes. -/
def Chip.setAxis (c : Chip) (a : Nat) (x : Axis) : Chip :=
  { c with prf := { c.prf with axes := tabPut {} c.prf.axes a x } }

/-- Does the part have the axis (R3, R221)? -/
def axisPresent (part : Part) (a : Nat) : Bool := a < 1152 && !(part = .fvk8620 && 512 ≤ a && a < 1024)
/-- Is the axis enabled (R227)? -/
def Chip.axisOn (c : Chip) (a : Nat) : Bool := c.bit (axK a 0) 31
/-- STATE of an axis (R228, R231). -/
def Chip.axState (c : Chip) (a : Nat) : Nat := c.fld (axK a 8) 28 4
/-- STATE of an axis set. -/
def Chip.setAxState (c : Chip) (a st : Nat) : Chip := c.setFld (axK a 8) 28 4 st
/-- A flag of PRF_AX_STAT set. -/
def Chip.axFlag (c : Chip) (a i : Nat) (b : Bool) : Chip := c.setBit (axK a 8) i b

/-- The trigger period in units of 2^-16 ns (R224, R356). -/
def Chip.axPeriod (c : Chip) (trig : Nat) : Nat :=
  let k := twAddr TIM (64 * trig)
  c.nat (k + 4) * 65536 + c.fld (k + 8) 0 16
/-- The trigger of an axis. -/
def Chip.axTrig (c : Chip) (a : Nat) : Nat := c.fld (axK a 0) 20 8
/-- The tick period of an axis in seconds. -/
def Chip.tickSec (c : Chip) (a : Nat) : Rat := (c.axPeriod (c.axTrig a) : Rat) / (65536 * 1000000000)

/-! ### Axis causes (R258) -/

/-- PRF_EVP_PEND and the level of an event page follow the axis (R258). -/
def Chip.refreshEvp (c : Chip) (a : Nat) : Chip :=
  let k := pageAddr PRF (1 + a / 64) 0x100 + 4 * (a % 64 / 32)
  let on := !((c.word (axK a 0xE4) &&& c.word (axK a 0xE8)) == 0)
  let c := c.setBit k (a % 32) on
  c.level PRF (1 + a / 64) 0 (c.u64 (pageAddr PRF (1 + a / 64) 0x100) != 0)

/-- Axis cause `i` occurs. -/
def Chip.axEvent (c : Chip) (a i : Nat) : Chip := (c.setBit (axK a 0xE4) i true).refreshEvp a

/-- A reversal is flagged and counted (R238). -/
def Chip.axReversal (c : Chip) (a : Nat) : Chip :=
  ((c.axFlag a 22 true).countFld (axK a 0xEC) 16 16).count (pageAddr PRF 0 0x040)

/-- An overshoot is flagged, counted and raised (R238). -/
def Chip.axOvershoot (c : Chip) (a : Nat) : Chip :=
  ((c.axFlag a 21 true).countFld (axK a 0xEC) 0 16).axEvent a 2

/-- PRF_STAT.RATE: axis ticks per ms over the enabled axes (R259). -/
def Chip.syncRate (c : Chip) : Chip :=
  let q := (c.prf.enabled.map fun a =>
    let p := c.axPeriod (c.axTrig a)
    if p = 0 then (0 : Rat) else (65536 * 1000000 : Nat) / (p : Rat)).foldl (· + ·) 0
  c.setFld (pageAddr PRF 0 0x100) 0 16 q.floor.toNat

/-! ### Coil drive on and off (R254, R256, R257) -/

/-- The coil block of a local PWM axis whose coil drive is enabled. -/
def Chip.coilOf (c : Chip) (a : Nat) : Option Nat :=
  if 1056 ≤ a && a < 1088 && c.bit (coilK (a - 1056) 0) 31 then some (a - 1056) else none

/-- The feedback position of PRF_AX_FB, if one is named (R226). -/
def Chip.axFb (c : Chip) (a : Nat) : Option Int :=
  let f := c.fld (axK a 0xDC) 0 25
  if f = 0 then none else some (c.s64 (f / 8 * 8))

/-- R257: the retained index is unsure. -/
def Chip.coilUnsure (c : Chip) (a l : Nat) : Chip := (c.setBit (coilK l 0x1C) 29 true).axFlag a 13 true

/-- R256, R257: the coils of an axis are de-energised. -/
def Chip.coilOff (c : Chip) (a : Nat) : Chip :=
  match c.coilOf a with
  | none => c
  | some l =>
    if c.bit (coilK l 0x1C) 27 then
      let c := (c.setBit (coilK l 0x1C) 27 false).setBit (coilK l 0x1C) 30 true
      if c.s64 (axK a 0x98) != 0 then c.coilUnsure a l else c
    else c

/-- R254, R257: the coils of an axis are energised; a feedback position more than 128 microsteps away is unsure. -/
def Chip.coilOn (c : Chip) (a : Nat) : Chip :=
  match c.coilOf a with
  | none => c
  | some l =>
    let retained := c.bit (coilK l 0x1C) 30
    let far := match c.axFb a with
      | some f => decide ((((f - c.s64 (axK a 0x90)).natAbs * c.nat (coilK l 4) : Nat)) * 1024 > 128 * 2 ^ 48)
      | none => false
    let c := c.when (retained && far) (·.coilUnsure a l)
    let c := (c.setBit (coilK l 0x1C) 27 true).setBit (coilK l 0x1C) 30 false
    c.setAxis a { c.axis a with onNs := 0 }

/-! ### Faults, disabling and what the Safety Unit asks (R231, R240, R248, R249) -/

/-- Does axis `f` follow axis `m`? -/
def Chip.follows (c : Chip) (f m : Nat) : Bool :=
  c.axisOn f && (c.axis f).master = m && (c.axis f).follow != .none

/-- LOCKED, SYNCING and CAM_END clear: the axis has left its gear or cam (R228). -/
def Chip.leaveGear (c : Chip) (a : Nat) : Chip := ((c.axFlag a 19 false).axFlag a 18 false).axFlag a 17 false

/-- The limits of a quick stop (R226, R248). -/
def Chip.qstopLimits (c : Chip) (a : Nat) : Limits :=
  { v := 2 ^ 63 - 1, a := c.s64 (axK a 0x50), d := c.s64 (axK a 0x50), j := c.s64 (axK a 0x58) }

/-- The limits of a motion command as they are staged (R226). -/
def Chip.stagedLimits (c : Chip) (a : Nat) : Limits :=
  { v := c.s64 (axK a 0x20), a := c.s64 (axK a 0x28), d := c.s64 (axK a 0x30), j := c.s64 (axK a 0x38) }

/-- The limits under which a follower stops by itself (R240): its active set, or the staged one where no command has loaded any
yet, as after CAM_IN. Log 48, DEDUCED. -/
def Chip.ownLimits (c : Chip) (a : Nat) : Limits :=
  let l := (c.axis a).lim
  if l.d > 0 && l.j > 0 then l else c.stagedLimits a

/-- The command that waits for the next tick, where a fault or STO does not end it: DISABLE (R229, R231). Log 47, DEDUCED. -/
def Chip.keptCmd (c : Chip) (a : Nat) : Option AxisCmd := (c.axis a).pending.filter fun q => q.code == 2

/-- R231, R240: a fault; the axis stops under its quick-stop limits, and its followers fault with code 3. Log 47, DEDUCED. -/
def Chip.axisFault (c : Chip) (a why : Nat) : Nat → Chip
  | 0 => c
  | n + 1 =>
    if c.axState a = 8 || !c.axisOn a then c
    else
      let c := (((c.leaveGear a).setAxState a 8).setFld (axK a 8) 0 4 why).axEvent a 6
      let c := c.setAxis a { c.axis a with follow := .none, waiting := none, pending := c.keptCmd a, lim := c.qstopLimits a }
      c.each (c.prf.enabled.filter fun f => c.follows f a) fun c f => c.axisFault f 3 n

/-- R231, R240: DISABLE: outputs end where they stand, followers stop. -/
def Chip.axisDisable (c : Chip) (a : Nat) : Chip :=
  let c := c.coilOff a
  let c := { c with prf := { c.prf with enabled := c.prf.enabled.filter (· != a) } }
  let c := ((c.leaveGear a).setBit (axK a 0) 31 false).setAxState a 0
  let x := c.axis a
  let c := c.setAxis a { x with base := { s := x.base.s }, sup := { s := x.sup.s }, supTarget := x.sup.s,
                                pending := none, waiting := none, follow := .none, stopping := false, dir := 0 }
  let c := (c.axFlag a 12 false).syncRate
  c.each (c.prf.enabled.filter fun f => (c.axis f).master = a && (c.axis f).follow != .none) fun c f =>
    (((c.setAxis f { c.axis f with follow := .none, waiting := none, stopping := true, lim := c.ownLimits f }).axFlag f 14
      true).leaveGear f).setAxState f 5

/-- R249: the Safety Unit reports STO for an axis, or no longer does. -/
def Chip.axisSto (c : Chip) (a : Nat) (on : Bool) : Chip :=
  if !c.axisOn a then c
  else if on then
    if c.axState a = 7 then c
    else
      let c := (c.coilOff a).leaveGear a
      let x := c.axis a
      let c := c.setAxis a { x with base := { s := x.base.s }, sup := { s := x.sup.s }, supTarget := x.sup.s,
                                    pending := c.keptCmd a, waiting := none, follow := .none, stopping := false, dir := 0 }
      ((((c.setAxState a 7).setS64 (axK a 0x98) 0).setS64 (axK a 0xA0) 0).axFlag a 12 false).axEvent a 7
  else if c.axState a = 7 then ((c.setAxState a 1).coilOn a).axEvent a 7
  else c

/-- R248: a quick stop waits for the axis's next tick. -/
def Chip.qstopNext (c : Chip) (a : Nat) : Chip :=
  let st := c.axState a
  if st = 0 || st = 6 || st = 7 || st = 8 then c
  else c.setAxis a { c.axis a with pending := some { code := 10, lim := c.qstopLimits a } }

/-- R248: a stop request of the Safety Unit for the axes it names; one geared to a master that is named stays geared.
Log 47, DEDUCED. -/
def Chip.safeStop (c : Chip) (axes : List Nat) : Chip :=
  c.each (axes.filter c.axisOn) fun c a =>
    let c := c.axFlag a 11 true
    if axes.contains (c.axis a).master && (c.axis a).follow != .none then c else c.qstopNext a

/-- The stop request for an axis is withdrawn (R231). -/
def Chip.safeStopEnd (c : Chip) (a : Nat) : Chip := c.axFlag a 11 false

/-- R257: the axis state is lost (CISTERN or below). -/
def Chip.axesLost (c : Chip) : Chip :=
  let c := c.each c.prf.enabled fun c a => c.setBit (axK a 0) 31 false
  let c := { c with prf := {} }
  (c.setBit (pageAddr PRF 0 0x100) 31 true).cause PRF 0 0

/-! ### Commands (R229 to R231) -/

/-- R231: is the command accepted in the state? Log 47, DEDUCED. -/
def cmdAccepted (st code : Nat) : Bool :=
  match st with
  | 0 => code = 1
  | 1 => 2 ≤ code && code ≤ 12
  | 2 => (2 ≤ code && code ≤ 6) || (8 ≤ code && code ≤ 11)
  | 3 => (2 ≤ code && code ≤ 6) || (8 ≤ code && code ≤ 11)
  | 4 => 2 ≤ code && code ≤ 11
  | 5 => code = 2 || code = 8 || code = 10
  | 6 => code = 2
  | 7 => code = 2
  | 8 => code = 2 || code = 13
  | _ => false

/-- R250: the step channel's own checks. -/
def Chip.stepBad (c : Chip) (a : Nat) : Bool :=
  1024 ≤ a && a < 1056 &&
  (let n := a - 1024
   let w := c.fld (stpK n 0) 12 12
   let su := c.fld (stpK n 0) 0 12
   decide (c.fld (stpK n 8) 0 23 * 2 * w > 100000000) || decide (w < 10) || decide (su < 20))

/-- R253: the coil block's own checks. -/
def Chip.coilBad (c : Chip) (a : Nat) : Bool :=
  match c.coilOf a with
  | none => false
  | some l =>
    let sa := c.fld (coilK l 8) 0 12
    let sb := c.fld (coilK l 8) 16 12
    let bad (s : Nat) := !(c.slotHdr s).enabled || c.slotOwner s != c.axisOwner a
    bad sa || bad sb || decide (c.nat (coilK l 0x14) ≥ c.nat (coilK l 0x10)) || c.nat (coilK l 4) == 0

/-- The masters that axis `m` follows, or will follow by a command accepted already (R230, R240). -/
def Chip.mastersOf (c : Chip) (m : Nat) : List Nat :=
  let x := c.axis m
  (if x.follow == .none then [] else [x.master]) ++
    ([x.waiting, x.pending].filterMap fun q => (q.filter fun q => [6, 7, 16].contains q.code).map (·.master))

/-- The axes that a chain of masters reaches from `todo`. -/
def Chip.chain (c : Chip) : Nat → List Nat → List Nat → List Nat
  | 0, _, seen => seen
  | _ + 1, [], seen => seen
  | n + 1, m :: r, seen => if seen.contains m then c.chain n r seen else c.chain n (c.mastersOf m ++ r) (m :: seen)

/-- R240: does the chain of masters from `m` return to axis `a`? -/
def Chip.chainHits (c : Chip) (a m : Nat) : Bool := (c.chain 4608 [m] []).contains a

/-- R230, code 5. -/
def Chip.masterBad (c : Chip) (a : Nat) : Bool :=
  let m := c.fld (axK a 0xC) 0 11
  !axisPresent c.part m || !c.axisOn m || m == a || c.axTrig m != c.axTrig a || c.chainHits a m

/-- R230, code 4. -/
def Chip.limitsBad (c : Chip) (a code : Nat) : Bool :=
  let z (o : Nat) := decide (c.s64 (axK a o) ≤ 0)
  let motion := z 0x20 || z 0x28 || z 0x30 || z 0x38
  match code with
  | 1 => c.stepBad a
  | 3 => motion || (c.s64 (axK a 0xC8) != 0 && decide (c.s64 (axK a 0x10) ≥ c.s64 (axK a 0xC8)))
  | 4 => motion
  | 5 => motion || decide ((c.s64 (axK a 0x18)).natAbs > (c.s64 (axK a 0x20)).natAbs)
  | 6 => motion || c.nat (axK a 0x40) == 0 || c.nat (axK a 0x44) == 0
  | 8 => z 0x68 || z 0x70 || z 0x78
  | 9 => z 0x30 || z 0x38
  | 10 => z 0x50 || z 0x58
  | 11 => motion
  | _ => false

/-- R224, R230, code 7: the period or the capacity. -/
def Chip.trigBad (c : Chip) (a : Nat) : Bool :=
  let p := c.axPeriod (c.axTrig a)
  -- the axes whose ENABLE waits for its tick count as well
  let soon := (List.range 1152).filter fun b => b != a && (c.axis b).pending.any (·.code == 1)
  let sum := ((a :: soon ++ c.prf.enabled).map fun b =>
    let q := c.axPeriod (c.axTrig b)
    if q = 0 then (0 : Rat) else (65536000 : Nat) / (q : Rat)).foldl (· + ·) 0
  2 * p < 15625 * 65536 || p > 1000000 * 65536 || sum > 40

/-- R230: CODE of a command of partition `p`. Log 47, DEDUCED. -/
def Chip.axisCode (c : Chip) (p a code : Nat) : Nat :=
  let enable := code == 1
  if !axisPresent c.part a then 2
  else if c.axisOwner a != p then 1
  else if !cmdAccepted (c.axState a) code then 3
  else if code = 13 && ((c.axis a).base.v != 0 || (c.axis a).base.a != 0) then 3
  else if c.limitsBad a code then 4
  else if (code = 6 || code = 7) && c.masterBad a then 5
  else if code = 7 &&
      (let t := c.fld (axK a 0xC) 16 8
       !c.bit (camK t 0) 31 || c.camOwner t != c.axisOwner a) then 6
  else if enable && c.trigBad a then 7
  else if enable && (c.fld (axK a 0xE0) 0 25 = 0 || c.fld (axK a 0xE0) 0 25 + 2 > 33554431) then 8
  else if enable && c.bit (axK a 0xD0) 31 && c.ownerAt (c.fld (axK a 0xD0) 0 25) != c.axisOwner a then 9
  else if enable && c.coilBad a then 10
  else 0

/-- The staged registers that a command loads, taken in one action (R229). -/
def Chip.staged (c : Chip) (a code : Nat) (gearAt : Bool) : AxisCmd :=
  let lim :=
    match code with
    | 8 => { v := c.s64 (axK a 0x68), a := c.s64 (axK a 0x70), d := c.s64 (axK a 0x70), j := c.s64 (axK a 0x78) }
    | 10 => c.qstopLimits a
    | _ => c.stagedLimits a
  { code := if code = 6 && gearAt then 16 else code, lim := lim,
    target := if code = 5 then c.s64 (axK a 0x18) else if code = 8 then c.s64 (axK a 0x60) else c.s64 (axK a 0x10),
    num := signed 32 (c.nat (axK a 0x40)), den := c.nat (axK a 0x44), master := c.fld (axK a 0xC) 0 11,
    cam := c.fld (axK a 0xC) 16 8, engageAt := c.s64 (axK a 0x48) }

/-- The target step count of axis `a` at position `pos` (R251). Log 48, DEDUCED. -/
def Chip.stepCount (c : Chip) (a : Nat) (pos : Int) : Int :=
  if 1024 ≤ a && a < 1056 then (pos * c.fld (stpK (a - 1024) 4) 0 24).fdiv (2 ^ 32) else 0

/-- ENABLE (R229, R231): no step is asked for by it. -/
def Chip.axisEnable (c : Chip) (a : Nat) : Chip :=
  let c := { c with prf := { c.prf with enabled := c.prf.enabled ++ [a] } }
  let c := ((c.setBit (axK a 0) 31 true).setAxState a 1).setFld (axK a 8) 0 4 0
  let c := c.setAxis a { c.axis a with stepTarget := c.stepCount a (c.axis a).raw }
  let c := (c.coilOn a).syncRate
  if c.stoAxis a then c.axisSto a true else c

/-- R229 to R231: a command of partition `p` written to PRF_AX_CMD; accepted, it waits for the axis's next tick.
Log 47, DEDUCED. -/
def Chip.axisCommand (c : Chip) (p a code : Nat) (gearAt : Bool) : Chip :=
  let r := c.axisCode p a code
  let c := c.when (axisPresent c.part a) (·.setFld (axK a 8) 24 4 r)
  if r != 0 then c.count (pageAddr PRF 0 0x034)
  else c.setAxis a { c.axis a with pending := some (c.staged a code gearAt) }

/-! ### Writes of the table window with rules of their own (R226, R244, R250, R253) -/

/-- Does an engaged or pending axis use cam table `t` (R244)? -/
def Chip.camUsed (c : Chip) (t : Nat) : Bool :=
  c.prf.enabled.any fun a =>
    let x := c.axis a
    (x.follow == .camOn && x.cam == t) ||
    (match x.waiting with
     | some w => w.code == 7 && w.cam == t
     | none => false) ||
    (match x.pending with
     | some w => w.code == 7 && w.cam == t
     | none => false)

/-- R244: W0 of a cam header after a write: VALID needs a legal NPTS and SPAN. -/
def Chip.camValid (c : Chip) (t : Nat) : Chip :=
  let n := c.fld (camK t 0) 0 13
  if c.bit (camK t 0) 31 && (n < 2 || n > 4096 || c.s64 (camK t 2) ≤ 0) then c.setBit (camK t 0) 31 false else c

/-- R226: the offsets of an axis block that are writable while DISABLED. -/
def axFixed (o : Nat) : Bool := [0x00, 0xC8, 0xCC, 0xD0, 0xD4, 0xD8, 0xDC, 0xE0].contains o

/-- A write by master `m` of partition `p` of the word at TW_OFFSET `o`, already permitted; `merged` is what the access
codes of its row leave. -/
def Chip.prfTwWrite (c : Chip) (m p o : Nat) (d merged : Word) : Chip :=
  let k := twAddr PRF o
  if o < 0x4_8000 then
    let a := o / 0x100
    let q := o % 0x100
    if q = 4 then c.axisCommand p a (getBits d 0 4) (d.getLsbD 4)
    else if axFixed q && c.axisOn a then c.logErr ecLocked m k
    else if q = 0xE4 || q = 0xE8 then (c.setWord k merged).refreshEvp a
    else c.setWord k merged
  else if 0x5_0000 ≤ o && o < 0x5_0800 then
    if c.axisOn (1024 + (o - 0x5_0000) / 0x40) then c.logErr ecLocked m k else c.setWord k merged
  else if 0x5_0800 ≤ o && o < 0x5_1000 then
    if c.axisOn (1056 + (o - 0x5_0800) / 0x40) then c.logErr ecLocked m k else c.setWord k merged
  else if 0x5_1000 ≤ o && o < 0x5_2000 then
    let t := (o - 0x5_1000) / 0x10
    if c.camUsed t then c.logErr ecLocked m k else (c.setWord k merged).camValid t
  else c.setWord k merged

/-- R244, R245: a window write of cam points; the answer is the ERR code. -/
def Chip.camPointWrite (c : Chip) (e : Nat) (data : List Word) : Nat × Chip :=
  if c.camUsed (e / 1024) then (2, c)
  else (0, c.each (List.range 16) fun c k => c.setWord (elemKey (storeOf PRF 1) e k) (data.getD k 0))

/-- A write of PRF_STAT_CLR (R259). -/
def Chip.stateLostClear (c : Chip) (d : Word) : Chip :=
  if d.getLsbD 31 then c.setBit (pageAddr PRF 0 0x100) 31 false else c

/-! ### What a master gives (R240) -/

/-- The output velocity of an axis, with 64 fractional bits. -/
def Chip.mVel (c : Chip) (m : Nat) : Int := c.s64 (axK m 0x98) * 2 ^ 32
/-- The output acceleration of an axis, with 64 fractional bits. -/
def Chip.mAcc (c : Chip) (m : Nat) : Int := c.s64 (axK m 0xA0) * 2 ^ 32

/-- Has the master passed position `at'` in its last increment, modulo its own MODULO (R241, R246)? -/
def Chip.passed (c : Chip) (m : Nat) (at' : Int) : Bool :=
  let new := c.s64 (axK m 0x90)
  let d := (c.axis m).dpos
  let md := c.s64 (axK m 0xC8)
  -- the distance from the old position on to ENGAGE_AT in the direction of travel
  let dist := if d ≥ 0 then at' - (new - d) else (new - d) - at'
  let dist := if md > 0 then dist % md else dist
  d != 0 && 0 < dist && dist ≤ (d.natAbs : Int)

/-! ### Cam tables (R244 to R247) -/

/-- A value of a cam table: position, dP/dx and d²P/dx², the end of the table, and the points that it rests on. -/
structure CamVal where
  p : Rat
  dp : Rat := 0
  ddp : Rat := 0
  ended : Bool := false
  /-- the point read first, and the last -/
  first : Nat := 0
  last : Nat := 0
  deriving DecidableEq, Repr

/-- R245, R246: cam table `t` at master distance `x` from ENGAGE_AT. -/
def Chip.camAt (c : Chip) (t : Nat) (x : Int) : CamVal :=
  let n := c.fld (camK t 0) 0 13
  let span := c.s64 (camK t 2)
  let periodic := c.bit (camK t 0) 30
  let last := n - 1
  if n < 2 || span ≤ 0 then { p := 0 }
  else if !periodic && x < 0 then { p := c.camVal t 0 0, ended := true }
  else if !periodic && x > span then { p := c.camVal t last 0, ended := true, first := last, last := last }
  else
    let k := if periodic then x.fdiv span else 0
    let y := x - k * span
    let i := min (last - 1) ((y * last).fdiv span).toNat
    let h : Rat := (span : Rat) / last
    let u : Rat := ((y : Rat) - i * h) / h
    let p0 : Rat := c.camVal t i 0
    let p1 : Rat := c.camVal t (i + 1) 0
    let s0 : Rat := (c.camVal t i 2 : Rat) / 2 ^ 32
    let s1 : Rat := (c.camVal t (i + 1) 2 : Rat) / 2 ^ 32
    let rise : Rat := if periodic then k * (c.camVal t last 0 - c.camVal t 0 0) else 0
    if c.bit (camK t 0) 29 then
      { p := rise + p0 + u * (p1 - p0), dp := (p1 - p0) / h, first := i, last := i + 1 }
    else
      { p := rise + (2 * u * u * u - 3 * u * u + 1) * p0 + (u * u * u - 2 * u * u + u) * h * s0 +
          (-2 * u * u * u + 3 * u * u) * p1 + (u * u * u - u * u) * h * s1,
        dp := ((6 * u * u - 6 * u) * p0 + (3 * u * u - 4 * u + 1) * h * s0 + (-6 * u * u + 6 * u) * p1 +
          (3 * u * u - 2 * u) * h * s1) / h,
        ddp := ((12 * u - 6) * p0 + (6 * u - 4) * h * s0 + (-12 * u + 6) * p1 + (6 * u - 2) * h * s1) / (h * h),
        first := i, last := i + 1 }

/-- VEL and ACC of a cam value (R245), with 64 fractional bits. -/
def Chip.camMotion (c : Chip) (m : Nat) (off : Int) (q : CamVal) : Traj :=
  let v : Rat := c.mVel m
  let a : Rat := c.mAcc m
  { s := off + ratRound (q.p * 2 ^ 32), v := ratRound (q.dp * v), a := ratRound (q.ddp * v * v / 2 ^ 32 + q.dp * a) }

/-! ### One tick (R225, R229 to R251) -/

/-- The target of a MOVE_ABS on a modulo axis (R239); `pos` way is the engine's for the reserved policy. Log 47, DEDUCED. -/
def Chip.moduloTarget (c : Chip) (a : Nat) (target : Int) (way : Bool) : Int :=
  let md := c.s64 (axK a 0xC8) * 2 ^ 32
  let s := (c.axis a).base.s
  if md ≤ 0 then target
  else
    let up := (target - s) % md
    let d := match c.fld (axK a 0) 28 2 with
      | 0 => if 2 * up ≤ md then up else up - md
      | 1 => up
      | 2 => if up = 0 then 0 else up - md
      | _ => if way || up = 0 then up else up - md
    s + d

/-- A motion command clears REVERSAL and OVERSHOOT, and leaves any gearing (R228, R231). -/
def Chip.newMotion (c : Chip) (a : Nat) (gearing : Bool) : Chip :=
  let c := (c.axFlag a 22 false).axFlag a 21 false
  let c := (c.axFlag a 14 false).axFlag a 20 false
  if gearing then c
  else
    let c := c.leaveGear a
    c.setAxis a { c.axis a with follow := .none, waiting := none }

/-- R237, R238: after a change of target or limits, is the stop point of motion `x` of axis `a` past the target? Then it is an overshoot
and a reversal, or a reversal alone where the target lies behind. -/
def Chip.checkPast (c : Chip) (a : Nat) (x : Traj) (target : Int) (l : Limits) : Chip :=
  let dir := sgn x.v
  let past := ((x.s : Rat) + stopDist x l.fine - target) * dir > 0
  if dir = 0 || !past then c
  else if (target - x.s) * dir < 0 then c.axReversal a
  else (c.axOvershoot a).axReversal a

/-- R237, R238, of the base motion. -/
def Chip.basePast (c : Chip) (a : Nat) : Chip := c.checkPast a (c.axis a).base (c.axis a).target (c.axis a).lim

/-- R238, R242, of the superimposed motion. -/
def Chip.supPast (c : Chip) (a : Nat) : Chip := c.checkPast a (c.axis a).sup (c.axis a).supTarget (c.axis a).supLim

/-- R229 to R246: the command accepted before this tick takes effect. Log 47, DEDUCED. -/
def Chip.applyPending (c : Chip) (a : Nat) : Chip :=
  let x := c.axis a
  match x.pending with
  | none => c
  | some q =>
    let c := c.setAxis a { x with pending := none }
    let x := c.axis a
    match q.code with
    | 1 => c.axisEnable a
    | 2 => c.axisDisable a
    | 13 => (c.setAxState a 1).setFld (axK a 8) 0 4 0
    | 3 =>
      let (way, c) := c.freeBool
      let c := c.newMotion a false
      let t := c.moduloTarget a (q.target * 2 ^ 32) way
      ((c.setAxis a { c.axis a with lim := q.lim, target := t, stopping := false }).setAxState a 2).basePast a
    | 4 =>
      let from' := if c.axState a = 2 then x.target else x.base.s
      let c := c.newMotion a false
      ((c.setAxis a { c.axis a with lim := q.lim, target := from' + q.target * 2 ^ 32, stopping := false }).setAxState a
        2).basePast a
    | 5 =>
      let c := c.newMotion a false
      let c := (c.setAxis a { c.axis a with lim := q.lim, vTarget := q.target * 2 ^ 32, stopping := false }).setAxState a 3
      if sgn q.target * sgn x.base.v < 0 then c.axReversal a else c
    | 6 =>
      let c := (c.newMotion a true).axFlag a 18 false
      let c := c.setAxis a { x with lim := q.lim, follow := .gearSync, master := q.master, num := q.num, den := q.den, rem := 0,
                                    mPrev := (c.axis q.master).upos, waiting := none, stopping := false }
      ((c.axFlag a 19 true).axFlag a 17 false).setAxState a 4
    | 16 => ((c.newMotion a true).setAxis a { x with lim := q.lim, waiting := some q }).axFlag a 19 true
    | 7 => ((c.newMotion a true).setAxis a { x with waiting := some q }).axFlag a 19 true
    | 8 =>
      ((c.setAxis a { x with supTarget := x.supTarget + q.target * 2 ^ 32, supLim := q.lim }).axFlag a 12 true).supPast a
    | 9 =>
      let c := c.newMotion a false
      (c.setAxis a { c.axis a with lim := { x.lim with d := q.lim.d, j := q.lim.j }, stopping := true }).setAxState a 5
    | 10 =>
      let c := c.newMotion a false
      (c.setAxis a { c.axis a with lim := q.lim, stopping := true }).setAxState a 6
    | 11 =>
      let c := c.setAxis a { x with lim := q.lim }
      if c.axState a = 2 then c.basePast a else c
    | 12 =>
      let inPos := c.s64 (axK a 0x80)
      let s := (q.target - inPos) * 2 ^ 32 - x.trim
      let c := c.setAxis a { x with base := { s := s }, sup := {}, supTarget := 0, raw := q.target,
                                    stepTarget := c.stepCount a q.target }
      let c := c.axFlag a 13 false
      match c.coilOf a with
      | some l => c.setBit (coilK l 0x1C) 29 false
      | none => c
    | _ => c

/-- R241, R246: an engagement that waits takes effect when its instant has come. Log 48, DEDUCED. -/
def Chip.engage (c : Chip) (a : Nat) : Chip :=
  let x := c.axis a
  match x.waiting with
  | none => c
  | some q =>
    let m := q.master
    if !c.axisOn m then c
    else if q.code = 16 then
      if c.passed m q.engageAt then
        let c := c.setAxis a { x with follow := .gearSync, master := m, num := q.num, den := q.den, rem := 0,
                                      mPrev := (c.axis m).upos, waiting := none }
        ((c.axFlag a 18 false).axFlag a 17 false).setAxState a 4
      else c
    else
      let mu := (c.axis m).upos
      let switching := x.follow == .camOn && x.cam != q.cam
      -- the span of the present table that its own master has left in its last increment
      let span := c.s64 (camK x.cam 2)
      let own := (c.axis x.master).upos
      let now := if span > 0 then (own - x.camX0).fdiv span else 0
      let was := if span > 0 then (x.mPrev - x.camX0).fdiv span else 0
      let bound := max now was * span
      if (switching && now != was) || (!switching && c.passed m q.engageAt) then
        -- the master position at which the new table starts, and what the present table has added up to there
        let md := c.s64 (axK m 0xC8)
        let back := c.s64 (axK m 0x90) - q.engageAt
        let share : Rat := if own = x.mPrev then 0 else (own - x.camX0 - bound : Rat) / (own - x.mPrev : Rat)
        let start :=
          if switching then mu - ratRound (share * (c.axis m).dpos)
          else mu - (if md > 0 then (if (c.axis m).dpos ≥ 0 then back % md else -((-back) % md)) else back)
        let base := if switching then x.camOff + ratRound ((c.camAt x.cam bound).p * 2 ^ 32) else x.base.s
        let off := base - ratRound ((c.camAt q.cam 0).p * 2 ^ 32)
        let next := c.camMotion m off (c.camAt q.cam (mu - start))
        let jump : Rat := ((next.v - x.base.v).natAbs : Nat)
        let c := c.setAxis a { x with follow := .camOn, master := m, cam := q.cam, camX0 := start, camOff := off,
                                      mPrev := mu, waiting := none, stopping := false }
        let c := ((c.axFlag a 19 false).axFlag a 18 true).setAxState a 4
        let c := c.axFlag a 16 (decide (jump > (x.lim.a * 2 ^ 32 : Int) * c.tickSec a))
        if switching then c.axEvent a 10 else c
      else c

/-- The axis comes to rest at the end of a stop (R231, R258). -/
def Chip.atRest (c : Chip) (a : Nat) : Chip :=
  let st := c.axState a
  let c := if st = 8 then c else c.setAxState a 1
  let x := c.axis a
  if x.stopping then (c.setAxis a { x with stopping := false }).axEvent a 5 else c

/-- R241: a tick of a locked gear. -/
def Chip.gearStep (c : Chip) (a : Nat) : Chip :=
  let x := c.axis a
  let mu := (c.axis x.master).upos
  let n := (mu - x.mPrev) * x.num + x.rem
  let f := n.fdiv x.den
  let r : Rat := (x.num : Rat) / (x.den : Rat)
  c.setAxis a { x with mPrev := mu, rem := n - f * x.den,
                       base := { s := x.base.s + f * 2 ^ 32, v := ratRound (r * c.mVel x.master),
                                 a := ratRound (r * c.mAcc x.master) } }

/-- R246, R247: a tick of an engaged cam, whose points are read with `rr` re-reads; a poisoned point is asked of the twin.
Log 48, DEDUCED. -/
def Chip.camStep (c : Chip) (a rr : Nat) : Chip :=
  let x := c.axis a
  let mu := (c.axis x.master).upos
  let q := c.camAt x.cam (mu - x.camX0)
  let n := c.fld (camK x.cam 0) 0 13
  let fast := (((mu - x.mPrev).natAbs * (n - 1) : Nat) : Int) > 4 * c.s64 (camK x.cam 2)
  let c := c.when fast (·.count (pageAddr PRF 0 0x038))
  let point (i : Nat) : Nat := elemKey (storeOf PRF 1) (camElem x.cam i) 0
  let c := c.elemRead (point q.first) rr none
  match [point q.first, point q.last].find? (tab false c.elemPoison ·) with
  | some k => ((c.cause PRF 0 1).axisFault a 1 1152).askElem k
  | none =>
    let was := c.bit (axK a 8) 17
    let c := c.setAxis a { x with mPrev := mu, base := c.camMotion x.master x.camOff q }
    let c := c.axFlag a 17 q.ended
    if q.ended && !was then c.axEvent a 4 else c

/-- LAG1 (R240): the master has not been computed for this trigger. -/
def Chip.lagMaster (c : Chip) (a : Nat) (trg : Stamp) : Chip :=
  let x := c.axis a
  if x.follow == .none then c.axFlag a 15 false else c.axFlag a 15 (decide ((c.axis x.master).ticked != trg))

/-- R235: REVERSAL where the stop from the present state crosses zero. -/
def Chip.noteReverse (c : Chip) (a : Nat) (was : Traj) : Chip :=
  if stopReverses was (c.axis a).lim.fine && !c.bit (axK a 8) 22 then c.axReversal a else c

/-- R231 to R246: the base trajectory of one tick. Log 46, DESIGN CHOICE. -/
def Chip.baseMotion (c : Chip) (a rr : Nat) : Chip :=
  let t := c.tickSec a
  let x := c.axis a
  let l := x.lim.fine
  let moved (m : MoveTick) : Chip := (c.setAxis a { x with base := m.x, ahead := m.ahead }).noteReverse a x.base
  match c.axState a with
  | 2 =>
    let m := moveTick x.base x.target l t x.ahead
    if m.landed then (((moved m).axFlag a 20 true).setAxState a 1).axEvent a 0 else moved m
  | 3 =>
    let m := rampTick x.base x.vTarget l t x.ahead
    if m.landed && x.vTarget = 0 then (moved m).setAxState a 1 else moved m
  | 4 =>
    match x.follow with
    | .gearSync =>
      let r : Rat := (x.num : Rat) / (x.den : Rat)
      let vt := ratRound (r * c.mVel x.master)
      let at' := ratRound (r * c.mAcc x.master)
      let m := velTick x.base vt at' l t
      let c := (c.setAxis a { x with base := m.x, mPrev := (c.axis x.master).upos }).noteReverse a x.base
      let near := decide ((m.x.v - vt).natAbs < 2 ^ 44) && decide ((m.x.a - at').natAbs < 2 ^ 44)
      if near then
        (((c.setAxis a { c.axis a with follow := .gearLocked }).axFlag a 18 true).axFlag a 19 (c.axis a).waiting.isSome).axEvent a 3
      else c
    | .gearLocked => c.gearStep a
    | .camOn => c.camStep a rr
    | .none => c
  | 5 => stopping c l t
  | 6 => stopping c l t
  | 8 => stopping c l t
  | _ => c
where
  /-- R235, R236: one tick of STOPPING, QSTOP or FAULT. -/
  stopping (c : Chip) (l : Limits) (t : Rat) : Chip :=
    let x := c.axis a
    if x.base.v = 0 && x.base.a = 0 then (if c.axState a = 8 && !x.stopping then c else c.atRest a)
    else
      let m := stopTick x.base l t x.ahead
      let c := (c.setAxis a { x with base := m.x, ahead := m.ahead }).noteReverse a x.base
      if m.landed then c.atRest a else c

/-- R238: the velocity changes its sign within a motion, at once or through rest: REVERSAL is raised. -/
def Chip.noteDir (c : Chip) (a : Nat) : Chip :=
  let x := c.axis a
  let s := sgn x.base.v
  let c := c.when (s * x.dir < 0) (·.axEvent a 1)
  c.setAxis a { c.axis a with dir := if c.axState a = 1 then 0 else if s = 0 then x.dir else s }

/-- The base trajectory of one tick, and the direction of travel. -/
def Chip.baseTick (c : Chip) (a rr : Nat) : Chip := (c.baseMotion a rr).noteDir a

/-- R242: the superimposed profile of one tick. -/
def Chip.supTick (c : Chip) (a : Nat) : Chip :=
  if !c.bit (axK a 8) 12 then c
  else
    let x := c.axis a
    let m := moveTick x.sup x.supTarget x.supLim.fine (c.tickSec a) x.supAhead
    let c := c.setAxis a { x with sup := m.x, supAhead := m.ahead }
    if m.landed then (c.axFlag a 12 false).axEvent a 11 else c

/-- A value that an axis writes to the fabric (R225). -/
structure AxisWrite where
  dst : Nat
  value : Int
  stamp : Stamp
  deriving DecidableEq, Repr

/-- POS within the modulo (R239), or in the range of its register (R6). -/
def Chip.wrapPos (c : Chip) (a : Nat) (p : Int) : Int :=
  let md := c.s64 (axK a 0xC8)
  if md > 0 then p % md else satS 64 p

/-- R225, R235, R243: the outputs of a tick, its samples, its completion and its writes. -/
def Chip.axisOutputs (c : Chip) (a : Nat) (trg : Stamp) : Chip × List AxisWrite :=
  let x := c.axis a
  let inVel := c.s64 (axK a 0x88)
  let held := c.axState a == 7
  let x := if held then x else { x with trim := x.trim + ratRound ((inVel * 2 ^ 32 : Int) * c.tickSec a) }
  let follow := if held && c.bit (axK a 0) 30 then c.axFb a else none
  let raw := match follow with
    | some f => f
    | none => if held then x.raw else roundShift (x.base.s + x.sup.s + x.trim) 32 + c.s64 (axK a 0x80)
  let x := if held then { x with base := { s := (raw - c.s64 (axK a 0x80)) * 2 ^ 32 - x.sup.s - x.trim } } else x
  let pos := c.wrapPos a raw
  let vel := if held then 0 else satS 64 (roundShift (x.base.v + x.sup.v) 32 + inVel)
  let acc := if held then 0 else satS 64 (roundShift (x.base.a + x.sup.a) 32)
  let st := mkStamp (trg.ns + c.nat (axK a 0xD4)) trg.frac trg.epoch trg.flags
  let c := c.setAxis a { x with raw := raw, dpos := raw - x.raw, upos := x.upos + (raw - x.raw), ticked := trg }
  let c := ((c.setS64 (axK a 0x90) pos).setS64 (axK a 0x98) vel).setS64 (axK a 0xA0) acc
  let c := c.setStamp (axK a 0xA8) st
  let c := { c with stamps := [0x90, 0x98, 0xA0].foldl (fun t o => tabPut 0 t (axK a o) st) c.stamps }
  let c := c.setS64 (axK a 0xB8) (satS 64 (roundShift x.sup.s 32))
  let c := c.setS64 (axK a 0xC0) (satS 64 (ratRound (((x.base.s : Rat) + stopDist x.base x.lim.fine) / 2 ^ 32)))
  let sig := c.fld (axK a 0xE0) 0 25
  let c := ((c.sample sig pos st).sample (sig + 1) vel st).sample (sig + 2) acc st
  let c := c.postIf (c.bit (axK a 0xD8) 31) (c.fld (axK a 0xD8) 0 17) st
  let dst := c.fld (axK a 0xD0) 0 25 / 8 * 8
  let w (d : Nat) (v : Int) : AxisWrite := { dst := d, value := v, stamp := st }
  -- R221: a virtual master axis writes nothing outside its block
  (c, if !c.bit (axK a 0xD0) 31 || 1088 ≤ a then []
    else match c.fld (axK a 0xD0) 29 2 with
      | 0 => [w dst pos]
      | 1 => [w dst vel]
      | _ => [w dst pos, w (dst + 8) vel])

/-! ### Step channels (R250 to R252) -/

/-- The trajectory that a step channel follows within a tick (R232, R251): where the tick starts, the velocity and acceleration there with
64 fractional bits, the constant jerk, and the rest that a trim, a gear or a cam adds evenly. -/
structure StepPath where
  raw : Int
  v : Rat
  a : Rat
  j : Rat
  rest : Rat
  deriving DecidableEq, Repr

/-- The microstep count `n` times 2 ns into the tick. -/
def StepPath.count (q : StepPath) (spu n : Nat) : Int :=
  let t : Rat := (n : Rat) / 500000000
  let p : Rat := q.raw + (q.v * t + q.a * t * t / 2 + q.j * t * t * t / 6) / 2 ^ 32 + q.rest * t
  (p * spu / 2 ^ 32).floor

/-- The first 2 ns of the tick at which the count has passed `k` in direction `up`, by its bits from bit `b - 1` down. -/
def StepPath.cross (q : StepPath) (spu : Nat) (up : Bool) (k : Int) : Nat → Nat → Nat
  | 0, r => r + 1
  | b + 1, r =>
    let n := q.count spu (r + 2 ^ b)
    q.cross spu up k b (if (if up then n < k else n > k) then r + 2 ^ b else r)

/-- The level of STP_DIR (R250): high for positive motion, or for negative motion with DIR_INV. Log 48, DEDUCED. -/
def Chip.stepDirPin (c : Chip) (n : Nat) : Bool := (c.axis (1024 + n)).stepDir == c.bit (stpK n 0) 30

/-- The pulses of a tick as they are placed: the last start, the pulses so far, and whether one was held back by DIR_SETUP. -/
structure Pulses where
  last : Int
  starts : List Int := []
  deferred : Bool := false
  full : Bool := false
  deriving DecidableEq, Repr

/-- R251, R252: the next pulse, asked for at `want`: no sooner than `space` after the last and than `free`, and before `stop`. -/
def Pulses.place (q : Pulses) (space free stop want : Int) : Pulses :=
  let at' := max want (max (q.last + space) free)
  if q.full || at' ≥ stop then { q with full := true, deferred := q.deferred || (!q.full && decide (want < free)) }
  else { last := at', starts := q.starts ++ [at'], deferred := q.deferred || decide (want < free) }

/-- R251, R252: the pulses of one tick, a tick period after the trajectory that asks for them: each at the 2 ns at which the trajectory
crosses its microstep, in the direction that STP_DIR shows DIR_SETUP before. `was` is the axis as the tick found it. Log 48, DEDUCED. -/
def Chip.stepTick (c : Chip) (a : Nat) (was : Axis) (st : Stamp) : Chip :=
  if !(1024 ≤ a && a < 1056) then c
  else
    let n := a - 1024
    if !c.bit (stpK n 0) 31 then c
    else
      let x := c.axis a
      let t := c.tickSec a
      let ticks : Int := c.axPeriod (c.axTrig a) / 131072
      let spu := c.fld (stpK n 4) 0 24
      let target := c.stepCount a x.raw
      let want := x.behind + (target - x.stepTarget)
      let up := decide (want > 0)
      let v : Rat := was.base.v + was.sup.v
      let acc : Rat := was.base.a + was.sup.a
      let j := slope acc (x.base.a + x.sup.a) t
      let own := (v * t + acc * t * t / 2 + j * t * t * t / 6) / 2 ^ 32
      let path : StepPath := { raw := x.raw - x.dpos, v := v, a := acc, j := j, rest := if t = 0 then 0 else ((x.dpos : Rat) - own) / t }
      let start : Int := st.fine / 131072
      -- pulses that are behind are asked for at once, the others where the trajectory crosses their microstep
      let fresh := if sgn want = sgn (target - x.stepTarget) then min want.natAbs (target - x.stepTarget).natAbs else 0
      let asks : List Int := List.replicate (want.natAbs - fresh) start ++ (List.range fresh).map fun i =>
        let left : Int := (fresh - 1 - i : Nat)
        start + min (path.cross spu up (if up then target - left else target + left) 20 0) (ticks - 1).toNat
      let turn := want != 0 && decide (want < 0) != x.stepDir
      let width : Int := 5 * c.fld (stpK n 0) 12 12
      let dirAt := if turn then max start (x.pulseAt + width) else x.dirAt
      let rate := c.fld (stpK n 8) 0 23
      let space : Int := (500000000 + rate - 1) / max 1 rate
      let free := dirAt + 5 * c.fld (stpK n 0) 0 12
      let q := asks.foldl (fun (q : Pulses) w => q.place space free (start + ticks) w) { last := x.pulseAt }
      let go : Int := if up then q.starts.length else -(q.starts.length : Int)
      let behind := want - go
      let late := behind != 0
      let lag := min 65535 behind.natAbs
      let down := if want = 0 then x.stepDir else decide (want < 0)
      let c := c.setAxis a { x with stepTarget := target, behind := behind, pulseAt := q.last, dirAt := dirAt, stepDir := down,
                                    lagging := late }
      let c := c.setNat (stpK n 0x10) ((signed 32 (c.nat (stpK n 0x10)) + go) % 2 ^ 32).toNat
      let c := c.setNat (stpK n 0xC) (b2n late * 2 ^ 31 + b2n q.deferred * 2 ^ 30 + lag)
      let c := c.axFlag a 10 late
      let c := if late && !x.lagging then (c.count (pageAddr PRF 0 0x03C)).axEvent a 9 else c
      let c := c.when (c.drives && turn) (·.out (.stepDir n (c.stepDirPin n) dirAt.toNat))
      let c := c.when c.drives fun c => c.each q.starts fun c s => c.out (.stepPulse n (!c.bit (stpK n 0) 29) s.toNat width.toNat)
      if behind.natAbs > 65535 then c.axisFault a 2 1152 else c

/-! ### Coil drive (R253 to R255) -/

/-- Two numbers that stand for cos and sin of a turn of 1/1024, times 2^100. -/
def turnCos : Int := 1267626737063919613192537442170
/-- The sine beside it. -/
def turnSin : Int := 7778157858431849463462493803

/-- cos and sin of `n` turns of 1/1024, times 2^100. Log 48, DEDUCED. -/
def cosSin : Nat → Int × Int
  | 0 => (2 ^ 100, 0)
  | n + 1 =>
    let (x, y) := cosSin n
    (roundShift (x * turnCos - y * turnSin) 100, roundShift (x * turnSin + y * turnCos) 100)

/-- The present coil current level, Q15 (R254). Log 48, DEDUCED. -/
def Chip.coilLevel (c : Chip) (a l : Nat) : Int :=
  let x := c.axis a
  let run : Int := c.fld (coilK l 0xC) 0 16
  let hold : Int := c.fld (coilK l 0xC) 16 16
  let level := if c.s64 (axK a 0x98) != 0 || x.restNs < c.fld (coilK l 0x18) 16 16 * 1000000 then run else hold
  let ramp := c.fld (coilK l 0x18) 0 16 * 1000000
  if x.onNs < ramp then roundDiv (level * x.onNs) ramp else level

/-- R255: the bank a coil drive takes at this tick; `crossed`: ELEC_IDX has crossed a multiple of 256. Log 48, DEDUCED. -/
def Chip.coilBank (c : Chip) (a l : Nat) (crossed : Bool) : Chip :=
  let strong := c.bit (coilK l 0x1C) 31
  let set (c : Chip) (b : Bool) : Chip :=
    let c := c.each [c.fld (coilK l 8) 0 12, c.fld (coilK l 8) 16 12] fun c s =>
      c.slotCtlWrite s (putBits (c.word (ctlK s)) 30 1 (b2n b))
    (((c.setBit (coilK l 0x1C) 31 b).setBit (coilK l 0x1C) 28 false).count (coilK l 0x20)).axEvent a 8
  match c.fld (coilK l 0) 29 2 with
  | 1 => if strong then set c false else c
  | 2 => if strong then c else set c true
  | _ =>
    -- electrical speed in Q16.16, from VEL (32 fractional bits) and CPU (16)
    let w := (c.s64 (axK a 0x98)).natAbs * c.nat (coilK l 4) / 2 ^ 32
    let wants := if strong then decide (w ≤ c.nat (coilK l 0x14)) else decide (w ≥ c.nat (coilK l 0x10))
    let c := c.when wants (·.setBit (coilK l 0x1C) 28 true)
    if c.bit (coilK l 0x1C) 28 && crossed then set c (!strong) else c

/-- R254, R255: the coil drive's part of a tick. Log 48, DEDUCED. -/
def Chip.coilTick (c : Chip) (a : Nat) : Chip :=
  match c.coilOf a with
  | none => c
  | some l =>
    let pos := c.wrapPos a (c.axis a).raw
    let cpu := c.nat (coilK l 4)
    let cyc := pos * cpu
    let new := ((cyc % 2 ^ 48) * 1024 / 2 ^ 48).toNat
    -- the quarters of an electrical cycle before the tick, and after its travel
    let before := c.wrapPos a ((c.axis a).raw - (c.axis a).dpos) * cpu
    let after := before + (c.axis a).dpos * cpu
    let crossed := before.fdiv (2 ^ 46) != after.fdiv (2 ^ 46) || (before.fdiv (2 ^ 46) - cyc.fdiv (2 ^ 46)) % 4 != 0
    let c := c.setFld (coilK l 0x1C) 0 10 new
    if !c.bit (coilK l 0x1C) 27 then c
    else
      let x := c.axis a
      let dt := c.axPeriod (c.axTrig a) / 65536
      let i := c.coilLevel a l
      let (co, si) := cosSin new
      let c := (c.setFld (ctlK (c.fld (coilK l 8) 0 12) + 4) 0 16 (unsigned 16 (roundShift (i * co) 100))).setFld
        (ctlK (c.fld (coilK l 8) 16 12) + 4) 0 16 (unsigned 16 (roundShift (i * si) 100))
      let c := c.coilBank a l crossed
      let rest := if c.s64 (axK a 0x98) != 0 then 0 else min (x.restNs + dt) (2 ^ 40)
      c.setAxis a { c.axis a with onNs := min (x.onNs + dt) (2 ^ 40), restNs := rest }

/-! ### The tick -/

/-- Does the axis tick: is it enabled, or does its ENABLE wait for the tick (R224, R229)? -/
def Chip.axTicks (c : Chip) (a : Nat) : Bool := c.axisOn a || (c.axis a).pending.any (·.code == 1)

/-- One tick of axis `a` for the trigger with stamp `trg`; under STO no command but DISABLE takes effect (R249). -/
def Chip.tickAxis (c : Chip) (a rr : Nat) (trg : Stamp) : Chip × List AxisWrite :=
  let c := if c.axState a = 7 && (c.keptCmd a).isNone then c else c.applyPending a
  if !c.axisOn a then (c, [])
  else
    let held := c.axState a == 7
    let c := if held then c else (c.engage a).lagMaster a trg
    let was := c.axis a
    let c := if held then c else (c.baseTick a rr).supTick a
    let (c, ws) := c.axisOutputs a trg
    ((c.stepTick a was (c.stampOf (axK a 0xA8))).coilTick a, ws)

/-- AXIS_TICK: the tick that is due first; the generator ticks only in FLOW (R224). -/
def Chip.axisTick (c : Chip) (rr : Nat) : Chip × List AxisWrite :=
  match c.prf.due with
  | [] => (c, [])
  | d :: r =>
    let c := { c with prf := { c.prf with due := r } }
    if c.axTicks d.axis && c.modState = 0 then c.tickAxis d.axis rr d.stamp else (c, [])

/-- R224: an occurrence of trigger `n` makes a tick due for its axes, virtual masters first. Log 48, DEDUCED. -/
def Chip.ticksDue (c : Chip) (n : Nat) (trg : Stamp) : Chip :=
  if c.modState != 0 then c
  else
    let on := (List.range 1152).filter fun a => c.axTicks a && c.axTrig a = n
    let l := on.filter (1088 ≤ ·) ++ on.filter (· < 1088)
    { c with prf := { c.prf with due := c.prf.due ++ l.map fun a => { axis := a, stamp := trg } } }

end Sys2Proof.Machine
end

