-- ==== Sys2Proof/Machine/Pwm.lean ====
section
/-! DEFINITION. The PWM Array and the trip path (08_pwm_trips): shadows and transfers, edges, trips, the self-test. -/

namespace Sys2Proof.Machine

/-- A register of pair page `p` (R262). -/
def pwmK (p o : Nat) : Nat := pageAddr PWM (1 + p) o
/-- A register of the PWM control page (R288). -/
def pwmA (o : Nat) : Nat := pageAddr PWM 0 o
/-- What pair `p` holds outside its page. -/
def Chip.pair (c : Chip) (p : Nat) : Pair := tab {} c.pwm.pairs p
/-- What pair `p` holds outside its page changes. -/
def Chip.setPair (c : Chip) (p : Nat) (x : Pair) : Chip :=
  { c with pwm := { c.pwm with pairs := tabPut {} c.pwm.pairs p x } }

/-! ### State of a pair (R283, R286) -/

/-- STATE of pair `p`, the first that applies (R286). -/
def Chip.pairState (c : Chip) (p : Nat) : Nat :=
  if !c.pageOn PWM (1 + p) then 0
  else if !c.drives || c.modState ≥ 4 || !c.bankGood 0 then 5
  else if c.bit (pwmK p 0x100) 24 && c.stoGroup (c.fld (pwmK p 0x100) 20 4) then 4
  else if c.bit (pwmK p 0x108) 21 then 3
  else if !c.bit (pwmK p 0x104) 31 || c.bit (pwmK p 0x104) 0 then 1
  else 2

/-- The present network time in 250 ps. -/
def Chip.now250 (c : Chip) : Nat := 4 * c.tim.ns + c.tim.frac / 2 ^ 30

/-- Is the pair held at its off level by anything (R275, R278, R282, R283, R285), at instant `t`? -/
def Chip.pairOff (c : Chip) (p : Nat) (t : Int) : Bool :=
  let st := c.pairState p
  let x := c.pair p
  !((st = 2 && x.forceAt.isNone) || (st = 1 && c.bit (pwmK p 0x104) 31 && x.forceAt.any (t < ·))) || x.hold ||
    c.bit (pwmK p 0x108) 17 || 2 ≤ c.modState || c.flushing

/-- STAT.STATE and the STO_CHANGE level follow (R286, R287). -/
def Chip.refreshPair (c : Chip) (p : Nat) : Chip :=
  let s := c.pairState p
  (c.setFld (pwmK p 0x108) 28 4 s).level PWM (1 + p) 5 (s = 4)

/-- ARMED of a pair, in both places (R286, R288). -/
def Chip.setArmed (c : Chip) (p : Nat) (b : Bool) : Chip :=
  (c.setBit (pwmK p 0x108) 20 b).setBit (pwmA (0x510 + 4 * (p / 32))) (p % 32) b

/-! ### Edges of a period (R264, R265, R271) -/

/-- The turn-off and the delayed turn-on of an intended change; `next` is when the next change turns that side off. Log 49, DEDUCED. -/
def edgesAt (x : PwmChange) (next : Option Nat) : List PwmEdge :=
  let on := x.at' + x.delay
  { at' := x.at', high := !x.high, on := false } ::
    (if next.all (on < ·) then [{ at' := on, high := x.high, on := true }] else [])

/-- The edges of a list of intended changes. Log 49, DEDUCED. -/
def edgesOf : List PwmChange → List PwmEdge
  | [] => []
  | [x] => edgesAt x none
  | x :: y :: r => edgesAt x (some y.at') ++ edgesOf (y :: r)

/-- An edge in its place among edges in the order of time. -/
def edgeIn (e : PwmEdge) : List PwmEdge → List PwmEdge
  | [] => [e]
  | x :: r => if e.at' < x.at' then e :: x :: r else x :: edgeIn e r

/-- The edges that switch a pin, from the levels the two sides have (R276). -/
def switching (hi lo : Bool) : List PwmEdge → List PwmEdge
  | [] => []
  | e :: r =>
    let was := if e.high then hi else lo
    let rest := switching (if e.high then e.on else hi) (if e.high then lo else e.on) r
    if was = e.on then rest else e :: rest

/-- R264: the intended changes of the high side in a period of `per` with duty `d`, from the level it ended with: none where the pair
starts. -/
def intended (align per d : Nat) (was : Option Bool) : List (Nat × Bool) :=
  let start (h : Bool) : List (Nat × Bool) := if was = some h then [] else [(0, h)]
  if d = 0 then start false
  else if per ≤ d then start true
  else match align with
    | 0 => start true ++ [(d, false)]
    | 1 => start false ++ [(per - d, true)]
    | _ => start false ++ [((per - d) / 2, true), ((per + d) / 2, false)]

/-- The level the high side is intended to end the period with. -/
def endsHigh (align per d : Nat) : Bool := d != 0 && (per ≤ d || align = 1)

/-- The active PERIOD and DUTY of a pair, in 250 ps. -/
def Chip.pairPer (c : Chip) (p : Nat) : Nat := c.u64 (pwmK p 0x180)
/-- The active DUTY of a pair, in 250 ps. -/
def Chip.pairDuty (c : Chip) (p : Nat) : Nat := c.u64 (pwmK p 0x188)

/-- Is a side of the pair on at `t` of the present period, so far as its edges go (R264, R265)? -/
def Pair.sideOn (x : Pair) (high : Bool) (t : Int) : Bool :=
  (x.edges.filter fun e => e.high = high && (e.at' : Int) ≤ t).foldl (fun _ e => e.on) (if high then x.hiOn else x.loOn)

/-- The edges of the present period from its intended changes (R264, R265). -/
def Pair.placed (x : Pair) : Pair :=
  { x with edges := switching x.hiOn x.loOn ((x.carry ++ edgesOf x.plan).foldl (fun l e => edgeIn e l) []) }

/-- A change with the dead time that the active registers give it (R265). -/
def Chip.pwmChange (c : Chip) (p : Nat) (q : Nat × Bool) : PwmChange :=
  { at' := q.1, high := q.2, delay := if q.2 then c.fld (pwmK p 0x190) 0 12 else c.fld (pwmK p 0x190) 16 12 }

/-- The edges of the period that begins, from the active values (R264, R265): turn-ons that the last period delayed up to `len`, its
length, and beyond go on, unless an intended turn-off comes first. Log 49, DEDUCED. -/
def Chip.placeEdges (c : Chip) (p : Nat) (len : Nat) (first : Bool) : Chip :=
  let x := c.pair p
  let al := c.fld (pwmK p 0x100) 29 2
  let per := c.pairPer p
  let d := c.pairDuty p
  let plan := (intended al per d (if first then none else some x.endHigh)).map (c.pwmChange p)
  let carry := (x.edges.filter fun e => len ≤ e.at' && e.on).map fun e => { e with at' := e.at' - len }
  let carry := if first then [] else carry.filter fun e => !plan.any fun q => q.high != e.high && q.at' ≤ e.at'
  let n : Pair := { x with plan := plan, carry := carry, hiOn := !first && x.sideOn true (len - 1),
                           loOn := !first && x.sideOn false (len - 1), startHigh := x.endHigh, endHigh := endsHigh al per d }
  c.setPair p n.placed

/-! ### Shadow writes, arms and transfers (R263, R268 to R273) -/

/-- The value a shadow register takes from a write at offset `off` (R263). -/
def Chip.shadowWord (c : Chip) (p off : Nat) (data : List Word) : Chip :=
  let w0 : Word := data.headD 0
  let wide := decide (off < 0x120)
  if wide && off % 8 = 0 then
    (c.setWord (pwmK p off) w0).setWord (pwmK p (off + 4)) ((data.getD 1 0) &&& 7#32)
  else if wide then c.setWord (pwmK p off) (w0 &&& 7#32)
  else if off = 0x120 then c.setWord (pwmK p off) (w0 &&& 0x0FFF_0FFF#32)
  else c.setWord (pwmK p off) w0

/-- R264: is PERIOD outside 100 ns to 1 s? -/
def periodBad (v : Nat) : Bool := v < 50 * 8 || 500000000 * 8 < v

/-- R269: SHADOW_LATE. -/
def Chip.shadowLate (c : Chip) (p : Nat) : Chip := (c.count (pwmK p 0x034)).cause PWM (1 + p) 3

/-- Does the counter of pair `p` run (R267, R285)? -/
def Chip.pairRuns (c : Chip) (p : Nat) : Bool := c.pageOn PWM (1 + p) && !c.bit (pwmK p 0x108) 17 && c.running

/-- The instant of the next period boundary, in 250 ps (R264, R267). -/
def Chip.pairEnd (c : Chip) (p : Nat) : Int := (c.pair p).bAt + c.pairPer p + 8 * (c.pair p).adj

/-- R269, R272: does a write that completes now fall into the guard window of 16 ns before a boundary? -/
def Chip.inGuard (c : Chip) (p : Nat) : Bool :=
  let now : Int := c.now250
  let half := (c.pair p).bAt + c.pairPer p / 2
  c.pairRuns p && (decide (c.pairEnd p - now < 64) ||
    (c.bit (pwmK p 0x100) 28 && c.fld (pwmK p 0x100) 29 2 = 2 && decide (now ≤ half) && decide (half - now < 64)))

/-- What waits for a boundary takes its place (R263, R268, R273). -/
def Chip.lateIn (c : Chip) (p : Nat) (q : PwmLate) : Chip :=
  let c := if q.words.isEmpty then c else (c.shadowWord p q.off q.words).setStamp (pwmK p 0x138) q.stamp
  if q.arm then c.setArmed p true else c

/-- A shadow write or an arm is accepted, or deferred to the boundary after the next (R269). -/
def Chip.lateOr (c : Chip) (p : Nat) (late : Bool) (q : PwmLate) : Chip :=
  if late then (c.setPair p { c.pair p with late := (c.pair p).late ++ [q] }).shadowLate p else c.lateIn p q

/-- R263, R264, R268, R269, R273: a shadow write of pair `p`, with an arm or without; one that leaves PERIOD outside its range is
discarded. -/
def Chip.shadowWrite (c : Chip) (m p off : Nat) (data : List Word) (s : Stamp) (arm late : Bool) : Chip :=
  let q : PwmLate := { off := off, words := data, stamp := s, arm := arm }
  let n := (c.each (c.pair p).late fun c q => c.lateIn p q).lateIn p q
  if off < 0x118 && periodBad (n.u64 (pwmK p 0x110)) then c.logErr ecNoKey m (pwmK p off) else c.lateOr p late q

/-- R268, R269: an arm of pair `p`. -/
def Chip.armPair (c : Chip) (p : Nat) (late : Bool) : Chip := c.lateOr p late { off := 0, words := [], stamp := 0, arm := true }

/-- R268, R270: a write of PWM_ARM_k by master `m` of partition `p'`. -/
def Chip.armWrite (c : Chip) (m k : Nat) (d : Word) : Chip :=
  let l := (List.range 32).filter (d.getLsbD ·)
  let mine (j : Nat) : Bool := m = 16 || c.pageOwner PWM (1 + (32 * k + j)) = m
  let n := c.each (l.filter mine) fun c j => c.armPair (32 * k + j) (c.inGuard (32 * k + j))
  if l.all mine then n else n.logErr ecNotOwner m (pwmA (0x500 + 4 * k))

/-- The deferred writes and arms take their place once the boundary has passed (R269). -/
def Chip.shadowCatchUp (c : Chip) (p : Nat) : Chip :=
  let l := (c.pair p).late
  c.setPair p { c.pair p with late := [] } |>.each l fun c q => c.lateIn p q

/-- R268, R273: every shadow register is copied to its active register in one action. Log 49, DEDUCED. -/
def Chip.loadActive (c : Chip) (p : Nat) : Chip :=
  let c := c.each [0x110, 0x114, 0x118, 0x11C, 0x120, 0x128, 0x12C, 0x130, 0x134] fun c o =>
    c.setWord (pwmK p (o + 0x70)) (c.word (pwmK p o))
  c.setStamp (pwmK p 0x1A8) (c.stampOf (pwmK p 0x138))

/-- R268: a transfer at a boundary. Log 49, DEDUCED. -/
def Chip.transfer (c : Chip) (p : Nat) : Chip := ((c.loadActive p).setArmed p false).cause PWM (1 + p) 4

/-- R271: DUTY_CLAMP. Log 49, DEDUCED. -/
def Chip.clampCheck (c : Chip) (p : Nat) : Chip :=
  if c.u64 (pwmK p 0x188) > c.u64 (pwmK p 0x180) then
    ((c.setBit (pwmK p 0x108) 19 true).count (pwmK p 0x038)).cause PWM (1 + p) 2
  else c.setBit (pwmK p 0x108) 19 false

/-- Does the pair transfer at this boundary (R268)? -/
def Chip.transfers (c : Chip) (p : Nat) : Bool := c.bit (pwmK p 0x100) 31 || c.bit (pwmK p 0x108) 20

/-! ### Trips (R275 to R279) -/

/-- The configuration word `w` (0 the input's, 1 to 3 its mask) of input `i` as gate A or gate B holds it (R277). -/
def Chip.tripCopy (c : Chip) (gateB : Bool) (i w : Nat) : Word :=
  let k := pwmA (0x100 + 16 * i + 4 * w)
  match gateB, tab none c.pwm.gateB k with
  | true, some d => d
  | _, _ => c.word k

/-- Is input `i` active as a gate sees it (R275)? -/
def Chip.tripSeen (c : Chip) (gateB : Bool) (i : Nat) : Bool :=
  let w := c.tripCopy gateB i 0
  w.getLsbD 31 && (natBit c.pwm.balls i != w.getLsbD 30)

/-- Is input `i` active in either gate? -/
def Chip.tripActive (c : Chip) (i : Nat) : Bool := c.tripSeen false i || c.tripSeen true i

/-- The pairs that input `i` trips through a gate (R275). -/
def Chip.tripPairs (c : Chip) (gateB : Bool) (i : Nat) : List Nat :=
  (List.range 96).filter fun p => (c.tripCopy gateB i (1 + p / 32)).getLsbD (p % 32)

/-- LEVEL_A and LEVEL_B of an input (R288). -/
def Chip.tripLevels (c : Chip) (i : Nat) : Chip :=
  let k := pwmA (0x400 + 4 * i)
  (c.setBit k 31 (c.tripSeen false i)).setBit k 30 (c.tripSeen true i)

/-- The pairs that the slots of coil block `l` write (R253, R256). -/
def Chip.coilPairs (c : Chip) (l : Nat) : List Nat :=
  (List.range 96).filter fun p =>
    [c.fld (coilK l 8) 0 12, c.fld (coilK l 8) 16 12].any fun s =>
      (List.range (c.slotHdr s).nout).any fun j => pageOf (c.fld (outK s j 0) 0 25) = pwmK p 0

/-- R256: a trip of pair `p` de-energises the coils that its slots drive. -/
def Chip.coilsOfPair (c : Chip) (p : Nat) : Chip :=
  c.each ((List.range 32).filter fun l => (c.coilPairs l).contains p) fun c l => c.coilOff (1056 + l)

/-- R254, R256, R257: the coils of block `l` are energised again, where nothing holds them off any more. -/
def Chip.coilBack (c : Chip) (l : Nat) : Chip :=
  let st := c.axState (1056 + l)
  if st = 0 || st = 7 || c.bit (coilK l 0x1C) 27 || 2 ≤ c.modState || (c.coilPairs l).any (fun p => c.bit (pwmK p 0x108) 21) then c
  else c.coilOn (1056 + l)

/-- R256, R285: the pins go to their off level or to high impedance, and the coils are de-energised. -/
def Chip.coilsDown (c : Chip) : Chip := c.each (List.range 32) fun c l => c.coilOff (1056 + l)

/-- R254: the pins are driven again. -/
def Chip.coilsUp (c : Chip) : Chip := c.each (List.range 32) Chip.coilBack

/-- R278, R279: pair `p` trips by input `i`, whose edge at the ball was at `s`. -/
def Chip.tripPair (c : Chip) (p i : Nat) (s : Stamp) : Chip :=
  let x := c.pair p
  let c := c.setPair p { x with srcs := setNatBit x.srcs i true }
  if c.bit (pwmK p 0x108) 21 then c
  else
    let c := ((c.setBit (pwmK p 0x108) 21 true).setFld (pwmK p 0x108) 22 6 i).setStamp (pwmK p 0x1C0) s
    let c := ((c.count (pwmK p 0x03C)).cause PWM (1 + p) 0).coilsOfPair p
    c.refreshPair p

/-- Input `i` trips the pairs of its mask through one gate (R275, R277). -/
def Chip.tripGate (c : Chip) (gateB : Bool) (i : Nat) : Chip :=
  c.each (c.tripPairs gateB i) fun c p => c.tripPair p i (tab 0 c.pwm.edgeAt i)

/-- Is every input that tripped the pair inactive, and none of them held by a fault (R278, R281)? -/
def Chip.clearable (c : Chip) (p : Nat) : Bool :=
  let x := c.pair p
  !x.faultTrip && (List.range 48).all fun i => !(natBit x.srcs i && c.tripActive i)

/-- The trip latch clears: the pins resume at the next boundary (R278). -/
def Chip.tripUnlatch (c : Chip) (p : Nat) : Chip :=
  let c := c.setPair p { c.pair p with srcs := 0, hold := true }
  let c := ((c.setBit (pwmK p 0x108) 21 false).cause PWM (1 + p) 1).refreshPair p
  c.each ((List.range 32).filter fun l => (c.coilPairs l).contains p) Chip.coilBack

/-- A write of 1 to TRIP_CLR (R278). -/
def Chip.tripClear (c : Chip) (p : Nat) : Chip :=
  if c.clearable p then
    let c := c.setBit (pwmK p 0x108) 18 false
    if c.bit (pwmK p 0x108) 21 then c.tripUnlatch p else c
  else c.setBit (pwmK p 0x108) 18 true

/-- The instant of the next edge of pair `p`, or of its next boundary, in 250 ps; now where the counter stands (R286). Log 49, DEDUCED. -/
def Chip.nextEdge (c : Chip) (p : Nat) : Int :=
  let x := c.pair p
  let now : Int := c.now250
  if !c.pairRuns p then now
  else match (x.edges.map fun e => x.bAt + e.at').find? (now < ·) with
    | some t => min t (c.pairEnd p)
    | none => c.pairEnd p

/-- A write of PWM_PAIR_CTL (R286). -/
def Chip.pairCtlWrite (c : Chip) (p : Nat) (d : Word) : Chip :=
  let was := c.bit (pwmK p 0x104) 0
  let c := c.setWord (pwmK p 0x104) (d &&& 0x8000_0001#32)
  let force := if !d.getLsbD 0 then none else if was then (c.pair p).forceAt else some (c.nextEdge p)
  let c := c.setPair p { c.pair p with forceAt := force }
  let c := if d.getLsbD 1 then c.tripClear p else c
  c.refreshPair p

/-- A write by master `m` of PWM_PAIR_CFG or PWM_PAIR_PHASE: only while disabled (R286). -/
def Chip.pairCfgWrite (c : Chip) (m p off : Nat) (d : Word) : Chip :=
  if c.pageOn PWM (1 + p) then c.logErr ecLocked m (pwmK p off) else c.setWord (pwmK p off) d

/-! ### Boundaries (R264, R267, R268, R271, R272, R278, R282) -/

/-- The switching edges of the present period at the balls, in 250 ps of the Timebase. -/
def Chip.ballEdges (c : Chip) (p : Nat) : List Int :=
  let x := c.pair p
  if c.pairOff p c.now250 then [] else x.edges.map fun e => x.bAt + e.at'

/-- PWM_PERIOD_BOUNDARY of pair `p`, at instant `t` in 250 ps. -/
def Chip.periodBoundary (c : Chip) (p : Nat) (t : Int) : Chip :=
  if !c.pairRuns p then c
  else
    let len := (c.pairPer p + 8 * (c.pair p).adj).toNat
    let past := ((c.pair p).past ++ (c.ballEdges p).filter (· < c.pairEnd p)).filter (t ≤ · + 8192)
    let c := if c.transfers p then c.transfer p else c
    let c := c.clampCheck p
    let c := if c.bit (pwmK p 0x100) 25 && c.bit (pwmK p 0x108) 21 && c.clearable p then c.tripUnlatch p else c
    let c := c.setPair p { c.pair p with bAt := t, adj := 0, fired := 0, hold := false, past := past }
    ((c.placeEdges p len false).shadowCatchUp p).refreshPair p

/-- PWM_HALF_BOUNDARY of pair `p` (R272): the turn-on stands, the turn-off follows the new values. -/
def Chip.halfBoundary (c : Chip) (p : Nat) : Chip :=
  let k := pwmK p 0x100
  if !c.pairRuns p || !c.bit k 28 || c.fld k 29 2 != 2 then c
  else
    let c :=
      if c.transfers p then
        let mid := c.pairPer p / 2
        let c := c.transfer p
        let x := c.pair p
        let kept := x.plan.filter fun q => q.at' ≤ mid && (q.high || q.at' < mid)
        let on := (kept.getLast?.map (·.high)).getD x.startHigh
        let per := c.pairPer p
        let d := c.pairDuty p
        let stays := on && per ≤ d
        let off := if on && !stays then [c.pwmChange p (max mid (per / 2 + d / 2), false)] else []
        c.setPair p { x with plan := kept ++ off, endHigh := stays }.placed
      else c
    c.shadowCatchUp p

/-- The next boundary of pair `p` and the one after it, in 250 ps (R264, R272). -/
def Chip.boundsAhead (c : Chip) (p : Nat) : Int × Int :=
  let per : Int := c.pairPer p
  let half := (c.pair p).bAt + per / 2
  let halves := c.bit (pwmK p 0x100) 28 && c.fld (pwmK p 0x100) 29 2 = 2
  if halves && decide ((c.now250 : Int) ≤ half) then (half, c.pairEnd p)
  else (c.pairEnd p, c.pairEnd p + (if halves then per / 2 else per))

/-- The boundary from which a shadow write or an arm accepted now counts, in 250 ps; 0 where the counter stands (R269, R284). -/
def Chip.shadowFrom (c : Chip) (p : Nat) : Int :=
  if !c.pairRuns p then 0 else if c.inGuard p then (c.boundsAhead p).2 else (c.boundsAhead p).1

/-- R284: a forwarded shadow write or arm takes its place at the standby so that it transfers at the lead's boundary `b`: at once, after the
next boundary, or by a transfer now where that boundary has passed here. The boundaries of the two modules fall together within the
limit of R267. Log 49, DEDUCED. -/
def Chip.shadowFwd (c : Chip) (p : Nat) (q : PwmLate) (b : Int) : Chip :=
  if b = 0 || !c.pairRuns p then c.lateIn p q
  else if b > (c.boundsAhead p).1 + 32 then c.lateOr p true q
  else
    let n := c.lateIn p q
    if b ≤ (c.pair p).bAt + 32 && n.transfers p then n.transfer p else n

/-- R267: the counter of a waiting pair starts at PHASE, at instant `t` of its trigger in 250 ps; its active registers are the shadows then.
A pair whose PERIOD nothing has written keeps waiting. Log 49, DEDUCED. -/
def Chip.pairStart (c : Chip) (p : Nat) (t : Int) : Chip :=
  let per := c.u64 (pwmK p 0x110)
  if periodBad per then c
  else
    let c := (c.setBit (pwmK p 0x108) 17 false).loadActive p
    let ph : Int := (c.nat (pwmK p 0x10C) * 8 % per : Nat)
    let c := c.setPair p { c.pair p with bAt := t - ph, adj := 0, fired := 0, hold := false, endHigh := false, past := [] }
    ((c.clampCheck p).placeEdges p 0 true).refreshPair p

/-- R267: the counter error at an occurrence of SYNC_TRIG at instant `t`, in counts of 2 ns. -/
def Chip.syncError (c : Chip) (p : Nat) (t : Int) : Int :=
  let per : Int := c.pairPer p
  if per = 0 then 0
  else
    let e := (t - (c.pair p).bAt - 8 * c.nat (pwmK p 0x10C)) % per
    roundDiv (if 2 * e ≥ per then e - per else e) 8

/-- PWM_SYNC (R267): an occurrence of trigger `n` with stamp `s` starts waiting pairs and corrects the period of others. -/
def Chip.pwmSync (c : Chip) (n : Nat) (s : Stamp) : Chip :=
  let t : Int := s.fine / 2 ^ 14
  c.each ((List.range 96).filter fun p =>
      c.pageOn PWM (1 + p) && c.running && c.fld (pwmK p 0x100) 12 8 = n) fun c p =>
    if c.bit (pwmK p 0x108) 17 then c.pairStart p t
    else if c.bit (pwmK p 0x100) 11 then
      let e := c.syncError p t
      let m : Int := c.fld (pwmK p 0x100) 0 11
      let lim := decide (e.natAbs > m.natAbs)
      let c := c.setPair p { c.pair p with adj := clampI (-m) m e }
      let c := (c.setFld (pwmK p 0x108) 0 16 (unsigned 16 (satS 16 e))).setBit (pwmK p 0x108) 16 lim
      if lim then (c.count (pwmK p 0x040)).cause PWM (1 + p) 7 else c
    else c

/-- PWM_COMPARE_MATCH (R274): compare `n` of pair `p` raises its trigger line once per period. -/
def Chip.compareMatch (c : Chip) (p n : Nat) : Chip :=
  let w := c.word (pwmK p (0x198 + 4 * n))
  let x := c.pair p
  if n < 4 && c.pairRuns p && w.getLsbD 31 && getBits w 0 31 * 8 < c.u64 (pwmK p 0x180) && !natBit x.fired n then
    let c := c.setPair p { x with fired := setNatBit x.fired n true }
    { c with strobes := c.strobes ++ [(256 + 4 * p + n, c.now)] }
  else c

/-! ### Blanking (R275 to R277, R279) -/

/-- R276, R277: is the blanking window of input `i` open in a gate at instant `t`? It opens 2 ns before each switching edge of BLANK_PAIR
at the balls; that of the next period's first edge is known once the guard window has closed. -/
def Chip.blanked (c : Chip) (gateB : Bool) (i : Nat) (t : Int) : Bool :=
  let w := c.tripCopy gateB i 0
  let p := getBits w 16 7
  let len : Int := 8 * getBits w 0 10
  if 96 ≤ p || len = 0 then false
  else
    let soon := if c.pairRuns p && decide (c.pairEnd p - t ≤ 8) then (c.periodBoundary p (c.pairEnd p)).ballEdges p else []
    ((c.pair p).past ++ c.ballEdges p ++ soon).any fun e => decide (e - 8 ≤ t) && decide (t < e + len)

/-- TRIP_INPUT_ACTIVE (R275 to R277, R279): balls that go high or low within the same 2 ns, `sub` times 250 ps after the counter's last
step. Each gate acts on an input that becomes active to it outside its blanking window. The trip path works in FLOW and TRICKLE
(R285). Log 50, DEDUCED. -/
def Chip.tripBalls (c : Chip) (high low sub : Nat) : Chip :=
  let was (g : Bool) := (List.range 48).filter (c.tripSeen g)
  let (wasA, wasB) := (was false, was true)
  let fine := c.tim.frac / 65536 + sub * 16384
  let s := c.stampAt (c.tim.ns + fine / 65536) (fine % 65536)
  let move := (List.range 48).filter fun i => (natBit high i && !natBit c.pwm.balls i) || (natBit low i && !natBit high i && natBit c.pwm.balls i)
  let balls := move.foldl (fun b i => setNatBit b i (natBit high i)) c.pwm.balls
  let c := { c with pwm := { c.pwm with balls := balls, edgeAt := move.foldl (fun t i => tabPut 0 t i s) c.pwm.edgeAt } }
  let c := c.each (List.range 48) Chip.tripLevels
  if !c.running then c
  else
    let t : Int := c.now250 + sub
    let acts (g : Bool) (before : List Nat) (i : Nat) : Bool := c.tripSeen g i && !before.contains i && !c.blanked g i t
    let l := (List.range 48).flatMap fun i => (if acts false wasA i then [(false, i)] else []) ++ (if acts true wasB i then [(true, i)] else [])
    c.each l fun c x => c.tripGate x.1 x.2

/-- Input `i` trips through each gate that sees it active outside its blanking window at instant `t`. -/
def Chip.tripInput (c : Chip) (i : Nat) (t : Int) : Chip :=
  c.each ([false, true].filter fun g => c.tripSeen g i && !c.blanked g i t) fun c g => c.tripGate g i

/-- BLANK_WINDOW_CLOSE (R276): an input still active trips. -/
def Chip.blankClose (c : Chip) (i sub : Nat) : Chip := if i < 48 && c.running then c.tripInput i (c.now250 + sub) else c

/-! ### The pins (R261, R266, R283, R285) -/

/-- PWM_OUT[n] at the present instant: its level, or none in high impedance (R261, R266, R283, R285). Log 49, DEDUCED. -/
def Chip.pwmOut (c : Chip) (n : Nat) : Option Bool :=
  let p := n / 2
  let high := n % 2 == 0
  let x := c.pair p
  let t : Int := c.now250
  if 192 ≤ n || !c.pageOn PWM (1 + p) || c.pairState p = 5 || !c.bit (pwmK p 0x104) 31 then none
  else
    let on := !c.pairOff p t && x.sideOn high (t - x.bAt)
    some (on != c.bit (pwmK p 0x100) (if high then 27 else 26))

/-! ### Enabling, STO, pins and power (R264, R267, R282 to R285) -/

/-- PAGE_ENABLE of pair `p`: ALIGN 3 is refused; enabling waits for SYNC_TRIG (R264, R267). -/
def Chip.pairEnable (c : Chip) (p : Nat) (on : Bool) : Chip :=
  let k := pageAddr PWM (1 + p) PG_CTL
  if on && c.fld (pwmK p 0x100) 29 2 = 3 then c.setBit k 0 false
  else
    let was := c.bit k 0
    let c := c.setBit k 0 on
    let c := if on && !was then c.setBit (pwmK p 0x108) 17 true else c
    let c := if on then c
      else
        let x := c.pair p
        (c.setBit (pwmK p 0x108) 17 false).setPair p
          { late := x.late, srcs := x.srcs, faultTrip := x.faultTrip, forceAt := x.forceAt }
    c.refreshPair p

/-- R282: the Safety Unit reports STO for group `g`, or no longer does: the pins resume at the first boundary after that. -/
def Chip.pwmSto (c : Chip) (g : Nat) : Chip :=
  c.each ((List.range 96).filter fun p => c.bit (pwmK p 0x100) 24 && c.fld (pwmK p 0x100) 20 4 = g) fun c p =>
    (if c.stoGroup g then c else c.setPair p { c.pair p with hold := true }).refreshPair p

/-- R283, R285, R287: pin ownership or the power state has changed from `c0`. -/
def Chip.pwmPins (c : Chip) (owned : Bool) : Chip :=
  c.each (List.range 96) fun c p =>
    let c := if owned != c.drives then c.cause PWM (1 + p) 6 else c
    c.refreshPair p

/-- R285: on the way back to TRICKLE every pair waits for its SYNC_TRIG. -/
def Chip.pwmRewait (c : Chip) : Chip :=
  c.each ((List.range 96).filter fun p => c.pageOn PWM (1 + p)) fun c p =>
    (c.setBit (pwmK p 0x108) 17 true).refreshPair p

/-! ### Trip configuration and self-test (R276, R277, R280, R281) -/

/-- TRIP_CFG_WRITE (R276, R277): a keyed write of word `w` of input `i` updates gate A and then gate B; an input that is active
acts on the copies as they then stand. Log 49, DEDUCED. -/
def Chip.tripCfgWrite (c : Chip) (i w : Nat) (d : Word) : Chip :=
  let k := pwmA (0x100 + 16 * i + 4 * w)
  let pair := getBits d 16 7
  if w = 0 && 96 ≤ pair && pair ≤ 126 then c
  else
    let c := c.setWord k (if w = 0 then d &&& 0xE07F_03FF#32 else d)
    let c := { c with pwm := { c.pwm with gateB := tabPut none c.pwm.gateB k none } }
    -- R288: CFG_MISMATCH shows that the copies differ
    let same := (List.range 4).all fun w => (tab none c.pwm.gateB (pwmA (0x100 + 16 * i + 4 * w))).isNone
    let c := (c.when same (·.setBit (pwmA (0x400 + 4 * i)) 26 false)).tripLevels i
    if c.running then c.tripInput i c.now250 else c

/-- CFG_MISMATCH_EXPIRY (R277): gate B's copy of input `i` has differed from gate A's for more than 1 µs. -/
def Chip.cfgMismatch (c : Chip) (i : Nat) (copy : List Word) : Chip :=
  if i < 48 && (List.range 4).any fun w => copy.getD w 0 != c.tripCopy false i w then
    let c := c.each (List.range 4) fun c w =>
      let d := copy.getD w 0
      let t := tabPut none c.pwm.gateB (pwmA (0x100 + 16 * i + 4 * w)) (if d = c.tripCopy false i w then none else some d)
      { c with pwm := { c.pwm with gateB := t } }
    let c := ((c.tripLevels i).setBit (pwmA (0x400 + 4 * i)) 26 true).cause PWM 0 2
    if c.running then c.tripInput i c.now250 else c
  else c

/-- The input's test can run: enabled, TEST_EN and a window of at least 24 ns (R280). -/
def Chip.testable (c : Chip) (i : Nat) : Bool :=
  let k := pwmA (0x100 + 16 * i)
  i < 48 && c.running && c.bit k 29 && c.fld k 16 7 != 127 && 12 ≤ c.fld k 0 10

/-- TRIP_SELF_TEST (R280, R281): one gate of input `i` has been tested. Log 50, DEDUCED. -/
def Chip.selfTest (c : Chip) (i : Nat) (pass : Bool) : Chip :=
  if !c.testable i then c
  else
    let k := pwmA (0x400 + 4 * i)
    let g := tab 0 c.pwm.testGate i
    if pass then
      let c := ((c.countFld k 0 16).setFld k 16 8 0).setBit k 27 false
      { c with pwm := { c.pwm with testGate := tabPut 0 c.pwm.testGate i (1 - g) } }
    else
      let c := ((c.countFld k 16 8).count (pwmA 0x034)).cause PWM 0 0
      if c.fld k 16 8 = 3 then
        let c := (c.setBit k (if g = 0 then 29 else 28) true).cause PWM 0 1
        if c.bit (pwmA 0x520) 31 then
          c.each (c.tripPairs (g = 0) i) fun c p =>
            let c := c.tripPair p i c.now
            c.setPair p { c.pair p with faultTrip := true }
        else c
      else c

/-- TEST_STALE_EXPIRY (R281): an enabled input has gone untested for 10 × TEST_INT. Log 50, DEDUCED. -/
def Chip.testStale (c : Chip) (i : Nat) : Chip :=
  if i < 48 && c.bit (pwmA (0x100 + 16 * i)) 31 && c.bit (pwmA (0x100 + 16 * i)) 29 then
    (c.setBit (pwmA (0x400 + 4 * i)) 27 true).cause PWM 0 3
  else c

/-- R288: a keyed write of PWM_TEST_CFG: TEST_INT 0 is stored as 1. Log 50, DEDUCED. -/
def Chip.testCfgWrite (c : Chip) (d : Word) : Chip :=
  let w := d &&& 0x8000_FFFF#32
  c.setWord (pwmA 0x520) (if getBits w 0 16 = 0 then putBits w 0 16 1 else w)

end Sys2Proof.Machine
end

