-- ==== Sys2Proof/Machine/Feedback.lean ====
section
/-! DEFINITION. The Feedback Interface (09_feedback): counting, Hall sectors, absolute encoders, latches, speed, index,
reference switch, and the general digital I/O. -/

namespace Sys2Proof.Machine

/-- A register of channel page `n` (R290). -/
def fbkK (n o : Nat) : Nat := pageAddr FBK n o
/-- What channel `n` holds outside its page. -/
def Chip.chan (c : Chip) (n : Nat) : Fbk := tab {} c.fbk.ch n
/-- What channel `n` holds outside its page changes. -/
def Chip.setChan (c : Chip) (n : Nat) (x : Fbk) : Chip := { c with fbk := { c.fbk with ch := tabPut {} c.fbk.ch n x } }
/-- A sticky flag of FBK_STAT. -/
def Chip.fbkFlag (c : Chip) (n i : Nat) (b : Bool) : Chip := c.setBit (fbkK n 0x150) i b
/-- SRC (R312). -/
def Chip.fbkSrc (c : Chip) (n : Nat) : Nat := c.fld (fbkK n 0x100) 29 3
/-- CPR (R294). -/
def Chip.cpr (c : Chip) (n : Nat) : Nat := c.nat (fbkK n 0x104)
/-- P = TURNS × CPR + COUNT (R294), from FBK_LIVE. -/
def Chip.fbkPos (c : Chip) (n : Nat) : Int :=
  signed 32 (c.nat (fbkK n 0x15C)) * c.cpr n + c.nat (fbkK n 0x158)
/-- FILT_N of a channel, at least 1 (R291, R312). -/
def Chip.filtN (c : Chip) (n : Nat) : Nat := max 1 (c.fld (fbkK n 0x100) 17 8)
/-- The delay of the channel's counted inputs in ns (R291, R303). -/
def Chip.dIn (c : Chip) (n : Nat) : Nat :=
  if c.fbkSrc n = 1 then c.fld (fbkK n 0x100) 0 8 * 1000 else c.filtN n * 4 + 8
/-- Is the channel enabled (R313)? -/
def Chip.chanOn (c : Chip) (n : Nat) : Bool := n < 32 && c.pageOn FBK n
/-- Counting runs down to SEEP (R317). -/
def Chip.counting (c : Chip) : Bool := c.modState ≤ 3

/-! ### Counting (R292 to R295, R307) -/

/-- P is stored as TURNS and COUNT; TURNS that wraps raises TURNS_WRAP (R294). -/
def Chip.putPos (c : Chip) (n : Nat) (p : Int) : Chip :=
  let m : Int := c.cpr n
  if m = 0 then c
  else
    let t := p.fdiv m
    let c := (c.setNat (fbkK n 0x158) (p - t * m).toNat).setNat (fbkK n 0x15C) (unsigned 32 t)
    if satHit 32 t then (c.fbkFlag n 22 true).cause FBK n 9 else c

/-- R307: the direction follows the extreme position. -/
def Chip.trackDir (c : Chip) (n : Nat) : Chip :=
  let x := c.chan n
  let p := c.fbkPos n
  let neg := c.bit (fbkK n 0x150) 13
  let ext := if neg then min x.ext p else max x.ext p
  let back := if neg then p - ext else ext - p
  if back ≥ c.fld (fbkK n 0x114) 0 16 + 1 then
    (((c.setChan n { x with ext := p }).fbkFlag n 13 (!neg)).cause FBK n 5).count (fbkK n 0x044)
  else c.setChan n { x with ext := ext }

/-- `d` counts are accepted: COUNT, TURNS, the last edge and the direction. -/
def Chip.countBy (c : Chip) (n : Nat) (d : Int) : Chip :=
  if d = 0 then c
  else
    let c := c.putPos n (c.fbkPos n + d)
    let c := c.setChan n { c.chan n with pb := c.fbkPos n, tb := c.nowNs - c.dIn n, edged := true }
    c.trackDir n

/-- The position is set without motion: the edges and the extreme move along. -/
def Chip.shiftPos (c : Chip) (n : Nat) (p : Int) : Chip :=
  let d := p - c.fbkPos n
  let x := c.chan n
  (c.putPos n p).setChan n { x with pb := x.pb + d, pa := x.pa + d, ext := x.ext + d }

/-- R292, R293: the counts of a sample in which A and B go from (a, b) to (a', b'); `none` when both change in X4, X2 or X1. -/
def quadrature (mode : Nat) (a b a' b' : Bool) : Option Int :=
  let da := a != a'
  let db := b != b'
  -- positive when A leads B
  let fwd : Int := if da then (if a' != b' then 1 else -1) else (if a' = b' then 1 else -1)
  match mode with
  | 0 => if da && db then none else if da || db then some fwd else some 0
  | 1 => if da && db then none else if da then some fwd else some 0
  | 2 => if da && db then none
    else if da && !b' then some (if a' then 1 else -1) else some 0
  | 3 => if da && a' then some (if b' then -1 else 1) else some 0
  | _ => some ((if da && a' then 1 else 0) - (if db && b' then 1 else 0))

/-- ENCODER_COUNT (R292, R293): the accepted levels of A and B of a filtered sample. -/
def Chip.encoderCount (c : Chip) (n : Nat) (a b : Bool) : Chip :=
  let x := c.chan n
  let c := c.setChan n { x with a := a, b := b }
  if !c.chanOn n || c.fbkSrc n != 0 || !c.counting then c
  else
    match quadrature (c.fld (fbkK n 0x100) 26 3) x.a x.b a b with
    | none =>
      let c := c.setChan n { c.chan n with qerr := 7 }
      ((c.fbkFlag n 21 true).count (fbkK n 0x034)).cause FBK n 3
    | some d => c.countBy n (if c.bit (fbkK n 0x100) 25 then -d else d)

/-- FBK_CMD SET_POS (R295). -/
def Chip.fbkSetPos (c : Chip) (n : Nat) : Chip :=
  let cnt := c.nat (fbkK n 0x138)
  if cnt ≥ c.cpr n then c.fbkFlag n 16 true
  else
    let c := c.shiftPos n (signed 32 (c.nat (fbkK n 0x13C)) * c.cpr n + cnt)
    ((c.fbkFlag n 16 false).fbkFlag n 23 false).setNat (fbkK n 0x164) 0

/-- A write of FBK_CMD (R311). -/
def Chip.fbkCmdWrite (c : Chip) (n : Nat) (d : Word) : Chip := if getBits d 0 4 = 1 then c.fbkSetPos n else c

/-! ### Hall sensors (R296) -/

/-- HALL_CHANGE (R296): the filtered code of the three inputs changes to `h`. Log 51, DEDUCED. -/
def Chip.hallChange (c : Chip) (n h : Nat) : Chip :=
  let c := c.setChan n { c.chan n with hall := h % 8 }
  if !c.chanOn n || !c.bit (fbkK n 0x100) 16 || !c.counting then c
  else
    let nib := c.fld (fbkK n 0x11C) (4 * (h % 8)) 4
    let old := c.fld (fbkK n 0x150) 0 3
    let sec := nib % 8
    let step := (sec + 6 - old) % 6
    if nib < 8 || 5 < sec || !(step = 0 || step = 1 || step = 5) then
      ((c.fbkFlag n 18 true).count (fbkK n 0x040)).cause FBK n 7
    else
      let c := c.setFld (fbkK n 0x150) 0 3 sec
      let c := c.newResult (fbkK n 0x818) (BitVec.ofNat 32 sec) (256 * n) (c.stampAt (c.nowNs - c.fld (fbkK n 0x100) 0 8 * 1000)
        (c.tim.frac / 65536))
      let d : Int := if step = 0 then 0 else if step = 1 then 1 else -1
      if c.fbkSrc n = 1 then c.countBy n (if c.bit (fbkK n 0x100) 25 then -d else d) else c

/-! ### Speed and latches (R301 to R307) -/

/-- The address of latch `l`: 0 CYC, 1 IDX, 2 REF (R301). -/
def latchK (n l o : Nat) : Nat := fbkK n (0x200 + 0x40 * l + o)

/-- A latch whole, with its result word, its completion and its cause (R301 to R305). Log 51, DEDUCED. -/
def Chip.takeLatch (c : Chip) (n l : Nat) (s : Stamp) (age : Nat) (decay zero corrected slip : Bool) : Chip :=
  let x := c.chan n
  let p := c.fbkPos n
  let m := c.cpr n
  let cnt := c.nat (fbkK n 0x158)
  let turns := c.nat (fbkK n 0x15C)
  let seq := (c.fld (latchK n l 0x30) 0 16 + 1) % 65536
  let dir := c.bit (fbkK n 0x150) 13
  let err := c.bit (fbkK n 0x150) 17
  let lstat := 2 ^ 31 + b2n dir * 2 ^ 30 + b2n (natBit x.qerr l) * 2 ^ 29 + b2n decay * 2 ^ 28 + b2n zero * 2 ^ 27 +
    b2n err * 2 ^ 26 + b2n corrected * 2 ^ 25 + b2n slip * 2 ^ 24 + b2n x.warn * 2 ^ 23 + seq
  let speed := if m = 0 then 0 else satS 64 (roundRat (x.v * 1000000000 * 2 ^ 32 / m))
  let c := c.setChan n { x with qerr := setNatBit x.qerr l false }
  let c := c.setU64 (latchK n l 0) (turns * 2 ^ 32 + cnt)
  let c := c.setU64 (latchK n l 8) (turns * 2 ^ 32 + cnt * 2 ^ 32 / m)
  let c := c.setS64 (latchK n l 0x10) (satS 64 (p * c.s64 (fbkK n 0x130)))
  let c := c.setS64 (latchK n l 0x18) speed
  let c := (c.setStamp (latchK n l 0x20) s).setNat (latchK n l 0x2C) (min (2 ^ 32 - 1) age)
  let c := c.setNat (latchK n l 0x30) lstat
  let c := { c with stamps := [0, 8, 0x10, 0x18].foldl (fun t o => tabPut 0 t (latchK n l o) s) c.stamps }
  let c := c.newResult (fbkK n (0x800 + 8 * l)) (BitVec.ofNat 32 cnt) (256 * n + lstat / 2 ^ 24) s
  let k := fbkK n (0x144 + 4 * l)
  (c.postIf (c.bit k 31) (c.fld k 0 17) s).cause FBK n l

/-- A raw speed enters the speed filter (R306). Log 51, DEDUCED. -/
def Chip.filterSpeed (c : Chip) (n : Nat) (raw : Rat) : Chip :=
  let x := c.chan n
  c.setChan n { x with vRaw := raw, v := x.v + (raw - x.v) / (2 ^ c.fld (fbkK n 0x118) 24 4 : Nat) }

/-- R303, R306: the CYC latch of a quadrature or Hall channel captured at its trigger's instant `at'`, with its speed. Log 51, DEDUCED. -/
def Chip.cycLatch (c : Chip) (n : Nat) (at' : Stamp) : Chip :=
  let x := c.chan n
  let s := c.stampAt (at'.ns - c.dIn n) at'.frac
  let age := s.ns - x.tb
  let sg : Int := if c.bit (fbkK n 0x150) 13 then -1 else 1
  let slow : Rat := sg / (age : Rat)
  let decay := !x.edged && age != 0 && decide ((if slow < 0 then -slow else slow) < (if x.vRaw < 0 then -x.vRaw else x.vRaw))
  let zero := decide (age > c.fld (fbkK n 0x118) 0 24 * 1000)
  let raw : Rat :=
    if zero then 0
    else if x.edged then ((x.pb - x.pa : Int) : Rat) / ((x.tb : Int) - x.ta : Int)
    else if decay then slow else x.vRaw
  let c := (c.filterSpeed n raw).fbkFlag n 12 zero
  let c := c.setChan n { c.chan n with pa := x.pb, ta := x.tb, edged := false }
  c.takeLatch n 0 s age (decay && !zero) zero false false

/-- IDX and REF latches carry the speed of the latest CYC latch (R306). The input passed a filter of `delay` ns (R303); the
position of an absolute encoder is that of its last good frame, whose EDGE_AGE is 0 (R301). Log 51, DEDUCED. -/
def Chip.edgeLatch (c : Chip) (n l delay : Nat) (corrected slip : Bool) : Chip :=
  let tb := (c.chan n).tb
  let absolute := decide (c.fbkSrc n ≥ 2)
  let s := c.stampAt (if absolute then tb else c.nowNs - delay) (c.tim.frac / 65536)
  c.takeLatch n l s (if absolute then 0 else s.ns - tb) (c.bit (latchK n 0 0x30) 28) (c.bit (fbkK n 0x150) 12) corrected slip

/-! ### Absolute encoders (R297 to R300) -/

/-- R300: a frame fails. -/
def Chip.frameFail (c : Chip) (n why : Nat) : Chip :=
  (((c.fbkFlag n 19 true).setFld (fbkK n 0x150) 25 3 why).count (fbkK n 0x03C)).cause FBK n 6

/-- R297, R298, R300: SAMP_TRIG at `at'` starts a frame, or finds one running. -/
def Chip.frameStart (c : Chip) (n : Nat) (at' : Stamp) : Chip :=
  let x := c.chan n
  if x.frame.isSome || (c.fbkSrc n = 2 && at'.ns < x.monoEnd) then c.frameFail n 3
  else
    let c := c.setChan n { x with frame := some { t0 := at'.ns, frac := at'.frac, own := c.drives } }
    if c.fbkSrc n = 3 && c.drives then
      let b : List Byte := [BitVec.ofNat 8 (0xA0 + c.fld (fbkK n 0x12C) 12 4), 1]
      let k := crc16 b
      c.out (.rs485 n (b ++ [BitVec.ofNat 8 (k / 256), BitVec.ofNat 8 k]))
    else c

/-- R299, R306: a good frame with value `v`, stamped `s`. -/
def Chip.absValue (c : Chip) (n v : Nat) (s : Stamp) (err warn : Bool) : Chip :=
  let k := fbkK n 0x120
  let w := c.fld k 14 6
  let f := (v >>> c.fld k 20 6) % 2 ^ w
  let f := if c.bit k 13 then grayToBin w f else f
  let st := c.fld k 6 6
  let cnt := f % 2 ^ st
  let eb := c.fld k 0 6
  let err := err || (eb ≥ 1 && natBit v (eb - 1))
  let x := c.chan n
  let m : Int := c.cpr n
  let old := c.fbkPos n
  let p : Int :=
    if c.bit k 12 then signed 32 (f / 2 ^ st) * m + cnt
    else if x.first then cnt
    else old + (((cnt : Int) - c.nat (fbkK n 0x158) + m / 2) % m - m / 2)
  let c := c.putPos n p
  let c := (c.fbkFlag n 17 err).when err (·.cause FBK n 8)
  let raw : Rat := ((p - x.pb : Int) : Rat) / ((s.ns : Int) - x.tb : Int)
  let c := c.filterSpeed n raw
  let c := c.setChan n { c.chan n with first := false, warn := warn, pb := p, tb := s.ns,
                                       ext := if x.first then p else x.ext }
  let c := if x.first then c else c.trackDir n
  c.takeLatch n 0 s 0 false false false false

/-- SSI_FRAME_DONE (R297, R300): the value read, and whether DAT was high at the start and low at the monoflop check. A frame that ran has
clocked the encoder, by the module that held pin ownership as it began (R318, R509). Log 51, DEDUCED. -/
def Chip.ssiDone (c : Chip) (n v : Nat) (datHigh monoLow : Bool) : Chip :=
  let x := c.chan n
  match x.frame with
  | none => c
  | some f =>
    let div := c.fld (fbkK n 0x124) 20 12
    let bits := c.fld (fbkK n 0x120) 26 6
    let last := f.t0 + (2 * bits - 1) * 2 * div
    let c := c.setChan n { x with frame := none,
                                  monoEnd := if datHigh then last + c.fld (fbkK n 0x124) 0 10 * 250 else x.monoEnd }
    let c := c.when (datHigh && f.own && c.fbkSrc n = 2) (·.out (.ssiClock n (f.t0 * 65536 + f.frac) (2 * div) bits))
    if !c.chanOn n || c.fbkSrc n != 2 then c
    else if !datHigh then c.frameFail n 1
    else if !monoLow then c.frameFail n 2
    else c.absValue n v (c.stampAt (f.t0 + c.nat (fbkK n 0x128)) f.frac) false false

/-- RS485_RESPONSE (R298, R300). Log 51, DEDUCED. -/
def Chip.rsResponse (c : Chip) (n : Nat) (bytes : List Byte) (stopLow : Bool) : Chip :=
  let x := c.chan n
  match x.frame with
  | none => c
  | some f =>
    let c := c.setChan n { x with frame := none }
    let nb := ceilDiv (c.fld (fbkK n 0x120) 26 6) 8
    let body := bytes.take (2 + nb)
    let at' (i : Nat) : Nat := (bytes.getD i 0).toNat
    if !c.chanOn n || c.fbkSrc n != 3 then c
    else if bytes.length != 4 + nb then c.frameFail n 4
    else if crc16 body != at' (2 + nb) * 256 + at' (3 + nb) then c.frameFail n 5
    else if at' 0 != 0xA0 + c.fld (fbkK n 0x12C) 12 4 then c.frameFail n 6
    else if stopLow then c.frameFail n 7
    else
      let v := ((bytes.drop 2).take nb).foldl (fun r b => r * 256 + b.toNat) 0
      let t := f.t0 + 80 * c.fld (fbkK n 0x12C) 19 13 + c.nat (fbkK n 0x128)
      c.absValue n v (c.stampAt t f.frac) (natBit (at' 1) 7) (natBit (at' 1) 6)

/-- RS485_RESP_TIMEOUT (R300). -/
def Chip.rsTimeout (c : Chip) (n : Nat) : Chip :=
  let x := c.chan n
  if x.frame.isSome && c.chanOn n && c.fbkSrc n = 3 then (c.setChan n { x with frame := none }).frameFail n 4 else c

/-- R304, R297, R298: an occurrence of trigger `t` with stamp `s` reaches the channels. -/
def Chip.fbkTrigger (c : Chip) (t : Nat) (s : Stamp) : Chip :=
  if !c.running then c
  else c.each ((List.range 32).filter fun n => c.chanOn n && c.fld (fbkK n 0x100) 8 8 = t) fun c n =>
    if c.fbkSrc n ≤ 1 then c.cycLatch n s else c.frameStart n s

/-! ### Index and reference (R308 to R310) -/

/-- R308: the deviation of the count at an index. -/
def Chip.deviation (c : Chip) (n : Nat) : Int :=
  let m : Int := c.cpr n
  ((c.nat (fbkK n 0x158) : Int) - c.nat (fbkK n 0x10C) + m / 2) % m - m / 2

/-- Is an index qualified (R308)? -/
def Chip.indexQualified (c : Chip) (n : Nat) : Bool :=
  let k := fbkK n 0x108
  let x := c.chan n
  c.chanOn n && c.running && c.fld k 30 2 != 0 && (!c.bit k 28 || (x.a == c.bit k 27 && x.b == c.bit k 26))

/-- INDEX_PULSE (R308, R309, R310): the accepted level of the index input goes high or low; its rising edge is the one to the active level. -/
def Chip.indexPulse (c : Chip) (n : Nat) (high : Bool) : Chip :=
  if !c.indexQualified n || high == c.bit (fbkK n 0x108) 25 then c
  else
    let k := fbkK n 0x108
    let mode := c.fld k 30 2
    let d := c.deviation n
    let out := decide (d.natAbs > c.fld k 0 24)
    let slip := decide (mode ≥ 2) && out
    let fix := mode = 3 && (!out || c.bit k 29)
    let c := c.edgeLatch n 1 (c.dIn n) fix slip
    let c := if c.bit (fbkK n 0x150) 14 then (c.fbkFlag n 14 false).edgeLatch n 2 (c.dIn n) false slip else c
    let c := if slip then ((c.fbkFlag n 20 true).count (fbkK n 0x038)).cause FBK n 4 else c
    if fix then
      let c := c.shiftPos n (c.fbkPos n - d)
      (c.setNat (fbkK n 0x160) (unsigned 32 (-d))).setNat (fbkK n 0x164)
        (unsigned 32 (signed 32 (c.nat (fbkK n 0x164)) - d))
    else c

/-- ARMED shows in FBK_STAT and in REF [29] (R312). -/
def Chip.setRefArmed (c : Chip) (n : Nat) (b : Bool) : Chip := (c.fbkFlag n 15 b).setBit (fbkK n 0x110) 29 b

/-- Does REF_SEL name `input`: 0 to 2 H1 to H3, from 3 GPIO[input - 3] (R310)? -/
def Chip.refFrom (c : Chip) (n input : Nat) : Bool :=
  let k := fbkK n 0x110
  if input < 3 then c.fld k 24 2 = input else c.fld k 24 2 = 3 && c.fld k 16 6 = input - 3

/-- REFERENCE_EDGE (R310): an edge of `input`, filtered by REF_FILT. -/
def Chip.refEdge (c : Chip) (n input : Nat) (rising : Bool) : Chip :=
  let k := fbkK n 0x110
  let sel := if rising then c.bit k 27 else c.bit k 28
  if !c.chanOn n || !c.running || !c.refFrom n input || !c.bit k 31 || !sel || (c.bit k 30 && !c.bit (fbkK n 0x150) 15) then c
  else
    let c := if c.bit k 30 then c.setRefArmed n false else c
    if c.bit k 26 then c.fbkFlag n 14 true else c.edgeLatch n 2 (c.fld k 0 8 * 1000) false false

/-- A write of FBK_REF_CFG (R310, R312): ARM is set by a 1, and a 0 leaves it. -/
def Chip.refCfgWrite (c : Chip) (n : Nat) (d : Word) : Chip :=
  let armed := d.getLsbD 29 || c.bit (fbkK n 0x150) 15
  (c.setWord (fbkK n 0x110) (d &&& 0xDF3F_00FF#32)).setRefArmed n armed

/-! ### Configuration, enabling, power (R311 to R313, R317) -/

/-- R313: CFG_CODE of an enable, 0 when it is accepted. -/
def Chip.fbkCode (c : Chip) (n : Nat) : Nat :=
  let src := c.fbkSrc n
  let m := c.cpr n
  let k := fbkK n 0x120
  let bits := c.fld k 26 6
  let div := c.fld (fbkK n 0x124) 20 12
  let baud := c.fld (fbkK n 0x12C) 19 13
  if m < 2 then 1
  else if src ≥ 4 || c.fld (fbkK n 0x100) 26 3 ≥ 5 then 2
  else if src ≥ 2 && (bits < 8 || bits > 48 || c.fld k 20 6 + c.fld k 14 6 > bits || c.fld k 6 6 > c.fld k 14 6 ||
      m != 2 ^ c.fld k 6 6) then 3
  else if (src = 2 && (div < 25 || div > 2500)) || (src = 3 && (baud < 50 || baud > 4340)) then 4
  else if (c.fld (fbkK n 0x108) 30 2 != 0 && src != 0) || c.fld (fbkK n 0x108) 0 24 ≥ m / 2 then 5
  else if c.fld (fbkK n 0x110) 24 2 != 3 && c.bit (fbkK n 0x100) 16 then 6
  else 0

/-- PAGE_ENABLE of a channel (R313). No edge has been counted and no frame read yet: the spec states no edge instant and no
position for the first latch's EDGE_AGE and speed, which are free (R306). Log 51, DEDUCED. -/
def Chip.fbkEnable (c : Chip) (n : Nat) (on : Bool) : Chip :=
  let k := fbkK n PG_CTL
  if !on then (c.setBit k 0 false).setChan n { c.chan n with frame := none }
  else if c.bit k 0 then c
  else
    let r := c.fbkCode n
    if r != 0 then (c.setBit k 0 false).setFld (fbkK n 0x150) 28 4 r
    else
      let c := (c.setBit k 0 true).setU64 (fbkK n 0x158) 0
      let x := c.chan n
      let (pb, c) := c.freeInt
      let (tb, c) := c.freeNat
      let (pa, c) := c.freeInt
      let (ta, c) := c.freeNat
      let c := c.setChan n { a := x.a, b := x.b, hall := x.hall, monoEnd := x.monoEnd, pb := pb, tb := tb, pa := pa, ta := ta }
      c.each [0, 1, 2] fun c l => c.setBit (latchK n l 0x30) 31 false

/-- The offsets that are writable only while the channel is disabled (R311). -/
def fbkFixed (o : Nat) : Bool := [0x100, 0x104, 0x11C, 0x120, 0x124, 0x128, 0x12C, 0x130, 0x134].contains o

/-- R317: TRICKLE is left downwards: a frame that runs then is lost. Log 51, DEDUCED. -/
def Chip.fbkStop (c : Chip) : Chip :=
  c.each ((List.range 32).filter fun n => (c.chan n).frame.isSome) fun c n => c.setChan n { c.chan n with frame := none }

/-- R317: the return to TRICKLE from SUMP or below. -/
def Chip.fbkReturn (c : Chip) : Chip :=
  c.each ((List.range 32).filter c.chanOn) fun c n => (c.fbkFlag n 23 true).cause FBK n 10

/-! ### General digital I/O (R315, R316) -/

/-- A register of the GPIO page. -/
def gpioK (o : Nat) : Nat := pageAddr FBK 32 o

/-- The cause level of the GPIO page (R316). -/
def Chip.gpioLevel (c : Chip) : Chip := c.level FBK 32 0 (c.u64 (gpioK 0x120) != 0)

/-- FBK_GPIO_IN of pin `n` follows the ball and INV (R315). -/
def Chip.gpioReport (c : Chip) (n : Nat) : Chip :=
  c.setBit (gpioK (0x100 + 4 * (n / 32))) (n % 32) (natBit c.fbk.gpio n != c.bit (gpioK (0x200 + 4 * n)) 30)

/-- GPIO_INPUT_EDGE (R316): ball `n` is accepted at a level. -/
def Chip.gpioEdge (c : Chip) (n : Nat) (high : Bool) : Chip :=
  if n ≥ 64 || !c.running then c
  else
    let was := c.bit (gpioK (0x100 + 4 * (n / 32))) (n % 32)
    let c := ({ c with fbk := { c.fbk with gpio := setNatBit c.fbk.gpio n high } }).gpioReport n
    let now := c.bit (gpioK (0x100 + 4 * (n / 32))) (n % 32)
    let k := gpioK (0x200 + 4 * n)
    let sel := if now then c.bit k 28 else c.bit k 29
    if was != now && sel && c.bit k 27 then
      ((c.setBit (gpioK (0x120 + 4 * (n / 32))) (n % 32) true).count (gpioK 0x034)).gpioLevel
    else c

/-- A write of a pin's configuration (R315). -/
def Chip.gpioCfgWrite (c : Chip) (n : Nat) (d : Word) : Chip :=
  (c.setWord (gpioK (0x200 + 4 * n)) (d &&& 0xF800_00FF#32)).gpioReport n

/-- R315: a write at 0x108 to 0x11C of word `w` of OUT, SET or CLR. -/
def Chip.gpioOutWrite (c : Chip) (o : Nat) (d : Word) : Chip :=
  let k := gpioK (0x108 + o % 8)
  let w := c.word k
  if o < 0x110 then c.setWord k d else if o < 0x118 then c.setWord k (w ||| d) else c.setWord k (w &&& ~~~d)

end Sys2Proof.Machine
end

