-- ==== Sys2Proof/Machine/Converter.lean ====
section
/-! DEFINITION. The Converter Subsystem (10_converters): sequences, conversions and their results, settling, filtered mode,
plausibility units. -/

namespace Sys2Proof.Machine

/-- A register of converter page `i`: 0 to 3 the converters A to D, 4 the plausibility page (R319). -/
def cnvK (i o : Nat) : Nat := pageAddr CNV i o
/-- What converter `i` holds outside its page. -/
def Chip.cv (c : Chip) (i : Nat) : Cnv := tab {} c.cnv.conv i
/-- What converter `i` holds outside its page changes. -/
def Chip.setCv (c : Chip) (i : Nat) (x : Cnv) : Chip := { c with cnv := { c.cnv with conv := tabPut {} c.cnv.conv i x } }
/-- The entry word of entry `e` (R335). -/
def Chip.ent (c : Chip) (i e : Nat) : Word := c.word (cnvK i (0x180 + 4 * e))
/-- Is filtered mode in effect (R335)? -/
def Chip.filtering (c : Chip) (i : Nat) : Bool := c.bit (cnvK i 0x114) 27
/-- Is sequence `s` active, and has it a restart flag (R335)? -/
def Chip.seqActive (c : Chip) (i s : Nat) : Bool := c.bit (cnvK i 0x114) (16 + s)
/-- INPUT, DIFF and GAIN of an entry word, taken together (R327). -/
def chanOf (w : Word) : Nat := getBits w 20 10

/-! ### The code of a voltage (R320) -/

/-- A code with the mark that it was held at the end of the range. -/
structure Code where
  c : Int
  clip : Bool
  deriving DecidableEq, Repr

/-- R320: the code of `nv` nanovolts (V+ - V-, or V) with an entry word; VREF is 2.5 V. -/
def codeOf (w : Word) (nv : Int) : Code :=
  let g : Int := (2 ^ getBits w 20 3 : Nat)
  let r :=
    if w.getLsbD 23 then roundDiv (32768 * g * nv) 2500000000 else roundDiv (65536 * g * nv) 2500000000 - 32768
  { c := satS 16 r, clip := satHit 16 r }

/-- R320: DATA of a code. -/
def codeData (w : Word) (v : Int) : Word :=
  let p := unsigned 16 v
  let q := if w.getLsbD 19 then p ^^^ 0x8000 else p
  if w.getLsbD 18 then BitVec.ofNat 32 (q * 2 ^ 16)
  else BitVec.ofNat 32 (if w.getLsbD 19 then q else unsigned 32 v)

/-- R320, R329: the signed code that DATA presents: the inverse of `codeData`, or of the filtered word's with its rounding. -/
def dataCode (w d : Word) (filtered : Bool) : Int :=
  let n := if filtered then 24 else 16
  let p := if w.getLsbD 18 then d.toNat / 2 ^ (32 - n) else d.toNat % 2 ^ n
  let v := signed n (if w.getLsbD 19 then p ^^^ 2 ^ (n - 1) else p)
  if filtered then roundDiv v 256 else v

/-- R329: DATA of a filtered word. -/
def wordData (w : Word) (y : Int) : Word :=
  let p := unsigned 24 y
  let q := if w.getLsbD 19 then p ^^^ 0x80_0000 else p
  if w.getLsbD 18 then BitVec.ofNat 32 (q * 2 ^ 8)
  else BitVec.ofNat 32 (if w.getLsbD 19 then q else unsigned 32 y)

/-! ### Plausibility (R331 to R334) -/

/-- Register `o` of plausibility unit `k` (R336). -/
def plK (k o : Nat) : Nat := cnvK 4 (0x100 + 16 * k + o)
/-- The results of unit `k` that wait for a partner. -/
def Chip.plWait (c : Chip) (k : Nat) : List PlausWait := tab [] c.cnv.plaus k
/-- They change. -/
def Chip.setPlWait (c : Chip) (k : Nat) (l : List PlausWait) : Chip :=
  { c with cnv := { c.cnv with plaus := tabPut [] c.cnv.plaus k l } }

/-- R333: a failure of unit `k`; `s` is the stamp of the later result. -/
def Chip.plausFail (c : Chip) (k : Nat) (missing : Bool) (s : Stamp) : Chip :=
  let st := plK k 0xC
  let c := ((c.setBit st 30 true).setBit st 29 missing).countFld st 16 8
  let c := (c.count (cnvK 4 0x034)).cause CNV 4 0
  let c := c.when missing (·.cause CNV 4 2)
  if c.fld st 16 8 ≥ max 1 (c.fld (plK k 4) 24 8) && !c.bit st 31 then
    let c := (c.setBit st 31 true).cause CNV 4 1
    c.postIf (c.bit (plK k 0) 30) (c.fld (plK k 8) 0 17) s
  else c

/-- R332, R333: the compare of a pair. -/
def Chip.plausCompare (c : Chip) (k : Nat) (a b : Int) (s : Stamp) : Chip :=
  let st := plK k 0xC
  let d := (a - b).natAbs
  let c := c.setFld st 0 16 (min 65535 d)
  if d > c.fld (plK k 0) 0 16 then c.plausFail k false s else (c.setBit st 30 false).setFld st 16 8 0

/-- R332: a result of entry X or Y of unit `k` is written. -/
def Chip.plausResult (c : Chip) (k : Nat) (isX : Bool) (v : Int) (s : Stamp) : Chip :=
  let skew := c.fld (plK k 4) 0 16
  let l := c.plWait k
  let near (w : PlausWait) : Bool := w.isX != isX && ((w.stamp.fine : Int) - s.fine).natAbs ≤ skew * 2 ^ 16
  match l.reverse.find? near with
  | some w =>
    let later := if s.fine < w.stamp.fine then w.stamp else s
    (c.setPlWait k (l.erase w)).plausCompare k v w.value later
  | none => c.setPlWait k (l ++ [{ isX := isX, value := v, stamp := s }])

/-- The units that name entry `e` of converter `i`, and whether it is their X (R331). Log 52, DEDUCED. -/
def Chip.unitsNaming (c : Chip) (i e : Nat) : List (Nat × Bool) :=
  (List.range 16).filterMap fun k =>
    if k / 8 != i / 2 then none
    else if i % 2 = 0 && c.fld (plK k 0) 24 5 = e then some (k, true)
    else if i % 2 = 1 && c.fld (plK k 0) 16 5 = e then some (k, false)
    else none

/-- The units that compare entry `e` of converter `i`: those of them that are enabled (R331). -/
def Chip.unitsOf (c : Chip) (i e : Nat) : List (Nat × Bool) := (c.unitsNaming i e).filter fun u => c.bit (plK u.1 0) 31

/-- Whether the counter has reached the stamp of `w` plus SKEW of unit `k` plus 200 ns (R332). -/
def Chip.plausDue (c : Chip) (k : Nat) (w : PlausWait) : Bool :=
  w.stamp.fine + (c.fld (plK k 4) 0 16 + 200) * 2 ^ 16 ≤ c.now.fine
/-- PLAUS_PARTNER_TIMEOUT (R332): the first result of unit `k` that is due has found no partner. -/
def Chip.plausTimeout (c : Chip) (k : Nat) : Chip :=
  match (c.plWait k).find? (c.plausDue k) with
  | none => c
  | some w => (c.setPlWait k ((c.plWait k).erase w)).plausFail k true w.stamp

/-- A unit that is enabled or disabled holds no result back (R331, R332). Log 52, DEDUCED. -/
def Chip.plausFresh (c : Chip) (k : Nat) : Chip := c.setPlWait k []

/-- A write of CNV_PLAUS_CLR (R334). -/
def Chip.plausClear (c : Chip) (d : Word) : Chip :=
  c.each ((List.range 16).filter (d.getLsbD ·)) fun c k =>
    let st := plK k 0xC
    if c.bit st 30 then c else (c.setBit st 31 false).setFld st 16 8 0

/-- A write by master `m` of register `w` (0 CFG, 1 LIM, 2 SUCC) of unit `k` (R331, R336). Log 52, DEDUCED. -/
def Chip.plausCfgWrite (c : Chip) (m k w : Nat) (d : Word) : Chip :=
  let a := plK k (4 * w)
  let i := 2 * (k / 8)
  if c.bit (plK k 0) 31 then
    if w != 0 then c.logErr ecLocked m a
    else
      let c := if (d &&& 0x5F1F_FFFF#32) != (c.word a &&& 0x5F1F_FFFF#32) then c.logErr ecLocked m a else c
      if d.getLsbD 31 then c else (c.setBit a 31 false).plausFresh k
  else if w = 0 then
    let d := d &&& 0xDF1F_FFFF#32
    if d.getLsbD 31 && chanOf (c.ent i (getBits d 24 5)) != chanOf (c.ent (i + 1) (getBits d 16 5)) then
      (c.setWord a (d &&& 0x7FFF_FFFF#32)).logErr ecNoKey m a
    else (c.setWord a d).plausFresh k
  else if w = 1 then
    let d := d &&& 0xFF00_FFFF#32
    c.setWord a (if getBits d 24 8 = 0 then putBits d 24 8 1 else d)
  else c.setWord a (d &&& 0x1_FFFF#32)

/-! ### Beginning a conversion (R325, R327, R328) -/

/-- The converter begins entry `e` for a sequence or for a round. -/
def Chip.beginConv (c : Chip) (i e : Nat) (seq : Option Nat) : Chip :=
  let x := c.cv i
  let w := c.ent i e
  let pending := if c.filtering i then 0 else tab 0 x.settle e
  let change := !c.filtering i && x.prev != some (chanOf w) && getBits w 0 10 < 20
  let mark := max pending (b2n change)
  let settle := if c.filtering i then x.settle else tabPut 0 x.settle e (pending - 1)
  let fin := match seq with
    | some s => c.fld (cnvK i (0x120 + 8 * s)) 0 5
    | none => e
  let x := { x with cur := some { entry := e, ent := w, seq := seq, mark := mark, fin := fin }, prev := some (chanOf w),
                    settle := settle }
  (c.setCv i x).setFld (cnvK i 0x114) 0 5 e

/-- The lowest-numbered active sequence (R325). -/
def Chip.nextSeq (c : Chip) (i : Nat) : Option Nat := (List.range 4).find? (c.seqActive i ·)

/-- R325, R328: a free converter begins what is next. -/
def Chip.cnvNext (c : Chip) (i : Nat) : Chip :=
  let x := c.cv i
  if x.cur.isSome || !c.running then c
  else if c.filtering i then
    match x.round with
    | e :: r => (c.setCv i { x with round := r }).beginConv i e none
    | [] => c
  else match c.nextSeq i with
  | none => c
  | some s =>
    let e := tab 0 x.next s
    let c := c.setCv i { x with next := tabPut 0 x.next s (e + 1) }
    c.beginConv i e (some s)

/-- R325: a trigger of sequence `s` of converter `i`. -/
def Chip.seqTrigger (c : Chip) (i s : Nat) : Chip :=
  let st := cnvK i 0x114
  if !c.pageOn CNV i || !c.bit (cnvK i (0x120 + 8 * s)) 31 || !c.running then c
  else if c.filtering i then (c.count (cnvK i 0x038)).cause CNV i 4
  else if !c.seqActive i s then
    let x := c.cv i
    let c := c.setCv i { x with next := tabPut 0 x.next s (c.fld (cnvK i (0x120 + 8 * s)) 10 5) }
    c.setBit st (16 + s) true
  else if c.bit st (20 + s) then (c.count (cnvK i 0x034)).cause CNV i 1
  else c.setBit st (20 + s) true

/-- The trigger line that sequence `s` of converter `i` listens to: 0 to 255 the Timebase's, then the PWM Array's (R324). -/
def Chip.seqLine (c : Chip) (i s : Nat) : Option Nat :=
  let k := cnvK i (0x120 + 8 * s)
  match c.fld k 29 2 with
  | 0 => some (c.fld k 20 9)
  | 1 => some (256 + c.fld k 20 9)
  | _ => none

/-- CNV_SEQUENCE_TRIGGER (R324, R325): the trigger line raised first, and those raised at the same instant, reach their sequences, in
sequence order. -/
def Chip.strobe (c : Chip) : Chip :=
  match c.strobes with
  | [] => c
  | n :: r =>
    let now := (n :: r).filter fun q => q.2 == n.2
    let c := { c with strobes := r.filter fun q => q.2 != n.2 }
    c.each (List.range 4) fun c i =>
      let c := c.each (List.range 4) fun c s =>
        if now.any fun q => c.seqLine i s == some q.1 then c.seqTrigger i s else c
      c.cnvNext i

/-- R325: every sequence goes idle and every restart flag clears; what is converting still resolves. -/
def Chip.abortSeqs (c : Chip) (i : Nat) : Chip :=
  let x := c.cv i
  let c := c.setCv i { x with cur := x.cur.map fun q => { q with seq := none } }
  c.setFld (cnvK i 0x114) 16 8 0

/-- A write of CNV_CMD (R324, R335): ABORT, then the software triggers. -/
def Chip.cnvCmd (c : Chip) (i : Nat) (d : Word) : Chip :=
  let c := if d.getLsbD 31 then c.abortSeqs i else c
  let c := c.each ((List.range 4).filter (d.getLsbD ·)) fun c s => c.seqTrigger i s
  c.cnvNext i

/-! ### Results (R321 to R323, R325, R327, R329) -/

/-- The settle count of a result that is `mark` results from the last marked one. -/
def settleCnt (mark : Nat) : Nat := mark - 1

/-- R321 to R323, R332: a result of entry `e` is written. Log 52, DEDUCED. -/
def Chip.cnvResult (c : Chip) (i : Nat) (q : Conv) (data : Word) (v : Int) (clip filtered : Bool) (mark : Nat) (s : Stamp) :
    Chip :=
  if c.standby then c else
  let us := c.unitsOf i q.entry
  let fault := (c.unitsNaming i q.entry).any fun u => c.bit (plK u.1 0xC) 31
  let info := b2n clip + 2 * b2n fault + 4 * b2n filtered
  let c := c.newResult (cnvK i (0x800 + 8 * q.entry)) data info s (mark != 0) (settleCnt mark)
  let c := if c.role = 3 then c.out (.pair (.convResult i q.entry data (c.nat (cnvK i (0x800 + 8 * q.entry)) % 2 ^ 24)
      (c.gen (cnvK i (0x800 + 8 * q.entry))) s)) else c
  let c := if clip then (c.count (cnvK i 0x03C)).cause CNV i 2 else c
  let sig := c.fld (cnvK i 0x10C) 0 25
  if mark != 0 then c.count (cnvK i 0x040)
  else
    let c := if sig = 0 then c else c.sample (sig + q.entry) (signed 32 data.toNat) s
    if c.pageOn CNV 4 then c.each us fun c u => c.plausResult u.1 u.2 v s else c

/-- R329: a sample passes the integrators of the filter. -/
def integrate : List Int → Int → List Int
  | [], _ => []
  | a :: r, x => (a + x) :: integrate r (a + x)

/-- R329: the combs: the output and the new delays. -/
def comb : List Int → Int → Int × List Int
  | [], y => (y, [])
  | d :: r, y => let (o, l) := comb r (y - d); (o, y :: l)

/-- R329: a sample of a filtered entry. Log 52, DEDUCED. -/
def Chip.sincSample (c : Chip) (i : Nat) (q : Conv) (v : Code) (s : Stamp) : Chip :=
  let x := c.cv i
  let f := tab {} x.sinc q.entry
  let n := max 1 (c.fld (cnvK i 0x104) 16 3)
  let dec := c.fld (cnvK i 0x104) 0 11
  let ints := integrate (f.ints.take n) v.c
  let f := { f with ints := ints ++ f.ints.drop n, n := f.n + 1 }
  if f.n < dec then c.setCv i { x with sinc := tabPut {} x.sinc q.entry f }
  else
    let (o, ds) := comb (f.combs.take n) (ints.getLastD 0)
    let y := roundDiv (256 * o) (dec ^ n)
    let mark := max (tab 0 x.settle q.entry) (tab 0 x.words q.entry)
    let f := { f with combs := ds ++ f.combs.drop n, n := 0 }
    let c := c.setCv i { x with sinc := tabPut {} x.sinc q.entry f, settle := tabPut 0 x.settle q.entry (tab 0 x.settle q.entry - 1),
                                words := tabPut 0 x.words q.entry (tab 0 x.words q.entry - 1) }
    let y := satS 24 y
    (c.cnvResult i q (wordData q.ent y) (roundDiv y 256) v.clip true mark s).cause CNV i 3

/-- R325: the completion of sequence `s`. -/
def Chip.seqPost (c : Chip) (i s : Nat) (t : Stamp) : Chip :=
  let k := cnvK i (0x124 + 8 * s)
  (c.cause CNV i 0).postIf (c.bit k 31) (c.fld k 0 17) t

/-- R500: at a standby the lead's result of entry `e` takes the place of its own; the sequences that end with the entry
complete. Log 52, DEDUCED. -/
def Chip.cnvForward (c : Chip) (i e : Nat) (data : Word) (info gen : Nat) (s : Stamp) : Chip :=
  let a := cnvK i (0x800 + 8 * e)
  let c := c.newResult a data (info % 2 ^ 16) s (natBit info 22) (info / 2 ^ 16 % 16)
  let c := c.setFld a 24 8 gen
  let sig := c.fld (cnvK i 0x10C) 0 25
  let c := if natBit info 22 then c
    else
      let c := if sig = 0 then c else c.sample (sig + e) (signed 32 data.toNat) s
      if c.pageOn CNV 4 then c.each (c.unitsOf i e) fun c u => c.plausResult u.1 u.2 (dataCode (c.ent i e) data (natBit info 2)) s
      else c
  c.each ((List.range 4).filter fun q => !natBit info 2 && c.bit (cnvK i (0x120 + 8 * q)) 31 && c.fld (cnvK i (0x120 + 8 * q)) 0 5 = e)
    fun c q => c.seqPost i q s

/-- R325, R335: sequence `s` is over: it begins anew where its restart flag is set, and goes idle otherwise. -/
def Chip.seqOver (c : Chip) (i s : Nat) : Chip :=
  let st := cnvK i 0x114
  if c.bit st (20 + s) && c.bit (cnvK i (0x120 + 8 * s)) 31 then
    let x := c.cv i
    (c.setCv i { x with next := tabPut 0 x.next s (c.fld (cnvK i (0x120 + 8 * s)) 10 5) }).setBit st (20 + s) false
  else (c.setBit st (16 + s) false).setBit st (20 + s) false

/-- R325: the result of END has been written. -/
def Chip.seqEnd (c : Chip) (i s : Nat) (t : Stamp) : Chip := (if c.standby then c else c.seqPost i s t).seqOver i s

/-- R328: a change of MODE takes effect when no conversion is in progress. Log 52, DEDUCED. -/
def Chip.takeMode (c : Chip) (i : Nat) : Chip :=
  let want := c.bit (cnvK i 0x100) 31
  if want = c.filtering i || (c.cv i).cur.isSome then c
  else
    let c := ((c.setFld (cnvK i 0x114) 16 8 0).setBit (cnvK i 0x114) 27 want).setBit (cnvK i 0x114) 26 false
    let x := { c.cv i with round := [], again := false, next := [] }
    c.setCv i (if want then x else { x with words := [] })

/-- The entries of a round (R328). -/
def Chip.roundOf (c : Chip) (i : Nat) : List Nat := (List.range 32).filter fun e => (c.ent i e).getLsbD 31

/-- The sum of a round's conversion times, in ns (R321, R328). -/
def Chip.roundTime (c : Chip) (i : Nat) : Nat := ((c.roundOf i).map fun e => 2 * c.fld (cnvK i (0x180 + 4 * e)) 0 10 + 85).sum

/-- R328: PACE is set, and is shorter than the sum of the round's conversion times. -/
def Chip.paceShort (c : Chip) (i : Nat) : Bool :=
  let p := c.fld (cnvK i 0x108) 0 24
  p != 0 && 2 * p < c.roundTime i

/-- R328: do the rounds run back to back? Log 52, DEDUCED. -/
def Chip.backToBack (c : Chip) (i : Nat) : Bool := c.fld (cnvK i 0x108) 0 24 = 0 || c.paceShort i

/-- R328: a round begins. -/
def Chip.beginRound (c : Chip) (i : Nat) : Chip :=
  (c.setCv i { c.cv i with round := c.roundOf i, again := false }).setBit (cnvK i 0x114) 26 (c.paceShort i)

/-- R337: the converters do not run: what is left of sequences and rounds is over. -/
def Chip.cnvIdle (c : Chip) (i : Nat) : Chip :=
  (c.setCv i { c.cv i with round := [], again := false }).setFld (cnvK i 0x114) 16 8 0

/-- CONVERSION_DONE (R321, R325, R328): the conversion in progress resolves; the input was held 85 ns earlier at `nv` nV. -/
def Chip.convDone (c : Chip) (i : Nat) (nv : Int) : Chip :=
  match (c.cv i).cur with
  | none => c
  | some q =>
    let c := c.setCv i { c.cv i with cur := none }
    let s := c.stampAt (c.nowNs - 85) (c.tim.frac / 65536)
    let v := codeOf q.ent nv
    let c :=
      if c.filtering i then c.sincSample i q v s
      else c.cnvResult i q (codeData q.ent v.c) v.c v.clip false q.mark s
    let c := match q.seq with
      | none => c
      | some sq => if q.entry = q.fin then c.seqEnd i sq s else if q.stop then c.seqOver i sq else c
    let c := c.takeMode i
    let x := c.cv i
    let c := if c.filtering i && x.round.isEmpty && (x.again || c.backToBack i) then c.beginRound i else c
    if c.running then c.cnvNext i else c.cnvIdle i

/-- FILTER_ROUND_START (R328): PACE has passed; a round still running is followed at once by the next. -/
def Chip.roundStart (c : Chip) (i : Nat) : Chip :=
  if !c.filtering i || !c.running || !c.pageOn CNV i then c
  else
    let x := c.cv i
    if x.cur.isSome || !x.round.isEmpty then c.setCv i { x with again := true } else (c.beginRound i).cnvNext i

/-! ### Writes (R323, R327, R335) -/

/-- R327: the entry's next two results are marked. Log 52, DEDUCED. -/
def Chip.markEntry (c : Chip) (i e : Nat) : Chip :=
  let x := c.cv i
  c.setCv i { x with settle := tabPut 0 x.settle e 2 }

/-- R327, R330: the entry's next `n` filtered words are marked. -/
def Chip.markWords (c : Chip) (i e n : Nat) : Chip :=
  let x := c.cv i
  c.setCv i { x with words := tabPut 0 x.words e (max n (tab 0 x.words e)) }

/-- R327: ORDER, DEC or MODE changes: every filtered entry is marked. Log 52, DEDUCED. -/
def Chip.markFiltered (c : Chip) (i : Nat) : Chip :=
  c.each (c.roundOf i) fun c e => c.markWords i e (c.fld (cnvK i 0x104) 16 3)

/-- A write of CNV_CFG (R328). -/
def Chip.cnvModeWrite (c : Chip) (i : Nat) (d : Word) : Chip :=
  let was := c.bit (cnvK i 0x100) 31
  let c := c.setWord (cnvK i 0x100) (d &&& 0x8000_0000#32)
  let c := if d.getLsbD 31 && !was then c.markFiltered i else c
  c.takeMode i

/-- A write by master `m` of CNV_FILT (R335). -/
def Chip.cnvFiltWrite (c : Chip) (m i : Nat) (d : Word) : Chip :=
  let n := getBits d 16 3
  let k := getBits d 0 11
  if n < 1 || 4 < n || k < 4 || 1024 < k then c.logErr ecNoKey m (cnvK i 0x104)
  else
    let w := d &&& 0x7_07FF#32
    let changed := w != c.word (cnvK i 0x104)
    let c := c.setWord (cnvK i 0x104) w
    if changed && c.bit (cnvK i 0x100) 31 then c.markFiltered i else c

/-- A write by master `m` of CNV_SIG_BASE (R323). -/
def Chip.cnvSigWrite (c : Chip) (m i : Nat) (d : Word) : Chip :=
  let w := d &&& 0x1FF_FFFF#32
  if w.toNat + 31 > 33554431 then c.logErr ecNoKey m (cnvK i 0x10C) else c.setWord (cnvK i 0x10C) w

/-- A write by master `m` of entry `e` (R327, R335). -/
def Chip.cnvEntWrite (c : Chip) (m i e : Nat) (d : Word) : Chip :=
  let k := cnvK i (0x180 + 4 * e)
  let w := d &&& 0xBFFC_03FF#32
  let input := getBits w 24 6
  if input / 32 != i / 2 || (w.getLsbD 23 && input % 2 = 1) || getBits w 20 3 > 4 || getBits w 0 10 < 4 then
    c.logErr ecNoKey m k
  else
    let old := c.word k
    let c := c.setWord k w
    if c.bit (cnvK i 0x100) 31 && w.getLsbD 31 then
      if chanOf old != chanOf w then c.markWords i e (c.fld (cnvK i 0x104) 16 3) else c
    else if getBits old 20 3 != getBits w 20 3 then c.markEntry i e else c

/-- R335: CFG_CODE of a sequence enable. -/
def seqCode (w : Word) : Nat :=
  if getBits w 10 5 > getBits w 0 5 then 1
  else if getBits w 29 2 = 3 then 2
  else if (getBits w 29 2 = 0 && getBits w 20 9 > 255) || (getBits w 29 2 = 1 && getBits w 20 9 > 383) then 3
  else 0

/-- A write by master `m` of CNV_SEQ_CFG_s (R335). -/
def Chip.cnvSeqWrite (c : Chip) (m i s : Nat) (d : Word) : Chip :=
  let k := cnvK i (0x120 + 8 * s)
  let w := d &&& 0xFFF0_7C1F#32
  let old := c.word k
  if old.getLsbD 31 then
    if (w &&& 0x7FFF_FFFF#32) != (old &&& 0x7FFF_FFFF#32) then c.logErr ecLocked m k
    else if w.getLsbD 31 then c
    else
      let c := (c.setWord k w).setBit (cnvK i 0x114) (20 + s) false
      match (c.cv i).cur with
      | some q => if q.seq == some s then c.setCv i { c.cv i with cur := some { q with stop := true } } else c.setBit (cnvK i 0x114) (16 + s) false
      | none => c.setBit (cnvK i 0x114) (16 + s) false
  else if w.getLsbD 31 && seqCode w != 0 then
    (c.setWord k (w &&& 0x7FFF_FFFF#32)).setFld (cnvK i 0x114) 28 4 (seqCode w)
  else c.setWord k w

/-- R322: a read of a result word by master `m` captures its stamp into CNV_RTS. -/
def Chip.cnvCapture (c : Chip) (m i e : Nat) : Chip :=
  c.setStamp (viewKey m (cnvK i 0x300)) (tab 0 c.stamps (cnvK i (0x800 + 8 * e)))

/-! ### Power states (R327, R337) -/

/-- R337: DRIP and SEEP: sequences go idle once the conversion in progress has resolved. -/
def Chip.cnvStop (c : Chip) : Chip :=
  c.each (List.range 4) fun c i => if (c.cv i).cur.isSome then c else c.cnvIdle i

/-- R327, R337: the return to TRICKLE from a lower power state. -/
def Chip.cnvReturn (c : Chip) : Chip :=
  c.each (List.range 4) fun c i => c.each (List.range 32) fun c e => c.markEntry i e

end Sys2Proof.Machine
end

