-- ==== Sys2Proof/Machine/Timebase.lean ====
section
/-! DEFINITION. The Timebase (11_timebase): the counter, steps, the servo, the PTP engine, cycle-start triggers, pulse
outputs and capture inputs. -/

namespace Sys2Proof.Machine

/-- A register of the counter page (R362). -/
def timA (o : Nat) : Nat := pageAddr TIM 0 o
/-- A register of PTP port `p` (R363). -/
def ptpK (p o : Nat) : Nat := pageAddr TIM (1 + p) o
/-- A register of the pulse and capture page (R360). -/
def plsA (o : Nat) : Nat := pageAddr TIM 5 o
/-- Word `w` of trigger entry `n` (R356). -/
def trgK (n w : Nat) : Nat := twAddr TIM (64 * n + 4 * w)
/-- The local time in 2^-16 ns. -/
def Chip.t16 (c : Chip) : Nat := c.tim.ns * 65536 + c.tim.frac / 65536
/-- A stamp of an instant in 2^-16 ns. -/
def Chip.stamp16 (c : Chip) (t : Nat) : Stamp := c.stampAt (t / 65536) (t % 65536)
/-- Servo state: 0 FREE, 1 ACQUIRE, 2 TRACK, 3 LOCKED, 4 HOLDOVER (R362). Log 53, DEDUCED. -/
def Chip.servo (c : Chip) : Nat := c.fld aTimStat 29 3
/-- SERVO = 1: the software servo (R347). -/
def Chip.softServo (c : Chip) : Bool := c.bit (timA 0x130) 29
/-- SRC (R362). -/
def Chip.timSrc (c : Chip) : Nat := c.fld (timA 0x130) 26 3

/-! ### Rate and increment (R338) -/

/-- INCR_NOM (R338). -/
def Chip.incrNom (c : Chip) : Nat := c.u64 (timA 0x128)
/-- RATE (R338). -/
def Chip.rate (c : Chip) : Int := signed 32 (c.nat (timA 0x14C))
/-- TIM_INCR follows INCR_NOM and RATE. -/
def Chip.syncIncr (c : Chip) : Chip := c.setU64 (timA 0x120) ((c.incrNom : Int) + c.rate).toNat
/-- R338: RATE is set, clamped to RATE_MAX. -/
def Chip.setRate (c : Chip) (r : Int) : Chip :=
  let m : Int := c.nat (timA 0x148)
  let v := clampI (-m) m r
  let c := ((c.setNat (timA 0x14C) (unsigned 32 v)).setBit aTimStat 4 (v != r)).syncIncr
  if v != r then c.cause TIM 0 5 else c
/-- RATE_SW (R343, R347). -/
def Chip.rateSw (c : Chip) : Int := signed 32 (c.nat (timA 0x150))

/-- One TREF tick (R338); the real-time clock goes on by its 8 ns (R552). Log 6, DESIGN CHOICE. -/
def Chip.tick (c : Chip) : Chip :=
  let f := c.tim.frac + c.u64 (timA 0x120)
  { c with tim := { c.tim with ns := (c.tim.ns + f / 2 ^ 32) % 2 ^ 64, frac := f % 2 ^ 32, backup := c.tim.backup.map (· + 8) } }

/-! ### Servo states (R342, R343, R346) -/

/-- The servo enters a state: flags, causes and counters (R342, R343, R362). -/
def Chip.setServo (c : Chip) (s : Nat) : Chip :=
  let was := c.servo
  let c := ((c.setFld aTimStat 29 3 s).setBit aTimStat 0 (s = 3)).setBit aTimStat 1 (s = 4)
  if s = 3 && was != 3 then
    let c := (c.setBit aTimStat 2 false).cause TIM 0 1
    { c with tim := { c.tim with backup := some c.tim.ns } }
  else if s = 4 && was != 4 then (c.count (timA 0x03C)).cause TIM 0 3
  else c

/-- R343: LOCK_LOST. -/
def Chip.lockLost (c : Chip) : Chip := (c.count (timA 0x038)).cause TIM 0 2

/-- R346: the servo enters HOLDOVER: RATE is frozen at the mean of the last 16, and I becomes -RATE. Log 53, DEDUCED. -/
def Chip.toHoldover (c : Chip) : Chip :=
  let l := c.tim.rates
  let c := if c.softServo || l.isEmpty then c else c.setRate (roundDiv (l.foldl (· + ·) 0) l.length)
  let c := { c with tim := { c.tim with integ := -c.rate * 2 ^ 32, lockRun := 0, beyond := 0 } }
  c.setServo 4

/-- The servo enters FREE (R343). -/
def Chip.toFree (c : Chip) : Chip :=
  let c := { c with tim := { c.tim with thA := none, stepDue := none, lockRun := 0, beyond := 0, rates := [] } }
  let c := c.setServo 0
  if c.timSrc = 1 || c.softServo then c.setRate c.rateSw else c

/-- The servo enters ACQUIRE with θa, or without one (R343). -/
def Chip.toAcquire (c : Chip) (a : Option (Int × Int)) : Chip :=
  let c := { c with tim := { c.tim with thA := a, stepDue := none, lockRun := 0, beyond := 0, rates := [] } }
  c.setServo 1

/-- The servo enters TRACK (R344). -/
def Chip.toTrack (c : Chip) : Chip :=
  let c := { c with tim := { c.tim with thA := none, stepDue := none, lockRun := 0, beyond := 0 } }
  c.setServo 2

/-- R345: an offset in 2^-16 ns updates the rate. -/
def Chip.rateUpdate (c : Chip) (th : Int) : Chip :=
  let c :=
    if c.softServo then c
    else
      let i := c.tim.integ + c.nat (timA 0x13C) * th
      let r := -(roundDiv (c.nat (timA 0x138) * th + i) (2 ^ 32))
      let c := { c with tim := { c.tim with integ := i } }
      c.setRate r
  { c with tim := { c.tim with rates := (c.rate :: c.tim.rates).take 16 } }

/-- TRACK counts the offsets within LOCK_THR; LOCK_N of them lock (R343). -/
def Chip.trackCount (c : Chip) (th : Int) : Chip :=
  if th.natAbs ≤ c.fld (timA 0x144) 0 24 * 65536 then
    let n := c.tim.lockRun + 1
    let c := { c with tim := { c.tim with lockRun := n } }
    if n ≥ max 1 (c.fld (timA 0x144) 24 8) then c.setServo 3 else c
  else { c with tim := { c.tim with lockRun := 0 } }

/-- R344: the rate estimate ν from the offset `a` and a later one, and ν in RATE units, one of which is a frequency change of 2^-35
(R338). Two offsets of one local time have no quotient: ν is free. Log 53, DEDUCED. -/
def Chip.rateEstimate (c : Chip) (a : Int × Int) (th t : Int) : Rat × Int × Chip :=
  if t = a.2 then
    let (v, c) := c.freeInt
    ((v : Rat) / 2 ^ 35, v, c)
  else
    let nu : Rat := ((th - a.1 : Int) : Rat) / ((t - a.2 : Int) : Rat)
    (nu, ratRound (nu * 2 ^ 35), c)

/-- R344: the second offset of an acquisition. -/
def Chip.secondOffset (c : Chip) (a : Int × Int) (th t : Int) : Chip :=
  let far := decide (th.natAbs > c.nat (timA 0x140) * 65536)
  if c.softServo then (if far then c else c.toTrack)
  else
    let (nu, v, c) := c.rateEstimate a th t
    let c := c.setRate (-v)
    let c := { c with tim := { c.tim with integ := v * 2 ^ 32, rates := (c.rate :: c.tim.rates).take 16 } }
    if far then { c with tim := { c.tim with stepDue := some { theta := th, nu := nu, tb := t } } } else c.toTrack

/-- SERVO_UPDATE (R343): a valid offset `th` received at local time `t`, both in 2^-16 ns. Log 53, DEDUCED. -/
def Chip.offset (c : Chip) (th t : Int) : Chip :=
  let c := c.setS64 (timA 0x160) th
  let far := decide (th.natAbs > c.nat (timA 0x140) * 65536)
  match c.servo with
  | 0 => c.toAcquire (some (th, t))
  | 1 =>
    if c.tim.stepDue.isSome then c
    else match c.tim.thA with
      | none => { c with tim := { c.tim with thA := some (th, t) } }
      | some a => c.secondOffset a th t
  | 4 => if far then c.toAcquire (some (th, t)) else (c.toTrack.rateUpdate th).trackCount th
  | s =>
    let n := if far then c.tim.beyond + 1 else 0
    let c := { c with tim := { c.tim with beyond := n } }
    if n ≥ 4 then c.lockLost.toAcquire (some (th, t))
    else if s = 3 then
      if th.natAbs > c.fld (timA 0x144) 0 24 * 65536 then
        let c := { c with tim := { c.tim with lockRun := 0 } }
        (c.lockLost.setServo 2).rateUpdate th
      else c.rateUpdate th
    else (c.rateUpdate th).trackCount th

/-- SYNC_TIMEOUT (R343): no valid offset for three Sync intervals. -/
def Chip.syncTimeout (c : Chip) : Chip :=
  let c := c.each ((List.range 4).filter fun p => c.bit (ptpK p 0x100) 31 && c.fld (ptpK p 0x100) 29 2 = 2) fun c p =>
    (c.setBit (ptpK p 0x10C) 30 true).cause TIM (1 + p) 1
  match c.servo with
  | 1 => c.toFree
  | 2 => c.toHoldover
  | 3 => c.toHoldover
  | _ => c

/-- TREF_LOSS (R339). Log 53, DEDUCED. -/
def Chip.trefLoss (c : Chip) : Chip :=
  if c.bit aTimStat 28 then c
  else
    let c := (c.setBit aTimStat 28 true).cause TIM 0 4
    if c.servo = 2 || c.servo = 3 then c.toHoldover else c

/-- R340: in SEEP and SUMP no PTP runs, so the servo is in HOLDOVER. Log 53, DEDUCED. -/
def Chip.timRest (c : Chip) : Chip := if c.servo = 2 || c.servo = 3 then c.toHoldover else c

/-- TREF_RETURN (R339): no step. -/
def Chip.trefReturn (c : Chip) : Chip := c.setBit aTimStat 28 false

/-! ### Cycle-start triggers (R353 to R356) -/

/-- Trigger `n` outside its entry. -/
def Chip.trig (c : Chip) (n : Nat) : Trig := tab {} c.tim.trigs n
/-- Trigger `n` outside its entry changes. -/
def Chip.setTrig (c : Chip) (n : Nat) (x : Trig) : Chip :=
  { c with tim := { c.tim with trigs := tabPut {} c.tim.trigs n x } }
/-- P in 2^-16 ns (R353). -/
def Chip.trigP (c : Chip) (n : Nat) : Nat := c.nat (trgK n 1) * 65536 + c.fld (trgK n 2) 0 16
/-- ORIGIN in 2^-16 ns. -/
def Chip.trigOrigin (c : Chip) (n : Nat) : Nat := c.u64 (trgK n 4) * 65536
/-- P outside 1,000 ns to 4,294,967,295 ns (R353). -/
def Chip.trigPBad (c : Chip) (n : Nat) : Bool := c.trigP n < 1000 * 65536 || 4294967295 * 65536 < c.trigP n
/-- The first grid instant g_k, k ≥ 0, at or after `t` (R353). -/
def Chip.gridFrom (c : Chip) (n t : Nat) : Nat :=
  let o := c.trigOrigin n
  if t ≤ o then o else o + ceilDiv (t - o) (c.trigP n) * c.trigP n

/-- R354: the trigger is armed as by a write of EN at this instant. -/
def Chip.trigArm (c : Chip) (n : Nat) : Chip :=
  let x := c.trig n
  (c.setTrig n { armed := true, next := c.gridFrom n (c.t16 + 2000 * 65536), last := x.last, owed := x.owed }).setBit (trgK n 7) 31 true

/-- R354, R355: the occurrences of trigger `n` whose instants have passed and that have not been delivered are still owed, with their
stamps. -/
def Chip.trigOwe (c : Chip) (n : Nat) : Chip :=
  let x := c.trig n
  let p := c.trigP n
  if !x.armed || !c.running || c.t16 < x.next || p = 0 then c
  else
    let k := (c.t16 - x.next) / p + 1
    c.setTrig n { x with owed := x.owed ++ (List.range k).map fun j => c.stamp16 (x.next + j * p), next := x.next + k * p,
                         last := x.next + (k - 1) * p, fired := true }

/-- A write by master `m` of W0 of trigger `n` (R354, R356). -/
def Chip.trigW0 (c : Chip) (m n : Nat) (d : Word) : Chip :=
  let w := d &&& 0xE001_FFFF#32
  let on := c.bit (trgK n 0) 31
  if w.getLsbD 31 then
    if on then c.setWord (trgK n 0) w
    else if c.trigPBad n then (c.setWord (trgK n 0) (w &&& 0x7FFF_FFFF#32)).logErr ecNoKey m (trgK n 0)
    else (c.setWord (trgK n 0) w).trigArm n
  else
    let c := c.trigOwe n
    let x := c.trig n
    let near := x.armed && x.next ≤ c.t16 + 20 * 65536
    let c := (c.setWord (trgK n 0) w).setTrig n { x with armed := false, grace := near }
    if on then (c.setBit (trgK n 7) 31 false).setBit (trgK n 7) 30 false else c

/-- A write by master `m` of PERIOD or ORIGIN: LOCKED where it would change them while EN = 1 (R354). -/
def Chip.trigCfgWrite (c : Chip) (m n w : Nat) (d : Word) : Chip :=
  let v := if w = 2 then d &&& 0xFFFF#32 else d
  if v == c.word (trgK n w) then c
  else if c.bit (trgK n 0) 31 then c.logErr ecLocked m (trgK n w)
  else (c.setWord (trgK n w) v).syncRate

/-- The level of TIM_TRG_EVP (R361). -/
def Chip.evpLevel (c : Chip) : Chip := c.level TIM 6 0 (c.wide (pageAddr TIM 6 0x100) 8 != 0)

/-- May an occurrence of trigger `n` be delivered now (R353, R354)? -/
def Chip.trigDue (c : Chip) (n : Nat) : Bool :=
  let x := c.trig n
  n < 256 && c.running && (!x.owed.isEmpty || ((x.armed || x.grace) && x.next ≤ c.t16))

/-- The stamp of the occurrence of trigger `n` that is delivered next (R353, R354). -/
def Chip.trigStamp (c : Chip) (n : Nat) : Stamp := (c.trig n).owed.headD (c.stamp16 (c.trig n).next)

/-- R353: the Timebase's own part of an occurrence: COUNT, LAST, the successor list and the event bit. -/
def Chip.trigCount (c : Chip) (n : Nat) (s : Stamp) : Chip :=
  let x := c.trig n
  let c := c.setTrig n (match x.owed with
    | _ :: r => { x with owed := r }
    | [] => { x with last := x.next, next := x.next + c.trigP n, fired := true, grace := false })
  let c := (c.setNat (trgK n 6) (c.nat (trgK n 6) + 1)).setStamp (trgK n 8) s
  let c := c.postIf (c.bit (trgK n 0) 30) (c.fld (trgK n 0) 0 17) s
  if c.bit (trgK n 0) 29 then (c.setBit (pageAddr TIM 6 (0x100 + 4 * (n / 32))) (n % 32) true).evpLevel else c

/-- R354: the return to TRICKLE restarts every enabled trigger. -/
def Chip.trigReturn (c : Chip) : Chip :=
  c.each ((List.range 256).filter fun n => c.bit (trgK n 0) 31) Chip.trigArm

/-- R355: trigger `n` at a step of `d` (2^-16 ns) taken at `ts` on the old time. Log 53, DEDUCED. -/
def Chip.trigStep (c : Chip) (n : Nat) (ts : Nat) (d : Int) : Chip :=
  let x := c.trig n
  if !x.armed then c
  else if !x.fired then c.trigArm n
  else
    let p := c.trigP n
    let e := ts - x.last
    let from' := ((ts : Int) + d).toNat + ((p + 1) / 2 - e)
    let g := c.gridFrom n from'
    let c := c.setTrig n { x with next := g }
    if g != x.last + p then
      (((c.setBit (trgK n 7) 30 true).countFld (trgK n 7) 0 16)).count (timA 0x040)
    else c

/-! ### Steps (R340, R341, R344, R357) -/

/-- The step log moves down and takes a new entry (R362). -/
def Chip.logStep (c : Chip) (d : Int) : Chip :=
  let c := c.each [3, 2, 1] fun c i => c.each (List.range 8) fun c w =>
    c.setWord (timA (0x200 + 32 * i + 4 * w)) (c.word (timA (0x200 + 32 * (i - 1) + 4 * w)))
  let u := unsigned 80 d
  let c := ((c.setNat (timA 0x200) (c.fld aTimStat 16 8)).setNat (timA 0x204) 0).setNat (timA 0x208) (u % 65536 * 65536)
  (c.setU64 (timA 0x20C) (u / 65536)).setStamp (timA 0x214) c.now

/-- The triggers that are armed. -/
def Chip.armedTrigs (c : Chip) : List Nat := (List.range 256).filter fun n => (c.trig n).armed

/-- R341: a step of `d`, in 2^-16 ns, at this tick. -/
def Chip.applyStep (c : Chip) (d : Int) : Chip :=
  let c := c.each c.armedTrigs Chip.trigOwe
  let ts := c.t16
  let t : Int := (ts : Int) + d
  let new := (t % (2 ^ 80 : Nat)).toNat
  let low := c.tim.frac % 65536
  let ends := c.tim.plsEnd.map fun e => (e.1, ((e.2 : Int) + d).toNat)
  let c := { c with tim := { c.tim with ns := new / 65536, frac := new % 65536 * 65536 + low, plsEnd := ends } }
  let c := (c.wrapFld aTimStat 16 8).setBit aTimStat 2 true
  let c := ((c.logStep d).count (timA 0x034)).cause TIM 0 0
  let c := c.each c.armedTrigs fun c n => c.trigStep n ts d
  -- R357: a pending one-shot that the step has passed
  c.each ((List.range 16).filter fun n => natBit c.tim.plsArmed n) fun c n =>
    let at' := c.u64 (plsA (0x108 + 32 * n)) * 65536
    if ts < at' && at' ≤ new then (c.setBit (plsA (0x110 + 32 * n)) 30 true).cause TIM 5 2 else c

/-- TIME_STEP_APPLY (R344, R347). -/
def Chip.stepApply (c : Chip) : Chip :=
  match c.tim.stepDue with
  | none => c
  | some q =>
    let d := -(q.theta + ratRound (q.nu * ((c.t16 : Int) - q.tb : Int)))
    (c.applyStep d).toTrack

/-- R344, R347: STEP_GO. -/
def Chip.stepGo (c : Chip) : Chip :=
  if c.servo = 1 && c.softServo then
    let v := c.wide (timA 0x154) 3
    let d := signed 80 (v / 65536)
    let c := { c with tim := { c.tim with stepDue := some { theta := -d, nu := 0, tb := 0 } } }
    c.setBit aTimStat 5 false
  else (c.setBit aTimStat 5 true).cause TIM 0 6

/-- R343: REACQ. -/
def Chip.reacq (c : Chip) : Chip := if 2 ≤ c.servo && c.servo ≤ 4 then c.toAcquire none else c

/-- A keyed write of TIM_CTL (R362). Log 53, DEDUCED. -/
def Chip.timCtlWrite (c : Chip) (d : Word) : Chip :=
  let w := d &&& 0x3C00_0000#32
  let w := if getBits w 26 3 ≥ 3 then putBits w 26 3 1 else w
  let c := c.setWord (timA 0x130) w
  let c := if c.softServo || (c.timSrc = 1 && c.servo = 0) then c.setRate c.rateSw else c
  let c := if d.getLsbD 31 then c.reacq else c
  if d.getLsbD 30 then c.stepGo else c

/-- A keyed write of TIM_RATE_SW (R343, R347). -/
def Chip.rateSwWrite (c : Chip) (d : Word) : Chip :=
  let c := c.setWord (timA 0x150) d
  if c.softServo || (c.timSrc = 1 && c.servo = 0) then c.setRate c.rateSw else c

/-- A keyed write by master `m` of TIM_INCR_NOM or TIM_RATE_MAX: `c'` holds the new value (R338). -/
def Chip.incrWrite (c c' : Chip) (m a : Nat) : Chip :=
  let nom := c'.incrNom
  let mx := c'.nat (timA 0x148)
  if 2 * mx ≥ nom || nom + mx > 2 ^ 40 - 1 then c.logErr ecNoKey m a
  else if c'.softServo || (c'.timSrc = 1 && c'.servo = 0) then c'.setRate c'.rateSw
  else if c'.rate.natAbs > mx then c'.setRate c'.rate else c'.syncIncr

/-- R340: the counter is loaded from the backup-domain clock, or with 0; the load is a step. The servo starts in FREE. -/
def Chip.timLoad (c : Chip) : Chip :=
  let v := c.tim.backup.getD 0
  let c := { c with tim := { ({} : Tim) with backup := c.tim.backup } }
  (c.applyStep (v * 65536 : Nat)).setServo 0

/-- BACKUP_CLOCK_WRITE (R340). -/
def Chip.backupWrite (c : Chip) : Chip :=
  if c.servo = 3 then { c with tim := { c.tim with backup := some c.tim.ns } } else c

/-- R588: a soft reset of TIM instance 0: configuration and counters return, time stands. -/
def Chip.timSoftReset (c : Chip) : Chip :=
  (((c.clearWords (timA 0x034) (timA 0x044)).clearWords (timA 0x128) (timA 0x134)).clearWords (timA 0x138)
    (timA 0x14C)).clearWords (timA 0x150) (timA 0x160) |>.syncIncr

/-! ### PTP (R348 to R352, R363) -/

/-- PTP port `p` outside its page. -/
def Chip.ptp (c : Chip) (p : Nat) : PtpPort := tab {} c.tim.ports p
/-- PTP port `p` outside its page changes. -/
def Chip.setPtp (c : Chip) (p : Nat) (x : PtpPort) : Chip :=
  { c with tim := { c.tim with ports := tabPut {} c.tim.ports p x } }
/-- ROLE of port `p`; DISABLED without EN (R363). -/
def Chip.ptpRole (c : Chip) (p : Nat) : Nat := if c.bit (ptpK p 0x100) 31 then c.fld (ptpK p 0x100) 29 2 else 0
/-- Does the part have the port (R348)? -/
def Chip.ptpHas (c : Chip) (p : Nat) : Bool := p < 4 && pageExists c.part TIM (1 + p)
/-- The ingress timestamp of a message now (R349), in 2^-16 ns. Log 54, PRESUMED. -/
def Chip.ingress (c : Chip) (p : Nat) : Int := (c.t16 : Int) - c.fld (ptpK p 0x104) 0 16 * 4096
/-- The egress timestamp of a message now (R349), in 2^-16 ns. Log 54, PRESUMED. -/
def Chip.egress (c : Chip) (p : Nat) : Int := (c.t16 : Int) + c.fld (ptpK p 0x104) 16 16 * 4096
/-- A PTP frame is discarded (R348). Log 56, DEDUCED. -/
def Chip.ptpDiscard (c : Chip) (p : Nat) : Chip := (c.count (ptpK p 0x044)).cause TIM (1 + p) 3
/-- Does the engine run (R340: no PTP in SEEP and SUMP)? -/
def Chip.ptpRuns (c : Chip) : Bool := c.modState ≤ 2

/-- R351: an offset of the slave port. Log 53, DEDUCED. -/
def Chip.ptpOffset (c : Chip) (p : Nat) (t1 t2 corr : Int) : Chip :=
  let c := c.setStamp (ptpK p 0x120) (c.stamp16 t1.toNat)
  let d := c.s64 (ptpK p 0x110)
  let nrr : Rat := 1 + (signed 32 (c.nat (ptpK p 0x118)) : Rat) / 2 ^ 41
  let th := ratRound ((t2 - t1 - corr : Int) - d * nrr)
  if c.timSrc = 0 && c.ptpRole p = 2 && c.bit (ptpK p 0x10C) 31 then
    (c.setBit (ptpK p 0x10C) 30 false).offset th t2
  else c

/-- PTP_SYNC_RX (R348, R349, R351): t1 in ns, `corr` in 2^-16 ns. -/
def Chip.syncRx (c : Chip) (p domain t1 : Nat) (corr : Int) (twoStep tagged : Bool) : Chip :=
  if !c.ptpHas p || !c.ptpRuns || !c.bit (ptpK p 0x100) 31 then c
  else if tagged then c.ptpDiscard p
  else if c.ptpRole p = 0 then c
  else if domain != c.fld (ptpK p 0x100) 16 7 then c
  else
    let t2 := c.ingress p
    let c := ((c.count (ptpK p 0x034)).setBit (ptpK p 0x10C) 29 twoStep).setStamp (ptpK p 0x130) (c.stamp16 t2.toNat)
    if twoStep then c.setPtp p { c.ptp p with sync := some { t2 := t2, corr := corr } }
    else (c.setPtp p { c.ptp p with sync := none }).ptpOffset p (t1 * 65536) t2 corr

/-- PTP_FOLLOW_UP_RX (R340, R351). -/
def Chip.followUp (c : Chip) (p t1 : Nat) (corr : Int) : Chip :=
  if !c.ptpRuns then c else match (c.ptp p).sync with
  | none => c
  | some q => (c.setPtp p { c.ptp p with sync := none }).ptpOffset p (t1 * 65536) q.t2 (q.corr + corr)

/-- FOLLOW_UP_TIMEOUT (R351). -/
def Chip.followUpTimeout (c : Chip) (p : Nat) : Chip :=
  if (c.ptp p).sync.isSome then (c.setPtp p { c.ptp p with sync := none }).count (ptpK p 0x040) else c

/-- PTP_SYNC_TX (R350, R352). -/
def Chip.syncTx (c : Chip) (p : Nat) : Chip :=
  if c.ptpHas p && c.ptpRuns && c.ptpRole p = 1 && (c.servo ≥ 2 || c.timSrc = 1) then
    let te := c.egress p
    (c.count (ptpK p 0x038)).out (.ptpSync p (te / 65536 / 10 ^ 9) (te / 65536 % 10 ^ 9) (te % 65536) c.rate)
  else c

/-- ASCAPABLE of a port follows (R351). -/
def Chip.setAsCapable (c : Chip) (p : Nat) (b : Bool) : Chip :=
  if c.bit (ptpK p 0x10C) 31 = b then c else (c.setBit (ptpK p 0x10C) 31 b).cause TIM (1 + p) 0

/-- R351: ASCAPABLE: D within PDELAY_THR, and the last three exchanges have succeeded. -/
def Chip.capable (c : Chip) (p : Nat) : Chip :=
  c.setAsCapable p ((c.ptp p).good = 3 && decide (c.s64 (ptpK p 0x110) ≤ (c.fld (ptpK p 0x108) 0 24 : Int) * 65536))

/-- PDELAY_REQ_TX (R351). -/
def Chip.pdelayReq (c : Chip) (p : Nat) : Chip :=
  if c.ptpHas p && c.ptpRuns && c.bit (ptpK p 0x100) 31 then
    (c.setPtp p { c.ptp p with pdT1 := some (c.egress p) }).out (.pdelayReq p)
  else c

/-- PDELAY_REQ_RX (R348, R350): the answer leaves `stay` ns later. Log 54, PRESUMED. -/
def Chip.pdelayAnswer (c : Chip) (p stay : Nat) (tagged : Bool) : Chip :=
  if !c.ptpHas p || !c.ptpRuns || !c.bit (ptpK p 0x100) 31 then c
  else if tagged then c.ptpDiscard p
  else c.out (.pdelayResp p (c.egress p + stay * 65536 - c.ingress p))

/-- PDELAY_RESP_RX (R351): `turn` is t3 - t2 of the responder with its corrections, `t3` its own time of answering where it
gives one; all in 2^-16 ns. D and NRR are formed as in IEEE 802.1AS. Log 53, DEDUCED. Log 54, PRESUMED. -/
def Chip.pdelayResp (c : Chip) (p : Nat) (turn : Int) (t3 : Option Int) : Chip :=
  let x := c.ptp p
  if !c.ptpRuns then c else match x.pdT1 with
  | none => c
  | some t1 =>
    let t4 := c.ingress p
    let ratio : Option Rat := match t3, x.prev3 with
      | some a, some b => if t4 = x.prev4 then none else some (((a - b : Int) : Rat) / ((t4 - x.prev4 : Int) : Rat))
      | _, _ => none
    let c := match ratio with
      | some r => c.setNat (ptpK p 0x118) (unsigned 32 (satS 32 (ratRound ((r - 1) * 2 ^ 41))))
      | none => c
    let nrr : Rat := 1 + (signed 32 (c.nat (ptpK p 0x118)) : Rat) / 2 ^ 41
    let d := ratRound (((t4 - t1 : Int) * nrr - turn) / 2)
    let good := min 3 (x.good + 1)
    let c := c.setS64 (ptpK p 0x110) d
    let c := c.setPtp p { x with pdT1 := none, good := good, prev3 := t3, prev4 := t4 }
    c.capable p

/-- PDELAY_RESP_TIMEOUT (R351). -/
def Chip.pdelayTimeout (c : Chip) (p : Nat) : Chip :=
  let x := c.ptp p
  if x.pdT1.isSome then
    let c := c.setPtp p { x with pdT1 := none, good := 0 }
    ((c.count (ptpK p 0x03C)).cause TIM (1 + p) 2).setAsCapable p false
  else c

/-- PTP_CFG_WRITE by master `m` (R352): a second SLAVE is refused. -/
def Chip.ptpCfgWrite (c : Chip) (m p : Nat) (d : Word) : Chip :=
  let second := getBits d 29 2 = 2 && (List.range 4).any fun q => q != p && c.fld (ptpK q 0x100) 29 2 = 2
  if second then c.logErr ecLocked m (ptpK p 0x100) else c.setWord (ptpK p 0x100) (d &&& 0xE07F_FFFF#32)

/-! ### Pulse outputs and capture inputs (R357 to R360) -/

/-- PULSE_AT_WRITE (R357): the write has been stored; MODE 1 is armed, or too late. -/
def Chip.pulseArm (c : Chip) (n : Nat) : Chip :=
  let k := plsA (0x110 + 32 * n)
  if c.fld (plsA (0x100 + 32 * n)) 30 2 != 1 then c
  else if c.u64 (plsA (0x108 + 32 * n)) * 65536 < c.t16 + 100 * 65536 then
    let c := { c with tim := { c.tim with plsArmed := setNatBit c.tim.plsArmed n false } }
    ((c.setBit k 31 false).setBit k 30 true).cause TIM 5 2
  else
    let c := { c with tim := { c.tim with plsArmed := setNatBit c.tim.plsArmed n true } }
    (c.setBit k 31 false).setBit k 30 false

/-- WIDTH of pulse output `n`, in ns, truncated to 2 ns (R357). -/
def Chip.pulseWidth (c : Chip) (n : Nat) : Nat := c.nat (plsA (0x104 + 32 * n)) / 2 * 2

/-- R357, R358: a pulse of output `n` begins at `t`, in 2^-16 ns; without pin ownership it is computed and not driven. -/
def Chip.pulseGo (c : Chip) (n t : Nat) : Chip :=
  let w := c.pulseWidth n
  let c := { c with tim := { c.tim with plsEnd := tabPut 0 c.tim.plsEnd n (t + w * 65536) } }
  if c.drives && c.running then c.out (.pulse n (!c.bit (plsA (0x100 + 32 * n)) 29) t w) else c

/-- TPULSE[n] at its ball, none in high impedance (R357, R358, R567): from DRIP downwards it is driven low. Log 53, DEDUCED. -/
def Chip.tpulse (c : Chip) (n : Nat) : Option Bool :=
  let k := plsA (0x100 + 32 * n)
  if !c.drives || !natBit c.pwr.supplies 3 || (c.modState = 7 && !natBit c.pwr.supplies 4) then none
  else if 2 ≤ c.modState then some false
  else if !c.pageOn TIM 5 then none
  else
    let high := match c.fld k 30 2 with
      | 0 => false
      | 3 => true
      | _ => decide (c.t16 < tab 0 c.tim.plsEnd n)
    some (high != c.bit k 29)

/-- PULSE_AT_REACHED (R357, R358). -/
def Chip.pulseAt (c : Chip) (n : Nat) : Chip :=
  if n < 16 && natBit c.tim.plsArmed n && c.u64 (plsA (0x108 + 32 * n)) ≤ c.tim.ns then
    let c := { c with tim := { c.tim with plsArmed := setNatBit c.tim.plsArmed n false } }
    if c.pulseWidth n = 0 || c.fld (plsA (0x100 + 32 * n)) 30 2 != 1 then c
    else
      let late := c.bit (plsA (0x110 + 32 * n)) 30
      (c.setBit (plsA (0x110 + 32 * n)) 31 true).pulseGo n (if late then c.t16 else c.u64 (plsA (0x108 + 32 * n)) * 65536)
  else c

/-- R357, R358: the periodic pulses of trigger `t` at its instant `s`, a pulse of WIDTH on each output that names it. Log 53, DEDUCED. -/
def Chip.pulsesDue (c : Chip) (t : Nat) (s : Stamp) : Chip :=
  c.each ((List.range 16).filter fun n =>
      c.fld (plsA (0x100 + 32 * n)) 30 2 = 2 && c.fld (plsA (0x100 + 32 * n)) 16 8 = t && c.pulseWidth n != 0) fun c n =>
    c.pulseGo n s.fine

/-- Capture input `n` outside its registers. -/
def Chip.capIn (c : Chip) (n : Nat) : CapIn := tab {} c.tim.caps n
/-- Capture input `n` outside its registers changes. -/
def Chip.setCapIn (c : Chip) (n : Nat) (x : CapIn) : Chip :=
  { c with tim := { c.tim with caps := tabPut {} c.tim.caps n x } }

/-- CAPTURE_EDGE (R359): an accepted level change of TCAP[n]. -/
def Chip.captureEdge (c : Chip) (n : Nat) (rising : Bool) : Chip :=
  let k := plsA (0x400 + 16 * n)
  if n ≥ 16 || !c.running then c
  else
    let c := c.setBit (plsA 0x600) n rising
    if !c.bit k 31 || !(if rising then c.bit k 29 else c.bit k 30) then c
    else
      let x := c.capIn n
      if x.fifo.length ≥ 16 then (c.setCapIn n { x with lost := true }).cause TIM 5 1
      else
        let s := c.stampAt (c.tim.ns - 2 * max 1 (c.fld k 24 4)) (c.tim.frac / 65536)
        let e : CapEntry := { rising := rising, ovf := x.lost, seq := (x.seq + 1) % 65536, stamp := s }
        let c := c.setCapIn n { fifo := x.fifo ++ [e], seq := e.seq, lost := false }
        (c.postIf (c.bit k 28) (c.fld k 0 17) s).cause TIM 5 0

/-- CAPTURE_POP (R359): the four words of the oldest entry, and the module without it. -/
def Chip.capturePop (c : Chip) (n : Nat) : List Word × Chip :=
  let x := c.capIn n
  match x.fifo with
  | [] => ([0, 0, 0, 0], c)
  | e :: r =>
    let w0 := 2 ^ 31 + b2n e.rising * 2 ^ 30 + b2n e.ovf * 2 ^ 29 + e.seq
    (BitVec.ofNat 32 w0 :: (List.range 3).map fun k => wordN e.stamp.toNat k, c.setCapIn n { x with fifo := r })

end Sys2Proof.Machine
end

