-- ==== Sys2Proof/Machine/Network.lean ====
section
/-! DEFINITION. The Plant Network Ports and the Gikai cyclic frames (12_plant_network): descriptors, transmission, gate
lists, reception, host rings, PHY management. -/

namespace Sys2Proof.Machine

/-- A register of port page `p` (R389). -/
def netK (p o : Nat) : Nat := pageAddr NET p o
/-- A register of the control page (R390). -/
def netA (o : Nat) : Nat := pageAddr NET 127 o
/-- The result word of TX entry `e` (R366). -/
def txEnt (e : Nat) : Nat := pageAddr NET (4 + e / 128) (0x800 + 8 * (e % 128))
/-- The result word of RX entry `e` (R366). -/
def rxEnt (e : Nat) : Nat := pageAddr NET (68 + e / 128) (0x800 + 8 * (e % 128))
/-- Word `w` of descriptor `d` (R376). -/
def ndK (d w : Nat) : Nat := elemKey (storeOf NET 1) d w
/-- Word `w` (0 or 1) of map entry `i` (R375). -/
def mapK (i w : Nat) : Nat := elemKey (storeOf NET 2) (i / 8) (2 * (i % 8) + w)
/-- Word `w` of the status of descriptor `d` (R378). -/
def nsK (d w : Nat) : Nat := elemKey (storeOf NET 3) d w
/-- Descriptor `d` outside its elements. -/
def Chip.ndesc (c : Chip) (d : Nat) : NetDesc := tab {} c.net.desc d
/-- Descriptor `d` outside its elements changes. -/
def Chip.setNdesc (c : Chip) (d : Nat) (x : NetDesc) : Chip :=
  { c with net := { c.net with desc := tabPut {} c.net.desc d x } }
/-- STATE of a descriptor: 0 INACTIVE, 1 WAITING, 2 RUNNING, 3 LOST (R378). -/
def Chip.nstate (c : Chip) (d : Nat) : Nat := c.fld (nsK d 0) 28 4
/-- VALID of a descriptor (R376). -/
def Chip.nvalid (c : Chip) (d : Nat) : Bool := c.bit (ndK d 0) 31
/-- A 16-bit counter of the status element. -/
def Chip.ncount (c : Chip) (d w : Nat) (hi : Bool) : Chip := c.countFld (nsK d w) (if hi then 16 else 0) 16
/-- Cyclic exchange runs (R390, R392). -/
def Chip.cycRuns (c : Chip) : Bool := c.bit (netA 0x100) 31 && c.running

/-! ### TX entries (R367, R368) -/

/-- R367: a value with its stamp is stored in TX entry `e`. -/
def Chip.txPut (c : Chip) (e : Nat) (v : Word) (s : Stamp) : Chip :=
  let c := c.newResult (txEnt e) v 0 s
  { c with net := { c.net with written := tabPut false c.net.written e true, txBad := tabPut false c.net.txBad e false } }

/-- The TX entry whose result word holds an address, if it is one. -/
def txEntryAt (a : Nat) : Option Nat :=
  if blockOf a = NET && !isTw a && 4 ≤ instOf a && instOf a < 68 && 0x800 ≤ offOf a && offOf a < 0xC00 then
    some (128 * (instOf a - 4) + (offOf a - 0x800) / 8)
  else none

/-- R368: a write of 32-bit values on the destination path fills entries from `e` on. -/
def Chip.txFill (c : Chip) (m e : Nat) (vs : List Word) (s : Stamp) : Chip :=
  if e + vs.length > 8192 then c.logUnimp m (txEnt e)
  else (c.each vs.zipIdx fun c v => c.txPut (e + v.2) v.1 s)

/-- NET_TX_PUT (R390): partition `p` puts a value into entry `e`. -/
def Chip.txPutBy (c : Chip) (p e : Nat) (v : Word) : Chip :=
  if c.pageOwner NET (4 + e / 128) != p then c.logErr ecNotOwner p (netA 0x108) else c.txPut e v c.now

/-! ### Map entries (R375) -/

/-- A map entry. -/
structure MapEnt where
  data : Bool
  flag : Bool
  width : Nat
  off : Nat
  ent : Nat
  sig : Nat
  deriving DecidableEq, Repr

/-- The entries of a map entry: one, or two for eight bytes. -/
def MapEnt.ents (e : MapEnt) : List Nat := if e.width = 8 then [e.ent, e.ent + 1] else [e.ent]

/-- Map entry `i`. -/
def Chip.mapEnt (c : Chip) (i : Nat) : MapEnt :=
  { data := c.bit (mapK i 0) 31, flag := c.bit (mapK i 0) 30, width := 2 ^ c.fld (mapK i 0) 28 2,
    off := c.fld (mapK i 0) 16 10, ent := c.fld (mapK i 0) 0 13, sig := c.fld (mapK i 1) 0 25 }

/-- The map entries that a map word of a descriptor names (R376). -/
def Chip.mapOf (c : Chip) (w : Word) : List MapEnt :=
  ((List.range (getBits w 0 8)).map fun i => getBits w 16 16 + i).map c.mapEnt

/-- The TX map of descriptor `d`. -/
def Chip.txMap (c : Chip) (d : Nat) : List MapEnt := c.mapOf (c.word (ndK d 12))
/-- The RX map of descriptor `d`. -/
def Chip.rxMap (c : Chip) (d : Nat) : List MapEnt := c.mapOf (c.word (ndK d 13))

/-! ### Writes of descriptors and maps (R375 to R378) -/

/-- The mask of the writable bits of word `w` of a descriptor (R376). -/
def descMask (w : Nat) : Word :=
  match w with
  | 0 => 0xFFFF_FEC0 | 1 => 0xFFFF_0FFF | 3 => 0xFFFF | 5 => 0xFFFF | 7 => 0xFFFF
  | 8 => 0x1FFF_FFFF | 9 => 0x1FFF_FFFF | 10 => 0x03FF_03FF | 11 => 0x03FF_03FF | 12 => 0xFFFF_00FF | 13 => 0xFFFF_00FF
  | 14 => 0x8001_FFFF | _ => 0xFFFF_FFFF

/-- The longest frame that a direction can take, with tag, twin tag and deltas (R377). -/
def frameLen (lenC lenD : Nat) (ms : List MapEnt) : Nat :=
  let m (b : Bool) := (ms.filter fun e => e.data == b).length
  18 + 8 + 8 + 4 + (if lenC = 0 then 0 else 20 + lenC + 2 * m false) + (if lenD = 0 then 0 else 16 + lenD + 2 * m true)

/-- A map entry that reaches outside its section or its entries (R377, code 5). -/
def mapOut (lenC lenD top : Nat) (rx : Bool) (e : MapEnt) : Bool :=
  e.off + e.width > (if e.data then lenD else lenC) ||
  (!(rx && e.ent = 0x1FFF) && e.ent + (if e.width = 8 then 1 else 0) ≥ top)

/-- Two TX fields that overlap (R377, code 5). -/
def mapOverlap : List MapEnt → Bool
  | [] => false
  | e :: r => (r.any fun f => e.data == f.data && e.off < f.off + f.width && f.off < e.off + e.width) || mapOverlap r

/-- Do two descriptors, given by their words, receive the same frames (R377, code 6)? -/
def rxClash (a b : Nat → Word) : Bool :=
  let sa (w : Nat → Word) (k : Nat) : Nat := (w k).toNat + (w (k + 1)).toNat * 2 ^ 32
  let srcs (w : Nat → Word) : List Nat := sa w 4 :: (if sa w 6 = 0 then [] else [sa w 6])
  getBits (a 1) 16 16 = getBits (b 1) 16 16 && (a 0).getLsbD 30 == (b 0).getLsbD 30 &&
  getBits (a 0 &&& b 0) 24 4 != 0 && (srcs a).any fun x => (srcs b).contains x

/-- R377: the code of a write with VALID = 1 of descriptor `d`, 0 when it passes. -/
def Chip.descCode (c : Chip) (d : Nat) (w : Nat → Word) : Nat :=
  let tx := c.mapOf (w 12)
  let rx := c.mapOf (w 13)
  let own := c.netOwner d
  let lc (k : Nat) := getBits (w k) 16 10
  let ld (k : Nat) := getBits (w k) 0 10
  let pages (base top : Nat) (e : MapEnt) : List Nat := (e.ents.filter fun k => k < top).map fun k => base + k / 128
  let noPort (p : Nat) : Bool := !pageExists c.part NET p
  if (tx.any fun e => (pages 4 8192 e).any fun i => c.pageOwner NET i != own) ||
      (rx.any fun e => (pages 68 7552 e).any fun i => c.pageOwner NET i != own) then 1
  else if noPort (getBits (w 0) 28 2) || ((List.range 4).any fun p => (w 0).getLsbD (24 + p) && noPort p) then 2
  else if getBits (w 0) 14 7 ≥ 2 ^ getBits (w 0) 21 3 then 3
  else if lc 10 > 1020 || ld 10 > 1020 || lc 11 > 1020 || ld 11 > 1020 || frameLen (lc 10) (ld 10) tx > 1536 ||
      frameLen (lc 11) (ld 11) rx > 1536 then 4
  else if (tx.any (mapOut (lc 10) (ld 10) 8192 false)) || (rx.any (mapOut (lc 11) (ld 11) 7552 true)) || mapOverlap tx ||
      getBits (w 12) 16 16 + getBits (w 12) 0 8 > 65536 || getBits (w 13) 16 16 + getBits (w 13) 0 8 > 65536 then 5
  else if (List.range 4096).any fun e => e != d && c.nvalid e && rxClash w fun k => c.word (ndK e k) then 6
  else if getBits (w 15) 24 8 = 0 || getBits (w 0) 12 2 = 3 then 7
  else 0

/-- A descriptor's status element is cleared, and with it its place in NET_LOST (R378). -/
def Chip.nclear (c : Chip) (d : Nat) : Chip :=
  let c := if c.nstate d = 3 then c.setFld (netA 0x110) 0 13 (c.fld (netA 0x110) 0 13 - 1) else c
  let c := c.setBit (netA (0x400 + 4 * (d / 32))) (d % 32) false
  let c := c.clearWords (nsK d 0) (nsK d 16)
  let c := { c with net := { c.net with egress := c.net.egress.filter fun f => f.desc != d } }
  c.setNdesc d {}

/-- The descriptor's words are replaced (R377). -/
def Chip.nreplace (c : Chip) (d : Nat) (w : Nat → Word) : Chip :=
  let c := c.nclear d
  let c := c.each (List.range 16) fun c k => c.setWord (ndK d k) (w k &&& descMask k)
  if (w 0).getLsbD 31 then c.setFld (nsK d 0) 28 4 1 else c

/-- R377: an indirect-window write of descriptor `d` by partition `p`; the answer is the ERR code. Log 56, DEDUCED. -/
def Chip.netDescWrite (c : Chip) (p d : Nat) (data : List Word) : Nat × Chip :=
  let w (k : Nat) : Word := data.getD k 0
  let valid := (w 0).getLsbD 31
  if c.nvalid d then
    if valid then (2, c) else (0, c.setNdesc d { c.ndesc d with dying := some data })
  else if !valid then (0, c.nreplace d w)
  else
    let r := c.descCode d w
    if r = 0 then (0, c.nreplace d w)
    else (2, (c.setFld (viewKey p (netA 0x110)) 24 4 r).cause NET 127 5)

/-- R375: an indirect-window write of element `e` of the map store. -/
def Chip.netMapWrite (c : Chip) (e : Nat) (data : List Word) : Nat × Chip :=
  (0, c.each (List.range 16) fun c k =>
    c.setWord (elemKey (storeOf NET 2) e k) (data.getD k 0 &&& (if k % 2 = 0 then 0xF3FF_1FFF#32 else 0x1FF_FFFF#32)))

/-! ### Partner cycles (R379, R377) -/

/-- The length of the partner cycle of descriptor `d`, in ns (R376, R379). -/
def Chip.partnerLen (c : Chip) (d : Nat) : Nat := c.nat (trgK (c.fld (netA 0x100) 0 8) 1) * 2 ^ c.fld (ndK d 0) 21 3

/-- R380: a frame that has not started on the wire by the next partner cycle start is dropped. -/
def Chip.txDrop (c : Chip) (d : Nat) : Chip :=
  if c.net.egress.any fun f => f.desc = d then
    let c := { c with net := { c.net with egress := c.net.egress.filter fun f => f.desc != d } }
    ((c.ncount d 9 false).count (netA 0x040)).cause NET 127 4
  else c

/-- TX_FRAME_DROP (R380): the partner cycle of descriptor `d` has ended. -/
def Chip.txDropDue (c : Chip) (d : Nat) : Chip := if (c.ndesc d).start + c.partnerLen d ≤ c.nowNs then c.txDrop d else c

/-! ### Assembly (R371 to R374, R380) -/

/-- NET_MAC_ADDR of a port. -/
def Chip.mac (c : Chip) (p : Nat) : Nat := c.u64 (netK p 0x108) % 2 ^ 48
/-- Has TX entry `e` been written since the previous send (R380)? -/
def Chip.txFresh (c : Chip) (e : Nat) : Bool := tab false c.net.written e
/-- The stamp of TX entry `e`. -/
def Chip.txStamp (c : Chip) (e : Nat) : Stamp := tab 0 c.stamps (txEnt e)

/-- The earliest stamp among entries, by NS and FRAC (R176, R372). -/
def Chip.earliest (c : Chip) : List Nat → Stamp → Stamp
  | [], s => s
  | e :: r, s => c.earliest r (if (c.txStamp e).toNat / 65536 < s.toNat / 65536 then c.txStamp e else s)

/-- R375: the value that a TX field sends. -/
def Chip.txValue (c : Chip) (e : MapEnt) : Nat :=
  if e.width = 8 then (c.resData (txEnt (e.ent + 1))).toNat * 2 ^ 32 + (c.resData (txEnt e.ent)).toNat
  else (c.resData (txEnt e.ent)).toNat % 2 ^ (8 * e.width)

/-- The values of a section: bytes that no map entry places are free (log 13, DESIGN CHOICE). -/
def Chip.txValues (c : Chip) (ms : List MapEnt) (len free : Nat) : List Byte :=
  ms.foldl (fun bs e => bs.take e.off ++ beBytes e.width (c.txValue e) ++ bs.drop (e.off + e.width)) (beBytes len free)

/-- The bytes of a stamp in a frame (R372). -/
def stampBytes (s : Stamp) : List Byte :=
  beBytes 8 s.ns ++ beBytes 2 s.frac ++ beBytes 1 s.epoch ++ beBytes 1 s.flags

/-- A section without its CHECK (R372). `free` stands for the values and the stamp that nothing gives. Log 56, DEDUCED. -/
def Chip.section' (c : Chip) (d : Nat) (data : Bool) (len free : Nat) : List Byte :=
  let ms := (c.txMap d).filter fun e => e.data == data
  let es := ms.flatMap MapEnt.ents
  -- R392: lanes are idle in TRICKLE, so TIMED frames carry HELD there
  let idle := c.modState = 1 && c.fld (ndK d 0) 12 2 = 0
  let held := (ms.any fun e => e.flag && e.ents.any fun k => !c.txFresh k) || es.any (tab false c.net.txBad) || idle
  let deltas := c.bit (ndK d 0) 7
  let s := match es with
    | [] => BitVec.ofNat 96 free
    | e :: r => c.earliest r (c.txStamp e)
  -- whole ns, so that no receiver forms a stamp later than the true one
  let delta (e : MapEnt) : Nat := min 0xFFFF (((c.earliest e.ents (c.txStamp e.ent)).fine - s.fine) / 65536)
  beBytes 1 (if data then 2 else 1) ++ beBytes 1 (b2n held + 2 * b2n deltas) ++ beBytes 2 len ++ stampBytes s ++
    c.txValues ms len free ++ (if deltas then ms.flatMap fun e => beBytes 2 (delta e) else [])

/-- R373: CHECK of a control section. -/
def checkOf (peer verFlags cycle : Nat) (sec : List Byte) : Nat :=
  crc32c (beBytes 2 peer ++ beBytes 1 verFlags ++ [0] ++ beBytes 4 cycle ++ sec)

/-- R371 to R374: the frame of descriptor `d`, without its FCS. -/
def Chip.assemble (c : Chip) (d free : Nat) : List Byte :=
  let w0 := c.word (ndK d 0)
  let lenC := c.fld (ndK d 10) 16 10
  let lenD := c.fld (ndK d 10) 0 10
  let cycle := (c.ndesc d).cycle
  let peer := c.fld (ndK d 1) 16 16
  let vf := 0x10 + b2n (w0.getLsbD 30) * 8 + b2n c.paired * 4
  let tag := if w0.getLsbD 6 then beBytes 2 0x8100 ++ beBytes 2 (getBits w0 9 3 * 2 ^ 13 + c.fld (ndK d 1) 0 12) else []
  let secC := if lenC = 0 then [] else c.section' d false lenC free
  let ctl := if lenC = 0 then [] else secC ++ beBytes 4 (checkOf peer vf cycle secC)
  let dat := if lenD = 0 then [] else c.section' d true lenD free
  let twin := if c.paired then
      beBytes 2 (c.fld (pageAddr PAI 0 0x100) 0 16) ++ beBytes 1 (if c.role = 3 then 0 else 0x80) ++ [0] ++ beBytes 4 cycle
    else []
  let f := beBytes 6 (c.u64 (ndK d 2) % 2 ^ 48) ++ beBytes 6 (c.mac (getBits w0 28 2)) ++ tag ++
    beBytes 2 (c.nat (netA 0x104)) ++ beBytes 1 vf ++ beBytes 1 (b2n (lenC != 0) + 2 * b2n (lenD != 0)) ++ beBytes 2 peer ++
    beBytes 4 cycle ++ ctl ++ dat ++ twin
  f ++ List.replicate (60 - f.length) 0

/-! ### Egress (R382, R383) -/

/-- The gates of a port: bit q for queue q (R382). -/
def Chip.gates (c : Chip) (p : Nat) : Nat :=
  if c.bit (netK p 0x110) 31 then
    c.fld (twAddr NET (p * 0x2000 + b2n (c.bit (netK p 0x104) 29) * 0x1000 + 4 * (tab {} c.net.gcl p).idx)) 24 8
  else 0xFF

/-- The rate of a port in bits per 1,000 ns (R364). -/
def Chip.portRate (c : Chip) (p : Nat) : Nat :=
  match c.fld (netK p 0x100) 28 3 with
  | 0 => 10000 | 1 => 10000 | 2 => 2500 | 3 => 1000
  | 4 => (match c.fld (netK p 0x100) 26 2 with
    | 0 => 10000 | 1 => 2500 | _ => 1000)
  | _ => 1000

/-- R383: the operational list of a port over one cycle, as gates and durations: the list ends at a duration of 0, is cut at the
end of the cycle, and its last entry holds until then. `len` entries from `i` on, `left` ns of the cycle to go.
Log 56, DEDUCED. -/
def Chip.gclRun (c : Chip) (p : Nat) : Nat → Nat → Nat → List (Nat × Nat)
  | 0, _, _ => []
  | len + 1, i, left =>
    let e (k : Nat) := twAddr NET (p * 0x2000 + b2n (c.bit (netK p 0x104) 29) * 0x1000 + 4 * k)
    let dur := c.fld (e i) 0 24
    if dur = 0 || left = 0 then []
    else if len = 0 || c.fld (e (i + 1)) 0 24 = 0 || left ≤ dur then [(c.fld (e i) 24 8, left)]
    else (c.fld (e i) 24 8, dur) :: c.gclRun p len (i + 1) (left - dur)

/-- The entry of a run of gates and durations that stands at `pos` ns, and the durations before it; `i` and `past` count what is behind. -/
def gclWalk (pos : Nat) : List (Nat × Nat) → Nat → Nat → Nat × Nat
  | [], i, past => (i, past)
  | [_], i, past => (i, past)
  | e :: r, i, past => if pos < past + e.2 then (i, past) else gclWalk pos r (i + 1) (past + e.2)

/-- R383: the entry of the operational list of a port that the counter has reached, and the durations before it in its cycle. -/
def Chip.gclAt (c : Chip) (p : Nat) : Nat × Nat :=
  let cyc := c.fld (netK p 0x124) 0 30
  gclWalk ((c.nowNs - c.u64 (netK p 0x128)) % cyc) (c.gclRun p (tab {} c.net.gcl p).len 0 cyc) 0 0

/-- R382: how long queue `q` of a port stays open from now on, in ns; none when its gate does not close. Log 56, DEDUCED. -/
def Chip.openFor (c : Chip) (p q : Nat) : Option Nat :=
  let g := tab {} c.net.gcl p
  let cyc := c.fld (netK p 0x124) 0 30
  let run := c.gclRun p g.len 0 cyc
  if cyc = 0 || run.all fun e => natBit e.1 q then none
  else
    let pos := (c.nowNs - c.u64 (netK p 0x128)) % cyc
    let past := g.elapsed + (run.getD g.idx (0, 0)).2 - max pos g.elapsed
    let ahead := (run.drop (g.idx + 1) ++ run).takeWhile fun e => natBit e.1 q
    some (ahead.foldl (fun t e => t + e.2) past)

/-- Can a frame of this length leave queue `q` before the queue's gate next closes, at the port's rate (R382)?
Log 56, DEDUCED. -/
def Chip.fits (c : Chip) (p q len : Nat) : Bool :=
  !c.bit (netK p 0x110) 31 ||
  (match c.openFor p q with
   | none => true
   -- preamble and FCS
   | some t => decide ((len + 12) * 8 * 1000 ≤ t * c.portRate p))

/-- May a frame of the queue leave the port now? Log 56, DEDUCED. -/
def Chip.canLeave (c : Chip) (p q len : Nat) : Bool :=
  c.bit (netK p 0x100) 31 && c.bit (netK p 0x104) 31 && natBit (c.gates p) q && c.fits p q len

/-- A cyclic frame leaves: TX_CNT (R378). -/
def Chip.sendFrame (c : Chip) (f : EgFrame) : Chip :=
  (c.setNat (nsK f.desc 10) (c.nat (nsK f.desc 10) + 1)).out (.frame f.port f.bytes)

/-- R382: waiting frames whose gates are open leave, the highest queue first. -/
def Chip.drainPort (c : Chip) (p : Nat) : Chip :=
  c.each [7, 6, 5, 4, 3, 2, 1, 0] fun c q =>
    let go (f : EgFrame) : Bool := f.port = p && f.queue = q && c.canLeave p q f.bytes.length
    let fs := c.net.egress.filter go
    let c := { c with net := { c.net with egress := c.net.egress.filter fun f => !go f } }
    c.each fs Chip.sendFrame

/-- Is every READY_REQ entry of descriptor `d` written since the previous send (R380)? -/
def Chip.readySet (c : Chip) (d : Nat) : Bool :=
  (c.txMap d).all fun e => !e.flag || e.ents.all c.txFresh

/-- R380: has the send instant of descriptor `d` come? -/
def Chip.sendDue (c : Chip) (d : Nat) : Bool :=
  let x := c.ndesc d
  let due := x.start + c.fld (ndK d 8) 0 29 ≤ c.nowNs
  x.begun && !x.sent &&
  (match c.fld (ndK d 0) 12 2 with
   | 0 => due
   | 1 => due || (c.readySet d && x.start ≤ c.nowNs)
   | _ => false)

/-- Does the module send cyclic frames in its role (R493)? -/
def Chip.sendsCyclic (c : Chip) : Bool := c.role != 2 && c.role != 4 && c.role != 7

/-- CYCLIC_FRAME_TX (R369, R380): the frame of descriptor `d`; `bad` names the TX entries whose check fails. -/
def Chip.cycTx (c : Chip) (d : Nat) (bad : List Nat) : Chip :=
  let p := c.fld (ndK d 0) 28 2
  if !(d < 4096 && c.nvalid d && c.cycRuns && c.sendsCyclic && c.bit (netK p 0x100) 24 && c.sendDue d) then c
  else
    let (free, c) := c.freeNat
    let es := (c.txMap d).flatMap MapEnt.ents
    let c := c.each (es.filter bad.contains) fun c e => { c with net := { c.net with txBad := tabPut false c.net.txBad e true } }
    let c := c.each (es.filter (tab false c.net.txBad)) fun c e => c.logErr ecPoison 18 (txEnt e)
    let f : EgFrame := { port := p, queue := c.fld (ndK d 0) 9 3, desc := d, bytes := c.assemble d free }
    let c := c.setNdesc d { c.ndesc d with sent := true }
    let w := es.foldl (fun t e => tabPut false t e false) c.net.written
    let c := { c with net := { c.net with written := w, egress := c.net.egress ++ [f] } }
    c.drainPort p

/-! ### Gate lists (R383) -/

/-- A port's gate list outside its registers. -/
def Chip.gcl (c : Chip) (p : Nat) : Gcl := tab {} c.net.gcl p
/-- A port's gate list outside its registers changes. -/
def Chip.setGcl (c : Chip) (p : Nat) (x : Gcl) : Chip := { c with net := { c.net with gcl := tabPut {} c.net.gcl p x } }
/-- GCL_ENTRY_EXPIRY (R383): the gates of the entry that the counter has reached apply, and what they let through leaves.
Log 56, DEDUCED. -/
def Chip.gclNext (c : Chip) (p : Nat) : Chip :=
  if !(p < 4 && c.bit (netK p 0x110) 31) then c
  else
    let (i, past) := c.gclAt p
    (c.setGcl p { c.gcl p with idx := i, elapsed := past }).drainPort p

/-- R383: GCL_WHY of a swap with ADMIN_LEN `len`. Log 56, DEDUCED. -/
def Chip.gclWhy (c : Chip) (p len : Nat) : Nat :=
  let cyc := c.fld (netK p 0x120) 0 30
  let n := c.fld (netA 0x100) 0 8
  let per := c.nat (trgK n 1)
  let base := c.u64 (netK p 0x118)
  let on := c.bit (netA 0x100) 31
  if cyc < 31250 || 1000000000 < cyc then 1
  else if len = 0 || 1024 < len then 2
  else if on && (per = 0 || cyc % per != 0) then 3
  else if on && (base < c.u64 (trgK n 4) || (base - c.u64 (trgK n 4)) % per != 0) then 4
  else 0

/-- A keyed write of NET_GCL_CTL (R383, R389). Log 56, DEDUCED. -/
def Chip.gclCtlWrite (c : Chip) (p : Nat) (d : Word) : Chip :=
  let c := c.setWord (netK p 0x110) (d &&& 0x8000_07FF#32)
  let c := if c.bit (netK p 0x110) 31 then c.gclNext p else c.drainPort p
  if !d.getLsbD 30 then c
  else
    let why := c.gclWhy p (getBits d 0 11)
    if why != 0 then (c.setFld (netK p 0x104) 24 4 why).cause NET p 2
    else
      let base := c.u64 (netK p 0x118)
      let t := c.nowNs + 2000
      let at' := if t ≤ base then base else base + ceilDiv (t - base) (c.fld (netK p 0x120) 0 30) * c.fld (netK p 0x120) 0 30
      (c.setGcl p { c.gcl p with swapAt := at', swapLen := getBits d 0 11, swapBase := base,
                                 swapCycle := c.fld (netK p 0x120) 0 30 }).setBit (netK p 0x104) 28 true

/-- GCL_SWAP_EFFECT (R383): the admin bank becomes operational at its base instant. Log 56, DEDUCED. -/
def Chip.gclSwap (c : Chip) (p : Nat) : Chip :=
  if p < 4 && c.bit (netK p 0x104) 28 && (c.gcl p).swapAt ≤ c.nowNs then
    let c := (c.setBit (netK p 0x104) 28 false).setBit (netK p 0x104) 29 (!c.bit (netK p 0x104) 29)
    let g := c.gcl p
    let c := (c.setNat (netK p 0x124) g.swapCycle).setU64 (netK p 0x128) g.swapBase
    let c := c.setGcl p { len := g.swapLen }
    (c.cause NET p 1).drainPort p
  else c

/-- A write by master `m` of a gate-list entry: the operational bank is locked (R383). -/
def Chip.gclEntryWrite (c : Chip) (m o : Nat) (d : Word) : Chip :=
  let p := o / 0x2000
  if natBit (o / 0x1000) 0 == c.bit (netK p 0x104) 29 then c.logErr ecLocked m (twAddr NET o)
  else c.setWord (twAddr NET o) d

/-! ### Reception (R384 to R386) -/

/-- A section as it was received. -/
structure RxSec where
  ok : Bool
  held : Bool := false
  deltas : Bool := false
  stamp : Stamp := 0
  values : List Byte := []
  ds : List Nat := []
  body : List Byte := []
  check : Nat := 0
  /-- bytes it takes in the frame -/
  size : Nat := 0
  deriving DecidableEq, Repr

/-- The stamp in a section (R372). -/
def rxStamp (b : List Byte) : Stamp :=
  mkStamp (beNat (b.take 8)) (beNat ((b.drop 8).take 2)) (beNat ((b.drop 10).take 1)) (beNat ((b.drop 11).take 1))

/-- R372: a section of type `ty` with `len` expected bytes and `n` map entries at the head of `b`. -/
def parseSec (ty len n : Nat) (b : List Byte) : RxSec :=
  let flags := beNat ((b.drop 1).take 1)
  let dl := if natBit flags 1 then 2 * n else 0
  let core := 16 + len + dl
  let size := core + (if ty = 1 then 4 else 0)
  { ok := beNat (b.take 1) = ty && beNat ((b.drop 2).take 2) = len && decide (flags < 4) && decide (size ≤ b.length),
    held := natBit flags 0, deltas := natBit flags 1, stamp := rxStamp (b.drop 4), values := (b.drop 16).take len,
    ds := (List.range (dl / 2)).map fun i => beNat ((b.drop (16 + len + 2 * i)).take 2),
    body := b.take core, check := beNat ((b.drop core).take 4), size := size }

/-- The part of a frame after its EtherType, and where it stands: the tag is taken off. -/
def afterType (b : List Byte) : Nat × List Byte :=
  if beNat ((b.drop 12).take 2) = 0x8100 then (beNat ((b.drop 16).take 2), b.drop 18)
  else (beNat ((b.drop 12).take 2), b.drop 14)

/-- R384, step 2: the descriptor that takes a frame. -/
def Chip.rxMatch (c : Chip) (port dir peer sa : Nat) : Option Nat :=
  (List.range 4096).find? fun d =>
    c.nvalid d && c.bit (ndK d 0) (24 + port) && b2n (c.bit (ndK d 0) 30) != dir && c.fld (ndK d 1) 16 16 = peer &&
    (c.u64 (ndK d 4) % 2 ^ 48 = sa || (c.u64 (ndK d 6) % 2 ^ 48 != 0 && c.u64 (ndK d 6) % 2 ^ 48 = sa))

/-- R385: what the duplicate window says of a CYCLE. -/
inductive Window where
  | fresh (high window : Nat)
  | reorder (window : Nat)
  | dup
  | old
  deriving DecidableEq, Repr

/-- R385: the duplicate window of descriptor `d`. -/
def Chip.dupWindow (c : Chip) (d cycle : Nat) : Window :=
  let h := c.nat (nsK d 1)
  let w := c.nat (nsK d 2) + 2 ^ 32 * c.nat (nsK d 3)
  let x := signed 32 ((cycle + 2 ^ 32 - h) % 2 ^ 32)
  if c.nstate d = 1 || c.nstate d = 3 then .fresh cycle 1
  else if x > 0 then .fresh cycle ((w <<< (min 64 x.toNat)) % 2 ^ 64 ||| 1)
  else if x ≥ -63 then (if natBit w x.natAbs then .dup else .reorder (w ||| 2 ^ x.natAbs))
  else .old

/-- The stamp of value `i` of a section (R372). -/
def secStamp (x : RxSec) (i : Nat) : Stamp :=
  if x.deltas then mkStamp (x.stamp.ns + x.ds.getD i 0) x.stamp.frac x.stamp.epoch x.stamp.flags else x.stamp

/-- R375: the received value of a map entry. -/
def rxValue (e : MapEnt) (x : RxSec) : Nat :=
  let v := beNat ((x.values.drop e.off).take e.width)
  if e.flag && e.width < 4 then unsigned 32 (signed (8 * e.width) v) else v

/-- R370, R384 step 8, R385: the values of a section are written, or, of a reordered frame, those of the data section are recorded
alone. -/
def Chip.rxSection (c : Chip) (d : Nat) (data : Bool) (x : RxSec) (late write : Bool) : Chip :=
  let ms := ((c.rxMap d).filter fun e => e.data == data).zipIdx
  c.each ms fun c ei =>
    let e := ei.1
    let s := secStamp x ei.2
    let v := rxValue e x
    let sat := x.deltas && x.ds.getD ei.2 0 = 0xFFFF
    let info := d + b2n late * 2 ^ 12 + b2n data * 2 ^ 13 + b2n sat * 2 ^ 14
    let c :=
      if !write || e.ent = 0x1FFF then c
      else
        let c := c.newResult (rxEnt e.ent) (BitVec.ofNat 32 v) info s
        if e.width = 8 then c.newResult (rxEnt (e.ent + 1)) (BitVec.ofNat 32 (v / 2 ^ 32)) info s else c
    if e.sig = 0 || !(write || data) then c else c.sample e.sig (if e.width = 8 then signed 64 v else signed 32 v) s

/-- R384: a section that is neither held nor too old is taken; the mark says so. -/
def Chip.rxTake (c : Chip) (d : Nat) (data : Bool) (x : RxSec) (ingress : Stamp) (late write : Bool) : Chip × Bool :=
  let age : Int := (ingress.ns : Int) - x.stamp.ns
  let lim := c.fld (ndK d 15) 0 24
  let c := if data then c else c.setNat (nsK d 15) (min (2 ^ 32 - 1) age.toNat)
  if x.held then (c.ncount d 8 true, false)
  else if lim != 0 && (age < -1000 || age > lim) then
    (((c.ncount d 7 false).count (netA 0x038)).cause NET 127 3, false)
  else (c.rxSection d data x late write, write)

/-- A descriptor comes back from WAITING or LOST (R386). -/
def Chip.rxAccepted (c : Chip) (d : Nat) : Chip :=
  let st := c.nstate d
  let c := (c.setFld (nsK d 0) 0 8 0).setFld (nsK d 0) 28 4 2
  if st = 3 then
    let c := (c.setBit (netA (0x400 + 4 * (d / 32))) (d % 32) false).setFld (netA 0x110) 0 13 (c.fld (netA 0x110) 0 13 - 1)
    c.cause NET 127 1
  else c

/-- R384, steps 4 to 8, for a frame that has passed steps 1 to 3. Log 56, DEDUCED. -/
def Chip.rxSteps (c : Chip) (d cycle : Nat) (f : CycFrame) (check : Bool) (xc xd : Option RxSec) (twin : Option Nat) : Chip :=
  match c.dupWindow d cycle with
  | .dup => c.ncount d 5 true
  | .old => c.ncount d 5 false
  | w =>
    if !check then (((c.ncount d 7 true).count (netA 0x034)).cause NET 127 2)
    else
      let write := match w with
        | .fresh _ _ => true
        | _ => false
      let c := match w with
        | .fresh h v => ((c.setNat (nsK d 1) h).setNat (nsK d 2) v).setNat (nsK d 3) (v / 2 ^ 32)
        | .reorder v => ((c.setNat (nsK d 2) v).setNat (nsK d 3) (v / 2 ^ 32)).ncount d 8 false
        | _ => c
      let c := (c.rxAccepted d).setNat (nsK d 4) (c.nat (nsK d 4) + 1)
      let c := ((c.setNat (nsK d 12) f.stamp.toNat).setNat (nsK d 13) (f.stamp.toNat / 2 ^ 32)).setNat (nsK d 14)
        (f.stamp.toNat / 2 ^ 64)
      let c := match twin with
        | some r => c.ncount d 11 (r = 0)
        | none => c
      let x := c.ndesc d
      let late := x.missed
      let c := c.setNdesc d { x with got := true }
      let c := c.when (late && write) (·.ncount d 6 false)
      let (c, a) := match xc with
        | some s => c.rxTake d false s f.stamp late write
        | none => (c, false)
      let (c, b) := match xd with
        | some s => c.rxTake d true s f.stamp late write
        | none => (c, false)
      let k := ndK d 14
      if a || b then c.postIf (c.bit k 31) (c.fld k 0 17) f.stamp else c

/-- R384: NET_RX_DISCARD_CNT. -/
def Chip.rxDiscard (c : Chip) : Chip := c.count (netA 0x03C)

/-- Does the frame that came first carry a control section, which is control traffic (R373, R384)? -/
def Chip.rxControl (c : Chip) : Bool :=
  match c.net.rxq with
  | [] => false
  | f :: _ => natBit (beNat (((afterType f.bytes).2.drop 1).take 1)) 0

/-- CYCLIC_FRAME_RX (R384): the frame that came first; `poison` says that a block of it arrived poisoned (R24). -/
def Chip.cycRx (c : Chip) (poison : Bool) : Chip :=
  match c.net.rxq with
  | [] => c
  | f :: r =>
    let c := { c with net := { c.net with rxq := r } }
    let (_, b) := afterType f.bytes
    let vf := beNat (b.take 1)
    let sect := beNat ((b.drop 1).take 1)
    let peer := beNat ((b.drop 2).take 2)
    let cycle := beNat ((b.drop 4).take 4)
    let sa := beNat ((f.bytes.drop 6).take 6)
    if !c.cycRuns then c
    else if vf / 16 != 1 || vf % 4 != 0 || sect / 4 != 0 || b.length < 8 then c.rxDiscard
    else match c.rxMatch f.port (vf / 8 % 2) peer sa with
    | none => c.rxDiscard
    | some d =>
      let lc := c.fld (ndK d 11) 16 10
      let ld := c.fld (ndK d 11) 0 10
      let n (q : Bool) := ((c.rxMap d).filter fun e => e.data == q).length
      let xc := if lc = 0 then none else some (parseSec 1 lc (n false) (b.drop 8))
      let sc := (xc.map (·.size)).getD 0
      let xd := if ld = 0 then none else some (parseSec 2 ld (n true) (b.drop (8 + sc)))
      let sd := (xd.map (·.size)).getD 0
      let tw := b.drop (8 + sc + sd)
      let tt := natBit vf 2
      let good := sect = b2n (lc != 0) + 2 * b2n (ld != 0) && (xc.map (·.ok)).getD true && (xd.map (·.ok)).getD true &&
        (!tt || (decide (8 ≤ tw.length) && beNat ((tw.drop 4).take 4) = cycle))
      if !good then c.ncount d 9 true
      else
        let check := !poison && (xc.map fun x => checkOf peer vf cycle x.body == x.check).getD true
        c.rxSteps d cycle f check xc xd (if tt then some (beNat ((tw.drop 2).take 1) / 128) else none)

/-- The deadline of descriptor `d` in its present partner cycle, in ns (R376, R386). -/
def Chip.deadlineAt (c : Chip) (d : Nat) : Nat :=
  let dl := c.fld (ndK d 9) 0 29
  (c.ndesc d).start + (if dl = 0 then c.partnerLen d else dl)

/-- The frames whose last bit reached a ball at or before `t` ns: they count as before the deadline, whatever the engine has done with them
by then (R386, R387). Log 56, DEDUCED. -/
def Chip.rxUntil (c : Chip) (t : Nat) : Chip :=
  c.each (c.net.rxq.takeWhile fun f => decide (f.stamp.fine ≤ t * 65536)) fun c _ => c.cycRx false

/-- RX_DEADLINE (R386) of descriptor `d`. -/
def Chip.rxDeadline (c : Chip) (d : Nat) : Chip :=
  let due := d < 4096 && c.nvalid d && c.cycRuns && (c.ndesc d).begun && c.deadlineAt d ≤ c.nowNs
  let c := if due then c.rxUntil (c.deadlineAt d) else c
  let x := c.ndesc d
  if !due || x.missed || x.got || c.nstate d < 2 then c
  else
    let c := c.setNdesc d { x with missed := true }
    let c := ((c.countFld (nsK d 0) 0 8).ncount d 6 true).count (netA 0x044)
    if c.fld (nsK d 0) 0 8 ≥ c.fld (ndK d 15) 24 8 && c.nstate d = 2 then
      let c := (c.setFld (nsK d 0) 28 4 3).setBit (netA (0x400 + 4 * (d / 32))) (d % 32) true
      let c := (c.setFld (netA 0x110) 0 13 (c.fld (netA 0x110) 0 13 + 1)).cause NET 127 0
      c.postIf (c.bit (netA 0x114) 31) (c.fld (netA 0x114) 0 17) c.now
    else c

/-- R379: the start of the partner cycle of descriptor `d` at instant `g` ns with base number `b`. The deadline of the cycle that ends has
passed (R386), and a frame of it that has not started on the wire is dropped (R380). Log 56, DEDUCED. -/
def Chip.partnerStart (c : Chip) (d b g : Nat) : Chip :=
  let c := (c.rxDeadline d).txDrop d
  let x := c.ndesc d
  match x.dying with
  | some data => c.nreplace d (fun k => data.getD k 0)
  | none =>
    c.setNdesc d { x with cycle := b / 2 ^ c.fld (ndK d 0) 21 3 % 2 ^ 32, start := g, begun := true, sent := false,
                          got := false, missed := false }

/-- R379: an occurrence of trigger `n` at `g` ns is a base cycle start. Log 56, DEDUCED. -/
def Chip.netTrigger (c : Chip) (n g : Nat) : Chip :=
  if !c.cycRuns || c.fld (netA 0x100) 0 8 != n then c
  else
    let p := c.nat (trgK n 1)
    let b := if p = 0 then 0 else (g - c.u64 (trgK n 4)) / p
    c.each ((List.range 4096).filter fun d =>
        c.nvalid d && b % 2 ^ c.fld (ndK d 0) 21 3 = c.fld (ndK d 0) 14 7) fun c d => c.partnerStart d b g

/-! ### Frames of all kinds (R364, R365, R388) -/

/-- The receive ring and the transmit rings of a port: their registers (R389). -/
def ringK (p : Nat) (q : Option Nat) (o : Nat) : Nat :=
  match q with
  | some q => netK p (0x200 + 16 * q + o)
  | none => netK p (0x280 + o)

/-- HEAD of a ring goes on by one (R388). -/
def Chip.ringAdvance (c : Chip) (p : Nat) (q : Option Nat) : Chip :=
  let k := ringK p q 0xC
  c.setFld k 16 16 ((c.fld k 16 16 + 1) % max 1 (c.fld (ringK p q 8) 0 13))

/-- The descriptor that a ring is to use next: the one at HEAD, unless the ring has none (R388). -/
def Chip.ringHead (c : Chip) (p : Nat) (q : Option Nat) : Option Nat :=
  let k := ringK p q
  let head := c.fld (k 0xC) 16 16
  if c.fld (k 8) 0 13 < 16 || head = c.fld (k 0xC) 0 16 then none else some (c.u64 (k 0) + 16 * head)

/-- The buffer address of the descriptor at `a` (R388). -/
def ringBuf (rd : Nat → Byte) (a : Nat) : Nat := bytesNat ((List.range 8).map fun i => rd (a + i))
/-- LEN of the descriptor at `a` (R388). -/
def ringLen (rd : Nat → Byte) (a : Nat) : Nat := bytesNat ((List.range 2).map fun i => rd (a + 8 + i))

/-- A frame for the receive ring finds no descriptor (R388). -/
def Chip.hostRxDrop (c : Chip) (p : Nat) : Chip := (c.count (netK p 0x044)).cause NET p 6

/-- HOST_FRAME_RX (R388): a frame goes to the buffer `buf` of the descriptor at `a`. -/
def Chip.hostRx (c : Chip) (p a buf : Nat) (bytes : List Byte) : Chip :=
  let w2 := 2 ^ 31 + 2 ^ 29 + bytes.length % 65536
  let c := c.toDram [(buf, bytes), (a + 8, natBytes 4 w2 ++ natBytes 4 c.nowNs)]
  (c.ringAdvance p none).cause NET p 5

/-- A PTP message that the engine consumes: Sync, Follow_Up and the three Pdelay messages (R388). -/
def ptpConsumed (ty : Nat) (b : List Byte) : Bool := ty = 0x88F7 && [0, 2, 3, 8, 0xA].contains (beNat (b.take 1) % 16)

/-- ETH_FRAME_RX (R348, R364, R365, R384, R388): a frame without its FCS arrives at port `p`. Messages that the PTP engine consumes
are its own commands; other tagged PTP frames are discarded. The answer says whether the frame is for the host ring. -/
def Chip.ethRx (c : Chip) (p : Nat) (bytes : List Byte) (fcsOk : Bool) : Bool × Chip :=
  let da := beNat (bytes.take 6)
  let (ty, b) := afterType bytes
  if !(p < 4 && pageExists c.part NET p && c.bit (netK p 0x100) 31 && c.modState ≤ 2) then (false, c)
  else if bytes.length + 4 > 1536 then (false, c.count (netK p 0x038))
  else if !fcsOk then (false, c.count (netK p 0x034))
  else if da != c.mac p && !natBit (da / 2 ^ 40) 0 then (false, c)
  else if ty = 0x8808 && beNat (b.take 2) = 1 then (false, c.count (netK p 0x03C))
  else if ty = c.nat (netA 0x104) then
    if c.bit (netK p 0x100) 24 && c.cycRuns then
      (false, { c with net := { c.net with rxq := c.net.rxq ++ [{ port := p, bytes := bytes, stamp := c.now }] } })
    else (false, c)
  else if ptpConsumed ty b then (false, c)
  else if ty = 0x88F7 && beNat ((bytes.drop 12).take 2) = 0x8100 then (false, c.ptpDiscard p)
  else (true, c)

/-- A write of the index register of a ring: TAIL moves, HEAD stands (R388, R389). -/
def Chip.ringTail (c : Chip) (p : Nat) (q : Option Nat) (d : Word) : Chip :=
  c.setFld (ringK p q 0xC) 0 16 (getBits d 0 16)

/-- The frame of the descriptor at `a`, the one at HEAD of transmit ring `q`, ends: it is sent, and its descriptor gets DONE, and ERR when it
was dropped (R382, R388). -/
def Chip.hostTx (c : Chip) (rd : Nat → Byte) (p q a : Nat) (sent : Bool) : Chip :=
  let len := ringLen rd a
  let c := if sent then c.out (.frame p ((List.range len).map fun i => rd (ringBuf rd a + i))) else c
  let c := c.toDram [(a + 8, natBytes 4 (2 ^ 31 + b2n (!sent) * 2 ^ 30 + len) ++ natBytes 4 0)]
  (c.ringAdvance p (some q)).cause NET p 4

/-- A descriptor of transmit ring `q` that is read poisoned: HEAD passes it, and no frame is sent. Log 75, DESIGN CHOICE. -/
def Chip.hostTxLost (c : Chip) (p q : Nat) : Chip := (c.ringAdvance p (some q)).cause NET p 4

/-- GATE_DROP is counted and raised (R382). -/
def Chip.gateDropped (c : Chip) (p : Nat) : Chip := (c.count (netK p 0x040)).cause NET p 3

/-- The cyclic or PTP frame that waits in queue `q` of port `p`, which GATE_DROP takes before one of the host ring (R382). -/
def Chip.gateHead (c : Chip) (p q : Nat) : Option EgFrame := c.net.egress.find? fun f => f.port = p && f.queue = q

/-! ### Control writes (R389 to R391) -/

/-- A write by master `m` of NET_PORT_CFG (R389). Log 56, DEDUCED. -/
def Chip.netPortWrite (c : Chip) (m p : Nat) (d : Word) : Chip :=
  let k := netK p 0x100
  let w := d &&& 0xFFE0_0000#32
  if c.bit k 31 then
    let c := if (w &&& 0x7FFF_FFFF#32) != (c.word k &&& 0x7FFF_FFFF#32) then c.logErr ecLocked m k else c
    c.setBit k 31 (w.getLsbD 31)
  else c.setWord k (if getBits w 28 3 ≥ 6 then w &&& 0x7FFF_FFFF#32 else w)

/-- A keyed write by master `m` of NET_CYC_CFG (R379, R390). Log 56, DEDUCED. -/
def Chip.cycCfgWrite (c : Chip) (m : Nat) (d : Word) : Chip :=
  let k := netA 0x100
  -- R535: EN is held at 0 in MAINTENANCE
  let w := d &&& (if c.maintenance then 0x0007_00FF#32 else 0x8007_00FF#32)
  if c.bit k 31 then
    let c := if (w &&& 0x7FFF_FFFF#32) != (c.word k &&& 0x7FFF_FFFF#32) then c.logErr ecLocked m k else c
    if w.getLsbD 31 then c
    else
      -- no partner cycle runs until the exchange is enabled again
      let c := c.each (c.net.desc.map fun e => e.1) fun c d => c.setNdesc d { c.ndesc d with begun := false }
      (c.setBit k 31 false).setBit (netA 0x110) 31 false
  else
    let n := getBits w 0 8
    let bad := !c.bit (trgK n 0) 31 || c.nat (trgK n 1) != 31250 * 2 ^ getBits w 16 3 || c.fld (trgK n 2) 0 16 != 0
    if w.getLsbD 31 && bad then (c.setWord k (w &&& 0x7FFF_FFFF#32)).setBit (netA 0x110) 30 true
    else
      let c := (c.setWord k w).setBit (netA 0x110) 31 (w.getLsbD 31 && c.running)
      if w.getLsbD 31 then c.setBit (netA 0x110) 30 false else c

/-- A keyed write by master `m` of NET_ETHERTYPE (R390). -/
def Chip.etherTypeWrite (c : Chip) (m : Nat) (d : Word) : Chip :=
  if (List.range 4).any fun p => c.bit (netK p 0x100) 24 then c.logErr ecLocked m (netA 0x104)
  else c.setNat (netA 0x104) (getBits d 0 16)

/-- NET_LINK_CHANGE (R389). -/
def Chip.netLink (c : Chip) (p : Nat) (up an : Bool) : Chip :=
  if p < 4 && pageExists c.part NET p then
    let c := ((c.setBit (netK p 0x104) 31 up).setBit (netK p 0x104) 30 an).level NET p 0 up
    if up then c.drainPort p else c
  else c

/-- A write by master `m` of NET_MDIO_CTL (R391). -/
def Chip.mdioWrite (c : Chip) (m : Nat) (d : Word) : Chip :=
  let k := netA 0x120
  if c.bit k 31 then
    (if d.getLsbD 31 then c.logErr ecWinBusy m k else c.setWord k ((c.word k &&& 0x8800_0000#32) ||| (d &&& 0x701F_1F00#32)))
  else
    let c := c.setWord k ((c.word k &&& 0x0800_0000#32) ||| (d &&& 0xF01F_1F00#32))
    if d.getLsbD 31 then { c with net := { c.net with mdio := d } }.out (.mdio d (c.fld (netA 0x124) 0 16)) else c

/-- MDIO_DONE (R391): the data read, and whether no PHY answered. -/
def Chip.mdioDone (c : Chip) (data : Nat) (noPhy : Bool) : Chip :=
  let k := netA 0x120
  if !c.bit k 31 then c
  else
    let op := getBits c.net.mdio 28 2
    let read := if c.net.mdio.getLsbD 30 then 2 ≤ op else op = 2
    let c := if read then (c.setFld (netA 0x124) 0 16 data).setBit k 27 noPhy else c
    (c.setBit k 31 false).cause NET 127 6

/-- A write of NET_MDIO_CFG (R390). -/
def Chip.mdioCfgWrite (c : Chip) (d : Word) : Chip := c.setNat (netA 0x128) (max 19 (getBits d 0 8))

/-- R392: below TRICKLE no cyclic frame is sent or accepted. -/
def Chip.netStop (c : Chip) : Chip := { c with net := { c.net with egress := [], rxq := [] } }.setBit (netA 0x110) 31 false

/-- R392: on return to TRICKLE every valid descriptor enters WAITING. Log 56, DEDUCED. -/
def Chip.netReturn (c : Chip) : Chip :=
  let c := c.setBit (netA 0x110) 31 (c.bit (netA 0x100) 31)
  c.each ((List.range 4096).filter c.nvalid) fun c d =>
    let c := if c.nstate d = 3 then
        (c.setBit (netA (0x400 + 4 * (d / 32))) (d % 32) false).setFld (netA 0x110) 0 13 (c.fld (netA 0x110) 0 13 - 1)
      else c
    (c.setNdesc d { dying := (c.ndesc d).dying }).setFld (nsK d 0) 28 4 1

end Sys2Proof.Machine
end

