-- ==== Sys2Proof/Machine/MessageBus.lean ====
section
/-! DEFINITION. The Message Bus Controllers (13_message_bus): message objects, reception, requests, transmission, error
states, sleep and wake. -/

namespace Sys2Proof.Machine

/-- A register of controller page `n` (R395). -/
def canK (n o : Nat) : Nat := pageAddr BUS n o
/-- A register of object `o` of controller `n` (R395, R399). -/
def objK (n o r : Nat) : Nat := twAddr BUS (n * 0x4000 + o * 0x80 + r)
/-- The result word of an object (R400). -/
def canResK (n o : Nat) : Nat := canK n (0x800 + 8 * o)
/-- What controller `n` holds outside its page. -/
def Chip.canCtl (c : Chip) (n : Nat) : CanCtl := tab {} c.can.ctls n
/-- What controller `n` holds outside its page changes. -/
def Chip.setCanCtl (c : Chip) (n : Nat) (x : CanCtl) : Chip :=
  { c with can := { c.can with ctls := tabPut {} c.can.ctls n x } }
/-- What object `o` of controller `n` holds outside its registers. -/
def Chip.canObj (c : Chip) (n o : Nat) : CanObj := tab {} c.can.objs (n * 128 + o)
/-- BUS_STAT.STATE (R410). -/
def Chip.canState (c : Chip) (n : Nat) : Nat := c.fld (canK n 0x108) 29 3
/-- TEC (R407, R410). -/
def Chip.tec (c : Chip) (n : Nat) : Nat := c.fld (canK n 0x10C) 16 9
/-- REC (R407, R410). -/
def Chip.rec' (c : Chip) (n : Nat) : Nat := c.fld (canK n 0x10C) 0 8

/-- PENDING and ON_WIRE of an object show its requests (R399, R404). -/
def Chip.setCanObj (c : Chip) (n o : Nat) (x : CanObj) : Chip :=
  let wire := (c.canCtl n).wire == some o
  let c := { c with can := { c.can with objs := tabPut {} c.can.objs (n * 128 + o) x } }
  (c.setBit (objK n o 0xC) 30 (if wire then x.next.isSome else x.cur.isSome)).setBit (objK n o 0xC) 29 wire

/-- The wire of controller `n` is taken by an object, or free. -/
def Chip.setWire (c : Chip) (n : Nat) (w : Option Nat) (sof : Stamp) (esi : Bool) : Chip :=
  c.setCanCtl n { c.canCtl n with wire := w, sof := sof, esi := esi, turn := (c.canCtl n).turn && w.isSome }

/-- Does this module drive CAN_TX[n] and CAN_STB[n]: by pin ownership, or until the bus is idle after a planned hand-over (R409, R509)? -/
def Chip.canOwns (c : Chip) (n : Nat) : Bool := c.drives || (c.canCtl n).turn

/-- CAN_STB[n] at its ball, none in high impedance (R394, R408, R409): high while the controller sleeps. -/
def Chip.canStb (c : Chip) (n : Nat) : Option Bool :=
  if !c.canOwns n || 7 ≤ c.modState then none else some (c.canState n = 5 || 4 ≤ c.modState)

/-- A cause of an object, where its INT_EN lets it through; it also shows in BUS_OBJ_PEND (R399, R410). -/
def Chip.objCause (c : Chip) (n o i : Nat) : Chip :=
  if c.bit (objK n o 0) 24 then (c.setBit (canK n (0x130 + 4 * (o / 32))) (o % 32) true).cause BUS n i else c

/-- A new STATE; a change raises STATE_CHANGE, and entering bus-off is counted and raised (R407, R410). -/
def Chip.setCanState (c : Chip) (n v : Nat) : Chip :=
  if c.canState n = v then c
  else
    let c := (c.setFld (canK n 0x108) 29 3 v).cause BUS n 4
    if v = 4 then (c.count (canK n 0x048)).cause BUS n 5 else c

/-- ACTIVE, PASSIVE or BUS_OFF by the counters (R407; ISO 11898-1). Log 58, PRESUMED. -/
def canByCounters (t r : Nat) : Nat := if t ≥ 256 then 4 else if t ≥ 128 || r ≥ 128 then 3 else 2

/-- TEC and REC take new values, and the error state follows (R407, R410). Log 58, PRESUMED. -/
def Chip.setCanCounters (c : Chip) (n t r : Nat) : Chip :=
  let r := min 255 r
  let c := c.setNat (canK n 0x10C) (min 511 t * 2 ^ 16 + b2n (r ≥ 128) * 2 ^ 15 + r)
  if 2 ≤ c.canState n && c.canState n ≤ 3 then c.setCanState n (canByCounters t r) else c

/-- The controller only listens: LISTEN, a module that does not drive its pins, or MAINTENANCE (R407, R409, R535). -/
def Chip.canListens (c : Chip) (n : Nat) : Bool := c.bit (canK n 0x100) 28 || !c.canOwns n || c.maintenance

/-- The controller takes part in the bus (R407). -/
def Chip.canOnBus (c : Chip) (n : Nat) : Bool := n < 4 && 2 ≤ c.canState n && c.canState n ≤ 3

/-! ### Enable (R397) -/

/-- CFG_CODE of a refused enable, 0 for none (R397). -/
def Chip.canCode (c : Chip) (n : Nat) : Nat :=
  let b := canK n 0x110
  let d := canK n 0x114
  let nq := 3 + c.fld b 15 8 + c.fld b 8 7
  let dq := 3 + c.fld d 16 5 + c.fld d 8 4
  if (c.fld b 23 9 + 1) * nq < 80 || nq < 8 then 1
  else if c.bit (canK n 0x100) 31 && ((c.fld d 24 5 + 1) * dq < 10 || dq < 5) then 2
  else if c.fld b 0 7 > c.fld b 8 7 || c.fld d 0 4 > c.fld d 8 4 then 3
  else 0

/-- PG_CTL.ENABLE of a controller (R397): a refused enable leaves it 0 and sets CFG_CODE; an enabled one integrates. -/
def Chip.canEnable (c : Chip) (n : Nat) (on : Bool) : Chip :=
  let k := canK n PG_CTL
  if !on then
    let c := c.setBit k 0 false
    let w := (c.canCtl n).wire
    let c := c.setCanCtl n {}
    let c := match w with
      | some o => c.setCanObj n o (c.canObj n o)
      | none => c
    c.setCanState n 0
  else if c.bit k 0 then c
  else
    let r := c.canCode n
    let c := c.setFld (canK n 0x108) 20 4 r
    if r != 0 then c.setBit k 0 false
    else ((c.setBit k 0 true).setCanCounters n 0 0).setCanState n 1

/-- The page registers that are writable only while ENABLE = 0 (R397). -/
def canFixed (o : Nat) : Bool := [0x100, 0x110, 0x114, 0x118].contains o

/-- CAN_BUS_INTEGRATED (R396, R408): 11 recessive bits have been seen. -/
def Chip.canIntegrated (c : Chip) (n : Nat) : Chip :=
  if n < 4 && c.canState n = 1 then c.setCanState n (canByCounters (c.tec n) (c.rec' n)) else c

/-! ### Requests (R401, R404) -/

/-- The outcome of a request: the result word, TXSTAT, the causes and the successor list (R405). -/
def Chip.canOutcome (c : Chip) (n o : Nat) (q : CanReq) (ok : Bool) (lec : Nat) (stamp : Stamp) : Chip :=
  let data := (q.data.headD 0)
  let info := getBits q.cfg 4 4 + b2n (q.cfg.getLsbD 28) * 2 ^ 4 + b2n (q.cfg.getLsbD 27) * 2 ^ 5 +
    b2n (q.cfg.getLsbD 28 && (c.canCtl n).esi) * 2 ^ 6 + b2n (!ok) * 2 ^ 7 + b2n (q.cfg.getLsbD 29) * 2 ^ 8
  let c := if ok then (c.setStamp (objK n o 0x10) stamp).countFld (objK n o 0x6C) 0 16 else c
  let c := c.newResult (canResK n o) data info (c.stampOf (objK n o 0x10))
  let c := c.setBit (objK n o 0x68) 27 (!ok)
  let c := if ok then c.objCause n o 1
    else ((c.setFld (objK n o 0x68) 28 4 lec).count (canK n 0x040)).objCause n o 2
  let sig := c.fld (objK n o 0x64) 0 25
  let c := if ok && sig != 0 then c.sample sig (signed 32 data.toNat) (c.stampOf (objK n o 0x10)) else c
  c.postIf (c.bit (objK n o 0x60) 31) (c.fld (objK n o 0x60) 0 17) c.now

/-- The lead of a pair forwards the outcome of a request (R409, R500). Log 59, DEDUCED. -/
def Chip.canTell (c : Chip) (n o : Nat) (ok : Bool) (lec : Nat) (sof : Stamp) (turn : Bool) : Chip :=
  if c.role = 3 || turn then c.out (.pair (.canOutcome n o ok lec sof)) else c

/-- A send request of an enabled send object is accepted: the snapshot replaces a request that has not started, or is held
as the next one (R404); a snapshot whose stored check fails ends at once (R401). Log 59, DEDUCED. -/
def Chip.canRequest (c : Chip) (n o : Nat) (bad : Bool) : Chip :=
  let k := objK n o
  if !(n < 4 && o < 128 && c.bit (k 0) 31 && c.bit (k 0) 30) then c
  else
    let q : CanReq := { cfg := c.word (k 0), id := c.word (k 4), data := (List.range 16).map fun i => c.word (k (0x20 + 4 * i)) }
    let x := c.canObj n o
    let wire := (c.canCtl n).wire == some o
    let c := c.setBit (k 0x68) 26 (if wire || x.next.isSome then x.next.isSome else x.cur.isSome)
    if bad then
      (if wire || x.next.isSome then c.setCanObj n o { x with next := none }
        else (c.setCanObj n o { x with cur := none }).setFld (k 0x68) 0 16 0).canOutcome n o q false 7 0
    else if wire || x.next.isSome then c.setCanObj n o { x with next := some q }
    else ((c.setCanObj n o { x with cur := some q, aborted := false, tries := 0 }).setFld (k 0x68) 0 16 0).setFld (k 0x68) 28 4 0

/-- BUS_OBJ_REQ.ABORT (R404): a request that has not started is cancelled; a frame on the wire completes. Log 59, DEDUCED. -/
def Chip.canAbort (c : Chip) (n o : Nat) : Chip :=
  let x := c.canObj n o
  if (c.canCtl n).wire == some o then c.setCanObj n o { x with next := none, aborted := true }
  else c.setCanObj n o { x with cur := none, next := none }

/-- A write of BUS_OBJ_REQ (R404). -/
def Chip.canReqWrite (c : Chip) (n o : Nat) (d : Word) (bad : Bool) : Chip :=
  let c := if d.getLsbD 1 then c.canAbort n o else c
  if d.getLsbD 0 then c.canRequest n o bad else c

/-- A write of the payload from word `j` on (R399, R404): the payload of a receive object is read only; with TX_TRIG = 1
a write of DATA_0 also makes the request, after all its words are stored. -/
def Chip.canDataWrite (c : Chip) (n o j : Nat) (data : List Word) (bad : Bool) : Chip :=
  let k := objK n o
  if !c.bit (k 0) 30 then c
  else
    let c := c.each (data.zipIdx) fun c e => if j + e.2 < 16 then c.setWord (k (0x20 + 4 * (j + e.2))) e.1 else c
    if j = 0 && c.fld (k 0) 25 2 = 1 then c.canRequest n o bad else c

/-- A write by master `m` of BUS_OBJ_CFG (R399): while EN = 1 only EN changes; an impossible EN = 1 is discarded.
Log 59, DEDUCED. -/
def Chip.canCfgWrite (c : Chip) (m n o : Nat) (d : Word) : Chip :=
  let k := objK n o
  let old := c.word (k 0)
  let w := if old.getLsbD 31 then putBits old 31 1 (b2n (d.getLsbD 31)) else d &&& 0xFFFF_FFF0#32
  let bad := w.getLsbD 31 && !old.getLsbD 31 &&
    ((w.getLsbD 27 && !w.getLsbD 28) || (w.getLsbD 28 && !c.bit (canK n 0x100) 31) || getBits w 25 2 = 3 ||
      (!w.getLsbD 29 && c.fld (k 4) 11 18 != 0))
  let c := if old.getLsbD 31 && (d &&& 0x7FFF_FFF0#32) != (old &&& 0x7FFF_FFFF#32) then c.logErr ecLocked m (k 0) else c
  if bad then c.logErr ecNoKey m (k 0) else c.setWord (k 0) w

/-- A write by master `m` of BUS_OBJ_ID or BUS_OBJ_MASK: writable while EN = 0 (R399). Log 59, DEDUCED. -/
def Chip.canIdWrite (c : Chip) (m n o r : Nat) (d : Word) : Chip :=
  let k := objK n o r
  let w := d &&& 0x1FFF_FFFF#32
  if c.bit (objK n o 0) 31 then (if w != c.word k then c.logErr ecLocked m k else c) else c.setWord k w

/-- An occurrence of Timebase trigger `t`: the send objects that name it make their requests (R404); whether a snapshot's stored check fails is
free (log 16, DEDUCED). -/
def Chip.canTrigger (c : Chip) (t : Nat) : Chip :=
  let lo := twAddr BUS 0
  let on := c.words.filter fun e => lo ≤ e.1 && e.1 < lo + 0x1_0000 && e.1 % 0x80 = 0 && e.2.getLsbD 31 &&
    e.2.getLsbD 30 && getBits e.2 25 2 = 2 && getBits e.2 8 8 = t &&
    c.pageOn BUS ((e.1 - lo) / 0x4000) && !c.resetting BUS ((e.1 - lo) / 0x4000)
  c.each on fun c e =>
    let (bad, c) := c.freeBool
    c.canRequest ((e.1 - lo) / 0x4000) ((e.1 - lo) % 0x4000 / 0x80) bad

/-! ### Transmission (R405, R406) -/

/-- The rank of an identifier in arbitration, the lower the stronger: the base identifier, then IDE, then the rest. -/
def canRank (cfg id : Word) : Nat :=
  if cfg.getLsbD 29 then getBits id 18 11 * 2 ^ 19 + 2 ^ 18 + getBits id 0 18 else getBits id 0 11 * 2 ^ 19

/-- The objects of controller `n` with a request that waits, ascending. -/
def Chip.canWaiting (c : Chip) (n : Nat) : List (Nat × CanReq) :=
  (List.range 128).filterMap fun o => (c.canObj n o).cur.map fun q => (o, q)

/-- The winner of arbitration among waiting requests; ties are taken in ascending object number (R405). -/
def canWinner (l : List (Nat × CanReq)) : Option (Nat × CanReq) :=
  l.foldl (fun r e => match r with
    | none => some e
    | some b => if canRank e.2.cfg e.2.id < canRank b.2.cfg b.2.id then some e else some b) none

/-- The length of a data length code. -/
def dlcBytes (fdf : Bool) (d : Nat) : Nat :=
  if d ≤ 8 then d else if !fdf then 8 else [12, 16, 20, 24, 32, 48, 64].getD (d - 9) 64

/-- The frame of a snapshot. -/
def CanReq.frame (q : CanReq) (passive : Bool) : CanFrame :=
  let fdf := q.cfg.getLsbD 28
  { id := if q.cfg.getLsbD 29 then q.id.toNat else getBits q.id 0 11, ide := q.cfg.getLsbD 29, fdf := fdf,
    brs := q.cfg.getLsbD 27, esi := fdf && passive, dlc := getBits q.cfg 4 4,
    bytes := (natBytes 64 (wordsNat q.data)).take (dlcBytes fdf (getBits q.cfg 4 4)) }

/-- Entering sleep: the controller stops and CAN_STB goes high (R408). Log 59, DEDUCED. -/
def Chip.canSleepNow (c : Chip) (n : Nat) : Chip :=
  (c.setCanCtl n { c.canCtl n with sleepReq := false }).setCanState n 5

/-- CAN_TX_START (R405, R408): the bus is idle. A controller told to sleep sleeps; otherwise the winner starts. -/
def Chip.canStart (c : Chip) (n : Nat) : Chip :=
  let x := c.canCtl n
  if !(n < 4 && 1 ≤ c.canState n && c.canState n ≤ 4) || x.wire.isSome then c
  else if x.sleepReq then c.canSleepNow n
  else if !c.canOnBus n || c.canListens n then c
  else match canWinner (c.canWaiting n) with
    | none => c
    | some (o, q) =>
      let c := c.setWire n (some o) c.now (c.canState n = 3)
      (c.setCanObj n o (c.canObj n o)).out (.can n (q.frame (c.canState n = 3)))

/-- A valid frame received, or one sent with an acknowledgement, ends ACK_RUN and ALONE (R406). -/
def Chip.ackSeen (c : Chip) (n : Nat) : Chip := (c.setFld (canK n 0x108) 15 5 0).setBit (canK n 0x108) 28 false

/-! ### Errors (R406, R407) -/

/-- CAN_ERROR_DETECTED (R406, R407): an error of kind `lec`, or 8 for a recessive res bit (R396). `exempt` is a case in which
ISO 11898-1 leaves TEC, or REC, unchanged; `eights` is how often that standard then adds 8 more. Log 58, PRESUMED. -/
def Chip.canError (c : Chip) (n lec : Nat) (sending exempt : Bool) (eights : Nat) : Chip :=
  if !c.canOnBus n || lec = 0 || 8 < lec || lec = 7 then c
  else if lec = 8 && c.bit (canK n 0x100) 30 then
    ((c.count (canK n 0x044)).cause BUS n 8).setCanState n 1
  else
    let lec := if lec = 8 then 2 else lec
    let c := c.setFld (canK n 0x108) 24 3 lec
    if c.canListens n then c
    else
      let c := if sending && lec = 3 then
          let r := c.fld (canK n 0x108) 15 5
          let c := c.setFld (canK n 0x108) 15 5 (min 16 (r + 1))
          if r = 15 then (c.setBit (canK n 0x108) 28 true).cause BUS n 6 else c
        else c
      if sending then c.setCanCounters n (c.tec n + b2n (!exempt) * 8 + 8 * eights) (c.rec' n)
      else c.setCanCounters n (c.tec n) (c.rec' n + b2n (!exempt) + 8 * eights)

/-- BUS_OFF_RECOVERY (R407): 128 occurrences of 11 recessive bits have passed since recovery began. Log 58, PRESUMED. -/
def Chip.canRecovered (c : Chip) (n : Nat) : Chip :=
  if n < 4 && c.canState n = 4 && (c.bit (canK n 0x100) 29 || (c.canCtl n).recovering) then
    ((c.setCanCtl n { c.canCtl n with recovering := false }).setCanCounters n 0 0).setCanState n 2
  else c

/-! ### The end of a frame (R398, R405) -/

/-- R398: the delay measured in an FD frame sent with BRS and TDC_EN; a delay above 127 clocks sets TDC_SAT, and the frame
ends with a bit error. TDCV of such a delay is free. Log 59, DEDUCED. -/
def Chip.canDelay (c : Chip) (n : Nat) (q : CanReq) (delay : Nat) : Chip × Bool :=
  if !q.cfg.getLsbD 28 then (c, false)
  else
    let c := c.setBit (canK n 0x108) 27 false
    if !(q.cfg.getLsbD 27 && c.bit (canK n 0x118) 31) then (c, false)
    else if delay ≤ 127 then (c.setFld (canK n 0x118) 0 7 delay, false)
    else
      let (v, c) := c.freeNat
      ((c.setFld (canK n 0x118) 0 7 v).setBit (canK n 0x108) 27 true, true)

/-- CAN_TX_DONE (R405): the frame on the wire ends. A lost arbitration is no attempt; an error is counted in ATTEMPTS and
ends the request after RETRY retransmissions, at once when it was aborted meanwhile. Log 58, PRESUMED. -/
def Chip.canDone (c : Chip) (n : Nat) (how : CanEnd) (delay : Nat) : Chip :=
  let x := c.canCtl n
  match x.wire with
  | none => c
  | some o =>
    let y := c.canObj n o
    match y.cur with
    | none => c.setWire n none x.sof x.esi
    | some q =>
      let c := c.setWire n none x.sof x.esi
      let fin (c : Chip) : Chip := (c.setFld (objK n o 0x68) 0 16 (min 65535 y.tries)).setCanObj n o { cur := y.next }
      if how = .arbitrationLost then
        if y.aborted then fin c else c.setCanObj n o y
      else
        let (c, sat) := c.canDelay n q delay
        -- R398: a frame whose delay saturates ends with a bit error, of one kind or the other
        let (one, c) := if sat && how = .success then c.freeBool else (false, c)
        let c := if sat && how = .success then c.canError n (if one then 4 else 5) true false 0 else c
        if how = .success && !sat then
          (((fin ((c.setCanCounters n (c.tec n - 1) (c.rec' n)).ackSeen n)).canOutcome n o q true 0 x.sof)).canTell n o true 0 x.sof x.turn
        else
          let y := { y with tries := y.tries + 1 }
          let lec := c.fld (canK n 0x108) 24 3
          let c := (c.setFld (objK n o 0x68) 0 16 (min 65535 y.tries)).setFld (objK n o 0x68) 28 4 lec
          let r := getBits q.cfg 16 8
          if y.aborted || r = 0 || (r < 255 && y.tries > r) then
            (((c.setCanObj n o { cur := y.next })).canOutcome n o q false lec 0).canTell n o false lec 0 x.turn
          else c.setCanObj n o y

/-! ### Reception (R402, R403) -/

/-- The first enabled receive object whose filter the frame passes (R402). -/
def Chip.canMatch (c : Chip) (n : Nat) (f : CanFrame) : Option Nat :=
  (List.range 128).find? fun o =>
    let k := objK n o
    c.bit (k 0) 31 && !c.bit (k 0) 30 && c.bit (k 0) 29 == f.ide &&
      ((BitVec.ofNat 32 f.id ^^^ c.word (k 4)) &&& c.word (k 8)) == 0#32

/-- A frame is stored in object `o` (R402, R403); payload bytes beyond the frame's stand. Log 59, DEDUCED. -/
def Chip.canStore (c : Chip) (n o : Nat) (f : CanFrame) (sof : Stamp) : Chip :=
  let k := objK n o
  let lost := c.bit (k 0xC) 31
  let old := natBytes 64 (c.wide (k 0x20) 16)
  let bs := f.bytes.take 64
  let c := c.setWide (k 0x20) 16 (bytesNat (bs ++ old.drop bs.length))
  let c := c.setNat (k 0xC) (2 ^ 31 + f.id % 2 ^ 29)
  let c := c.setStamp (k 0x10) sof
  let info := f.dlc % 16 + b2n f.fdf * 2 ^ 4 + b2n f.brs * 2 ^ 5 + b2n f.esi * 2 ^ 6 + b2n lost * 2 ^ 7 + b2n f.ide * 2 ^ 8
  let data := c.word (k 0x20)
  let c := (c.newResult (canResK n o) data info sof).countFld (k 0x6C) 0 16
  let c := if lost then ((c.countFld (k 0x6C) 16 16).count (canK n 0x03C)).objCause n o 3 else c
  let sig := c.fld (k 0x64) 0 25
  let c := if sig = 0 then c else c.sample sig (signed 32 data.toNat) sof
  (c.postIf (c.bit (k 0x60) 31) (c.fld (k 0x60) 0 17) c.now).objCause n o 0

/-- CAN_FRAME_RX (R396, R402, R403, R406, R407): a frame is valid for the receiver; its start of frame was `age` ns ago.
Log 58, PRESUMED. -/
def Chip.canRx (c : Chip) (n : Nat) (f : CanFrame) (age : Nat) : Chip :=
  if !c.canOnBus n then c
  else
    let r := c.rec' n
    let (v, c) := if r > 127 then c.freeNat else (0, c)
    -- ISO 11898-1: a count above 127 becomes one of 119 to 127
    let c := if c.canListens n then c else c.setCanCounters n (c.tec n) (if r > 127 then 119 + v % 9 else r - 1)
    let c := c.ackSeen n
    if f.rtr then c.count (canK n 0x038)
    else match c.canMatch n f with
      | none => c.count (canK n 0x034)
      | some o => c.canStore n o f (c.stampAt (c.nowNs - age) (c.tim.frac / 65536))

/-! ### Commands, sleep and wake (R407, R408, R410) -/

/-- SLEEP (R408): the controller waits for bus idle, which may stand at once. Log 59, DEDUCED. -/
def Chip.canSleep (c : Chip) (n : Nat) (idle : Bool) : Chip :=
  let s := c.canState n
  if s = 0 || s = 5 then c
  else if idle && (c.canCtl n).wire.isNone then c.canSleepNow n
  else c.setCanCtl n { c.canCtl n with sleepReq := true }

/-- The controller leaves sleep and integrates (R408). Log 59, DEDUCED. -/
def Chip.canAwake (c : Chip) (n : Nat) : Chip :=
  if c.canState n = 5 then c.setCanState n 1 else c.setCanCtl n { c.canCtl n with sleepReq := false }

/-- A write of BUS_CMD (R410). -/
def Chip.canCmd (c : Chip) (n : Nat) (d : Word) (idle : Bool) : Chip :=
  match getBits d 0 3 with
  | 1 => (c.setCanCtl n { c.canCtl n with told := true }).canSleep n idle
  | 2 => (c.setCanCtl n { c.canCtl n with told := false }).canAwake n
  | 3 => if c.canState n = 4 then c.setCanCtl n { c.canCtl n with recovering := true } else c
  | 4 => c.each (List.range 128) fun c o => if c.canObj n o == {} then c else c.canAbort n o
  | _ => c

/-- Does a frame match BUS_WAKE_ID under BUS_WAKE_MASK (R408)? Log 59, DEDUCED. -/
def Chip.canWakeMatch (c : Chip) (n : Nat) (f : CanFrame) : Bool :=
  c.bit (canK n 0x11C) 31 == f.ide &&
    ((BitVec.ofNat 32 f.id ^^^ c.word (canK n 0x11C)) &&& c.word (canK n 0x120) &&& 0x1FFF_FFFF#32) == 0#32

/-- CAN_WAKE_EVENT (R408): a dominant level of `width` ns, or a wake frame, at a sleeping controller. Answers whether it
wakes. A level from 0.5 to 2 µs wakes or not, freely. Log 59, DEDUCED. -/
def Chip.canWakeEvent (c : Chip) (n width : Nat) (frame : Option CanFrame) : Chip × Bool :=
  let ms := c.modState
  if !(n < 4 && c.canState n = 5 && c.bit (canK n 0x100) 27 && ms < 7) then (c, false)
  else
    let (w, c) : Bool × Chip :=
      if ms ≤ 3 && c.bit (canK n 0x100) 26 then
        (match frame with
          | some f => c.canWakeMatch n f
          | none => false, c)
      else if width ≥ 2000 then (true, c)
      else if width < 500 then (false, c)
      else c.freeBool
    if !w then (c, false)
    else
      let c := match frame with
        | some f => if 2 ≤ ms && ms ≤ 3 && c.bit (canK n 0x100) 26 then
            (match c.canMatch n f with
              | some o => c.canStore n o f c.now
              | none => c)
          else c
        | none => c
      ((c.setCanCtl n { c.canCtl n with told := false }).cause BUS n 7 |>.setCanState n 1, true)

/-! ### Reading (R400, R403) -/

/-- The words a read of a result word captures: STAT, TS, TXSTAT and payload (R400). -/
def canCapOffs : List Nat := [0x0C, 0x10, 0x14, 0x18, 0x68] ++ (List.range 16).map (0x20 + 4 * ·)

/-- A read of an object's result word by a host or core `m` captures its registers for that master; at the consuming alias a
master of the page's owner also clears NEWDAT (R400, R403). -/
def Chip.canCapture (c : Chip) (m n o : Nat) (consuming : Bool) : Chip :=
  let l := canCapOffs.map fun r => c.word (objK n o r)
  let caps := if 16 ≤ m then c.can.caps else tabPut [] c.can.caps (m * 512 + n * 128 + o) l
  let c := { c with can := { c.can with caps := caps } }
  if consuming && c.pageOwner BUS n == m then c.setBit (objK n o 0xC) 31 false else c

/-- A register of an object as master `m` reads it: captured, where a read of the result word captured it (R400). -/
def Chip.canRead (c : Chip) (m n o r : Nat) : Word :=
  let l := tab [] c.can.caps (m * 512 + n * 128 + o)
  match canCapOffs.findIdx? (· == r) with
  | some i => (l[i]?).getD (c.word (objK n o r))
  | none => c.word (objK n o r)

end Sys2Proof.Machine
end

