-- ==== Sys2Proof/Machine/Adit.lean ====
section
/-! DEFINITION. Adit (14_adit_directory): samples, records, intake and decimation, trigger units, streams, bulk commands. -/

namespace Sys2Proof.Machine

/-- A register of ADT instance 0 (R436). -/
def adtA (o : Nat) : Nat := pageAddr ADT 0 o
/-- A register of stream channel `ch` (R429). -/
def strK (ch o : Nat) : Nat := pageAddr ADT (1 + ch) o
/-- A register of the trigger page (R425). -/
def atrA (o : Nat) : Nat := pageAddr ADT 3 o
/-- The number of the directory's store (R417). -/
def dirStore : Nat := storeOf ADT 1
/-- Word `w` of the record of signal `sig` (R414). -/
def dirK (sig w : Nat) : Nat := elemKey dirStore sig w
/-- The largest signal ID (R412). -/
def maxSignal : Nat := 33554431

/-- ADT_STAT.RUN: EN, in FLOW or TRICKLE, while the page is enabled (R67, R436, R438). -/
def Chip.adtRuns (c : Chip) : Bool := c.bit (adtA 0x100) 31 && c.running && c.pageOn ADT 0
/-- RUN follows. -/
def Chip.refreshAdt (c : Chip) : Chip := c.setBit (adtA 0x104) 31 c.adtRuns
/-- d_r of a rank (R420). Log 60, DESIGN CHOICE. -/
def Chip.decOf (c : Chip) (r : Nat) : Nat := c.fld (adtA 0x110) (4 * r) 4
/-- The owner of a signal (R417). -/
def Chip.sigOwner (c : Chip) (sig : Nat) : Nat := c.ownWord (twAddr ADT (4 * (sig / 131072)))
/-- What stream channel `ch` holds outside its page. -/
def Chip.strm (c : Chip) (ch : Nat) : StrChan := tab {} c.adt.chans ch
/-- What stream channel `ch` holds outside its page changes. -/
def Chip.setStrm (c : Chip) (ch : Nat) (x : StrChan) : Chip :=
  { c with adt := { c.adt with chans := tabPut {} c.adt.chans ch x } }
/-- Is the channel enabled, its page too, and the block running? -/
def Chip.strOn (c : Chip) (ch : Nat) : Bool := ch < 2 && c.bit (strK ch 0x100) 31 && c.pageOn ADT (1 + ch) && c.adtRuns

/-! ### The directory in DRAM (R414, R418) -/

/-- The signal whose record stands in 64-byte block `b` of DRAM: none outside a declared directory, for record 0, and for a fast
record, whose copy in DRAM is a copy only (R414, R418). Log 77, DEDUCED. -/
def Chip.coldRec (c : Chip) (b : Nat) : Option Nat :=
  let sig := b - c.u64 (adtA 0x108) / 64
  if c.adt.declared && 0 < sig && sig ≤ maxSignal && !c.bit (dirK sig 0) 26 then some sig else none

/-- A byte of a record (R4, R414). -/
def Chip.recByte (c : Chip) (sig i : Nat) : Byte := BitVec.ofNat 8 (c.fld (dirK sig (i / 4)) (8 * (i % 4)) 8)

/-- A byte written to DRAM at `a` reaches the record that stands there; FAST and bit 8 of W0 stay. Log 77, DEDUCED. -/
def Chip.recPoke (c : Chip) (a : Nat) (b : Byte) : Chip :=
  match c.coldRec (a / 64) with
  | none => c
  | some sig =>
    let k := dirK sig (a % 64 / 4)
    let w := putBits (c.word k) (8 * (a % 4)) 8 b.toNat
    c.setWord k (if a % 64 < 4 then w &&& 0xFBFF_FEFF#32 else w)

/-- A record is copied to its place in DRAM (R414, R418, R438). -/
def Chip.recToDram (c : Chip) (sig : Nat) : Chip :=
  c.dramPut (c.u64 (adtA 0x108) + 64 * sig) ((List.range 64).map (c.recByte sig))

/-! ### Stream blocks (R430 to R434) -/

/-- N, the blocks of the channel's ring (R430). -/
def Chip.ringBlocks (c : Chip) (ch : Nat) : Nat := c.fld (strK ch 0x110) 0 13 * 512

/-- A PAD entry (R432). -/
def padEntry : List Word := [0x3000_0000#32, 0, 0, 0]

/-- PAIR of a block header (R431, R440). -/
def Chip.pairWord (c : Chip) : Word :=
  BitVec.ofNat 32 (c.fld (pageAddr PAI 0 0x100) 0 16 * 2 ^ 16 + b2n c.paired * 2 ^ 15 + b2n (c.paired && c.role != 3) * 2 ^ 14)

/-- The open block is closed: it goes on its way to DRAM (R433). -/
def Chip.strClose (c : Chip) (ch : Nat) : Chip :=
  let x := c.strm ch
  match x.block with
  | none => c
  | some b => c.setStrm ch { x with block := none, closed := x.closed ++ [b] }

/-- A block opens (R431); into a full ring it opens with a GAP entry, and RD moves (R434). -/
def Chip.strOpen (c : Chip) (ch : Nat) : Chip :=
  let x := c.strm ch
  let s := x.nextSeq
  let n := c.ringBlocks ch
  let b : StrBlock :=
    { addr := c.u64 (strK ch 0x108) + 4096 * (s % n), seq := s, baseNs := c.nowNs,
      opened := BitVec.ofNat 32 (c.fld aTimStat 16 8 * 2 ^ 24 + c.fld aTimStat 0 4 * 2 ^ 16), pair := c.pairWord }
  let rd := c.u64 (strK ch 0x120)
  if s ≥ rd + n then
    let lost := c.u64 (strK ch 0x128) + 4096
    let gap : List Word := [0x2000_0000#32, BitVec.ofNat 32 (s + 1 - n - rd), wordN lost 0, wordN lost 1]
    let c := (c.setU64 (strK ch 0x120) (s + 1 - n)).setU64 (strK ch 0x128) lost
    let c := (c.count (strK ch 0x034)).cause ADT (1 + ch) 1
    c.setStrm ch { x with block := some { b with entries := [gap] }, nextSeq := s + 1 }
  else c.setStrm ch { x with block := some b, nextSeq := s + 1 }

/-- A block with room for `k` entries is open: paired entries never straddle two blocks (R432). -/
def Chip.strRoom (c : Chip) (ch k : Nat) : Chip :=
  match (c.strm ch).block with
  | none => c.strOpen ch
  | some b => if b.entries.length + k > 251 then (c.strClose ch).strOpen ch else c

/-- Entries are placed in the open block; a full block is closed (R433). -/
def Chip.strPut (c : Chip) (ch : Nat) (es : List (List Word)) : Chip :=
  let c := c.strRoom ch es.length
  let x := c.strm ch
  match x.block with
  | none => c
  | some b =>
    let b := { b with entries := b.entries ++ es }
    let c := c.setStrm ch { x with block := some b }
    if b.entries.length ≥ 251 then c.strClose ch else c

/-- BASE_NS of the open block. -/
def Chip.strBase (c : Chip) (ch : Nat) : Nat :=
  match (c.strm ch).block with
  | none => 0
  | some b => b.baseNs

/-- Does NS lie too far from BASE_NS for W2 (R432)? Log 61, DEDUCED. -/
def Chip.strFar (c : Chip) (ch : Nat) (s : Stamp) : Bool := ((s.ns : Int) - c.strBase ch).natAbs > 2147483647

/-- W3 of a SAMPLE entry (R432). -/
def entryW3 (s : Stamp) (d : Nat) : Word :=
  BitVec.ofNat 32 (s.frac * 2 ^ 16 + s.epoch * 2 ^ 8 + d % 16 * 2 ^ 4 + s.flags)

/-- A SAMPLE entry, or FAR_A and FAR_B (R432). Log 61, DEDUCED. -/
def Chip.strSample (c : Chip) (ch : Nat) (q : AdtSample) : Chip :=
  let v : Word := BitVec.ofInt 32 q.v
  let c := c.strRoom ch 1
  let c := if c.strFar ch q.stamp then c.strRoom ch 2 else c
  if c.strFar ch q.stamp then
    c.strPut ch [[BitVec.ofNat 32 (6 * 2 ^ 28 + q.sig), v, 0, entryW3 q.stamp q.d],
                 [0x7000_0000#32, 0, wordN q.stamp.ns 0, wordN q.stamp.ns 1]]
  else c.strPut ch [[BitVec.ofNat 32 q.sig, v, BitVec.ofInt 32 ((q.stamp.ns : Int) - c.strBase ch), entryW3 q.stamp q.d]]

/-- A TRIGGER entry (R427, R432); W2 of a mark too far from BASE_NS is free. Log 61, DEDUCED. -/
def Chip.strMark (c : Chip) (ch u edge : Nat) (v : Int) (s : Stamp) : Chip :=
  if !c.strOn ch then c
  else
    let a := tab {} c.adt.accts (2 + ch)
    let c := { c with adt := { c.adt with accts := tabPut {} c.adt.accts (2 + ch) { a with kept := a.kept + 1 } } }
    let c := c.strRoom ch 1
    let (w, c) := if c.strFar ch s then c.freeWord else (BitVec.ofInt 32 ((s.ns : Int) - c.strBase ch), c)
    c.strPut ch [[BitVec.ofNat 32 (2 ^ 28 + edge * 2 ^ 26 + u), BitVec.ofInt 32 v, w, entryW3 s 0]]

/-- The EPOCH pair of the newest step of the step log, into every enabled channel (R432). -/
def Chip.epochPair (c : Chip) : Chip :=
  let l := pageAddr TIM 0 0x200
  let a : List Word := [BitVec.ofNat 32 (4 * 2 ^ 28 + c.fld l 0 8), c.word (pageAddr TIM 0 0x14C), c.word (l + 0x18), c.word (l + 0x1C)]
  let b : List Word := [BitVec.ofNat 32 (5 * 2 ^ 28 + c.fld (l + 8) 16 16), 0, c.word (l + 0xC), c.word (l + 0x10)]
  c.each ((List.range 2).filter c.strOn) fun c ch => c.strPut ch [a, b]

/-- What follows a command in which the counter may have stepped: the EPOCH pair, if it did (R432). -/
def Chip.afterStep (new old : Chip) : Chip := if new.fld aTimStat 16 8 = old.fld aTimStat 16 8 then new else new.epochPair

/-- STREAM_FLUSH_TIMEOUT (R433). -/
def Chip.strFlush (c : Chip) (ch : Nat) : Chip := if ch < 2 then c.strClose ch else c

/-- The bytes of a closed block (R431). -/
def StrBlock.bytes (b : StrBlock) (ch modId : Nat) : List Byte :=
  let head : List Word := [0xAD17_5B10#32, BitVec.ofNat 32 (2 ^ 24 + ch * 2 ^ 16 + b.entries.length), wordN b.seq 0, wordN b.seq 1,
    wordN b.baseNs 0, wordN b.baseNs 1, b.opened, BitVec.ofNat 32 b.dropped, wordN modId 0, wordN modId 1, b.pair, 0, 0, 0, 0, 0]
  let es := b.entries ++ List.replicate (251 - b.entries.length) padEntry
  (head ++ es.flatten ++ [wordN b.seq 0, wordN b.seq 1, 0, 0]).flatMap fun w => natBytes 4 w.toNat

/-- STREAM_BLOCK_WRITTEN (R429, R433): the oldest closed block stands in DRAM; WR advances. -/
def Chip.strWritten (c : Chip) (ch : Nat) : Chip :=
  let x := c.strm ch
  match x.closed with
  | [] => c
  | b :: r =>
    let old := c.u64 (strK ch 0x118) - c.u64 (strK ch 0x120)
    let c := (c.setStrm ch { x with closed := r }).dramPut b.addr (b.bytes ch (c.u64 (pageAddr COR 0 0x120)))
    let c := c.setU64 (strK ch 0x118) (b.seq + 1)
    let mark := c.fld (strK ch 0x114) 0 21
    if old < mark && mark ≤ b.seq + 1 - c.u64 (strK ch 0x120) then c.cause ADT (1 + ch) 0 else c

/-- A write of ADT_STR_RD (R434). -/
def Chip.strRdWrite (c : Chip) (ch v : Nat) : Chip :=
  if v < c.u64 (strK ch 0x120) || v > c.u64 (strK ch 0x118) then c.count (strK ch 0x03C) else c.setU64 (strK ch 0x120) v

/-- WHY of a refused enable of a channel, 0 for none (R430; SIZE 0 names no ring). Log 61, DEDUCED. -/
def Chip.strWhy (c : Chip) (ch : Nat) : Nat :=
  let base := c.u64 (strK ch 0x108)
  let size := c.fld (strK ch 0x110) 0 13
  let fin := base + size * 2 ^ 21
  let o := 1 - ch
  let dir := c.u64 (adtA 0x108)
  let ob := c.u64 (strK o 0x108)
  let os := c.fld (strK o 0x110) 0 13
  let on := c.bit (strK o 0x100) 31
  if base % 2 ^ 21 != 0 || fin > c.dramBytes || size = 0 then 1
  else if (base < dir + 2 ^ 31 && dir < fin) || (on && base < ob + os * 2 ^ 21 && ob < fin) then 2
  else if size + (if on then os else 0) > (if c.part = .fvk8640 then 4096 else 2048) then 3
  else 0

/-- A write of ADT_STR_CTL (R429, R430, R433): a write of EN = 1 is checked, one of EN = 0 closes the open block.
Log 61, DEDUCED. -/
def Chip.strCtlWrite (c : Chip) (m ch : Nat) (d : Word) : Chip :=
  let k := strK ch 0x100
  let on := c.bit k 31
  let c := if on && getBits d 0 4 != c.fld k 0 4 then c.logErr ecLocked m k else c
  let c := c.setFld k 16 10 (max 1 (getBits d 16 10))
  let c := if on then c else c.setFld k 0 4 (getBits d 0 4)
  if d.getLsbD 31 && !on then
    let w := c.strWhy ch
    let c := c.setFld k 12 4 w
    if w != 0 then c
    else ((c.setBit k 31 true).setU64 (strK ch 0x120) (c.u64 (strK ch 0x118))).setU64 (strK ch 0x128) 0
  else if !d.getLsbD 31 && on then (c.strClose ch).setBit k 31 false
  else c

/-! ### Trigger units (R425 to R428) -/

/-- PG_EVT_RAW[0] of the trigger page is the level ADT_TRG_PEND ≠ 0 (R425). -/
def Chip.atrLevel (c : Chip) : Chip := c.level ADT 3 0 (c.u64 (atrA 0x780) != 0)

/-- A fire of unit `u` (R427, R428). -/
def Chip.atrFire (c : Chip) (u edge : Nat) (v : Int) (s : Stamp) : Chip :=
  let k := atrA (0x100 + 16 * u)
  let c := c.newResult (atrA (0x800 + 8 * u)) (BitVec.ofInt 32 v) (u + edge * 64) s
  let c := c.countFld (atrA (0x600 + 4 * u)) 16 16
  let c := c.each ((List.range 2).filter fun ch => c.bit k (26 + ch)) fun c ch => c.strMark ch u edge v s
  let c := c.postIf (c.bit (atrA (0x500 + 4 * u)) 31) (c.fld (atrA (0x500 + 4 * u)) 0 17) s
  if c.bit k 25 then (c.setBit (atrA (0x780 + 4 * (u / 32))) (u % 32) true).atrLevel else c

/-- Hold-off would suppress a crossing of unit `u` with this NS; HOLD = 0 suppresses nothing (R427). It is what HOLDING shows (R425). -/
def Chip.atrHolding (c : Chip) (u ns : Nat) : Bool :=
  let x := tab {} c.adt.trgs u
  let hold := c.nat (atrA (0x10C + 16 * u))
  match x.last with
  | none => false
  | some t => hold != 0 && (if c.bit (atrA (0x100 + 16 * u)) 28 then decide (x.crossings < hold) else decide (ns < t + hold))

/-- A crossing fires unless hold-off suppresses it (R427). -/
def Chip.atrCross (c : Chip) (u edge : Nat) (v : Int) (s : Stamp) : Chip :=
  let x := tab {} c.adt.trgs u
  let put (c : Chip) (y : AdtTrg) : Chip := { c with adt := { c.adt with trgs := tabPut {} c.adt.trgs u y } }
  if c.atrHolding u s.ns then put (c.countFld (atrA (0x600 + 4 * u)) 0 16) { x with crossings := x.crossings + 1 }
  else (put c { last := some s.ns, crossings := 0 }).atrFire u edge v s

/-- R426: unit `u` sees a sample of its signal: the crossings against the arms as they stood, then the arms.
Log 61, DEDUCED. -/
def Chip.atrSee (c : Chip) (u : Nat) (v : Int) (s : Stamp) : Chip :=
  let k := atrA (0x100 + 16 * u)
  let sk := atrA (0x500 + 4 * u)
  let lv := signed 32 (c.nat (k + 4))
  let hy : Int := c.nat (k + 8)
  let up := c.bit k 29 && c.bit sk 30 && decide (v ≥ lv)
  let dn := c.bit k 30 && c.bit sk 29 && decide (v ≤ lv)
  let c := if up then (c.setBit sk 30 false).atrCross u 1 v s else c
  let c := if dn then (c.setBit sk 29 false).atrCross u 2 v s else c
  let c := if v < lv - hy then c.setBit sk 30 true else c
  let c := if v > lv + hy then c.setBit sk 29 true else c
  c.setBit sk 28 (c.atrHolding u s.ns)

/-- A write by master `m` of ADT_TRG_CFG_u (R425). Log 61, DEDUCED. -/
def Chip.atrCfgWrite (c : Chip) (m u : Nat) (d : Word) : Chip :=
  let k := atrA (0x100 + 16 * u)
  if c.bit k 31 then
    let c := if (d &&& 0x7FFF_FFFF#32) != (c.word k &&& 0x7FFF_FFFF#32) then c.logErr ecLocked m k else c
    c.setBit k 31 (d.getLsbD 31)
  else if d.getLsbD 31 then
    if getBits d 29 2 = 0 || getBits d 0 25 = 0 then (c.setWord k (d &&& 0x7FFF_FFFF#32)).logErr ecNoKey m k
    else
      let c := (c.setWord k d).setFld (atrA (0x500 + 4 * u)) 28 3 0
      { c with adt := { c.adt with trgs := tabPut {} c.adt.trgs u {} } }
  else c.setWord k d

/-- ADT_TRG_RESULT_READ (R428): the fire's stamp is captured for the reading master. -/
def Chip.atrCapture (c : Chip) (m u : Nat) : Chip :=
  c.setStamp (viewKey m (atrA 0x700)) (tab 0 c.stamps (atrA (0x800 + 8 * u)))

/-! ### Intake (R412, R413, R419 to R422) -/

/-- The accounts a sample belongs to (R419). -/
def acctsOf (norec fast : Bool) (stream : Nat) : List Nat :=
  [0] ++ (if !norec && !fast then [1] else []) ++ (if natBit stream 0 then [2] else []) ++ (if natBit stream 1 then [3] else [])

/-- A sample of a rank is dropped: it counts for the rank and for its channels (R420, R422, R429, R431).
Log 60, DESIGN CHOICE. -/
def Chip.adtDrop (c : Chip) (r stream : Nat) : Chip :=
  let c := c.count (adtA (0x034 + 4 * r))
  c.each ((List.range 2).filter fun ch => natBit stream ch && c.strOn ch) fun c ch =>
    let c := c.count (strK ch 0x038)
    let x := c.strm ch
    match x.block with
    | some b => c.setStrm ch { x with block := some { b with dropped := min (2 ^ 32 - 1) (b.dropped + 1) } }
    | none => c

/-- The fill above which an arriving sample of rank `r` is dropped (R422). -/
def queueLimit (r : Nat) : Nat := 57344 - 8192 * r

/-- ADT_SAMPLE_INTAKE (R412, R413, R415, R419 to R422, R426): the oldest sample on its way enters. The LFSR's sequence is
free. Log 60, DESIGN CHOICE. -/
def Chip.adtIntake (c : Chip) : Chip :=
  match c.samples with
  | [] => c
  | s :: rest =>
    let c := { c with samples := rest }
    if !c.adtRuns || s.sig = 0 || s.sig > maxSignal then c
    else
      let w0 := c.word (dirK s.sig 0)
      let x := roundShift s.value (getBits w0 20 6)
      let v := satS 32 x
      let us := (List.range 64).filter fun u =>
        c.pageOn ADT 3 && c.bit (atrA (0x100 + 16 * u)) 31 && c.fld (atrA (0x100 + 16 * u)) 0 25 = s.sig
      let c := c.each us fun c u => c.atrSee u v s.stamp
      let norec := w0.getLsbD 31
      let stream := getBits w0 29 2
      let r := getBits w0 27 2
      if norec && stream = 0 then c
      else
        let (f, c) := c.freeNat
        let lfsr := f % 2 ^ 15
        let d := c.decOf r
        let as' := acctsOf norec (w0.getLsbD 26) stream
        let mark (n : Nat) (t : Tab AdtAcct) : Tab AdtAcct :=
          as'.foldl (fun t a =>
            let x := tab {} t a
            tabPut {} t a { kept := x.kept + n, ranks := setNatBit x.ranks r true }) t
        let c := { c with adt := { c.adt with lfsr := tabPut 0 c.adt.lfsr r lfsr } }
        if lfsr % 2 ^ d != 0 then { c.adtDrop r stream with adt := { c.adt with accts := mark 0 c.adt.accts } }
        else if c.adt.queue.length > queueLimit r then
          let c := if c.adt.dropNow = 0 then c.cause ADT 0 3 else c
          let c := c.adtDrop r stream
          { c with adt := { c.adt with accts := mark 0 c.adt.accts, dropNow := setNatBit c.adt.dropNow r true } }
        else
          let q : AdtSample := { sig := s.sig, v := v, clip := satHit 32 x, stamp := s.stamp, rank := r, d := d }
          let c := { c with adt := { c.adt with accts := mark 1 c.adt.accts, queue := c.adt.queue ++ [q] } }
          c.setNat (adtA 0x114) c.adt.queue.length

/-- The fixed limit of an account (R419). -/
def acctLimit (a : Nat) : Nat := [1000, 300, 490, 490].getD a 0

/-- ADT_WINDOW_END (R421, R436). -/
def Chip.adtWindow (c : Chip) : Chip :=
  if !c.adtRuns then c
  else
    let acct (a : Nat) : AdtAcct := tab {} c.adt.accts a
    let zero := c.nat (adtA 0x110) = 0
    let c := c.setNat (adtA 0x048) (max (c.nat (adtA 0x048)) (acct 0).kept)
    let ovr := (List.range 4).filter fun a => (acct a).kept > acctLimit a
    let c := c.each ovr fun c a =>
      match ([3, 2, 1, 0] : List Nat).find? fun r => natBit (acct a).ranks r && c.decOf r < 15 with
      | some r => c.setFld (adtA 0x110) (4 * r) 4 (c.decOf r + 1)
      | none => c
    let c := if zero && c.nat (adtA 0x110) != 0 then c.cause ADT 0 1 else c
    let quiet := if (List.range 4).all fun a => (acct a).kept * 10 ≤ acctLimit a * 9 then c.adt.quiet + 1 else 0
    let c :=
      if quiet < 1000 then c
      else match ([0, 1, 2, 3] : List Nat).find? fun r => c.decOf r > 0 with
        | some r =>
          let c := c.setFld (adtA 0x110) (4 * r) 4 (c.decOf r - 1)
          if c.nat (adtA 0x110) = 0 then c.cause ADT 0 2 else c
        | none => c
    { c with adt := { c.adt with accts := [], dropBefore := c.adt.dropNow, dropNow := 0,
                                 quiet := if quiet < 1000 then quiet else 0 } }

/-! ### Records (R415, R418, R441) -/

/-- W0 of a record changes; FAST_CNT follows, and a record that moves into the cache leaves its copy in DRAM (R418). -/
def Chip.setRecW0 (c : Chip) (sig : Nat) (w : Word) : Chip :=
  let was := b2n (c.bit (dirK sig 0) 26)
  let c := c.when (was = 0 && w.getLsbD 26) (·.recToDram sig)
  let c := c.setWord (dirK sig 0) w
  c.setFld (adtA 0x104) 0 19 (c.fld (adtA 0x104) 0 19 - was + b2n (w.getLsbD 26))

/-- A record takes reset values, with policy and REINIT given (R437, R441). -/
def Chip.recClear (c : Chip) (sig policy : Nat) (reinit : Bool) : Chip :=
  let c := c.setRecW0 sig (BitVec.ofNat 32 (policy * 2 ^ 16 + 2 ^ 12 + b2n reinit * 2 ^ 9))
  c.each ((List.range 15).map (· + 1)) fun c w => c.setWord (dirK sig w) 0

/-- R441: a poisoned record is reinitialised. -/
def Chip.recReinit (c : Chip) (sig : Nat) : Chip :=
  let c := { c with elemPoison := tabPut false c.elemPoison (dirK sig 0) false }
  let c := (((c.recClear sig 0 true).count (adtA 0x044)).cause ADT 0 4).setNat (adtA 0x128) (2 ^ 31 + sig)
  c.logAt (pageAddr ADT 0 0) ecPoison 17 sig (lineOf ADT 0 0)

/-- R415: a kept sample acts on its record. -/
def Chip.recApply (c : Chip) (q : AdtSample) : Chip :=
  let k := dirK q.sig
  if c.bit (k 0) 31 then c
  else
    let empty := c.bit (k 0) 12
    let sum := signed 64 (c.wide (k 6) 1 + 2 ^ 32 * c.nat (k 7)) + q.v
    let sqs := c.fld (k 0) 16 4
    let sq := c.nat (k 8) + 2 ^ 32 * c.nat (k 9) + (q.v * q.v).toNat / 2 ^ (4 * sqs)
    let ns := q.stamp.ns
    let ep := q.stamp.epoch
    let dec := c.decOf q.rank > 0 || natBit c.adt.dropNow q.rank || natBit c.adt.dropBefore q.rank
    let put64 (c : Chip) (w v : Nat) : Chip := (c.setWord (k w) (wordN v 0)).setWord (k (w + 1)) (wordN v 1)
    let flag (c : Chip) (b : Bool) (i : Nat) : Chip := if b then c.setBit (k 0) i true else c
    let c := flag c (!empty && ep != c.fld (k 0) 0 8) 11
    let c := flag c dec 15
    let c := flag c (satHit 64 sum) 14
    let c := flag c (decide (sq ≥ 2 ^ 64)) 13
    let c := flag c q.clip 10
    let c := put64 (put64 c 6 (unsigned 64 (satS 64 sum))) 8 (min (2 ^ 64 - 1) sq)
    let n := min (2 ^ 48 - 1) (c.nat (k 2) + 2 ^ 32 * c.fld (k 1) 0 16 + 1)
    let c := (c.setNat (k 2) n).setFld (k 1) 0 16 (n / 2 ^ 32)
    let c := if empty || q.v < signed 32 (c.nat (k 4)) then
        (put64 (c.setWord (k 4) (BitVec.ofInt 32 q.v)) 12 ns).setFld (k 1) 24 8 ep
      else c
    let c := if empty || q.v > signed 32 (c.nat (k 5)) then
        (put64 (c.setWord (k 5) (BitVec.ofInt 32 q.v)) 14 ns).setFld (k 1) 16 8 ep
      else c
    ((put64 (c.setWord (k 3) (BitVec.ofInt 32 q.v)) 10 ns).setFld (k 0) 0 8 ep).setBit (k 0) 12 false

/-- ADT_RECORD_UPDATE (R415, R416, R423, R441): the oldest kept sample updates its record and its streams; `rr` is how often the read of
a record in DRAM is repeated (R47). -/
def Chip.adtUpdate (c : Chip) (rr : Nat) : Chip :=
  match c.adt.queue with
  | [] => c
  | q :: r =>
    let c := { c with adt := { c.adt with queue := r } }
    let c := c.setNat (adtA 0x114) r.length
    let k := dirK q.sig 0
    let c := if c.bit k 26 || tab false c.elemPoison k then c else c.elemRead k rr (some (c.u64 (adtA 0x108) + 64 * q.sig))
    let c := if tab false c.elemPoison k then c.recReinit q.sig else c
    let st := c.fld (dirK q.sig 0) 29 2
    let c := c.recApply q
    c.each ((List.range 2).filter fun ch => natBit st ch && c.strOn ch) fun c ch => c.strSample ch q

/-- An owner's window write of a record (R417, R418, R441): answers ERR. Log 61, DEDUCED. -/
def Chip.recWrite (c : Chip) (sig : Nat) (data : List Word) : Nat × Chip :=
  let w0 := data.getD 0 0 &&& 0xFFFF_FEFF#32
  if w0.getLsbD 26 && !c.bit (dirK sig 0) 26 && c.fld (adtA 0x104) 0 19 ≥ 262144 then (2, c)
  else
    let c := if tab false c.elemPoison (dirK sig 0) then c.recReinit sig else c
    (0, (c.setRecW0 sig w0).each ((List.range 15).map (· + 1)) fun c w => c.setWord (dirK sig w) (data.getD w 0))

/-! ### Bulk commands, enable, power (R436 to R439) -/

/-- The status of partition `p`'s own command (R436, R586). -/
def adtStatOf (p : Nat) : Nat := viewKey p (adtA 0x104)

/-- A write of ADT_CMD by partition `p` (R437): the command waits its turn; one written while the partition's own is in
progress is discarded. -/
def Chip.adtCmdWrite (c : Chip) (p : Nat) (d : Word) : Chip :=
  let op := getBits d 28 4
  if c.bit (adtStatOf p) 29 then c.logErr ecWinBusy p (adtA 0x118)
  else if op = 0 || op > 3 then c
  else
    let q : AdtCmd :=
      { p := p, op := op, first := c.fld (viewKey p (adtA 0x11C)) 0 25, count := c.fld (viewKey p (adtA 0x120)) 0 26,
        arg := c.fld (viewKey p (adtA 0x124)) 0 16 }
    let c := c.setBit (adtStatOf p) 29 true
    { c with adt := { c.adt with cmds := c.adt.cmds ++ [q] } }

/-- CMD_CODE of a command: the first check that fails (R437). -/
def Chip.adtCmdCode (c : Chip) (q : AdtCmd) : Nat :=
  let last := q.first + q.count - 1
  if q.first = 0 || last > maxSignal then 1
  else if q.count != 0 && !((List.range (last / 131072 + 1 - q.first / 131072)).all fun b =>
      c.sigOwner ((q.first / 131072 + b) * 131072) = q.p) then 2
  else if q.op != 1 && natBit q.arg 10 && c.fld (adtA 0x104) 0 19 + q.count > 262144 then 3
  else 0

/-- A command acts on one record (R437). Log 61, DEDUCED. -/
def Chip.adtCmdOne (c : Chip) (q : AdtCmd) (sig : Nat) : Chip :=
  if q.op = 2 then c.setRecW0 sig (putBits (c.word (dirK sig 0)) 16 16 q.arg)
  else c.recClear sig (if q.op = 1 then c.fld (dirK sig 0) 16 16 else q.arg) false

/-- ADT_CMD_DONE (R437): the oldest command has been carried out. Log 61, DEDUCED. -/
def Chip.adtCmdDone (c : Chip) : Chip :=
  match c.adt.cmds with
  | [] => c
  | q :: r =>
    let c := { c with adt := { c.adt with cmds := r } }
    let code := c.adtCmdCode q
    let c := if code = 0 then c.each (List.range q.count) fun c i => c.adtCmdOne q (q.first + i) else c
    ((c.setFld (adtStatOf q.p) 24 4 code).setBit (adtStatOf q.p) 29 false).cause ADT 0 0

/-- A keyed write by master `m` of ADT_CTL (R436, R439): the first EN = 1 declares the directory empty. -/
def Chip.adtCtlWrite (c : Chip) (m : Nat) (d : Word) : Chip :=
  let k := adtA 0x100
  if d.getLsbD 31 && !c.bit k 31 then
    if c.u64 (adtA 0x108) + 2 ^ 31 > c.dramBytes then c.logErr ecNoKey m k
    else
      let c := (c.setBit k 31 true).refreshAdt
      if c.adt.declared then c
      else
        let c := c.clearStore dirStore
        let c := (c.setFld (adtA 0x104) 0 19 0).setBit (adtA 0x104) 30 true
        { c with adt := { c.adt with declared := true } }
  else (c.setBit k 31 (d.getLsbD 31)).refreshAdt

/-- DIR_CLEAR_DONE (R439). -/
def Chip.dirCleared (c : Chip) : Chip :=
  if c.bit (adtA 0x104) 30 then (c.setBit (adtA 0x104) 30 false).cause ADT 0 5 else c

/-- The signals with FAST = 1 (R418). -/
def Chip.fastRecs (c : Chip) : List Nat :=
  c.words.filterMap fun (e : Nat × Word) =>
    let i := e.1 - elemKey dirStore 0 0
    if elemKey dirStore 0 0 ≤ e.1 && e.1 < elemKey (dirStore + 1) 0 0 && i % 1024 = 0 && e.2.getLsbD 26 then some (i / 1024) else none

/-- R438: the module leaves TRICKLE for a lower state: open blocks are closed, intake ends, fast records go to DRAM. -/
def Chip.adtLeave (c : Chip) : Chip := (((c.strClose 0).strClose 1).refreshAdt).each c.fastRecs fun c sig => c.recToDram sig

/-- R438: in CISTERN and below the directory, the rings and the registers of the block are lost. -/
def Chip.adtLost (c : Chip) : Chip := { c.clearStore dirStore with adt := {} }

end Sys2Proof.Machine
end

