-- ==== Sys2Proof/Machine/Tally.lean ====
section
/-! DEFINITION. The Tally event recorder (15_tally_recorder): posts, intake, rate limits, records, commands, flushes. -/

namespace Sys2Proof.Machine

/-- A register of TLY instance 0 (R455). -/
def tlyA (o : Nat) : Nat := pageAddr TLY 0 o
/-- TLY_CFG of a code (R445). -/
def tlyCfgK (code : Nat) : Nat := twAddr TLY (4 * code)
/-- The number of the store of live records. -/
def tlyStore : Nat := storeOf TLY 1
/-- Word `w`, 0 to 31, of the record of a code (R447). -/
def tlyK (code w : Nat) : Nat := elemKey tlyStore code w
/-- The owner of a code (R445). -/
def Chip.codeOwner (c : Chip) (code : Nat) : Nat := c.ownWord (twAddr TLY (0x4_0000 + 4 * (code / 4096)))
/-- The status of partition `p`'s own command (R455, R586). -/
def tlyStatOf (p : Nat) : Nat := viewKey p (tlyA 0x104)

/-- Does Tally fold events: EN and the page's ENABLE, down to SEEP, not frozen (R67, R451, R454, R455)? -/
def Chip.tlyRuns (c : Chip) : Bool :=
  c.bit (tlyA 0x100) 31 && c.pageOn TLY 0 && c.modState ≤ 3 && !c.tly.frozen && c.tly.flush.isNone
/-- RUN follows. -/
def Chip.refreshTly (c : Chip) : Chip := c.setBit (tlyA 0x104) 31 c.tlyRuns

/-! ### Posts (R443) -/

/-- A post of a code by master `m`: refused when the code is below 0x1000 or not its own. -/
def Chip.tlyPost (c : Chip) (m off code value : Nat) : Chip :=
  if 0x1000 ≤ code && (m = 16 || c.codeOwner code = m) then c.tally code value
  else (c.count (tlyA 0x038)).logErr ecNotOwner m (tlyA off)

/-- A write of TLY_POST32. -/
def Chip.post32 (c : Chip) (m : Nat) (d : Word) : Chip :=
  let code := getBits d 0 16
  let v := getBits d 16 16
  c.tlyPost m 0x110 code (if c.bit (tlyCfgK code) 30 then unsigned 32 (signed 16 v) else v)

/-- A write of TLY_POST64. Log 62, DEDUCED. -/
def Chip.post64 (c : Chip) (m : Nat) (lo hi : Word) : Chip := c.tlyPost m 0x108 (getBits lo 0 16) hi.toNat

/-! ### Intake (R444) -/

/-- TALLY_EVENT_INTAKE (R444, R451, R454, R455): the oldest event on its way enters the queue. -/
def Chip.tlyIntake (c : Chip) : Chip :=
  match c.tallyIn with
  | [] => c
  | e :: r =>
    let c := { c with tallyIn := r }
    if c.tly.flush.isSome then c.count (tlyA 0x03C)
    else if !c.tlyRuns then c
    else if c.tly.queue.length ≥ 4096 then
      let c := (c.count (tlyA 0x034)).setBit (tlyA 0x104) 28 true
      if c.tly.lossSeen then c else { c.cause TLY 0 3 with tly := { c.tly with lossSeen := true } }
    else { c with tly := { c.tly with queue := c.tly.queue ++ [e] } }

/-- A 1 µs window ends: the next drop raises QLOSS again (R444). Log 62, DEDUCED. -/
def Chip.tlyWindow (c : Chip) : Chip := { c with tly := { c.tly with lossSeen := false } }

/-! ### Records (R446 to R448) -/

/-- SEQ advances in both elements (R449). -/
def Chip.tlySeq (c : Chip) (code : Nat) : Chip :=
  let s := c.word (tlyK code 0) + 1
  (c.setWord (tlyK code 0) s).setWord (tlyK code 16) s

/-- The tokens of a code. Log 62, DEDUCED. -/
def Chip.tokensOf (c : Chip) (code : Nat) : Nat := tab 0 c.tly.tokens code
/-- The tokens of a code change. -/
def Chip.setTokens (c : Chip) (code n : Nat) : Chip := { c with tly := { c.tly with tokens := tabPut 0 c.tly.tokens code n } }
/-- A bucket is filled (R446). -/
def Chip.fillBucket (c : Chip) (code : Nat) : Chip := c.setTokens code (c.fld (tlyCfgK code) 16 8)

/-- The histogram bucket of an interval (R448). -/
def histBucket (h d : Nat) : Nat := ((List.range 15).filter fun b => 2 ^ (h + b) ≤ d).length

/-- Bucket `b` of a code's histogram. -/
def histK (code b : Nat) : Nat := tlyK code (17 + b / 2)

/-- An interval enters the histogram, which is halved first when the bucket is full (R448). -/
def Chip.histAdd (c : Chip) (code b : Nat) : Chip :=
  let lo := 16 * (b % 2)
  let c :=
    if c.fld (histK code b) lo 16 = 65535 then
      (c.each (List.range 16) fun c i => c.setFld (histK code i) (16 * (i % 2)) 16 (c.fld (histK code i) (16 * (i % 2)) 16 / 2)).countFld
        (tlyK code 1) 8 8
    else c
  c.setFld (histK code b) lo 16 (c.fld (histK code b) lo 16 + 1)

/-- A value, read as the code's SIGNED says. -/
def Chip.tlyVal (c : Chip) (code : Nat) (w : Word) : Int := if c.bit (tlyCfgK code) 30 then signed 32 w.toNat else w.toNat

/-- R448: an event folds into its record. -/
def Chip.tlyApply (c : Chip) (e : TallyEvent) : Chip :=
  let k := tlyK e.code
  let v := word0 e.value
  let empty := c.bit (k 1) 31
  let last := c.stampOf (k 7)
  let c :=
    if empty then
      ((((c.setBit (k 1) 31 false).setStamp (k 4) e.stamp).setWord (k 10) v).setWord (k 11) v)
    else
      let c :=
        if e.stamp.epoch != last.epoch then c.setBit (k 1) 30 true
        else if e.stamp.ns < last.ns then (c.setBit (k 1) 29 true).histAdd e.code 0
        else c.histAdd e.code (histBucket (c.fld (tlyCfgK e.code) 25 5) (e.stamp.ns - last.ns))
      let c := if c.tlyVal e.code v < c.tlyVal e.code (c.word (k 10)) then c.setWord (k 10) v else c
      if c.tlyVal e.code v > c.tlyVal e.code (c.word (k 11)) then c.setWord (k 11) v else c
  let c := (c.setStamp (k 7) e.stamp).setWord (k 12) v
  let c := if c.nat (k 2) = 2 ^ 32 - 1 then c.setBit (k 1) 28 true else c.setNat (k 2) (c.nat (k 2) + 1)
  (c.setFld (k 1) 0 8 (c.tokensOf e.code)).tlySeq e.code

/-- TALLY_EVENT_FOLD (R445, R446, R448): the oldest queued event. -/
def Chip.tlyFold (c : Chip) : Chip :=
  match c.tly.queue with
  | [] => c
  | e :: r =>
    if !c.tlyRuns then c
    else
      let c := { c with tly := { c.tly with queue := r } }
      if !c.bit (tlyCfgK e.code) 31 then c
      else if c.fld (tlyCfgK e.code) 0 16 = 0 then c.tlyApply e
      else
        let n := c.tokensOf e.code
        if n = 0 then ((c.count (tlyK e.code 3)).setFld (tlyK e.code 1) 0 8 0).tlySeq e.code
        else (c.setTokens e.code (n - 1)).tlyApply e

/-- TALLY_TOKEN_REFILL (R446). -/
def Chip.tlyRefill (c : Chip) (code : Nat) : Chip :=
  if code < 65536 && c.fld (tlyCfgK code) 0 16 != 0 && c.tokensOf code < c.fld (tlyCfgK code) 16 8 then
    c.setTokens code (c.tokensOf code + 1)
  else c

/-- A write of TLY_CFG_c (R445). Log 62, DEDUCED. -/
def Chip.tlyCfgWrite (c : Chip) (code : Nat) (d : Word) : Chip :=
  let k := tlyCfgK code
  let w := d &&& 0xFEFF_FFFF#32
  let w := if getBits w 0 16 != 0 && getBits w 16 8 = 0 then putBits w 16 8 1 else w
  let change := getBits w 25 6 != c.fld k 25 6
  let c := (c.setWord k w).fillBucket code
  if change then
    let c := c.each (List.range 8) fun c i => c.setWord (tlyK code (17 + i)) 0
    (((c.setFld (tlyK code 1) 8 8 0).setWord (tlyK code 10) 0).setWord (tlyK code 11) 0).tlySeq code
  else c

/-- A record takes its reset values but SEQ, and its bucket is filled (R450). -/
def Chip.tlyClear (c : Chip) (code : Nat) : Chip :=
  let s := c.word (tlyK code 0)
  let c := c.clearWords (tlyK code 0) (tlyK code 32)
  (((c.setWord (tlyK code 0) s).setWord (tlyK code 16) s).tlySeq code).fillBucket code

/-! ### Flush (R451 to R453) -/

/-- Is an image complete (R453)? -/
def TlyImage.complete (i : TlyImage) : Bool := !i.header.isEmpty && !i.trailer.isEmpty && (i.header.drop 2).take 2 == (i.trailer.drop 2).take 2
/-- FLUSH_SEQ of an image's header. -/
def TlyImage.seq (i : TlyImage) : Nat := wordsNat ((i.header.drop 2).take 2)
/-- The image in a slot. -/
def Chip.tlyImage (c : Chip) (s : Nat) : TlyImage := tab {} c.tly.images s
/-- The image in a slot changes. -/
def Chip.setTlyImage (c : Chip) (s : Nat) (i : TlyImage) : Chip :=
  { c with tly := { c.tly with images := tabPut {} c.tly.images s i } }
/-- The slot that does not hold the newest complete image (R452). -/
def Chip.flushSlot (c : Chip) : Nat :=
  let a := c.tlyImage 0
  let b := c.tlyImage 1
  if a.complete && (!b.complete || b.seq ≤ a.seq) then 1 else 0
/-- FLUSH_SEQ of the last complete image (R455). -/
def Chip.lastFlushSeq (c : Chip) : Nat :=
  ([0, 1] : List Nat).foldl (fun r s => if (c.tlyImage s).complete then max r (c.tlyImage s).seq else r) 0

/-- A flush is requested for REASON bit `r` (R451): it begins, or its bit joins the flush in progress. Log 62, DEDUCED. -/
def Chip.tlyFlush (c : Chip) (r : Nat) : Chip :=
  if !(c.bit (tlyA 0x100) 31 && c.pageOn TLY 0) then c
  else match c.tly.flush with
    | some f =>
      let c := c.setBit (tlyA 0x104) r true
      let i := c.tlyImage f.slot
      c.setTlyImage f.slot { i with header := i.header.set 1 (BitVec.ofNat 32 (2 ^ 24 + c.fld (tlyA 0x104) 0 5)) }
    | none =>
      let seq := c.tly.seq + 1
      let slot := c.flushSlot
      let lo := elemKey tlyStore 0 0
      let recs := c.words.filter fun e => lo ≤ e.1 && e.1 < elemKey (tlyStore + 1) 0 0
      let c := (c.setFld (tlyA 0x104) 0 5 (2 ^ r)).setBit (tlyA 0x104) 30 true
      let t := c.now.toNat
      let id := c.u64 (pageAddr COR 0 0x120)
      let h : List Word := [0x7A11_0F1E#32, BitVec.ofNat 32 (2 ^ 24 + 2 ^ r), wordN seq 0, wordN seq 1, wordN t 0, wordN t 1, wordN t 2,
        wordN id 0, wordN id 1, c.pairWord, c.word (tlyA 0x034), 0, 0, 0, 0, 0]
      let c := c.setTlyImage slot { c.tlyImage slot with header := h }
      { c with tly := { c.tly with flush := some { slot := slot, seq := seq, records := recs }, seq := seq } }.refreshTly

/-- A flush ends without its trailer (R452, R453): the elements written, in element order, up to a free one stand in the slot.
Log 62, DEDUCED. -/
def Chip.tlyAbort (c : Chip) : Chip :=
  match c.tly.flush with
  | none => c
  | some f =>
    let (n, c) := c.freeNat
    let fin := elemKey tlyStore (n % 131073 / 2) (16 * (n % 131073 % 2))
    let i := c.tlyImage f.slot
    let recs := (f.records.filter fun (e : Nat × Word) => e.1 < fin) ++ i.records.filter fun (e : Nat × Word) => fin ≤ e.1
    { c.setTlyImage f.slot { i with records := recs } with tly := { (c.setTlyImage f.slot { i with records := recs }).tly with flush := none } }

/-- TALLY_FLUSH_DONE (R452): the trailer is written, or the image store reported a program error. Log 62, DEDUCED. -/
def Chip.tlyFlushDone (c : Chip) (ok : Bool) : Chip :=
  match c.tly.flush with
  | none => c
  | some f =>
    let reason := c.fld (tlyA 0x104) 0 5
    let c := c.setBit (tlyA 0x104) 30 false
    let c := if ok then c else c.tlyAbort
    let c := { c with tly := { c.tly with flush := none, frozen := natBit reason 0 || natBit reason 4 } }
    let c :=
      if ok then
        let t := c.now.toNat
        let tr : List Word := [0x7A11_E0DF#32, 0, wordN f.seq 0, wordN f.seq 1, wordN t 0, wordN t 1, wordN t 2, 0, 0, 0, 0, 0, 0, 0, 0, 0]
        let c := c.setTlyImage f.slot { c.tlyImage f.slot with records := f.records, trailer := tr }
        ((c.setU64 (tlyA 0x120) f.seq).count (tlyA 0x040)).cause TLY 0 1
      else c.cause TLY 0 2
    c.refreshTly

/-- Element `e` of the store that SEL names (R449, R453). -/
def Chip.tlyElem (c : Chip) (sel e : Nat) : List Word :=
  if sel = 1 then (List.range 16).map fun w => c.word (tlyK (e / 2) (16 * (e % 2) + w))
  else
    let i := c.tlyImage (sel - 0x10)
    let l :=
      if e = 0 then i.header
      else if e = 131073 then i.trailer
      else (List.range 16).map fun w => tabGet wordReset i.records (tlyK ((e - 1) / 2) (16 * ((e - 1) % 2) + w))
    (l ++ List.replicate 16 0).take 16

/-! ### Commands, control and power (R450, R454, R455) -/

/-- A write of TLY_CMD by partition `p` (R450, R451). -/
def Chip.tlyCmdWrite (c : Chip) (p : Nat) (d : Word) : Chip :=
  let op := getBits d 28 4
  if c.bit (tlyStatOf p) 29 || (op = 2 && c.tly.flush.isSome) then c.logErr ecWinBusy p (tlyA 0x114)
  else
    let q : TlyCmd := { p := p, op := op, first := getBits d 0 16, count := c.fld (viewKey p (tlyA 0x118)) 0 17 }
    let c := if op = 2 then c.tlyFlush 3 else c
    { c.setBit (tlyStatOf p) 29 true with tly := { c.tly with cmds := c.tly.cmds ++ [q] } }

/-- CMD_CODE (R450). Log 62, DEDUCED. -/
def Chip.tlyCode (c : Chip) (q : TlyCmd) : Nat :=
  if q.op = 2 then 0
  else if q.op != 1 then 3
  else if q.count = 0 || q.first + q.count > 65536 then 1
  else if !((List.range ((q.first + q.count - 1) / 4096 + 1 - q.first / 4096)).all fun b =>
      c.codeOwner ((q.first / 4096 + b) * 4096) = q.p) then 2
  else 0

/-- TALLY_CMD_DONE (R450): the oldest command has been carried out. -/
def Chip.tlyCmdDone (c : Chip) : Chip :=
  match c.tly.cmds with
  | [] => c
  | q :: r =>
    let c := { c with tly := { c.tly with cmds := r } }
    let code := c.tlyCode q
    let c := if q.op = 1 && code = 0 then c.each (List.range q.count) fun c i => c.tlyClear (q.first + i) else c
    ((c.setFld (tlyStatOf q.p) 24 4 code).setBit (tlyStatOf q.p) 29 false).cause TLY 0 0

/-- A write of 1 to TLY_CTL[28] (R455). -/
def Chip.qlossClear (c : Chip) (d : Word) : Chip := if d.getLsbD 28 then c.setBit (tlyA 0x104) 28 false else c

/-- EN of TLY_CTL changes (R455): events in the queue are discarded with EN = 0. Log 62, DEDUCED. -/
def Chip.tlyEnable (c : Chip) (on : Bool) : Chip :=
  let c := if on then c else { c with tly := { c.tly with queue := [] } }
  (c.setBit (tlyA 0x100) 31 on).refreshTly

/-- R454: the records are lost in CISTERN and below; the images and FLUSH_SEQ stand. -/
def Chip.tlyLost (c : Chip) : Chip :=
  let c := c.tlyAbort
  { c.clearStore tlyStore with tly := { seq := c.tly.seq, images := c.tly.images } }

end Sys2Proof.Machine
end

