-- ==== Sys2Proof/Machine/SafetyUnit.lean ====
section
/-! DEFINITION. The Safety Unit (16_safety_unit): inputs, test pulses, groups, SS1-r, EDM, the parameter set. -/

namespace Sys2Proof.Machine

/-- A register of the SAF page (R481). -/
def safA (o : Nat) : Nat := pageAddr SAF 0 o
/-- SAF_GRP_STAT of a group. -/
def sgrK (g : Nat) : Nat := safA (0x140 + 4 * g)
/-- SAF_STAT.STATE (R482). -/
def Chip.safState (c : Chip) : Nat := c.fld aSafStat 28 4
/-- STATE of a group (R482). -/
def Chip.grpState (c : Chip) (g : Nat) : Nat := c.fld (sgrK g) 28 4

/-! ### The parameter set (R475 to R479) -/

/-- Word `w` of a set. -/
def setWordOf (l : List Word) (w : Nat) : Word := l.getD w 0
/-- TP_p of a set (R476). -/
def setTp (l : List Word) (p : Nat) : Word := setWordOf l (4 + p)
/-- Word `w` of IN_i (R477). -/
def setIn (l : List Word) (i w : Nat) : Word := setWordOf l (12 + 2 * i + w)
/-- Word `w` of GRP_g (R478). -/
def setGrp (l : List Word) (g w : Nat) : Word := setWordOf l (76 + 8 * g + w)
/-- CHECK as a channel computes it, over the first 0x330 bytes (R475). -/
def setCheck (l : List Word) : Nat := crc32 ((l.take 204).flatMap fun w => natBytes 4 w.toNat)

/-- FILT in ticks of an input (R477). -/
def inFilt (l : List Word) (i : Nat) : Nat := getBits (setIn l i 0) 26 4 + 1
/-- N = DT / 250 µs (R463). -/
def inBound (l : List Word) (i : Nat) : Nat := getBits (setIn l i 0) 16 10 * 4
/-- Is the input used, and is it a reset input? -/
def inUsed (l : List Word) (i : Nat) : Bool := (setIn l i 0).getLsbD 31
/-- KIND RESET (R465). -/
def inIsReset (l : List Word) (i : Nat) : Bool := (setIn l i 0).getLsbD 30
/-- The groups an input names for STO, or resets. -/
def inSto (l : List Word) (i : Nat) : Nat := getBits (setIn l i 1) 0 16
/-- The groups an input names for SS1. -/
def inSs1 (l : List Word) (i : Nat) : Nat := if inIsReset l i then 0 else getBits (setIn l i 1) 16 16
/-- Is the group used? -/
def grpUsed (l : List Word) (g : Nat) : Bool := (setGrp l g 0).getLsbD 31

/-- Reserved fields of a set that must be 0 (R476 to R479). -/
def setReserved (l : List Word) : Bool :=
  ((List.range 8).all fun p => getBits (setTp l p) 26 5 = 0 && getBits (setTp l p) 2 14 = 0) &&
  ((List.range 32).all fun i => getBits (setIn l i 0) 0 8 = 0) &&
  ((List.range 16).all fun g => getBits (setGrp l g 0) 21 2 = 0 && getBits (setGrp l g 0) 13 3 = 0 &&
    getBits (setGrp l g 0) 4 4 = 0 && getBits (setGrp l g 6) 8 8 = 0 && setGrp l g 7 = 0#32)

/-- Is a number in a range? -/
def within (lo hi x : Nat) : Bool := lo ≤ x && x ≤ hi

/-- The supply of a line: 0 to 7, or 15 (R477). -/
def supplyOk (x : Nat) : Bool := x ≤ 7 || x = 15

/-- Every field of the items that are used lies in its range (R476 to R478). -/
def setRanges (l : List Word) : Bool :=
  ((List.range 8).all fun p => !(setTp l p).getLsbD 31 || within 10 1000 (getBits (setTp l p) 16 10)) &&
  ((List.range 32).all fun i => !inUsed l i || (within 4 1000 (getBits (setIn l i 0) 16 10) &&
    supplyOk (getBits (setIn l i 0) 12 4) && supplyOk (getBits (setIn l i 0) 8 4))) &&
  ((List.range 16).all fun g => !grpUsed l g ||
    (within 10 1000 (getBits (setGrp l g 6) 16 16) && within 5 50 (getBits (setGrp l g 6) 0 8) &&
      (!(setGrp l g 0).getLsbD 23 || within 10 1000 (getBits (setGrp l g 3) 0 16)) &&
      (!(setGrp l g 0).getLsbD 30 || (setGrp l g 2 != 0#32 && getBits (setGrp l g 3) 16 16 ≤ 10000))))

/-- Is a line's filter long enough for the pulses of its supply (R467, R479)? -/
def filtOk (l : List Word) (i tp : Nat) : Bool :=
  tp > 7 || !(setTp l tp).getLsbD 31 || inFilt l i ≥ getBits (setTp l tp) 0 2 + 3

/-- The supplies of the inputs are possible (R479, code 4). -/
def setSupplies (l : List Word) : Bool :=
  (List.range 32).all fun i =>
    let a := getBits (setIn l i 0) 12 4
    let b := getBits (setIn l i 0) 8 4
    !inUsed l i || (filtOk l i a && filtOk l i b && !(a = b && a != 15))

/-- The masks name groups that can do what they ask (R479, code 5). -/
def setMasks (l : List Word) : Bool :=
  (List.range 32).all fun i => !inUsed l i || ((List.range 16).all fun g =>
    (!(natBit (inSto l i) g || natBit (inSs1 l i) g) || grpUsed l g) &&
    (!natBit (inSs1 l i) g || (setGrp l g 0).getLsbD 30))

/-- No two groups of SS1_EN = 1 share a monitored EDM pair (R479, code 6). -/
def setEdmPairs (l : List Word) : Bool :=
  (List.range 16).all fun g => (List.range g).all fun h =>
    !(grpUsed l g && grpUsed l h && (setGrp l g 0).getLsbD 30 && (setGrp l h 0).getLsbD 30 &&
      (setGrp l g 0).getLsbD 23 && (setGrp l h 0).getLsbD 23 && getBits (setGrp l g 0) 24 4 = getBits (setGrp l h 0) 24 4)

/-- The code of a VERIFY; the two channels computed `ca` and `cb` (R479). Log 63, DEDUCED. Log 34, DEDUCED. -/
def setVerify (l : List Word) (ca cb : Nat) : Nat :=
  if setWordOf l 0 != 0x5AFE_0D01#32 || setWordOf l 1 != 0x0334_0001#32 || !setReserved l then 1
  else if (setWordOf l 204).toNat != ca then 2
  else if !setRanges l then 3
  else if !setSupplies l then 4
  else if !setMasks l then 5
  else if !setEdmPairs l then 6
  else if ca != cb then 7
  else 0

/-! ### Faults and counts (R481, R483, R485) -/

/-- SAF_FAULT_INFO and SAF_FAULT_CNT; the detail is free. Answers the detail. Log 63, DEDUCED. -/
def Chip.safFault (c : Chip) (cause chans idx : Nat) : Nat × Chip :=
  let (f, c) := c.freeNat
  let d := f % 2 ^ 16
  (d, (c.setNat (safA 0x180) (cause * 2 ^ 28 + chans % 4 * 2 ^ 26 + idx % 32 * 2 ^ 16 + d)).count (safA 0x038))

/-- What group `g` holds outside its status. -/
def Chip.sgrp (c : Chip) (g : Nat) : SafeGrp := tab {} c.saf.grps g
/-- What group `g` holds outside its status changes. -/
def Chip.setSgrp (c : Chip) (g : Nat) (x : SafeGrp) : Chip := { c with saf := { c.saf with grps := tabPut {} c.saf.grps g x } }
/-- The state of input `i`. -/
def Chip.sin (c : Chip) (i : Nat) : SafeIn := tab .demand c.saf.inputs i

/-- The state of an input changes; SAF_IN_DEMAND and SAF_IN_FAULT follow (R481). A reset input is never in DEMAND.
Log 63, DEDUCED. -/
def Chip.setSin (c : Chip) (i : Nat) (x : SafeIn) : Chip :=
  let c := { c with saf := { c.saf with inputs := tabPut .demand c.saf.inputs i x } }
  (c.setBit (safA 0x138) i (x = .demand && !inIsReset c.saf.active i)).setBit (safA 0x13C) i (x = .fault)

/-! ### What follows the lines of a group (R248, R249, R282, R471) -/

/-- The lines of group `g` are energised or de-energised: PWM pairs and axes follow. -/
def Chip.grpLines (c : Chip) (g : Nat) (on : Bool) : Chip :=
  let was := c.bit aSafStat g
  let c := c.setBit aSafStat g on
  if was = on then c
  else
    let c := (c.setSgrp g { c.sgrp g with since := 0, followed := false }).pwmSto g
    c.each (c.groupAxes g) fun c a => if on then (c.safeStopEnd a).axisSto a (c.stoAxis a) else c.axisSto a true

/-- Group `g` enters STO (R468, R485). -/
def Chip.grpSto (c : Chip) (g cause : Nat) : Chip :=
  let c := ((c.setFld (sgrK g) 28 4 1).setFld (sgrK g) 24 4 cause).grpLines g false
  (c.cause SAF 0 2).tally (0x0420 + g) cause

/-- Group `g` enters FAULT (R468, R485). -/
def Chip.grpFault (c : Chip) (g cause chans : Nat) : Chip :=
  let c := ((c.setFld (sgrK g) 28 4 4).setFld (sgrK g) 24 4 cause).grpLines g false
  let (_, c) := c.safFault cause chans g
  let c := c.tally (0x0440 + g) cause
  if cause = 6 then c.cause SAF 0 5 else c

/-- The speed of a group over the last WIN ticks as a channel measures it, in counts/s (R469); 0 before WIN ticks.
Log 63, DEDUCED. -/
def chanSpeed (l : List Word) (ch : SafeChan) (g : Nat) : Int :=
  let w := getBits (setGrp l g 0) 0 4 + 1
  let h := tab [] ch.hist g
  match h, h[w]? with
  | now :: _, some old => roundDiv ((now - old) * 4000) w
  | _, _ => 0

/-- Group `g` enters SS1 (R470): the speeds are recorded and the motion side is asked to stop. -/
def Chip.grpSs1 (c : Chip) (g : Nat) : Chip :=
  let l := c.saf.active
  let c := c.setSgrp g { c.sgrp g with v0a := (chanSpeed l c.saf.a g).natAbs, v0b := (chanSpeed l c.saf.b g).natAbs, ss1Ticks := 0 }
  ((c.setFld (sgrK g) 28 4 3).cause SAF 0 3).safeStop (c.groupAxes g)

/-! ### Demands (R462, R464, R468, R484, R487) -/

/-- The inputs that demand, as a mask of the groups they name: for STO, or for SS1. Log 63, DEDUCED. -/
def Chip.inputDemand (c : Chip) (ss1 : Bool) (g : Nat) : Bool :=
  let l := c.saf.active
  (List.range 32).any fun i =>
    inUsed l i && natBit (if ss1 then inSs1 l i else inSto l i) g &&
      (if inIsReset l i then c.sin i = .fault else c.sin i != .run)

/-- The cause of an STO demand on group `g`, if one stands. A request for SS1 on a group without SS1 asks for STO.
Log 63, DEDUCED. -/
def Chip.stoDemand (c : Chip) (g : Nat) : Option Nat :=
  let ss1 := (setGrp c.saf.active g 0).getLsbD 30
  if c.inputDemand false g then some 1
  else if c.bit (safA 0x128) g || (!ss1 && c.bit (safA 0x124) g) then some 5
  else if 2 ≤ c.modState || c.flushing then some 10
  else none

/-- Does an SS1 demand stand on group `g`? Log 63, DEDUCED. -/
def Chip.ss1Demand (c : Chip) (g : Nat) : Bool :=
  (setGrp c.saf.active g 0).getLsbD 30 && (c.inputDemand true g || c.bit (safA 0x124) g)

/-- Both EDM lines of group `g` are active in both channels: the contactor is released (R473). -/
def Chip.edmReleased (c : Chip) (g : Nat) : Bool :=
  let e := getBits (setGrp c.saf.active g 0) 24 4
  natBit c.saf.a.edmA e && natBit c.saf.a.edmB e && natBit c.saf.b.edmA e && natBit c.saf.b.edmB e

/-- Does group `g` monitor its EDM? -/
def Chip.edmOn (c : Chip) (g : Nat) : Bool := (setGrp c.saf.active g 0).getLsbD 23

/-- The conditions of a restart but the request (R472). -/
def Chip.restartReady (c : Chip) (g : Nat) : Bool :=
  c.safState = 2 && c.grpState g = 1 && (c.stoDemand g).isNone && !c.ss1Demand g && (!c.edmOn g || c.edmReleased g)

/-- EDM_RELEASED and RESTART_READY of a group. -/
def Chip.grpFlags (c : Chip) (g : Nat) : Chip :=
  (c.setBit (sgrK g) 23 (c.edmReleased g)).setBit (sgrK g) 22 (c.restartReady g)

/-- A group restarts (R468, R472). -/
def Chip.grpEnable (c : Chip) (g : Nat) : Chip := (c.setFld (sgrK g) 28 4 2).grpLines g true

/-- The demands act on group `g` (R468). Log 63, DEDUCED. -/
def Chip.grpDemand (c : Chip) (g : Nat) : Chip :=
  let st := c.grpState g
  if !(grpUsed c.saf.active g) || !(st = 2 || st = 3) then c
  else match c.stoDemand g with
    | some cause => c.grpSto g cause
    | none => if st = 2 && c.ss1Demand g then c.grpSs1 g else c

/-- The demands act on every group, and the status flags follow. Log 63, DEDUCED. -/
def Chip.safGroups (c : Chip) : Chip :=
  c.each (List.range 16) fun c g => (c.grpDemand g).grpFlags g

/-! ### Reset requests (R464, R465, R468, R472, R484) -/

/-- Both lines of input `i` are accepted inactive in both channels. -/
def Chip.inInactive (c : Chip) (i : Nat) : Bool :=
  !natBit c.saf.a.accA i && !natBit c.saf.a.accB i && !natBit c.saf.b.accA i && !natBit c.saf.b.accB i

/-- Is the cause of a group's fault gone? -/
def Chip.faultGone (c : Chip) (g : Nat) : Bool :=
  let x := c.sgrp g
  !x.readback && x.apart < getBits (setGrp c.saf.active g 0) 0 4 + 1 && (!c.edmOn g || c.edmReleased g)

/-- A reset request for group `g`; `reg` says that it comes from the register. -/
def Chip.resetGroup (c : Chip) (g : Nat) (reg : Bool) : Chip :=
  let l := c.saf.active
  let c := c.each ((List.range 32).filter fun i => inUsed l i && c.sin i = .fault && natBit (inSto l i ||| inSs1 l i) g && c.inInactive i)
    fun c i =>
      if !inIsReset l i then c.setSin i .demand
      else if reg && (List.range 16).all fun h => !natBit (inSto l i) h || (setGrp l h 0).getLsbD 28 then c.setSin i .demand
      else c
  if !grpUsed l g then c
  else if c.grpState g = 4 then (if c.faultGone g then (c.grpSto g (c.fld (sgrK g) 24 4)).grpFlags g else c)
  else if c.restartReady g then (c.grpEnable g).grpFlags g
  else c

/-- Reset requests for the groups of a mask. -/
def Chip.resetGroups (c : Chip) (mask : Nat) (reg : Bool) : Chip :=
  c.each ((List.range 16).filter fun g => natBit mask g) fun c g => c.resetGroup g reg

/-! ### Input faults -/

/-- Input `i` enters FAULT (R463, R464, R467, R485). -/
def Chip.inFault (c : Chip) (i cause chans : Nat) : Chip :=
  let (d, c) := c.safFault cause chans i
  let clear (ch : SafeChan) : SafeChan := { ch with pend := tabPut none ch.pend i none, returned := setNatBit ch.returned i false }
  let c := { c with saf := { c.saf with a := clear c.saf.a, b := clear c.saf.b } }
  (((c.setSin i .fault).cause SAF 0 1).tally (0x0400 + i) d).safGroups

/-- A pending change has found no partner in time (R463). Log 63, DEDUCED. -/
def pendLate (l : List Word) (ch : SafeChan) (i : Nat) : Bool :=
  match tab none ch.pend i with
  | some q => q.ticks > inBound l i
  | none => false

/-- DISCREPANCY_TIMEOUT (R463). Log 63, DEDUCED. -/
def Chip.discrepancy (c : Chip) (i : Nat) : Chip :=
  let l := c.saf.active
  let a := pendLate l c.saf.a i
  let b := pendLate l c.saf.b i
  if inUsed l i && c.sin i != .fault && (a || b) then c.inFault i 11 (b2n a + 2 * b2n b) else c

/-! ### The tick (R457, R461 to R473) -/

/-- One line through its filter: the accepted level and the samples in a row that differ (R461). -/
def filterLine (filt : Nat) (acc smp : Bool) (run : Nat) : Bool × Nat :=
  if acc = smp then (acc, 0) else if run + 1 ≥ filt then (smp, 0) else (acc, run + 1)

/-- An input's lines in one channel (R461 to R463, R465): the channel after, and whether a line completed a change to
inactive. -/
def chanInput (l : List Word) (ch : SafeChan) (s : SafeLines) (faulted : Bool) (i : Nat) : SafeChan × Bool :=
  let f := inFilt l i
  let a0 := natBit ch.accA i
  let b0 := natBit ch.accB i
  let (a, ra) := filterLine f a0 (natBit s.inA i) (tab 0 ch.runs i)
  let (b, rb) := filterLine f b0 (natBit s.inB i) (tab 0 ch.runs (32 + i))
  let ch := { ch with accA := setNatBit ch.accA i a, accB := setNatBit ch.accB i b, runs := tabPut 0 (tabPut 0 ch.runs i ra) (32 + i) rb }
  let down := (a0 && !a) || (b0 && !b)
  let ch := if down then { ch with returned := setNatBit ch.returned i false } else ch
  let put (q : Option SafePend) : SafeChan := { ch with pend := tabPut none ch.pend i q }
  if faulted then (put none, down)
  else match tab none ch.pend i with
    | some q =>
      let q := { q with ticks := q.ticks + 1 }
      let other := if q.lineA then b0 != b && b = q.active else a0 != a && a = q.active
      if q.ticks ≤ inBound l i && other then
        ({ put none with returned := if q.active && a && b then setNatBit ch.returned i true else ch.returned }, down)
      else (put (some q), down)
    | none =>
      if a0 != a && b0 != b && a = b then
        ({ ch with returned := if a then setNatBit ch.returned i true else ch.returned }, down)
      else if a0 != a && !(b0 != b && !b) then (put (some { active := a, lineA := true, ticks := 0 }), down)
      else if b0 != b then (put (some { active := b, lineA := false, ticks := 0 }), down)
      else (ch, down)

/-- An EDM pair's lines in one channel, with their filter of 4 ticks (R473). -/
def chanEdm (ch : SafeChan) (s : SafeLines) (e : Nat) : SafeChan :=
  let (a, ra) := filterLine 4 (natBit ch.edmA e) (natBit s.edmA e) (tab 0 ch.runs (64 + e))
  let (b, rb) := filterLine 4 (natBit ch.edmB e) (natBit s.edmB e) (tab 0 ch.runs (80 + e))
  { ch with edmA := setNatBit ch.edmA e a, edmB := setNatBit ch.edmB e b,
            runs := tabPut 0 (tabPut 0 ch.runs (64 + e) ra) (80 + e) rb }

/-- The counts of a channel move on by a tick; 17 are kept (R469). -/
def chanCounts (ch : SafeChan) (s : SafeLines) (gs : List Nat) : SafeChan :=
  { ch with hist := gs.foldl (fun t g => tabPut [] t g (((s.counts.getD g 0) :: tab [] t g).take 17)) ch.hist }

/-- An input at a tick: both channels, the demand, the return, and a press of a reset input (R462, R465). Log 63, DEDUCED. -/
def Chip.safInput (c : Chip) (s : SafeSample) (i : Nat) : Chip :=
  let l := c.saf.active
  let faulted := c.sin i = .fault
  let (a, da) := chanInput l c.saf.a s.a faulted i
  let (b, db) := chanInput l c.saf.b s.b faulted i
  let c := { c with saf := { c.saf with a := a, b := b } }
  if inIsReset l i then
    let n := tab 0 c.saf.press i
    let put (c : Chip) (n : Nat) : Chip := { c with saf := { c.saf with press := tabPut 0 c.saf.press i n } }
    let on := natBit a.accA i && natBit a.accB i && natBit b.accA i && natBit b.accB i
    if faulted then put c 0
    else if on then put c (n + 1)
    else if c.inInactive i && (tab none a.pend i).isNone && (tab none b.pend i).isNone then
      let c := put c 0
      if within 200 20000 n then c.resetGroups (inSto l i) false else c
    else c
  else match c.sin i with
    | .run => if da || db then (((c.setSin i .demand).count (safA 0x034)).cause SAF 0 0) else c
    | .demand => if natBit a.returned i && natBit b.returned i then c.setSin i .run else c
    | .fault => c

/-- R470 in one channel: is the envelope violated? -/
def overEnvelope (l : List Word) (g v0 ticks v : Nat) : Bool :=
  v * 4000 + (setGrp l g 2).toNat * (ticks - getBits (setGrp l g 3) 16 16 * 4) > (v0 + (setGrp l g 1).toNat) * 4000

/-- A group at a tick: speeds, EDM, readback, SS1 (R469 to R473). -/
def Chip.grpTick (c : Chip) (s : SafeSample) (g : Nat) : Chip :=
  let l := c.saf.active
  let va := chanSpeed l c.saf.a g
  let vb := chanSpeed l c.saf.b g
  let c := c.newResult (safA (0x800 + 16 * g)) (BitVec.ofInt 32 (satS 32 va)) g c.now
  let c := c.newResult (safA (0x808 + 16 * g)) (BitVec.ofInt 32 (satS 32 vb)) (g + 16) c.now
  let x := c.sgrp g
  let on := c.bit aSafStat g
  let rel := c.edmReleased g
  let e := getBits (setGrp l g 0) 24 4
  let dis := natBit c.saf.a.edmA e != natBit c.saf.a.edmB e || natBit c.saf.b.edmA e != natBit c.saf.b.edmB e
  let x := { x with apart := if (va - vb).natAbs > (setGrp l g 5).toNat then x.apart + 1 else 0, since := x.since + 1,
                    followed := x.followed || (if on then !rel && !dis else rel), disagree := if dis then x.disagree + 1 else 0,
                    readback := natBit s.readback g, ss1Ticks := x.ss1Ticks + 1 }
  let reapp := on && (c.sgrp g).followed && rel
  let c := c.setSgrp g x
  let st := c.grpState g
  if !(1 ≤ st && st ≤ 3) then c
  else if x.readback then c.grpFault g 8 3
  else if x.apart ≥ getBits (setGrp l g 0) 0 4 + 1 then c.grpFault g 7 3
  else if c.edmOn g && reapp then c.grpFault g 6 3
  else if st = 3 then
    let vss := (setGrp l g 4).toNat
    if va.natAbs ≤ vss && vb.natAbs ≤ vss then c.grpSto g 2
    else if overEnvelope l g x.v0a x.ss1Ticks va.natAbs || overEnvelope l g x.v0b x.ss1Ticks vb.natAbs then
      ((c.cause SAF 0 4).tally (0x0430 + g) (max va.natAbs vb.natAbs)).grpSto g 4
    else c
  else if (setGrp l g 0).getLsbD 29 && c.restartReady g then c.grpEnable g
  else c

/-- A channel fault (R458): every line is de-energised until module reset. Log 63, DEDUCED. Log 64, DESIGN CHOICE. -/
def Chip.chanFault (c : Chip) (chans : Nat) : Chip :=
  let c := c.each ((List.range 16).filter fun g => c.grpState g != 0) fun c g =>
    (((c.setFld (sgrK g) 28 4 1).setFld (sgrK g) 24 4 9).grpLines g false)
  let (d, c) := c.safFault 9 chans 0
  let c := ((c.setFld aSafStat 28 4 4).setBit aSafStat 27 (!natBit chans 0)).setBit aSafStat 26 (!natBit chans 1)
  (c.cause SAF 0 6).tally 0x0450 d

/-- SAFETY_TICK (R457). Log 63, DEDUCED. -/
def Chip.safTick (c : Chip) (s : SafeSample) : Chip :=
  let st := c.safState
  if !(1 ≤ st && st ≤ 3) || 4 ≤ c.modState then c
  else match s.chFault with
    | some chans => c.chanFault chans
    | none =>
      let l := c.saf.active
      let gs := (List.range 16).filter fun g => grpUsed l g
      let es := gs.map fun g => getBits (setGrp l g 0) 24 4
      let c := { c with saf := { c.saf with a := chanCounts (es.foldl (fun ch e => chanEdm ch s.a e) c.saf.a) s.a gs,
                                            b := chanCounts (es.foldl (fun ch e => chanEdm ch s.b e) c.saf.b) s.b gs } }
      let c := c.each ((List.range 32).filter fun i => inUsed l i) fun c i => c.safInput s i
      let c := (c.setNat (safA 0x130) c.saf.a.accA).setNat (safA 0x134) c.saf.a.accB
      let c := c.each gs fun c g => c.grpTick s g
      c.safGroups

/-- SS1_EXPIRY (R470): the time T_DLY + (v0 + V_TOL - V_SS) / D_MON has run out in a channel. -/
def Chip.ss1Expiry (c : Chip) (g : Nat) : Chip :=
  let l := c.saf.active
  let x := c.sgrp g
  let t := x.ss1Ticks
  let dly := getBits (setGrp l g 3) 16 16 * 4
  let out (v0 : Nat) : Bool := dly ≤ t && (setGrp l g 2).toNat * (t - dly) ≥ (v0 + (setGrp l g 1).toNat - (setGrp l g 4).toNat) * 4000
  if g < 16 && c.grpState g = 3 && (out x.v0a || out x.v0b) then (c.grpSto g 3).grpFlags g else c

/-- EDM_TIMEOUT (R473). -/
def Chip.edmTimeout (c : Chip) (g : Nat) : Chip :=
  let x := c.sgrp g
  let t := getBits (setGrp c.saf.active g 3) 0 16 * 4
  let st := c.grpState g
  if g < 16 && c.edmOn g && 1 ≤ st && st ≤ 3 && ((!x.followed && x.since ≥ t) || x.disagree > t) then
    (c.grpFault g 6 3).grpFlags g
  else c

/-! ### Test pulses (R466, R467, R471) -/

/-- TEST_PULSE_START (R466, R467): `actA` and `actB` are the lines that read active at a sample inside the pulse.
Log 64, DESIGN CHOICE. -/
def Chip.safPulse (c : Chip) (p actA actB : Nat) : Chip :=
  let l := c.saf.active
  if !(p < 8 && (setTp l p).getLsbD 31 && c.drives && 1 ≤ c.safState && c.safState ≤ 3 && c.modState ≤ 3) then c
  else
    let c := c.out (.safePulse p (getBits (setTp l p) 0 2 + 1))
    let bad (tp act acc i : Nat) : Bool :=
      if tp = p then natBit act i else tp ≤ 7 && natBit acc i && !natBit act i
    let is := (List.range 32).filter fun i =>
      inUsed l i && (bad (getBits (setIn l i 0) 12 4) actA c.saf.a.accA i || bad (getBits (setIn l i 0) 8 4) actB c.saf.a.accB i)
    c.each is fun c i =>
      let c := (c.count (safA 0x03C)).cause SAF 0 8
      if c.sin i = .fault then c else c.inFault i 12 (if p < 4 then 1 else 2)

/-- OUTPUT_TEST_PULSE (R471). Log 64, DESIGN CHOICE. -/
def Chip.outPulse (c : Chip) (g ch : Nat) (differs : Bool) : Chip :=
  if !(g < 16 && ch < 2 && c.bit aSafStat g && c.drives) then c
  else
    let c := c.out (.stoPulse g ch (10 * getBits (setGrp c.saf.active g 6) 0 8))
    if differs then ((c.setSgrp g { c.sgrp g with readback := true }).grpFault g 8 (2 ^ ch)).grpFlags g else c

/-! ### Start, commissioning, requests (R459, R479, R480, R484, R487) -/

/-- A set becomes active (R459, R480): every used group in STO, every other OFF; the inputs start anew. Log 63, DEDUCED. -/
def Chip.activateSet (c : Chip) (l : List Word) : Chip :=
  let c := { c with saf := { c.saf with a := {}, b := {}, inputs := [], press := [], grps := [], active := l } }
  let c := ((c.setNat (safA 0x110) (setCheck l)).setWord (safA 0x11C) (setWordOf l 2)).setWord (safA 0x120) (setWordOf l 3)
  let c := (c.setNat (safA 0x13C) 0).setNat (safA 0x138)
    (((List.range 32).filter fun i => inUsed l i && !inIsReset l i).foldl (fun r i => r + 2 ^ i) 0)
  let c := c.each (List.range 16) fun c g => ((c.setNat (sgrK g) (b2n (grpUsed l g) * 2 ^ 28)).grpLines g false).grpFlags g
  c.setFld aSafStat 28 4 2

/-- SAFETY_STARTUP_DONE (R459): the self-tests ended and each channel tried to read and verify the set.
Log 64, DESIGN CHOICE. -/
def Chip.safStartup (c : Chip) (okA okB readA readB : Bool) : Chip :=
  if c.safState != 0 || 4 ≤ c.modState then c
  else if !(okA && okB) then c.chanFault (b2n (!okA) + 2 * b2n (!okB))
  else
    let c := (c.setBit aSafStat 27 true).setBit aSafStat 26 true
    let l := c.saf.stored
    if readA && readB && l.length = 205 && setCheck l = (setWordOf l 204).toNat then c.activateSet l
    else c.setFld aSafStat 28 4 1

/-- Every group is in STO, OFF or FAULT. -/
def Chip.groupsDown (c : Chip) : Bool := (List.range 16).all fun g => c.grpState g != 2 && c.grpState g != 3

/-- A safety command ends (R481). -/
def Chip.safResp (c : Chip) (code : Nat) : Chip := (c.setNat (safA 0x108) (2 ^ 30 + code * 2 ^ 24)).cause SAF 0 7

/-- A keyed write of SAF_CMD (R479, R480, R481). While VERIFY runs a command is refused with code 8. Log 63, DEDUCED. -/
def Chip.safCmd (c : Chip) (d : Word) : Chip :=
  let c := c.setNat (safA 0x104) (getBits d 0 4)
  let st := c.safState
  if c.bit (safA 0x108) 31 then c.setFld (safA 0x108) 24 4 8
  else match getBits d 0 4 with
    | 1 =>
      if (st = 1 || st = 2) && c.groupsDown then
        (({ c with saf := { c.saf with verdict := none } }.setFld aSafStat 28 4 3).safGroups).safResp 0
      else c.safResp 8
    | 2 => if st = 3 then c.setNat (safA 0x108) (2 ^ 31) else c.safResp 8
    | 3 =>
      if st = 3 then ((c.setFld aSafStat 28 4 (if c.saf.active.isEmpty then 1 else 2)).safGroups).safResp 0 else c.safResp 8
    | _ => c

/-- SAFETY_VERIFY_DONE (R479): channel B's CHECK differs from channel A's in the bits of `flip`. -/
def Chip.safVerified (c : Chip) (flip : Word) : Chip :=
  if !c.bit (safA 0x108) 31 then c
  else
    let l := (List.range 205).map fun w => c.word (twAddr SAF (4 * w))
    let ca := setCheck l
    let cb := (BitVec.ofNat 32 ca ^^^ flip).toNat
    let code := setVerify l ca cb
    let c := (c.setNat (safA 0x114) ca).setNat (safA 0x118) cb
    { c with saf := { c.saf with verified := l, verdict := some code } }.safResp code

/-- A keyed write of SAF_CONFIRM (R480). -/
def Chip.safConfirm (c : Chip) (d : Word) : Chip :=
  let c := c.setWord (safA 0x10C) d
  if c.safState != 3 || !c.groupsDown || c.bit (safA 0x108) 31 then c.safResp 8
  else match c.saf.verdict with
    | some 0 =>
      if d != c.word (safA 0x114) || d != c.word (safA 0x118) then c.safResp 2
      else
        let l := c.saf.verified
        let c := { c with saf := { c.saf with stored := l, verdict := none } }
        (((c.activateSet l).count (safA 0x040)).tally 0x0451 (setCheck l)).safResp 0
    | some r => c.safResp r
    | none => c.safResp 8

/-- A write of SAF_SS1_REQ (0x124) or SAF_STO_REQ (0x128): a new bit is a demand (R484). Log 63, DEDUCED. -/
def Chip.safReq (c : Chip) (off : Nat) (d : Word) : Chip :=
  let old := c.nat (safA off)
  -- R535: in MAINTENANCE every bit of SAF_STO_REQ is held at 1
  let new := if off = 0x128 && c.maintenance then 0xFFFF else getBits d 0 16
  let n := popCount 16 (new &&& (old ^^^ 0xFFFF))
  let c := c.setNat (safA off) new
  if n = 0 then c else (c.count (safA 0x034) n).cause SAF 0 0

/-- A keyed write of SAF_RESET_REQ (R484). -/
def Chip.safResetReq (c : Chip) (d : Word) : Chip :=
  let m := ((List.range 16).filter fun g => d.getLsbD g && (setGrp c.saf.active g 0).getLsbD 28).foldl (fun r g => r + 2 ^ g) 0
  c.resetGroups m true

/-- R484: the module gives up control without a ready twin. -/
def Chip.safSurrender (c : Chip) : Chip :=
  let l := c.saf.active
  let pick (ss1 : Bool) : Nat := ((List.range 16).filter fun g => grpUsed l g && (setGrp l g 0).getLsbD 30 = ss1).foldl (fun r g => r + 2 ^ g) 0
  (c.safReq 0x124 (BitVec.ofNat 32 (c.nat (safA 0x124) ||| pick true))).safReq 0x128 (BitVec.ofNat 32 (c.nat (safA 0x128) ||| pick false))

/-- R487: in SUMP and below the channels are off. -/
def Chip.safOff (c : Chip) : Chip :=
  let c := { c with saf := { stored := c.saf.stored } }
  let c := c.each (List.range 16) fun c g => (c.setNat (sgrK g) 0).grpLines g false
  -- what the page shows of the channels, and a VERIFY under way
  let c := ((c.clearWords (safA 0x110) (safA 0x124)).clearWords (safA 0x130) (safA 0x140)).setBit (safA 0x108) 31 false
  c.setNat aSafStat 0

end Sys2Proof.Machine
end

