-- ==== Sys2Proof/Machine/Dipstick.lean ====
section
/-! DEFINITION. Dipstick, the adaptive core voltage and the memory controller's page (01_timing_promise). -/

namespace Sys2Proof.Machine

/-- A register of the Dipstick page (R49). -/
def dipA (o : Nat) : Nat := pageAddr DIP 0 o
/-- DIP_STAT (R52). -/
def aDipStat : Nat := dipA 0x108

/-- ⌈1.10 × LANE_FLOOR⌉ (R31, R32). -/
def Chip.targetLow (c : Chip) : Nat := ceilDiv (110 * c.laneFloor) 100

/-- A keyed write of DIP_TARGET (R32): stored clamped. -/
def Chip.targetWrite (c : Chip) (d : Word) : Chip := c.setNat (dipA 0x104) (clampN c.targetLow 2000 (getBits d 0 16))

/-- A status bit of DIP_STAT; a cause is raised when it becomes set (R55). -/
def Chip.dipBit (c : Chip) (i : Nat) (v : Bool) (cause : Option Nat) : Chip :=
  let was := c.bit aDipStat i
  let c := c.setBit aDipStat i v
  match cause with
  | some n => if v && !was then c.cause DIP 0 n else c
  | none => c

/-- The lowest pace and the lowest-numbered region that has it (R27, R52). -/
def minPace (l : List Nat) : Nat × Nat :=
  (List.range 16).foldl (fun r n => if l.getD n 0 < r.1 then (l.getD n 0, n) else r) (l.getD 0 0, 0)

/-- R34: PACE_LOW after a window with minimum `p`. Log 65, DEDUCED. -/
def Chip.paceLow (c : Chip) (p : Nat) : Chip :=
  let put (c : Chip) (n : Nat) : Chip := { c with dip := { c.dip with lowClear := n } }
  if p * 100 ≤ 105 * c.laneFloor then
    let c := if c.bit aDipStat 0 then c else c.count (dipA 0x110)
    (put c 0).dipBit 0 true (some 0)
  else if !c.bit aDipStat 0 then c
  else if p * 100 < 108 * c.laneFloor then put c 0
  else if c.dip.lowClear + 1 ≥ 100 then (put c 0).dipBit 0 false none
  else put c (c.dip.lowClear + 1)

/-- R31, R34: the core voltage after a window with minimum `p`. -/
def Chip.vcoreStep (c : Chip) (p : Nat) : Chip :=
  let v := c.fld (dipA 0x10C) 0 16
  let t := c.fld (dipA 0x104) 0 16
  let v' :=
    if c.bit aDipStat 0 then min 800 (v + 25)
    else if p < t then min 800 (v + 5)
    else if p ≥ t + 50 && p * 100 ≥ 110 * c.laneFloor then max 550 (v - 5)
    else v
  let c := c.setFld (dipA 0x10C) 0 16 v'
  c.dipBit 3 (c.bit aDipStat 0 && v' = 800) (some 3)

/-- R35: PACE_FLOOR, SHEDDING and the floor timer after a window with minimum `p`. -/
def Chip.paceFloor (c : Chip) (p : Nat) : Chip :=
  let ok := decide (p ≥ c.laneFloor)
  if c.bit aDipStat 1 then
    let good := if ok then c.dip.good + 1 else 0
    if good ≥ 10 then
      let c := { c with dip := { c.dip with good := 0, expired := false } }
      ((c.dipBit 1 false none).dipBit 2 false none).setFld aDipStat 16 6 0
    else
      let t := min 50 (c.fld aDipStat 16 6 + 1)
      let exp := c.dip.expired || (t = 50 && c.fld aDipStat 16 6 = 49)
      { c.setFld aDipStat 16 6 t with dip := { c.dip with good := good, expired := exp } }
  else if ok then c
  else
    let c := (c.count (dipA 0x114)).setFld aDipStat 16 6 0
    let c := (c.dipBit 1 true (some 1)).dipBit 2 true none
    { c with dip := { c.dip with good := 0, recovered := false } }.shedCores

/-- DIPSTICK_WINDOW_END (R27, R28, R31, R34, R35, R54). Log 65, DEDUCED. -/
def Chip.dipWindow (c : Chip) (paces : List Nat) : Chip :=
  let (p, r) := minPace paces
  let c := c.newResult (dipA 0x800) (BitVec.ofNat 32 p) r c.now
  let c := c.each (List.range 16) fun c n => c.newResult (dipA (0x808 + 8 * n)) (BitVec.ofNat 32 (paces.getD n 0)) n c.now
  let c := (c.setFld aDipStat 8 4 r).dipBit 5 (p = 0) (some 6)
  (((c.paceLow p).vcoreStep p).paceFloor p).tlyWindow

/-- PACE_RECOVERY_EXPIRY (R37). -/
def Chip.paceRecovered (c : Chip) : Chip :=
  if c.bit aDipStat 1 then c else { c with dip := { c.dip with recovered := true } }

/-- The request for SS1 on every configured axis: its three parts (R35). -/
def Chip.ss1Request (c : Chip) : Chip :=
  let c := c.safSurrender
  let c := c.each c.prf.enabled fun c a => c.qstopNext a
  c.each ((List.range 96).filter fun p => !c.bit (pwmK p 0x100) 24) fun c p =>
    (c.setBit (pwmK p 0x104) 0 true).refreshPair p

/-- SURRENDERED is set (R35, R55), and Tally is flushed (R451). -/
def Chip.setSurrendered (c : Chip) : Chip := (c.dipBit 4 true (some 2)).tlyFlush 1

/-- The module gives up control without a ready twin (R35, R507). -/
def Chip.giveUpAlone (c : Chip) : Chip := c.ss1Request.setSurrendered

/-! ### The memory controller (R47, R48) -/

/-- MEM_USE_INTERVAL_END (R48): the draws of the nine consumers in 0.1 GB/s. Log 65, DEDUCED. Log 72, DESIGN CHOICE. -/
def Chip.memInterval (c : Chip) (draws : List Nat) : Chip :=
  let c := c.each (List.range 9) fun c k => c.setNat (memA (0x140 + 4 * k)) (draws.getD k 0)
  if (List.range 9).any fun k => draws.getD k 0 > c.nat (memA (0x110 + 4 * k)) then (c.count (memA 0x03C)).cause MEM 0 1 else c

end Sys2Proof.Machine
end

