-- ==== Sys2Proof/Machine/Pair.lean ====
section
/-! DEFINITION. The Pair Unit (17_twin_pair): forming, roles, pin ownership, the Pair Link, the standby's readiness,
surrender, hand-over, repair. -/

namespace Sys2Proof.Machine

/-- A register of the PAI page (R513). -/
def paiA (o : Nat) : Nat := pageAddr PAI 0 o
/-- PAI_CFG. -/
def aPaiCfg : Nat := paiA 0x100
/-- What the Pair Unit holds outside its page changes. -/
def Chip.setPai (c : Chip) (f : Pai → Pai) : Chip := { c with pai := f c.pai }
/-- Is PAI_LAG more than `n` control cycles, a cycle being the period of trigger CYC_TRIG (R502, R503)? -/
def Chip.lags (c : Chip) (n : Nat) : Bool := c.fld (paiA 0x128) 0 24 * 1000 * 65536 > n * c.trigP (c.fld (paiA 0x10C) 0 8)
/-- TIM_CTL.SRC, as the Pair Unit writes it (R499). Log 66, DEDUCED. -/
def Chip.setTimSrc (c : Chip) (v : Nat) : Chip := c.setFld (timA 0x130) 26 3 v
/-- UNREADY_WHY (R516). -/
def Chip.setUnready (c : Chip) (w : Nat) : Chip := c.setFld (paiA 0x124) 8 8 w
/-- TWIN_ALIGNED in PAI_STAT and in every stamp (R342, R515). -/
def Chip.setAligned (c : Chip) (b : Bool) : Chip := (c.setBit aPaiStat 23 b).setBit aTimStat 3 b

/-! ### Roles (R493, R494) -/

/-- The hold-down counts at this module: it is READY and alone prefers to lead, revertively (R510). -/
def Chip.reverts (c : Chip) : Bool :=
  c.role = 5 && c.bit aPaiCfg 30 && c.bit aPaiCfg 29 && (match c.pai.hello with
    | some h => !h.pref
    | none => false)

/-- The hold-down starts, restarts or ends (R510). -/
def Chip.holdDown (c : Chip) : Chip := c.setPai fun x => { x with hdStart := if c.reverts then some c.nowNs else none }

/-- The twin is told this module's role, and whether it stands at PACE_LOW (R498, R510). Log 67, DEDUCED. -/
def Chip.tellStatus (c : Chip) : Chip := c.when c.linkUp (·.out (.pair (.status c.role (c.bit aDipStat 0))))

/-- The pins are given up other than at a planned hand-over: what this module was clocking or sending is cut (R495, R509). -/
def Chip.framesCut (c : Chip) : Chip :=
  let c := { c with fbk := { c.fbk with ch := c.fbk.ch.map fun (e : Nat × Fbk) =>
    (e.1, { e.2 with frame := e.2.frame.map fun (f : AbsFrame) => { f with own := false } }) } }
  c.each (List.range 4) fun c n =>
    match (c.canCtl n).wire with
    | none => c
    | some o =>
      let x := c.canCtl n
      let c := c.setWire n none x.sof x.esi
      c.setCanObj n o (c.canObj n o)

/-- A new role with or without the hold latch: PAIR_ROLE_OUT, the pins and the hold-down follow (R493 to R495, R508); READY_CHANGE is
raised as the module enters or leaves READY (R519; log 66, DEDUCED). -/
def Chip.toRole (c : Chip) (r : Nat) (latch : Bool) : Chip :=
  let was := c.drives
  let c := c.setPai fun x => { x with latch := latch, claim := r = 1 || r = 3, grace := false }
  let c := if c.role = r then c
    else
      let ready := (c.role = 5) != (r = 5)
      ((((c.setFld aPaiStat 28 4 r).count (paiA 0x048)).cause PAI 0 0).tally 0x0460 r).when ready (·.cause PAI 0 1)
  let c := if c.paired then c else c.setAligned false
  let c := if was = c.drives then c else c.pwmPins was
  c.holdDown

/-- PAIR_HOLD_IN as last seen. -/
def Chip.holdIn (c : Chip) : Bool := c.bit aPaiStat 21
/-- PAIR_HOLD_IN and PAIR_ROLE_IN are seen. Log 66, DEDUCED. -/
def Chip.seeHold (c : Chip) (b : Bool) : Chip := c.setBit aPaiStat 21 b
/-- PAIR_ROLE_IN is seen. Log 66, DEDUCED. -/
def Chip.seeRole (c : Chip) (b : Bool) : Chip := c.setBit aPaiStat 20 b

/-- The module becomes LEAD (R494, R499): it takes the latch where PAIR_HOLD_IN is low. -/
def Chip.toLead (c : Chip) (latch : Bool) : Chip :=
  (c.setTimSrc (c.fld aPaiCfg 24 3)).toRole 3 latch

/-- The module becomes SYNCING (R494): `why` is UNREADY_WHY. -/
def Chip.toSyncing (c : Chip) (why : Nat) : Chip :=
  (((c.setUnready why).setTimSrc 2).toRole 4 false).tellStatus

/-! ### Forming (R491, R492, R512) -/

/-- The first check of R491 that fails, 0 for none. Log 66, DEDUCED. -/
def Chip.formWhy (c : Chip) (h : Hello) : Nat :=
  if h.pairId != c.fld aPaiCfg 0 16 then 1
  else if h.part != c.partNo then 2
  else if h.safCrc != c.nat (pageAddr SAF 0 0x110) then 3
  else if h.recipe != (c.cor.recipe.map (·.digest)).getD 0 then 4
  else if h.epoch != (c.cor.base.map (·.epoch)).getD 0 then 5
  else if h.identity = c.wide (pageAddr COR 0 0x120) 8 then 6
  else 0

/-- R492: does this module keep the claim against a twin that claims too? -/
def Chip.keepsClaim (c : Chip) (h : Hello) : Bool :=
  let pref := c.bit aPaiCfg 30
  if pref != h.pref then pref else c.wide (pageAddr COR 0 0x120) 8 < h.identity

/-- The roles are settled once the checks have passed (R492, R494). Log 66, DEDUCED. -/
def Chip.settleRoles (c : Chip) (h : Hello) : Chip :=
  let mine := c.pai.claim
  let own := c.role = 1
  let standby :=
    if mine && h.claim then (if h.leads != own then h.leads else !c.keepsClaim h)
    else !mine && (h.claim || c.bit aPaiStat 20)
  if standby then (c.setPai fun x => { x with bulk := false, agreed := 0 }).toSyncing 1
  else if mine then c.toLead (c.pai.latch || !c.holdIn)
  else c

/-- PAIR_HELLO_RX (R491, R492, R512). -/
def Chip.paiHello (c : Chip) (h : Hello) : Chip :=
  let c := (c.seeHold h.holdIn).seeRole h.roleIn
  if !(c.role = 1 || c.role = 2) then c
  else
    let c := c.setU64 (paiA 0x118) (h.identity % 2 ^ 64)
    let why := c.formWhy h
    let c := c.setFld (paiA 0x124) 24 8 why
    if why != 0 then (if c.role = 2 then c.toRole 1 (!h.holdIn) else c)
    else
      let c := c.setPai fun x => { x with hello := some h, mism := [] }
      let c := c.setBit aPaiStat 22 (!h.tested)
      let c := if h.tested then c else c.cause PAI 0 8
      c.settleRoles h

/-- ROLE_CLAIM_DELAY (R492). -/
def Chip.paiClaim (c : Chip) (roleIn : Bool) : Chip :=
  let c := c.seeRole roleIn
  if c.role != 2 || c.bit aPaiCfg 30 || c.pai.claim then c
  else
    let c := if roleIn then c else c.setPai fun x => { x with claim := true }
    match c.pai.hello with
    | some h => c.settleRoles h
    | none => c

/-- PAIR_LINK_TIMEOUT (R492, R494). -/
def Chip.paiNoLink (c : Chip) (roleIn holdIn : Bool) : Chip :=
  let c := (c.seeRole roleIn).seeHold holdIn
  if c.role = 2 && !c.linkUp && !roleIn then c.toRole 1 (!holdIn) else c

/-- The module becomes OFF (R491, R494): without EN it keeps no link and no hand-over. Log 66, DEDUCED. -/
def Chip.toOff (c : Chip) : Chip :=
  let c := if c.linkUp then ((c.setBit aPaiStat 27 false).setFld aPaiStat 25 2 0).cause PAI 0 4 else c
  let c := (c.setBit aPaiStat 19 false).setPai fun x => { x with hello := none, bulk := false, agreed := 0, lanes := [] }
  c.toRole 0 false

/-- A keyed write by master `m` of PAI_CFG (R494, R514). -/
def Chip.paiCfgWrite (c : Chip) (m : Nat) (d : Word) : Chip :=
  let old := c.word aPaiCfg
  -- R535: EN is held at 0 in MAINTENANCE
  let w := d &&& (if c.maintenance then 0x77FF_FFFF#32 else 0xF7FF_FFFF#32)
  let free := decide (c.role ≤ 1)
  let c := if !free && (w.getLsbD 31 != old.getLsbD 31 || getBits w 0 16 != getBits old 0 16) then c.logErr ecLocked m aPaiCfg else c
  let w := if free then w else putBits (putBits w 31 1 (getBits old 31 1)) 0 16 (getBits old 0 16)
  let c := c.setWord aPaiCfg w
  if c.role = 0 && w.getLsbD 31 then
    let c := c.framesCut.toRole 2 false
    (if w.getLsbD 30 && !c.bit aPaiStat 20 then c.setPai fun x => { x with claim := true } else c).out .hello
  else if c.role = 1 && !w.getLsbD 31 then c.toOff
  else c.holdDown

/-- A keyed write of PAI_CYC (R513). -/
def Chip.paiCycWrite (c : Chip) (d : Word) : Chip :=
  let w := d &&& 0xFFFF_00FF#32
  c.setWord (paiA 0x10C) (if getBits w 16 16 = 0 then putBits w 16 16 1 else w)

/-! ### Readiness (R503, R516) -/

/-- The first condition of R503 that fails, 0 for none; `cycles` is the lag allowed, `link` whether the link counts.
Log 66, DEDUCED. -/
def Chip.unready (c : Chip) (cycles : Nat) (link : Bool) : Nat :=
  if !c.pai.bulk then 1
  else if c.lags cycles then 2
  else if c.pai.agreed < 16 then 3
  else if !c.bit aPaiStat 23 then 4
  else if c.bit aDipStat 1 || !c.dip.recovered then 5
  else if c.bit aPaiStat 18 then 6
  else if link && !c.linkUp then 7
  -- R505: what a mismatch names is copied before the conditions count again
  else if c.pai.mism.any (·.1) then 8
  else 0

/-- A READY or STANDBY_ONLY module leaves that role when a condition is lost; a lost link has its own 20 µs (R494, R503). -/
def Chip.readyCheck (c : Chip) : Chip :=
  if c.role = 5 || c.role = 6 then
    let w := c.unready 2 false
    if w = 0 then c else c.toSyncing w
  else c

/-- What a window of the Dipstick means for the pair (R503, R510): PACE_LOW restarts the hold-down at both modules, and a standby's
conditions follow; `old` is the module before it. -/
def Chip.paceSeen (c old : Chip) : Chip :=
  let c := if c.bit aDipStat 0 && !old.bit aDipStat 0 then c.holdDown.when c.paired (·.tellStatus) else c
  c.readyCheck

/-- STANDBY_READY (R503, R512). -/
def Chip.paiReady (c : Chip) : Chip :=
  if c.role = 4 && !c.pai.failed && c.unready 1 true = 0 then
    let r := if c.bit aPaiStat 22 then 6 else 5
    ((c.setUnready 0).toRole r false).tellStatus
  else c

/-- BULK_COPY_DONE (R219, R503, R505): the words copied stand; re-synchronised slots learn again. Log 66, DEDUCED. -/
def Chip.paiBulk (c : Chip) (copy : List (Nat × Word)) : Chip :=
  if !c.standby then c
  else
    let c := c.each copy fun c e => c.setWord e.1 e.2
    let c := { c with loop := { c.loop with slots := c.loop.slots.map fun (e : Nat × SlotRun) => (e.1, { e.2 with resync := false }) } }
    c.setPai fun x => { x with bulk := true, mism := [] }

/-- A control cycle has passed: an occurrence of CYC_TRIG (R503). -/
def Chip.paiCycle (c : Chip) (n : Nat) : Chip :=
  if c.standby && n = c.fld (paiA 0x10C) 0 8 && c.pai.bulk && c.linkUp && !c.bit aPaiStat 18 && !c.pai.mism.any (·.1) then
    c.setPai fun x => { x with agreed := min 16 (x.agreed + 1) }
  else c

/-- PAIR_TIME_EXCHANGE (R342, R499): the offset from the lead in 2^-16 ns; the standby corrects it and takes the lead's step
and epoch. -/
def Chip.paiTime (c : Chip) (theta : Int) (epoch : Nat) (delta : Option Int) : Chip :=
  if !c.paired then c
  else
    let c :=
      if c.standby then
        let c := match delta with
          | some d => c.applyStep d
          | none => c.offset theta c.t16
        c.setFld aTimStat 16 8 epoch
      else c
    let c := c.setNat (paiA 0x120) (unsigned 32 (satS 32 (roundShift theta 8)))
    (c.setAligned (theta.natAbs ≤ 2 * 65536)).readyCheck

/-! ### Surrender (R505 to R507) -/

/-- The answer of PAI_CMD. -/
def Chip.paiResp (c : Chip) (code : Nat) : Chip := c.setNat (paiA 0x110) (2 ^ 30 + code * 2 ^ 24)

/-- A proposed or pending hand-over is dropped: HANDOVER ends with CODE 6 at the lead (R509). -/
def Chip.paiAbort (c : Chip) : Chip :=
  let open' := c.bit aPaiStat 19 || c.pai.proposal.isSome
  let c := (c.setBit aPaiStat 19 false).setPai fun x => { x with proposal := none }
  if c.role = 3 && open' then c.paiResp 6 else c

/-- A lead releases its pins and its role (R507). -/
def Chip.paiRelease (c : Chip) (cause : Nat) : Chip :=
  let c := (c.setFld (paiA 0x124) 16 8 cause).paiAbort.framesCut.toRole 7 false
  let c := (c.out (.pair (.surrender cause))).tlyFlush 1
  (c.tally 0x0461 cause).cause PAI 0 3

/-- A lead surrenders with a cause; without a ready standby it acts as a module without a twin (R506, R507). -/
def Chip.paiSurrender (c : Chip) (cause : Nat) : Chip :=
  if c.role != 3 then c
  else if c.bit aPaiStat 24 then c.paiRelease cause
  else ((c.setFld (paiA 0x124) 16 8 cause).paiAbort).giveUpAlone

/-- FLOOR_TIMER_EXPIRY (R35, R37, R506). -/
def Chip.floorExpired (c : Chip) : Chip :=
  if !c.dip.expired then c
  else
    let c := { c with dip := { c.dip with expired := false } }
    if c.role = 3 then (if c.bit aPaiStat 24 then (c.paiSurrender 6).setSurrendered else c.paiSurrender 6)
    else if c.role ≤ 2 then c.giveUpAlone
    else c

/-- A digest mismatch: raised in both modules, and the extended self-test runs (R505). Log 66, DEDUCED. -/
def Chip.paiMismatch (c : Chip) (slot : Bool) (key : Nat) : Chip :=
  let c := ((c.cause PAI 0 2).count (paiA 0x03C)).tally 0x0462 key
  let c := (c.setBit aPaiStat 18 true).setPai fun x => { x with agreed := 0, mism := if c.standby then x.mism ++ [(slot, key)] else x.mism }
  if c.role = 5 || c.role = 6 then c.toSyncing 8
  else
    -- the standby leaves READY
    let c := c.when (c.role = 3 && c.bit aPaiStat 24) fun c => (c.setBit aPaiStat 24 false).cause PAI 0 1
    c.holdDown

/-- PAIR_SELFTEST_DONE (R505). Log 66, DEDUCED. -/
def Chip.paiSelfTest (c : Chip) (own peer : Bool) : Chip :=
  if !c.bit aPaiStat 18 then c
  else
    let c := c.setBit aPaiStat 18 false
    if c.role = 3 then
      if own then c
      -- R505 has the lead surrender although its standby has left READY (log 66, DEDUCED)
      else if peer then c.paiRelease 7
      else (c.setFld (paiA 0x124) 16 8 7).giveUpAlone
    else if c.standby then
      if !own then ((c.setPai fun x => { x with failed := true }).toSyncing 6)
      else if peer then
        c.each c.pai.mism fun c e =>
          if e.1 then
            let r := tab {} c.loop.slots e.2
            { c with loop := { c.loop with slots := tabPut {} c.loop.slots e.2 { r with resync := true } } }
          else c
      else c
    else c

/-! ### The hold latch (R495, R508) -/

/-- HOLD_LATCH_REFRESH (R495). -/
def Chip.holdRefresh (c : Chip) : Chip :=
  if c.pai.latch && c.modState ≤ 3 then c.setPai fun x => { x with refreshed := c.nowNs } else c

/-- The latch clears: the pins enter high impedance (R495). -/
def Chip.latchClear (c : Chip) : Chip := c.framesCut.toRole c.role false

/-- HOLD_WATCHDOG_EXPIRY (R495, R506): 8 µs have passed since the last refresh. -/
def Chip.holdWatchdog (c : Chip) : Chip :=
  if !c.pai.latch || c.nowNs < c.pai.refreshed + 8000 then c
  else if c.role = 3 then (c.latchClear).paiSurrender 2
  else (c.latchClear).giveUpAlone

/-- Does the module take the pins when PAIR_HOLD_IN falls (R494, R508, R512)? -/
def Chip.takesPins (c : Chip) : Bool :=
  (c.role = 5 || (c.role = 6 && c.bit aPaiCfg 28)) && c.running && (c.linkUp || c.pai.grace)

/-- HOLD_IN_FALL (R495, R508): a twin that lets go of its pins outside a planned hand-over claims nothing (R507). Log 66, DEDUCED. -/
def Chip.holdFall (c : Chip) : Chip :=
  let c := c.seeHold false
  if c.takesPins then
    (((c.setBit aPaiStat 19 false).setBit aPaiStat 24 false).seeRole false).toLead true
  else if (c.role = 1 || c.role = 3) && !c.pai.latch && c.modState ≤ 3 then c.toRole c.role true
  else c

/-! ### The link (R494, R497) -/

/-- The link goes down (R494). Log 66, DEDUCED. -/
def Chip.linkLost (c : Chip) : Chip :=
  let c := ((c.setBit aPaiStat 27 false).setFld aPaiStat 25 2 0).cause PAI 0 4
  let c := c.setPai fun x => { x with lanes := [] }
  if c.role = 3 then
    (if c.bit aPaiStat 24 then (c.setBit aPaiStat 24 false).cause PAI 0 1 else c).setPai fun x => { x with peerRole := 0 }
  else if c.role = 4 || (c.role = 6 && !c.bit aPaiCfg 28) then (c.setPai fun x => { x with bulk := false, agreed := 0 }).toSyncing 7
  else if c.role = 5 || c.role = 6 then c.setPai fun x => { x with grace := true }
  else c

/-- PAIR_LINK_DOWN (R494). -/
def Chip.paiLinkDown (c : Chip) : Chip := if c.linkUp then c.linkLost else c

/-- PAIR_LINK_UP (R494): the lanes that are up; HELLO blocks are exchanged. -/
def Chip.paiLinkUp (c : Chip) (lanes : Nat) : Chip :=
  if c.role = 0 || c.role = 7 || c.linkUp || lanes % 4 = 0 then c
  else
    let c := ((c.setBit aPaiStat 27 true).setFld aPaiStat 25 2 (lanes % 4)).cause PAI 0 4
    let c := c.setPai fun x => { x with grace := false, lanes := [] }
    if c.role ≤ 2 then c.out .hello else c

/-- LINK_LOST_GRACE_EXPIRY (R494). -/
def Chip.graceEnd (c : Chip) (holdIn : Bool) : Chip :=
  let c := c.seeHold holdIn
  if !c.pai.grace then c
  else if holdIn then (c.setPai fun x => { x with bulk := false, agreed := 0 }).toSyncing 7
  else c.holdFall

/-- PAIR_LANE_DOWN (R497, R519). -/
def Chip.laneDown (c : Chip) (l : Nat) : Chip :=
  if l < 2 && c.bit aPaiStat (25 + l) then
    let c := ((c.setBit aPaiStat (25 + l) false).count (paiA 0x038)).cause PAI 0 5
    let c := (c.tally 0x0464 l).setPai fun x => { x with lanes := tabPut {} x.lanes l {} }
    if c.fld aPaiStat 25 2 = 0 then c.linkLost else c.holdDown
  else c

/-- PAIR_LANE_RETURN (R497). -/
def Chip.laneReturn (c : Chip) (l : Nat) : Chip :=
  if l < 2 && !c.bit aPaiStat (25 + l) && c.role != 0 then
    if c.linkUp then c.setBit aPaiStat (25 + l) true else c.paiLinkUp (2 ^ l)
  else c

/-- The held blocks that follow in order are delivered (R497). -/
def drainHeld (x : LaneRx) : Nat → LaneRx × List PairMsg
  | 0 => (x, [])
  | n + 1 =>
    match x.held.find? fun e => e.1 = x.expect with
    | none => (x, [])
    | some e =>
      let (y, l) := drainHeld { expect := (x.expect + 1) % 65536, held := x.held.filter fun q => q.1 != e.1 } n
      (y, e.2 :: l)

/-- PAIR_LINK_BLOCK_RX (R497): a block of a lane is checked; the messages that it delivers, in order. Log 67, DEDUCED. -/
def Chip.paiBlock (c : Chip) (l seq : Nat) (ok nak : Bool) (msg : PairMsg) : Chip × List PairMsg :=
  if !(l < 2 && c.bit aPaiStat (25 + l)) then (c, [])
  else
    let c := if nak then c.count (paiA 0x034) else c
    if !ok then (c.out (.nak l seq), [])
    else
      let x := tab {} c.pai.lanes l
      let put (y : LaneRx) : Chip := c.setPai fun p => { p with lanes := tabPut {} p.lanes l y }
      if seq % 65536 = x.expect then
        let (y, r) := drainHeld { x with expect := (x.expect + 1) % 65536 } x.held.length
        (put y, msg :: r)
      else if (seq % 65536 + 65536 - x.expect) % 65536 < 256 && !(x.held.any fun e => e.1 = seq % 65536) then
        (put { x with held := x.held ++ [(seq % 65536, msg)] }, [])
      else (c, [])

/-! ### Planned hand-over (R509, R510, R517) -/

/-- HANDOVER (R509, R512, R517): B is proposed, or the command is refused. -/
def Chip.paiHandover (c : Chip) : Chip :=
  let t := c.fld aPaiCfg 16 8
  if c.role != 3 then c.paiResp 1
  else if c.pai.peerRole = 6 then c.paiResp 3
  else if !c.bit aPaiStat 24 then c.paiResp 2
  else if c.bit aPaiStat 19 || c.pai.proposal.isSome then c.paiResp 4
  else if !c.bit (trgK t 0) 31 then c.paiResp 5
  else
    let b := c.gridFrom t (c.t16 + 500000 * 65536) / 65536
    ((c.setNat (paiA 0x110) (2 ^ 31)).setPai fun x => { x with proposal := some b }).out (.pair (.propose b))

/-- A keyed write of PAI_CMD (R517). Log 66, DEDUCED. -/
def Chip.paiCmd (c : Chip) (d : Word) : Chip :=
  let op := getBits d 0 4
  let c := c.setNat (paiA 0x104) op
  match op with
  | 1 => c.paiHandover
  | 2 =>
    if c.standby then ((c.setPai fun x => { x with bulk := false, agreed := 0 }).toSyncing 1).paiResp 0 else c.paiResp 1
  | 3 =>
    if (c.role = 2 || c.standby) && c.bit aPaiStat 20 then
      ((c.setBit aPaiCfg 31 false).toOff).paiResp 0
    else c.paiResp 1
  | 4 => if c.role = 3 then (c.paiSurrender 8).paiResp 0 else c.paiResp 1
  | _ => c.paiResp 7

/-- HANDOVER_CHECK (R509): at B - 20 µs; a proposal that has not been accepted by then is dropped. Log 66, DEDUCED. -/
def Chip.paiCheck (c : Chip) : Chip :=
  let late := match c.pai.proposal with
    | some b => decide (b ≤ c.nowNs + 20000)
    | none => false
  if late then c.paiAbort
  else if !c.bit aPaiStat 19 || c.nowNs + 20000 < c.u64 (paiA 0x130) then c
  else
    let bad := if c.role = 3 then !c.bit aPaiStat 24 else c.role != 5
    if bad || c.lags 1 then c.paiAbort.out (.pair .abortHandover) else c

/-- HANDOVER_INSTANT (R509): at B the hold and role lines change as R509 says. A CAN frame of the former lead, and an encoder's frame,
still end at it. Log 66, DEDUCED. -/
def Chip.paiInstant (c : Chip) : Chip :=
  if !c.bit aPaiStat 19 || c.nowNs < c.u64 (paiA 0x130) then c
  else
    let c := c.setBit aPaiStat 19 false
    if c.role = 3 then
      let c := c.each (List.range 4) fun c n => c.setCanCtl n { c.canCtl n with turn := (c.canCtl n).wire.isSome }
      let c := ((((c.setTimSrc 2).setBit aPaiStat 24 false).seeHold true).seeRole true).setPai fun x => { x with bulk := true, agreed := 16 }
      ((c.toRole 5 false).setUnready 0).paiResp 0
    else if c.role = 5 then
      ((((c.seeHold false).seeRole false).toLead true).setBit aPaiStat 24 true).setPai fun x => { x with planned := true, peerRole := 5 }
    else c

/-- HOLD_STUCK_CHECK (R509): at B + 100 ns. -/
def Chip.paiStuck (c : Chip) (holdIn : Bool) : Chip :=
  let c := c.seeHold holdIn
  if c.role = 3 && c.pai.planned && c.nowNs ≥ c.u64 (paiA 0x130) + 100 then
    let c := c.setPai fun x => { x with planned := false }
    if holdIn then (c.setBit aPaiStat 17 true).cause PAI 0 9 else c
  else c

/-- What is left of the hold-down in ms (R510, R513). -/
def Chip.hdLeft (c : Chip) : Nat :=
  match c.pai.hdStart with
  | none => 0
  | some t => c.fld (paiA 0x10C) 16 16 * 1000 - (c.nowNs - t) / 1000000

/-- HOLD_DOWN_EXPIRY (R510): the preferred module asks the lead for a planned hand-over. -/
def Chip.hdExpiry (c : Chip) : Chip :=
  match c.pai.hdStart with
  | some t =>
    if c.reverts && c.nowNs ≥ t + c.fld (paiA 0x10C) 16 16 * 1000000000 then
      (c.setPai fun x => { x with hdStart := none }).out (.pair .askHandover)
    else c
  | none => c

/-! ### Mirror regions and repair (R502, R511, R518) -/

/-- A write by master `m` of a word of the mirror table: only in OFF or ALONE (R518). -/
def Chip.mirrorWrite (c c' : Chip) (m a : Nat) : Chip := if c.role ≤ 1 then c' else c.logErr ecLocked m a

/-- A repair ends (R511, R519): counted and raised. -/
def Chip.repairEnd (c : Chip) (ok : Bool) (a : Nat) : Chip :=
  if ok then ((c.count (paiA 0x040)).cause PAI 0 6).tally 0x0463 (a / 4 % 2 ^ 32)
  else (c.count (paiA 0x044)).cause PAI 0 7

/-- REPAIR_COMPLETE for a poisoned element on die (R511): the twin's copy is written back, or the repair fails. -/
def Chip.repairElem (c : Chip) (key : Nat) (data : List Word) (ok : Bool) : Chip :=
  if !tab false c.elemPoison key then c
  else if ok && c.linkUp && c.paired then
    let c := c.each data.zipIdx fun c e => c.setWord (key + e.2) e.1
    { c with elemPoison := tabPut false c.elemPoison key false }.repairEnd true key
  else c.repairEnd false key

/-- R219: the standby holds the lead's digest of a repetition against its own; on a mismatch the slot's segments are to be copied from
the lead, and its update is frozen meanwhile. Log 45, DEDUCED. Log 66, DEDUCED. -/
def Chip.learnCompare (c : Chip) (s : Nat) : Chip :=
  let r := c.slotRun s
  match r.peer with
  | some (n, d) =>
    if c.nat (lrnK s 15) != n then c
    else
      let c := c.setSlotRun s { r with peer := none, resync := r.resync || d != c.word (lrnK s 13) }
      if d = c.word (lrnK s 13) then c else (c.paiMismatch true s).out (.pair (.mismatch true s))
  | none => c

/-- R511: the twin's copy of an element on die. -/
def Chip.elemCopy (c : Chip) (key : Nat) : PairMsg :=
  .repairCopy true key ((List.range 16).map fun w => c.word (key + w)) (!tab false c.elemPoison key)

/-! ### Messages (R498 to R511) -/

/-- A message of the twin; forwarded host writes are applied by the bus, a DRAM block is read where DRAM is, and a copy that was asked for
is written by REPAIR_COMPLETE. Log 67, DEDUCED. -/
def Chip.paiMsg (c : Chip) (msg : PairMsg) : Chip :=
  match msg with
  | .status r low =>
    let c := c.setPai fun x => { x with peerRole := r }
    let c := if c.role = 3 && (r = 5) != c.bit aPaiStat 24 then (c.setBit aPaiStat 24 (r = 5)).cause PAI 0 1 else c
    if low then c.holdDown else c
  | .surrender _ => c
  | .propose b =>
    if c.role = 5 then ((c.setBit aPaiStat 19 true).setU64 (paiA 0x130) b).out (.pair (.accept b)) else c
  | .accept b =>
    if c.role = 3 && c.pai.proposal = some b then
      ((c.setBit aPaiStat 19 true).setU64 (paiA 0x130) b).setPai fun x => { x with proposal := none }
    else c
  | .abortHandover => if c.bit aPaiStat 19 then c.paiAbort else c
  | .askHandover => if c.role = 3 then c.paiHandover else c
  | .hostWrite _ _ _ _ => c
  | .shadow p off data s arm b => if c.standby && p < 96 then c.shadowFwd p { off := off, words := data, stamp := s, arm := arm } b else c
  | .convResult i e data info gen s => if c.standby && i < 4 && e < 32 then c.cnvForward i e data info gen s else c
  | .canOutcome n o ok lec sof =>
    if c.paired && n < 4 && o < 128 && (c.canCtl n).wire != some o then
      match (c.canObj n o).cur with
      | some q => (c.setCanObj n o { cur := (c.canObj n o).next }).canOutcome n o q ok lec sof
      | none => c
    else c
  | .digest slot key agrees =>
    if c.standby && !agrees then (c.paiMismatch slot key).out (.pair (.mismatch slot key)) else c
  | .mismatch slot key => if c.paired then c.paiMismatch slot key else c
  | .mirror a data age =>
    if c.standby then ((c.toDram [(a, data)]).setFld (paiA 0x128) 0 24 (min (2 ^ 24 - 1) age)).readyCheck else c
  | .learnDigest s n d =>
    if c.standby then (c.setSlotRun s { c.slotRun s with peer := some (n, d) }).learnCompare s else c
  | .repair elem key => if elem then c.out (.pair (c.elemCopy key)) else c
  | .repairCopy _ _ _ _ => c

/-- R495: entry to SUMP or below clears the latch. -/
def Chip.paiSump (c : Chip) : Chip := if c.pai.latch then c.latchClear else c

end Sys2Proof.Machine
end

