-- ==== Sys2Proof/Machine/ImageAuthority.lean ====
section
/-! DEFINITION. The Image Authority (18_boot_images_security): verification, slots and trials, boot, MAINTENANCE, key orders,
attestation, and the reactions of the Core Cluster. Its readings: log 22, DEDUCED. -/

namespace Sys2Proof.Machine

/-- A register of COR instance 0 (R541). -/
def corA (o : Nat) : Nat := pageAddr COR 0 o
/-- A register of attestation page `1 + p` (R538). -/
def attA (p o : Nat) : Nat := pageAddr COR (1 + p) o
/-- What the Image Authority holds behind its registers changes. -/
def Chip.setCor (c : Chip) (f : Cor → Cor) : Chip := { c with cor := f c.cor }

/-! ### Images (R520, R524, R525, R528) -/

/-- A little-endian number of an image's header (R524). -/
def hdrNat (h : List Byte) (off n : Nat) : Nat := bytesNat ((h.drop off).take n)

/-- The partner entry `i` of a header (R525). -/
def hdrPartner (h : List Byte) (i : Nat) : Partner :=
  let o := 0x100 + 12 * i
  { kind := hdrNat h o 1, epoch := hdrNat h (o + 2) 2, lo := hdrNat h (o + 4) 4, hi := hdrNat h (o + 8) 4 }

/-- Check 1 of R528: MAGIC, HDR_VER, KIND and the reserved bytes (R524, R525). -/
def hdrForm (h : List Byte) : Bool :=
  let n := hdrNat h 0x68 2
  let zero (o k : Nat) : Bool := ((h.drop o).take k).all (· == 0)
  hdrNat h 0 4 == 0x1A6E_B0D7 && hdrNat h 4 2 == 1 && 1 ≤ hdrNat h 6 1 && hdrNat h 6 1 ≤ 3 && n ≤ 64 &&
    zero 0x6A 150 && zero 0x188D 1907 && zero (0x100 + 12 * n) (12 * (64 - n)) &&
    (List.range n).all fun i => zero (0x101 + 12 * i) 1

/-- The image whose 8 KiB header is given (R524). -/
def parseImage (h : List Byte) : Image :=
  { formOk := hdrForm h, kind := hdrNat h 6 1, keySlot := hdrNat h 7 1, ver := hdrNat h 8 4, secVer := hdrNat h 0xC 4,
    epoch := hdrNat h 0x10 2, part := hdrNat h 0x12 2, expSafety := hdrNat h 0x14 4, bodyLen := hdrNat h 0x18 8,
    digest := hdrNat h 0x20 64, partners := (List.range (hdrNat h 0x68 2)).map (hdrPartner h) }

/-- State of key slot `k`: 0 EMPTY, 1 ACTIVE, 2 REVOKED (R526, R541). -/
def Chip.keyState (c : Chip) (k : Nat) : Nat := c.cor.keyStat / 2 ^ (2 * k) % 4

/-- The ACTIVE slots of a class: 0 vendor, 1 customer (R526). -/
def Chip.activeKeys (c : Chip) (cls : Nat) : Nat := ((List.range 4).filter fun i => c.keyState (4 * cls + i) = 1).length

/-- Check 2 of R528: KEY_SLOT names an ACTIVE slot of the class that R520 requires. -/
def Chip.keyOk (c : Chip) (i : Image) : Bool :=
  i.keySlot < 8 && c.keyState i.keySlot = 1 &&
    match i.kind with
    | 1 => i.keySlot < 4
    | 2 => if c.activeKeys 1 > 0 then 4 ≤ i.keySlot else i.keySlot < 4
    | _ => true

/-- The security counter of a kind: 0 base, 1 recipe (R527). -/
def Chip.secOf (c : Chip) (k : Nat) : Nat := if k = 0 then c.cor.secCnt / 256 % 256 else c.cor.secCnt % 256

/-- The bytes that a slot of the image's KIND holds (R522); a key order has none and its body is 72 bytes (R530). -/
def imageFits (i : Image) (len : Option Nat) : Bool :=
  (match i.kind with
   | 1 => 0x2000 + i.bodyLen ≤ 64 * 2 ^ 20
   | 2 => 0x2000 + i.bodyLen ≤ 256 * 2 ^ 20
   | _ => i.bodyLen = 72) &&
  match len with
  | some n => 0x2000 + i.bodyLen ≤ n
  | none => true

/-- VERIFY_WHY (R528), 0 when every check passes. `want` are the KINDs asked for, `len` the staged bytes; `bad` is the check
among 3, 4, 6 and 7 that fails by its key, signature, storage or digest. Log 21, DESIGN CHOICE. -/
def Chip.verifyWhy (c : Chip) (i : Image) (want : List Nat) (len : Option Nat) (bad : Nat) : Nat :=
  if !i.formOk || !want.contains i.kind then 1
  else if !c.keyOk i then 2
  else if bad = 3 then 3
  else if bad = 4 then 4
  else if i.kind ≤ 2 && i.secVer < c.secOf (i.kind - 1) then 5
  else if !imageFits i len || bad = 6 then 6
  else if bad = 7 then 7
  else 0

/-- The partner is listed (R525). -/
def Image.lists (i : Image) (kind epoch ver : Nat) : Bool :=
  i.partners.any fun p => p.kind = kind && p.epoch = epoch && p.lo ≤ ver && ver ≤ p.hi

/-! ### Registers that show what the Image Authority holds (R541) -/

/-- COR_IMG_k shows slot `k`; an invalid slot reads 0. -/
def Chip.showSlot (c : Chip) (k : Nat) : Chip :=
  let a := corA (0x160 + 16 * k)
  match tab none c.cor.slots k with
  | some i => (((c.setNat a i.ver).setNat (a + 4) i.secVer).setNat (a + 8) (2 ^ 31 + i.epoch % 65536)).setNat (a + 12) i.keySlot
  | none => c.setWide a 4 0

/-- The registers that show slots, keys and counters. -/
def Chip.showCor (c : Chip) : Chip :=
  ((c.each (List.range 4) fun c k => c.showSlot k).setNat (corA 0x10C) c.cor.keyStat).setNat (corA 0x110) c.cor.secCnt

/-- The boot record of a kind. -/
def Chip.bootRec (c : Chip) (k : Nat) : BootRec := tab {} c.cor.recs k
/-- The boot record of a kind is written (R523). -/
def Chip.setBootRec (c : Chip) (k : Nat) (r : BootRec) : Chip := c.setCor fun x => { x with recs := tabPut {} x.recs k r }

/-- COR_STATE: the lowest bit of the kind's slot, trial and tries fields (R541). -/
def runFld (k : Nat) : Nat := if k = 0 then 24 else 20
/-- The module runs a trial of the kind (R531, R541). -/
def Chip.onTrial (c : Chip) (k : Nat) : Bool := c.bit aCorState (runFld k + 2)
/-- The running slot of the kind: 0 A, 1 B (R541). -/
def Chip.imgSlot (c : Chip) (k : Nat) : Nat := c.fld aCorState (runFld k + 3) 1
/-- The image of the kind that runs. -/
def Chip.runImage (c : Chip) (k : Nat) : Option Image := if k = 0 then c.cor.base else c.cor.recipe

/-! ### Boot (R529, R532, R534 to R536) -/

/-- A slot is tried: the image, when it verifies; a refusal shows in VERIFY_WHY and in Tally (R532). An empty or invalid slot
fails check 1. Log 21, DESIGN CHOICE. -/
def Chip.trySlot (c : Chip) (k s bad : Nat) : Option Image × Chip :=
  let img := tab none c.cor.slots (2 * k + s)
  let why := match img with
    | some i => c.verifyWhy i [k + 1] none bad
    | none => 1
  if why = 0 then (img, c) else (none, (c.setFld aCorState 0 8 why).tally 0x0481 (why + s * 256))

/-- The image of a kind runs from slot `s`. -/
def Chip.runs (c : Chip) (k s : Nat) (trial : Bool) (i : Image) : Chip :=
  let c := c.setFld aCorState (runFld k) 4 (8 * s + 4 * b2n trial + (if trial then (c.bootRec k).tries else 0))
  c.setCor fun x => if k = 0 then { x with base := some i } else { x with recipe := some i }

/-- R532: the slot of a kind is chosen; `bad k` is the failing check of a slot. Log 23, DESIGN CHOICE. -/
def Chip.choose (c : Chip) (k : Nat) (bad : List Nat) : Chip :=
  let b (s : Nat) : Nat := bad.getD (2 * k + s) 0
  let r := c.bootRec k
  let t := min r.tries r.backup
  let c := c.setBootRec k { r with tries := t, backup := t }
  -- step 1: the trial
  let (done, c) := match r.pending with
    | some p =>
      if t > 0 then
        let c := c.setBootRec k { r with tries := t - 1, backup := t - 1 }
        match c.trySlot k p (b p) with
        | (some i, c) => (true, c.runs k p true i)
        | (none, c) => (false, c)
      else (false, c)
    | none => (false, c)
  if done then c
  else
    -- step 2: the ACTIVE slot
    let c := c.setBootRec k { active := r.active }
    match c.trySlot k r.active (b r.active) with
    | (some i, c) => c.runs k r.active false i
    | (none, c) =>
      -- step 3: the other slot
      let o := 1 - r.active
      match c.trySlot k o (b o) with
      | (some i, c) =>
        let c := (c.setBootRec k { active := o }).runs k o false i
        let (v, c) := c.freeNat
        (c.cause COR 0 2).tally 0x0483 v
      | (none, c) => c

/-- COMPAT_WHY (R534), 0 when every check passes, with TYPE, EPOCH and version of the partner that is not listed. -/
def Chip.compatWhy (c : Chip) (base : Image) : Nat × Nat × Nat × Nat :=
  let hw := c.nat (corA 0x114)
  if base.part != 0xFFFF && base.part != c.partNo then (1, 0, 0, 0)
  else if !base.lists 1 0 hw then (2, 1, 0, hw)
  else match c.cor.recipe with
    | none => (6, 0, 0, 0)
    | some r =>
      if r.epoch != base.epoch then (3, 0, 0, 0)
      else if !r.lists 2 base.epoch base.ver then (4, 2, base.epoch, base.ver)
      else if r.expSafety != 0 && r.expSafety != c.nat (pageAddr SAF 0 0x110) then (5, 0, 0, 0)
      else (0, 0, 0, 0)

/-- R536: the Image Authority's own maintenance service for partition 8. -/
def Chip.service (c : Chip) : Chip :=
  let c := (c.setU64 (twAddr HST 0x2000) 0).setNat (twAddr HST 0x2008) 256
  let c := c.setFld (twAddr HST 0x200C) 0 2 3
  c.setFld (corA PG_OWNER) 16 4 8

/-- R535: MAINTENANCE with a code. -/
def Chip.enterMaintenance (c : Chip) (why : Nat) : Chip :=
  let c := (c.setFld aCorState 28 4 2).setFld aCorState 8 8 why
  let c := c.setFld (pageAddr SAF 0 0x128) 0 16 0xFFFF
  let c := (c.setBit (pageAddr NET 127 0x100) 31 false).setBit aPaiCfg 31 false
  ((c.tlyFlush 2).tally 0x0482 why).cause COR 0 1

/-- BOOT_COMPLETE (R529): images chosen and checked, DRAM trained, cores released or held. Log 24, DEDUCED. -/
def Chip.bootComplete (c : Chip) (bad : List Nat) : Chip :=
  if c.fld aCorState 28 4 != 0 then c
  else
    let c := (c.setBit (pageAddr MEM 0 0x100) 31 true).showCor
    let c := c.choose 0 bad
    let c := match c.cor.base with
      | none => (c.setFld aCorState 28 4 3).service
      | some base =>
        let c := c.choose 1 bad
        let (why, kind, epoch, ver) := c.compatWhy base
        if why = 0 then (c.setFld aCorState 28 4 1).setCor fun x => { x with halted := 0 }
        else
          let c := ((c.setNat (corA 0x150) kind).setNat (corA 0x154) epoch).setNat (corA 0x158) ver
          let c := c.enterMaintenance why
          if why ≤ 2 then c.service else c.setCor fun x => { x with halted := 0 }
    let c := c.showCor
    c.tally 0x0480 (c.nat aCorState)

/-! ### Commands (R530, R531, R533, R541) -/

/-- The Image Authority's own service answers WRITE_SLOT, KEY_ORDER and RESTART only (R536). -/
def Chip.ownService (c : Chip) : Bool :=
  c.fld aCorState 28 4 = 3 || (c.maintenance && c.fld aCorState 8 8 ≤ 2)

/-- A command that is accepted becomes busy; its answer follows with COR_CMD_DONE (R541). -/
def Chip.corBusy (c : Chip) (x : CorCmd) : Chip := (c.setNat (corA 0x108) (2 ^ 31)).setCor fun y => { y with cmd := some x }

/-- Is a command taken? None while one is in progress, and in the service of R536 only those it answers. -/
def Chip.corTakes (c : Chip) (op : Nat) : Bool := c.cor.cmd.isNone && (!c.ownService || op = 2 || op = 4 || op = 5)

/-- The staged image (R531). `rd` reads DRAM. -/
def Chip.stagedImage (c : Chip) (rd : Nat → Nat → List Byte) : Image := parseImage (rd (c.u64 (corA 0x140)) 0x2000)

/-- STAGE_CHECK (R528, R541). -/
def Chip.stageCheck (c : Chip) (rd : Nat → Nat → List Byte) (bad : Nat) : Chip :=
  if !c.corTakes 1 then c
  else if !c.running then c.corBusy { op := 1, code := 14 }
  else
    let why := c.verifyWhy (c.stagedImage rd) [1, 2, 3] (some (c.nat (corA 0x148))) bad
    c.corBusy { op := 1, code := why, why := why }

/-- WRITE_SLOT (R531): verified; the slot that is not ACTIVE is marked invalid while it is programmed. -/
def Chip.writeSlot (c : Chip) (rd : Nat → Nat → List Byte) (bad : Nat) : Chip :=
  if !c.corTakes 2 then c
  else if !c.running then c.corBusy { op := 2, code := 14 }
  else
    let i := c.stagedImage rd
    let why := c.verifyWhy i [1, 2] (some (c.nat (corA 0x148))) bad
    let k := i.kind - 1
    if why != 0 then c.corBusy { op := 2, code := why, why := why }
    else if c.onTrial k then c.corBusy { op := 2, code := 13 }
    else
      let s := 2 * k + (1 - (c.bootRec k).active)
      let c := (c.setCor fun x => { x with slots := tabPut none x.slots s none }).showSlot s
      c.corBusy { op := 2, code := 0, write := some (s, { i with body := rd (c.u64 (corA 0x140) + 0x2000) i.bodyLen }) }

/-- CONFIRM (R533): the trial's slot becomes ACTIVE and the counter advances. Without a trial its code is free.
Log 23, DESIGN CHOICE. -/
def Chip.corConfirm (c : Chip) : Chip :=
  if !c.corTakes 3 then c
  else if !c.running then c.corBusy { op := 3, code := 14 }
  else
    let k := c.fld (corA 0x14C) 0 1
    match c.runImage k with
    | some i =>
      if c.onTrial k && (c.bootRec k).pending = some (c.imgSlot k) then
        let s := c.imgSlot k
        let n := max (c.secOf k) (min i.secVer 64)
        let c := c.setBootRec k { active := s }
        let c := c.setFld aCorState (runFld k) 3 0
        let c := c.setCor fun x => { x with secCnt := if k = 0 then n * 256 + x.secCnt % 256 else x.secCnt / 256 * 256 + n }
        c.showCor.corBusy { op := 3, code := 0 }
      else
        let (v, c) := c.freeNat
        c.corBusy { op := 3, code := v }
    | none =>
      let (v, c) := c.freeNat
      c.corBusy { op := 3, code := v }

/-- The code of a key order (R530), 0 when it is accepted. -/
def Chip.orderCode (c : Chip) (signer op slot target : Nat) : Nat :=
  if target != c.wide (corA 0x120) 8 then 9
  else if op = 1 && slot < 8 && c.keyState slot != 0 then 10
  else if op = 2 && slot < 8 && (c.keyState slot != 1 || c.activeKeys (slot / 4) = 1) then 11
  else if slot ≥ 8 then 12
  else if signer < 4 then
    if slot < 4 || (op = 1 && (List.range 4).all fun i => c.keyState (4 + i) = 0) then 0 else 12
  else if slot < 4 then 12
  else 0

/-- KEY_ORDER (R530): verified and checked; the slot is fused when the command ends. A reserved OP of an order fuses nothing
and its code is free. Log 23, DESIGN CHOICE. -/
def Chip.keyOrder (c : Chip) (rd : Nat → Nat → List Byte) (bad : Nat) : Chip :=
  if !c.corTakes 4 then c
  else if !c.running then c.corBusy { op := 4, code := 14 }
  else
    let i := c.stagedImage rd
    let why := c.verifyWhy i [3] (some (c.nat (corA 0x148))) bad
    if why != 0 then c.corBusy { op := 4, code := why, why := why }
    else
      let b := rd (c.u64 (corA 0x140) + 0x2000) 72
      let op := hdrNat b 0 4
      let slot := hdrNat b 4 4
      let code := c.orderCode i.keySlot op slot (hdrNat b 8 32)
      if code != 0 then c.corBusy { op := 4, code := code }
      else if op = 1 || op = 2 then c.corBusy { op := 4, code := 0, order := some (op, slot, hdrNat b 40 32) }
      else
        let (v, c) := c.freeNat
        c.corBusy { op := 4, code := v }

/-- A reserved OP of COR_CMD (R541). -/
def Chip.corReserved (c : Chip) (op : Nat) : Chip :=
  if !c.corTakes op then c else c.corBusy { op := op, code := if c.running then 15 else 14 }

/-- The key slot is fused (R526, R530). -/
def Chip.fuseKey (c : Chip) (op slot hash : Nat) : Chip :=
  let c := c.setCor fun x =>
    { x with keyStat := x.keyStat - c.keyState slot * 2 ^ (2 * slot) + op * 2 ^ (2 * slot),
             hashes := if op = 1 then tabPut 0 x.hashes slot hash else x.hashes }
  ((c.setNat (corA 0x10C) c.cor.keyStat).cause COR 0 4).tally 0x0485 (slot + op * 256)

/-- COR_CMD_DONE (R541): the command's effect stands, RESP shows its code, CMD_DONE is raised. -/
def Chip.corDone (c : Chip) : Chip :=
  match c.cor.cmd with
  | none => c
  | some x =>
    let c := c.setCor fun y => { y with cmd := none }
    let c := match x.write with
      | some (s, i) =>
        let c := (c.setCor fun y => { y with slots := tabPut none y.slots s (some i) }).showSlot s
        c.setBootRec (s / 2) { c.bootRec (s / 2) with pending := some (s % 2), tries := 3, backup := 3 }
      | none => c
    let c := match x.order with
      | some (op, slot, hash) => c.fuseKey op slot hash
      | none => c
    (c.setNat (corA 0x108) (2 ^ 30 + x.why % 16 * 2 ^ 24 + x.code % 256)).cause COR 0 0

/-! ### Attestation (R538, R539) -/

/-- ERR 1 of R538: the report is not aligned, or not wholly inside the partition's window or the installed DRAM. -/
def Chip.attOutside (c : Chip) (p addr : Nat) : Bool :=
  let e := twAddr HST (0x2000 + 0x20 * (p - 8))
  addr % 64 != 0 || addr + 3597 > c.dramBytes ||
    (8 ≤ p && (!c.bit (e + 0xC) 0 || addr < c.u64 e || addr + 3597 > c.u64 e + c.fld (e + 8) 0 13 * 2 ^ 21))

/-- ATTEST_GO (R538): a write by master `m` of COR_ATT_CTL of page 1 + `p`. -/
def Chip.attestGo (c : Chip) (p : Nat) (d : Word) : Chip :=
  if !d.getLsbD 31 || c.cor.att.contains p then c
  else if c.attOutside p (c.u64 (attA p 0x120)) then c.setNat (attA p 0x12C) 1
  else if !c.running then c.setNat (attA p 0x12C) 2
  else (c.setNat (attA p 0x12C) (2 ^ 31)).setCor fun x => { x with att := x.att ++ [p] }

/-- The record of a running image in a report (R539). -/
def imageRecord (i : Option Image) (slot : Nat) : List Byte :=
  match i with
  | none => List.replicate 80 0
  | some i => natBytes 4 i.ver ++ natBytes 4 i.secVer ++ natBytes 2 i.epoch ++ natBytes 1 i.keySlot ++ natBytes 1 slot ++
      natBytes 4 0 ++ natBytes 64 i.digest

/-- The signed part of a report for partition `p` (R539). -/
def Chip.attBody (c : Chip) (p : Nat) : List Byte :=
  natBytes 4 0xA77E_5701 ++ natBytes 2 1 ++ natBytes 2 0x0E0D ++ natBytes 32 (c.wide (attA p 0x100) 8) ++
    natBytes 32 (c.wide (corA 0x120) 8) ++ natBytes 2 c.partNo ++ natBytes 2 (c.nat (corA 0x114)) ++
    natBytes 4 (c.fld aCorState 28 4 * 2 ^ 28 + c.role * 2 ^ 24 + c.cor.keyStat % 65536) ++ natBytes 4 c.cor.boots ++
    natBytes 4 c.cor.secCnt ++ natBytes 12 c.now.toNat ++ natBytes 4 (c.nat (pageAddr SAF 0 0x110)) ++
    imageRecord c.cor.base (c.imgSlot 0) ++ imageRecord c.cor.recipe (c.imgSlot 1) ++
    natBytes 8 (c.u64 (pageAddr PAI 0 0x118)) ++ natBytes 16 0

/-- The signature of a report: free bytes (log 8, DESIGN CHOICE). Log 21, DESIGN CHOICE. -/
def Chip.attSign (c : Chip) : List Byte × Chip :=
  ((List.range 3309).map fun i => (Config.freeWord (c.freeCount + i)).setWidth 8, { c with freeCount := c.freeCount + 3309 })

/-- ATTEST_DONE (R538): the report of the oldest request is written. Log 23, DESIGN CHOICE. -/
def Chip.attestDone (c : Chip) : Chip :=
  match c.cor.att with
  | [] => c
  | p :: r =>
    let body := c.attBody p
    let (sig, c) := c.attSign
    let c := (c.setCor fun x => { x with att := r }).toDram [(c.u64 (attA p 0x120), body ++ sig)]
    let c := (c.setNat (attA p 0x12C) (2 ^ 30)).cause COR (1 + p) 0
    let (v, c) := c.freeNat
    c.tally 0x0486 v

/-! ### The Core Cluster (R135, R540) -/

/-- PREEMPT_TIMEOUT (R135, R540): the pool leaves dispatch, and the Core Cluster halts its cores. -/
def Chip.preemptHalt (c : Chip) (n : Nat) : Chip :=
  if n < 8 && c.bit (portA n 0x110) 31 then
    let c := c.preemptTimeout n
    let pool := c.corePool n
    let cores := c.poolCores pool
    let c := c.setCor fun x => { x with halted := cores.foldl (fun h k => setNatBit h k true) x.halted }
    let c := (c.cause COR 0 3).tally 0x0484 pool
    if c.role = 3 then c.paiSurrender 5
    else if c.role ≤ 2 && cores.contains 0 then c.ss1Request
    else c
  else c

end Sys2Proof.Machine
end

