-- ==== Sys2Proof/Machine/Hosts.lean ====
section
/-! DEFINITION. Event routing and interrupts (02_register_pages), the host ports, shared-memory windows, mailboxes and locks
(03_hosts_mailboxes). -/

namespace Sys2Proof.Machine

/-- A register of HST instance 0 (R85). -/
def hstA (o : Nat) : Nat := pageAddr HST 0 o
/-- A register of the partition page of partition `p` (R77, R78). -/
def partA (p o : Nat) : Nat := pageAddr HST (1 + p) o
/-- HST_EP_STAT of endpoint `e` (R85). -/
def epK (e : Nat) : Nat := hstA (0x108 + 4 * e)

/-! ### Vectors (R77, R78) -/

/-- The word of vector `v` in a pair of words. -/
def vecK (k v : Nat) : Nat := k + 4 * (v / 32)
/-- A word of MSI-X table entry `v` of partition `p`. -/
def msixK (p v w : Nat) : Nat := partA p (0x400 + 16 * v + 4 * w)

/-- Can the function of host partition `p` send a message (R78)? -/
def Chip.canMessage (c : Chip) (p : Nat) : Bool :=
  let k := epK ((p - 8) / 4)
  let f := (p - 8) % 4
  c.bit k 31 && c.bit k (8 + f) && c.bit k (4 + f) && !c.bit k f

/-- Is vector `v` of host partition `p` free of both masks (R78)? Log 35, PRESUMED. -/
def Chip.unmasked (c : Chip) (p v : Nat) : Bool := !natBit c.hst.fnMask (p - 8) && !c.bit (msixK p v 3) 0

/-- The message of an MSI-X entry leaves (R78). -/
def Chip.sendMsix (c : Chip) (p v : Nat) : Chip :=
  c.out (.msix p (c.nat (msixK p v 0)) (c.nat (msixK p v 1)) (c.word (msixK p v 2)))

/-- R77: what core `p` sees at its interrupt input: the lowest unmasked pending vector, which has the highest priority; none while
the input is not asserted, and for a core that the Core Cluster has halted (R540). -/
def Chip.coreInterrupt (c : Chip) (p : Nat) : Option Nat :=
  if natBit c.cor.halted p then none
  else lowestBit 64 (c.wide (partA p 0x100) 2 &&& ((2 ^ 64 - 1) ^^^ c.wide (partA p 0x108) 2))

/-- A notice reaches vector `v` of partition `p` (R77, R78); one that finds the vector of a host partition pending merges into
the message that is to come. -/
def Chip.notice (c : Chip) (p v : Nat) : Chip :=
  if p < 8 then c.setBit (vecK (partA p 0x100) v) (v % 32) true
  else if c.bit (vecK (partA p 0x380) v) (v % 32) then c
  else if c.canMessage p && c.unmasked p v then c.sendMsix p v
  else c.setBit (vecK (partA p 0x380) v) (v % 32) true

/-- The route entry of line `n` (R75). -/
def routeK (n : Nat) : Nat := twAddr HST (4 * n)

/-- EVENT_NOTICE_DELIVERY (R76, R79, R442): the router takes the oldest notice of line `n`, posts code `n` to Tally and
delivers the notice by the line's route. -/
def Chip.deliverNotice (c : Chip) (n : Nat) : Chip :=
  match c.notices.find? (·.line == n) with
  | none => c
  | some x =>
    let c := { c with notices := c.notices.erase x }.tally n x.value
    let k := routeK n
    if c.bit k 31 then c.notice (c.fld k 8 4) (c.fld k 0 6) else c

/-- A pending vector that may go goes: one message, and its bit clears (R78). -/
def Chip.heldSend (c : Chip) (p v : Nat) : Chip :=
  if 8 ≤ p && p < 16 && v < 64 && c.bit (vecK (partA p 0x380) v) (v % 32) && c.canMessage p && c.unmasked p v then
    (c.setBit (vecK (partA p 0x380) v) (v % 32) false).sendMsix p v
  else c

/-- The pages of a line (R13): the page's block and instance, and the view of a Bell line (R104). -/
def pagesOfLine (n : Nat) : Option (Nat × Nat × Nat) :=
  if 0x040 ≤ n && n < 0x0C0 then some (MBX, 1 + (n - 0x40) / 2, (n - 0x40) % 2)
  else (List.range 0x15).findSome? fun b => (List.range 128).findSome? fun i =>
    if hasPage b i && lineOf b i 0 == some n then some (b, i, 0) else none

/-- Line `n` is asserted (R74). -/
def Chip.lineAsserted (c : Chip) (n : Nat) : Bool :=
  match pagesOfLine n with
  | some (b, i, s) => pageExists c.part b i && c.lineUp (if b = MBX then viewKey s (pageAddr b i 0) else pageAddr b i 0)
  | none => false

/-- HST_LINE_PEND_k of partition `p` (R77). -/
def Chip.linePend (c : Chip) (p k : Nat) : Word :=
  (List.range 32).foldl (fun w j =>
    let n := 32 * k + j
    if c.bit (routeK n) 31 && c.fld (routeK n) 8 4 = p && c.lineAsserted n then putBits w j 1 1 else w) 0

/-! ### Endpoints (R85, R91 to R93) -/

/-- PCIE_LINK_CHANGE (R85, R93): the link of endpoint `e` comes up or goes down, or changes its speed or width. -/
def Chip.pcieLink (c : Chip) (e : Nat) (up : Bool) (speed width : Nat) : Chip :=
  if e ≥ 2 || (up && c.bit (epK e) 30) then c
  else
    let c := c.setBit (epK e) 31 up
    let c := (c.setFld (epK e) 27 3 (if up then speed else 0)).setFld (epK e) 23 4 (if up then width else 0)
    c.level HST 0 (1 + e) up

/-- The pages that hold an indirect window, all at W = 0x200 (R60, R61). -/
def windowPages : List (Nat × Nat) := [(HOI, 0), (LOOP, 0), (PRF, 0), (ADT, 0), (TLY, 0), (NET, 127), (PWR, 0)]

/-- The key of context `p` of the window of a page. -/
def iwinKey (b i p : Nat) : Nat := pageAddr b i 0 * 16 + p

/-- The registers of context `p` of a page's window take their reset values. -/
def Chip.clearContext (c : Chip) (b i p : Nat) : Chip :=
  let k := viewKey p (pageAddr b i 0x200)
  c.clearWords k (k + 0x50)

/-- A reset of context `p` of a page's window: at once, or once the operation in progress has ended (R64). -/
def Chip.resetContext (c : Chip) (b i p : Nat) : Chip :=
  if c.iwin.any fun e => e.1 = iwinKey b i p then
    { c with iwin := c.iwin.map fun (e : Nat × IwinOp) => if e.1 = iwinKey b i p then (e.1, { e.2 with live := false }) else e }
  else c.clearContext b i p

/-- The key of a master's key sequence on the page that starts at `k` (R73). -/
def keyKey (k m : Nat) : Nat := k * 64 + m

/-- MBX_LOCK_n (R111). -/
def lockK (n : Nat) : Nat := pageAddr MBX 97 (0x100 + 4 * n)

/-- Every lock of master `m` is released, each counted (R91). -/
def Chip.freeLocks (c : Chip) (m : Nat) : Chip :=
  c.each (List.range 128) fun c n =>
    if c.nat (lockK n) = m + 1 then (c.setNat (lockK n) 0).count (pageAddr MBX 97 0x034) else c

/-- What a function-level reset does to partition `p` (R91, R590). -/
def Chip.functionReset (c : Chip) (p : Nat) : Chip :=
  let e := (p - 8) / 4
  let f := (p - 8) % 4
  let c := ((c.setBit (epK e) (8 + f) false).setBit (epK e) (4 + f) false).setBit (epK e) f false
  let c := { c with hst := { c.hst with fnMask := setNatBit c.hst.fnMask (p - 8) false } }
  let c := (c.clearWords (partA p 0x380) (partA p 0x388)).clearWords (partA p 0x400) (partA p 0x800)
  let c := c.each windowPages fun c w => c.resetContext w.1 w.2 p
  let c := { c with keys := c.keys.filter fun e => e.1 % 64 != p }
  c.freeLocks p

/-- FUNCTION_LEVEL_RESET (R91). -/
def Chip.flr (c : Chip) (e f : Nat) : Chip :=
  if e < 2 && f < 4 then ((c.functionReset (8 + 4 * e + f)).count (hstA 0x038)).cause HST 0 3 else c

/-- PERST_ASSERT (R93): a low level of 1 µs or longer. Log 36, DEDUCED. -/
def Chip.perst (c : Chip) (e : Nat) : Chip :=
  if e ≥ 2 || c.bit (epK e) 30 then c
  else
    let c := (c.pcieLink e false 0 0).setBit (epK e) 30 true
    let c := c.each (List.range 4) fun c f => c.functionReset (8 + 4 * e + f)
    (c.count (hstA 0x03C)).cause HST 0 4

/-- PERST_RELEASE (R93): the endpoint begins link training. -/
def Chip.perstEnd (c : Chip) (e : Nat) : Chip :=
  if e < 2 && c.bit (epK e) 30 then (c.setBit (epK e) 30 false).out (.linkTraining e) else c

/-- PCIE_CONFIG_WRITE (R78, R85, R92): MSI-X enable, bus-master enable, function mask and power state of a function.
Log 35, PRESUMED. -/
def Chip.pcieConfig (c : Chip) (p : Nat) (msix master fnMask d3 : Bool) : Chip :=
  if !(8 ≤ p && p < 16) || c.bit (epK ((p - 8) / 4)) 30 || !c.bit (epK ((p - 8) / 4)) 31 then c
  else
    let k := epK ((p - 8) / 4)
    let f := (p - 8) % 4
    let c := ((c.setBit k (8 + f) msix).setBit k (4 + f) master).setBit k f d3
    { c with hst := { c.hst with fnMask := setNatBit c.hst.fnMask (p - 8) fnMask } }

/-! ### Shared-memory windows (R86 to R88) -/

/-- The entry of host partition `p` (R86). -/
def shmK (p : Nat) : Nat := twAddr HST (0x2000 + 0x20 * (p - 8))

/-- A write by master `m` of word `w` (0, 1 BASE; 2 SIZE; 3 CTL) of a shared-memory entry (R86, R87). Log 36, DEDUCED.
Log 72, DESIGN CHOICE. -/
def Chip.shmWrite (c : Chip) (m p w : Nat) (d : Word) : Chip :=
  let k := shmK p + 4 * w
  let mask : Word := match w with
    | 0 => 0xFFE0_0000
    | 1 => 0xFFFF_FFFF
    | 2 => 0x1FFF
    | _ => 0x8000_3F03
  -- R70: 0 written to the lock bit is no change
  let seen : Word := if w = 3 then mask &&& 0x7FFF_FFFF else mask
  if c.bit (shmK p + 0xC) 31 then (if (d ^^^ c.word k) &&& seen = 0 then c else c.logErr ecLocked m k)
  else if w != 3 then c.setWord k (d &&& mask)
  else
    let bad := d.getLsbD 0 && (c.u64 (shmK p) + c.nat (shmK p + 8) * 2 ^ 21 > c.dramBytes || 4096 < c.nat (shmK p + 8))
    let en := if bad then c.fld k 0 1 else getBits d 0 1
    c.setWord k (putBits (putBits (d &&& mask) 0 1 en) 30 1 (b2n (if d.getLsbD 0 then bad else c.bit k 30)))

/-- A refused BAR2 access is recorded (R86, R87). -/
def Chip.shmRefuse (c : Chip) (p cause off : Nat) : Chip :=
  let k := shmK p + 0x10
  let c := if c.bit k 31 then c.setBit k 30 true else c.setNat k (2 ^ 31 + cause * 2 ^ 28 + off / 64 % 2 ^ 28)
  c.cause HST (1 + p) 31

/-- Why a BAR2 access of `len` bytes at `off` is refused, 0 when it is not (R87). One that lies partly outside the window is refused
whole, which R87 leaves open. Log 36, DEDUCED. -/
def Chip.shmWhy (c : Chip) (p off len : Nat) (wr : Bool) : Nat :=
  let k := shmK p
  if !c.bit (k + 0xC) 0 || off + len > c.nat (k + 8) * 2 ^ 21 || c.u64 k + off + len > c.dramBytes then 1
  else if wr && !c.bit (k + 0xC) 1 then 2
  else if !c.running then 3
  else 0

/-! ### Accesses to DRAM (R47, R88, R414, R502, R511) -/

/-- A byte of DRAM: of a record of the signal directory, or of the rest (R414). Log 77, DEDUCED. -/
def State.memByte (s : State) (a : Nat) : Byte :=
  match s.chip.coldRec (a / 64) with
  | some sig => s.chip.recByte sig (a % 64)
  | none => dramByte s.dram a

/-- The `n` bytes of DRAM from address `a` on. -/
def State.memLoad (s : State) (a : Nat) : Nat → List Byte
  | 0 => []
  | n + 1 => s.memByte a :: s.memLoad (a + 1) n

/-- Is block `b` poisoned (R47, R441)? -/
def State.blockPoison (s : State) (b : Nat) : Bool :=
  match s.chip.coldRec b with
  | some sig => tab false s.chip.elemPoison (dirK sig 0)
  | none => tab false s.dramPoison b

/-- Block `b` is poisoned, or loses its poison. -/
def State.setPoison (s : State) (b : Nat) (v : Bool) : State :=
  match s.chip.coldRec b with
  | some sig => { s with chip := { s.chip with elemPoison := tabPut false s.chip.elemPoison (dirK sig 0) v } }
  | none => { s with dramPoison := tabPut false s.dramPoison b v }

/-- R47: `rr` re-reads of block `b`: more than three are a storage fault, which poisons the block; a poisoned block of a
mirror region is to be repaired from the twin (R511). Log 73, DEDUCED. -/
def State.readFault (s : State) (b rr : Nat) : State :=
  let c := s.chip.memRereads (min rr 3)
  if rr ≤ 3 then { s with chip := c }
  else
    let c := c.memPoison (64 * b)
    let c := if c.linkUp && c.mirrored (64 * b) then c.out (.pair (.repair false b)) else c
    { s with chip := c }.setPoison b true

/-- The blocks of `n` bytes at `a` are read, each with its own re-reads (R47). -/
def State.readFaults (s : State) (a n : Nat) (rr : List Nat) : State :=
  (blocksOf a n).zipIdx.foldl (fun (s : State) (e : Nat × Nat) => s.readFault e.1 (rr.getD e.2 0)) s

/-- Does a read of `n` bytes at `a` meet a poisoned block? -/
def State.meetsPoison (s : State) (a n : Nat) : Bool := (blocksOf a n).any s.blockPoison

/-- The words of a list of bytes, the last one filled with zeros (R4). -/
def bytesWords (bs : List Byte) : List Word :=
  (List.range ((bs.length + 3) / 4)).map fun i => BitVec.ofNat 32 (bytesNat ((bs.drop (4 * i)).take 4))

/-- A read of `n` bytes at DRAM address `a`, answered with the data or as poisoned; `hops` is how often its data is sent again on the
fabric (R24, R47, R88). Log 37, DESIGN CHOICE. Log 73, DEDUCED. -/
def State.dramRead (s : State) (a n : Nat) (rr : List Nat) (hops : Nat) (bad : RespStatus) : State :=
  let s := s.readFaults a n rr
  let s := { s with chip := s.chip.hopSends hops }
  if s.meetsPoison a n || hopFails hops then { s with chip := s.chip.answer bad }
  else { s with chip := s.chip.answer .done (bytesWords (s.memLoad a n)) }

/-- Does a write of `n` bytes at `a` cover part of a poisoned block (R88)? -/
def State.partPoison (s : State) (a n : Nat) : Bool :=
  (blocksOf a n).any fun b => s.blockPoison b && !(a ≤ 64 * b && 64 * b + 64 ≤ a + n)

/-- Bytes are written at DRAM address `a`: a block covered whole loses its poison; a record that stands there takes the bytes; the lead
of a pair forwards a write to a mirror region (R47, R88, R414, R502). Log 37, DESIGN CHOICE. Log 77, DEDUCED. -/
def State.dramWrite (s : State) (a : Nat) (data : List Byte) : State :=
  let whole := (blocksOf a data.length).filter fun b => a ≤ 64 * b && 64 * b + 64 ≤ a + data.length
  let s := whole.foldl (fun (s : State) b => s.setPoison b false) s
  { s with chip := (s.chip.mirrorOut a data).each data.zipIdx fun c (e : Byte × Nat) => c.recPoke (a + e.2) e.1,
           dram := dramStore s.dram a data }

/-- R24, R70, R88: bytes written to DRAM by partition `p`, crossing the fabric with `hops` re-sends: what arrives poisoned, or covers
part of a poisoned block, is discarded and recorded in the partition page, with the page's own offset (log 36, DEDUCED). -/
def State.sharedWrite (s : State) (p a : Nat) (data : List Byte) (hops : Nat) : State :=
  let s := { s with chip := s.chip.hopSends hops }
  if hopFails hops || s.partPoison a data.length then { s with chip := (s.chip.logErr ecPoison p (partA p 0)).answer .discarded }
  else
    let s := s.dramWrite a data
    { s with chip := s.chip.answer .done }

/-- BAR2_READ (R24, R87, R88). Log 36, DEDUCED. -/
def State.bar2Read (s : State) (p off len : Nat) (rr : List Nat) (hops : Nat) : State :=
  if !(8 ≤ p && p < 16) || s.chip.masterDown p then s
  else
    let why := s.chip.shmWhy p off len false
    if why != 0 then { s with chip := (s.chip.shmRefuse p why off).answer .completerAbort }
    else s.dramRead (s.chip.u64 (shmK p) + off) len rr hops .poisoned

/-- BAR2_WRITE (R24, R87, R88). Log 36, DEDUCED. -/
def State.bar2Write (s : State) (p off : Nat) (data : List Byte) (hops : Nat) : State :=
  if !(8 ≤ p && p < 16) || s.chip.masterDown p then s
  else
    let why := s.chip.shmWhy p off data.length true
    if why != 0 then { s with chip := (s.chip.shmRefuse p why off).answer .discarded }
    else s.sharedWrite p (s.chip.u64 (shmK p) + off) data hops

/-- CORE_DRAM_ACCESS (R89, R502, R546): a core reads or writes DRAM, or the resume island. Log 37, DESIGN CHOICE. -/
def State.coreDram (s : State) (m : Nat) (island wr : Bool) (addr len : Nat) (data : List Byte) (rr : List Nat) (hops : Nat) : State :=
  let n := if wr then data.length else len
  if m ≥ 8 || natBit s.chip.cor.halted m || natBit s.chip.hst.coreGated m then s
  else if !s.chip.running || addr + n > (if island then 4 * 2 ^ 20 else s.chip.dramBytes) then
    { s with chip := s.chip.answer .busError }
  else if island then
    let t := s.chip.pwr.island
    if wr then { s with chip := { s.chip with pwr := { s.chip.pwr with island := dramStore t addr data } }.answer .done }
    else { s with chip := s.chip.answer .done (bytesWords (dramLoad t addr n)) }
  else if !wr then s.dramRead addr n rr hops .busError
  else s.sharedWrite m addr data hops

/-! ### The binding table (R95, R96) -/

/-- Bell channel `ch` and ring `r` behind their registers. -/
def Chip.bell (c : Chip) (ch : Nat) : Bell := tab {} c.bells ch
/-- Bell channel `ch` changes. -/
def Chip.setBell (c : Chip) (ch : Nat) (x : Bell) : Chip := { c with bells := tabPut {} c.bells ch x }
/-- Ring `r`. -/
def Chip.ring (c : Chip) (r : Nat) : Bucket := tab {} c.rings r
/-- Ring `r` changes. -/
def Chip.setRing (c : Chip) (r : Nat) (x : Bucket) : Chip := { c with rings := tabPut {} c.rings r x }

/-- A register of the page of binding entry `k`: Bell channel `k`, or ring `k - 64`. -/
def mbxA (k o : Nat) : Nat := pageAddr MBX (1 + k) o

/-- The state of the channel of entry `k` clears: words, flags, count, indices, sequence (R96). -/
def Chip.clearChannel (c : Chip) (k : Nat) : Chip :=
  if k < 64 then
    (c.setBell k {}).each [0, 1] fun c s => c.clearWords (viewKey s (mbxA k 0x110)) (viewKey s (mbxA k 0x118))
  else c.setRing (k - 64) {}

/-- The reason to refuse a binding word for entry `k`, 0 for none (R96, R114). -/
def Chip.bindWhy (c : Chip) (k : Nat) (d : Word) : Nat :=
  let s0 := getBits d 0 6
  let s1 := getBits d 8 6
  let n := getBits d 16 6
  if s0 = s1 then 1
  else if s0 ≥ 23 || s1 ≥ 23 then 2
  else if 64 ≤ k && !(c.bit (aBind n) 31 &&
      ((c.sideMaster n 0 = s0 && c.sideMaster n 1 = s1) || (c.sideMaster n 0 = s1 && c.sideMaster n 1 = s0))) then 3
  else 0

/-- A write by master `m` of binding entry `k` (R96). -/
def Chip.bindWrite (c : Chip) (m k : Nat) (d : Word) : Chip :=
  let w := d &&& 0x803F_3F3F#32
  if c.bit (pageAddr MBX 0 0x100) 31 then (if w = c.word (aBind k) then c else c.logAt (pageAddr MBX 0 0) ecLocked m (aBind k % 0x10_0000) none)
  else
    let why := if w.getLsbD 31 then c.bindWhy k w else 0
    if why != 0 then c.setFld (pageAddr MBX 0 0x104) 0 4 why
    else (c.setWord (aBind k) w).clearChannel k

/-- The channel of entry `k` operates (R97). Log 36, DEDUCED. -/
def Chip.channelOn (c : Chip) (k : Nat) : Bool := c.bit (aBind k) 31 && c.pageOn MBX (1 + k)

/-! ### Bell channels (R99 to R104) -/

/-- Direction `s` of a channel: from side `s` (R99). -/
def Bell.dir (b : Bell) (s : Nat) : BellDir := if s = 0 then b.d0 else b.d1
/-- Direction `s` changes; CROSS stands only while both directions are full (R102). -/
def Bell.setDir (b : Bell) (s : Nat) (d : BellDir) : Bell :=
  let b := if s = 0 then { b with d0 := d } else { b with d1 := d }
  { b with cross := b.cross && b.d0.full && b.d1.full }

/-- A write of MBX_BELL_OUT by side `s` (R100). -/
def Chip.bellSend (c : Chip) (ch s : Nat) (d : Word) : Chip :=
  if !c.channelOn ch then c
  else
    let b := c.bell ch
    let x := b.dir s
    let c :=
      if x.full then
        let c := (c.setBit (viewKey s (mbxA ch 0x110)) 3 true).setBit (viewKey (1 - s) (mbxA ch 0x110)) 2 true
        ((c.count (viewKey s (mbxA ch 0x038))).bellCause ch s 2).bellCause ch (1 - s) 2
      else c
    let c := c.setBell ch (b.setDir s { word := d, full := true, collided := x.full || x.collided, rxseq := (x.rxseq + 1) % 256 })
    (c.count (viewKey s (mbxA ch 0x034))).bellCause ch (1 - s) 0

/-- R70, R101: the check of the IN word fails at a read of register `o` by master `m` of side `s`: POISON is logged, a host receives a
poisoned completion and a core a bus error. -/
def Chip.bellCheckFail (c : Chip) (ch s m o : Nat) : Chip :=
  (((c.setBit (viewKey s (mbxA ch 0x110)) 5 true).bellCause ch s 4).logErr ecPoison m (mbxA ch o)).answer
    (if m < 8 then .busError else .poisoned)

/-- MBX_BELL_TAKE as side `s` reads it: its two words (R99). -/
def Chip.bellTakeWords (c : Chip) (ch s : Nat) : List Word :=
  let x := (c.bell ch).dir (1 - s)
  [BitVec.ofNat 32 (x.rxseq * 2 ^ 24 + b2n x.full * 2 ^ 23 + b2n x.collided * 2 ^ 22), x.word]

/-- The word of direction `1 - s` is taken by side `s` (R100). -/
def Chip.bellTaken (c : Chip) (ch s : Nat) : Chip :=
  if !c.channelOn ch then c
  else
    let b := c.bell ch
    let x := b.dir (1 - s)
    let c := c.setBell ch (b.setDir (1 - s) { x with full := false, collided := false })
    if x.full then c.bellCause ch (1 - s) 1 else c

/-- MBX_BELL_STAT as side `s` reads it (R99). -/
def Chip.bellStat (c : Chip) (ch s : Nat) : Word :=
  let b := c.bell ch
  let w := putBits (putBits (c.word (viewKey s (mbxA ch 0x110))) 26 6 (c.sideMaster ch (1 - s))) 25 1 s
  putBits (putBits (putBits w 4 1 (b2n b.cross)) 1 1 (b2n (b.dir s).full)) 0 1 (b2n (b.dir (1 - s)).full)

/-- CROSS_TIME_EXPIRY (R102). Log 36, DEDUCED. -/
def Chip.crossExpired (c : Chip) (ch : Nat) : Chip :=
  let b := c.bell ch
  if ch < 64 && c.channelOn ch && b.d0.full && b.d1.full && !b.cross then
    ((c.setBell ch { b with cross := true }).bellCause ch 0 3).bellCause ch 1 3
  else c

/-! ### Bucket rings (R105 to R110) -/

/-- A cause of ring `r` towards the master of its side `s` (R105). -/
def Chip.ringCause (c : Chip) (r s i : Nat) : Chip :=
  let n := c.fld (aBind (64 + r)) 16 6
  match c.sideOf n (c.sideMaster (64 + r) s) with
  | some t => (c.setBit (viewKey t (mbxA n 0x114)) r true).bellCause n t i
  | none => c

/-- A write of MBX_BKT_POST: the staged notice waits until its producer's writes are visible (R108, R109). -/
def Chip.ringPost (c : Chip) (r : Nat) : Chip :=
  if !c.channelOn (64 + r) then c
  else
    let x := c.ring r
    let n : Notice := { ptr := c.u64 (mbxA (64 + r) 0x100), len := c.nat (mbxA (64 + r) 0x108), tag := c.fld (mbxA (64 + r) 0x10C) 0 16 }
    c.setRing r { x with staged := x.staged ++ [n] }

/-- Entry `e` of ring `r` (R106). -/
def ringEntK (r e w : Nat) : Nat := twAddr MBX (0x4_0000 + 0x1000 * r + 16 * e + 4 * w)

/-- BUCKET_POST_COMMIT (R108): the oldest staged notice is accepted or refused. -/
def Chip.ringCommit (c : Chip) (r : Nat) : Chip :=
  let x := c.ring r
  match x.staged with
  | [] => c
  | n :: rest =>
    let why := if x.count = 256 then 1 else if n.ptr + n.len > c.dramBytes then 2 else 0
    if why != 0 then
      let c := c.setRing r { x with staged := rest, lastRefuse := true, why := why }
      (c.count (mbxA (64 + r) 0x034)).ringCause r 0 7
    else
      let e := (x.tail + x.count) % 256
      let c := (c.setU64 (ringEntK r e 0) n.ptr).setNat (ringEntK r e 2) n.len
      let c := c.setNat (ringEntK r e 3) (x.nextSeq * 2 ^ 16 + n.tag % 2 ^ 16)
      let c := c.setRing r { x with staged := rest, lastRefuse := false, count := x.count + 1, nextSeq := (x.nextSeq + 1) % 65536 }
      c.ringCause r 1 5

/-- A write of MBX_BKT_TAKE_N (R107, R110). Log 36, DEDUCED. -/
def Chip.ringTake (c : Chip) (r n : Nat) : Chip :=
  let x := c.ring r
  if !c.channelOn (64 + r) then c
  else if n > x.count then c.setRing r { x with why := 3 }
  else
    let mark := c.fld (mbxA (64 + r) 0x11C) 0 9
    let c := c.setRing r { x with tail := (x.tail + n) % 256, count := x.count - n }
    if x.count > mark && x.count - n ≤ mark then c.ringCause r 0 6 else c

/-- MBX_BKT_STAT, first word (R107). -/
def Chip.ringStat (c : Chip) (r : Nat) : Word :=
  let x := c.ring r
  BitVec.ofNat 32 (x.nextSeq * 2 ^ 16 + x.tail * 2 ^ 8 + b2n x.lastRefuse * 2 ^ 7 + x.why % 4 * 2 ^ 5)

/-! ### Locks (R111, R112) -/

/-- A read of MBX_LOCK_n by master `m`: the answer, and the lock acquired where it is free (R112). -/
def Chip.lockRead (c : Chip) (m n : Nat) : Word × Chip :=
  if c.nat (lockK n) = 0 then (0, c.setNat (lockK n) (m + 1)) else (c.word (lockK n), c)

/-- A write of MBX_LOCK_n by master `m` (R112): the holder releases it with 0; the page's owner forces it with a keyed 0x80.
Log 36, DEDUCED. -/
def Chip.lockWrite (c : Chip) (m n : Nat) (d : Word) (keyed : Bool) : Chip :=
  if keyed && d = 0x80 && c.owner (pageAddr MBX 97 0) = m then
    if c.nat (lockK n) = 0 then c else (c.setNat (lockK n) 0).count (pageAddr MBX 97 0x034)
  else if c.nat (lockK n) = m + 1 && d = 0 then c.setNat (lockK n) 0 else c

/-- Is master `m` denied the write of `d` to MBX_LOCK_n: it neither holds the lock nor forces it (R112)? -/
def Chip.lockDenied (c : Chip) (m n : Nat) (d : Word) (keyed : Bool) : Bool :=
  !(keyed && d = 0x80 && c.owner (pageAddr MBX 97 0) = m) && c.nat (lockK n) != m + 1

end Sys2Proof.Machine
end

