-- ==== Sys2Proof/Machine/Power.lean ====
section
/-! DEFINITION. The power manager: supplies, the ladder, wake, reset, power failure, thermal limits (19_power_reset); and the
instructions of the test access port (20_pins_electrical_test). -/

namespace Sys2Proof.Machine

/-- A register of the PWR page (R559). -/
def pwrA (o : Nat) : Nat := pageAddr PWR 0 o
/-- What the power manager holds behind its page changes. -/
def Chip.setPwr (c : Chip) (f : Pwr → Pwr) : Chip := { c with pwr := f c.pwr }
/-- A supply is good: 5 VIN, 4 VAON, 3 VIO_A, 2 VIO_B, 1 VHOLD, 0 VBAT (R542, R559). -/
def Chip.supply (c : Chip) (i : Nat) : Bool := natBit c.pwr.supplies i

/-- PWR_STAT shows the supplies and the latches (R559). Log 25, DESIGN CHOICE. -/
def Chip.showPwr (c : Chip) : Chip :=
  ((c.setFld aPwrStat 0 6 c.pwr.supplies).setBit aPwrStat 23 c.pwr.tamper).setBit aPwrStat 22 c.pwr.noSupply

/-! ### Reset (R550 to R553) -/

/-- Does a reset of this cause leave the word at `k`: the backup domain's, the fused identity and revision, and, after an exit from
CISTERN or below, the wake cause? -/
def keptAt (cause k : Nat) : Bool :=
  (pwrA 0x118 ≤ k && k < pwrA 0x11C) || (pwrA 0x128 ≤ k && k < pwrA 0x134) || k = corA 0x114 || (corA 0x120 ≤ k && k < corA 0x140) ||
    (cause = 5 && k = pwrA 0x114)

/-- The words that a reset leaves. -/
def Chip.keptWords (c : Chip) (cause : Nat) : Tab Word := c.words.filter fun e => keptAt cause e.1

/-- Every register and result word returns to its reset value, and every block to its state after reset. Fused values, the
image store, the backup domain, the parameter set, the test access port and the model's own records stand (R551, R552).
Log 26, DEDUCED. -/
def Chip.cleared (c : Chip) (cause : Nat) : Chip :=
  { part := c.part, laneFloor := c.laneFloor, words := c.keptWords cause,
    tly := { seq := c.tly.seq, images := c.tly.images },
    saf := { stored := c.saf.stored },
    tim := { backup := c.tim.backup },
    cor := { slots := c.cor.slots, recs := c.cor.recs, hashes := c.cor.hashes, keyStat := c.cor.keyStat, secCnt := c.cor.secCnt,
             boots := c.cor.boots },
    pwr := { supplies := c.pwr.supplies, hot := c.pwr.hot, sums := c.pwr.sums, sumSeq := c.pwr.sumSeq, tamper := c.pwr.tamper,
             noSupply := c.pwr.noSupply, empty := c.pwr.empty, lost := c.pwr.lost,
             island := if cause = 5 then c.pwr.island else [] },
    tap := c.tap, resp := c.resp, outs := c.outs, freeCount := c.freeCount }

/-- A module reset begins; it is held until RESET_RELEASE (R550, R551). Log 26, DEDUCED. -/
def Chip.moduleReset (c : Chip) (cause : Nat) : Chip :=
  let boots := c.cor.boots + 1
  let c := (c.cleared cause).setPwr fun x => { x with held := some cause }
  let c := { c with cor := { c.cor with boots := boots } }
  ((c.setNat (pwrA 0x118) cause).setNat (pwrA 0x130) boots).setU64 (tlyA 0x120) c.lastFlushSeq

/-- R155: after a return from CISTERN or below the elements of every slot read 0, but for the costs, which R172 gives a slot that is not
enabled. Log 27, DEDUCED. -/
def Chip.zeroSlots (c : Chip) : Chip :=
  c.each ((List.range 4096).filter (slotPresent c.part)).reverse fun c s => c.setWord (hdrK s 1) 0

/-- RESET_RELEASE (R551): the Timebase loads its counter, and the boot begins; a return from CISTERN or below shows that the
axis state was lost (R257). Log 26, DEDUCED. -/
def Chip.resetRelease (c : Chip) (pinHigh : Bool) : Chip :=
  if c.pwr.held.isNone || !pinHigh || c.pwr.hot || !(c.supply 5 && c.supply 4 && c.supply 3 && c.supply 2) then c
  else
    let lost := c.pwr.lost
    let c := (c.setPwr fun x => { x with held := none, lost := false }).timLoad
    if lost then ((c.zeroSlots).setBit (pageAddr PRF 0 0x100) 31 true).cause PRF 0 0 else c

/-- BOOT_COMPLETE (R529, R550, R552): the cause of the reset and a tamper latch are posted, the supplies show, and the Image
Authority boots. Log 25, DESIGN CHOICE. Log 30, DESIGN CHOICE. -/
def Chip.boot (c : Chip) (bad : List Nat) : Chip :=
  if c.pwr.held.isSome || c.fld aCorState 28 4 != 0 then c
  else
    let c := c.showPwr.tally 0x04A4 (c.fld (pwrA 0x118) 0 3)
    let c := if c.pwr.tamper then
        let (v, c) := c.freeNat
        c.tally 0x04A5 v
      else c
    c.bootComplete bad

/-- RESET_PIN (R550, R551): RESET_N low for `width` ns; from 0.5 to 1 µs it acts or not, freely. Log 30, DESIGN CHOICE. -/
def Chip.resetPin (c : Chip) (width : Nat) : Chip :=
  if width ≥ 1000 then c.moduleReset 3
  else if width < 500 then c
  else
    let (b, c) := c.freeBool
    if b then c.moduleReset 3 else c

/-! ### States (R544 to R548) -/

/-- The state is lost: CISTERN and below (R544); the resume island below CISTERN (R546). The wake enables stand, as the events of R549
are taken there. Log 27, DEDUCED. -/
def Chip.loseState (c : Chip) (st : Nat) : Chip :=
  let p := c.pwr
  let keep := c.words.filter fun e => e.1 = pwrA 0x110 || keptAt 5 e.1
  let c := c.cleared 5
  let c := { c with words := keep, pwr := { p with lost := true, deep := false, island := if st = 5 then p.island else [] } }
  (c.setFld aPwrStat 29 3 st).showPwr

/-- The last-state summary is written, with a REASON bit (R555). -/
def Chip.writeSummary (c : Chip) (reason : Nat) : Chip :=
  let half := match tab none c.pwr.sums 0, tab none c.pwr.sums 1 with
    | some a, some b => if a.seq ≥ b.seq then 1 else 0
    | some _, none => 1
    | _, _ => 0
  let seq := c.pwr.sumSeq + 1
  let t := c.now.toNat
  let ws : List Word := [0x1A57_57A7#32, BitVec.ofNat 32 (2 ^ 24 + 2 ^ reason), wordN seq 0, wordN seq 1, wordN t 0, wordN t 1,
    wordN t 2, c.word (corA 0x120), c.word aCorState, c.word aPaiStat, c.word aSafStat, c.word aDipStat, c.word aTimStat,
    c.word aPwrStat] ++ (List.range 16).map fun g => c.word (sgrK g)
  c.setPwr fun x => { x with sums := tabPut none x.sums half (some { words := ws, seq := seq }), sumSeq := seq }

/-- The 1,024 words of a summary (R555). -/
def Summary.all (s : Summary) : List Word :=
  let body := s.words ++ List.replicate (1021 - s.words.length) 0 ++ [wordN s.seq 0, wordN s.seq 1]
  body ++ [BitVec.ofNat 32 (crc32c (body.flatMap fun w => natBytes 4 w.toNat))]

/-- Element `e` of the half that SEL names (R555). -/
def Chip.summaryElem (c : Chip) (sel e : Nat) : List Word :=
  match tab none c.pwr.sums (sel - 1) with
  | some s => (s.all.drop (16 * e)).take 16
  | none => List.replicate 16 0

/-- The module stands in a state: STATE, STATE_CHANGE and Tally (R544, R548). -/
def Chip.stand (c : Chip) (st : Nat) : Chip := ((c.setFld aPwrStat 29 3 st).cause PWR 0 0).tally 0x04A0 st

/-- The plant network ports that lose their supply in DRIP and below (R544, R559, R567). -/
def Chip.portsDown (c : Chip) (st : Nat) : Chip :=
  let keep := c.fld (pwrA 0x100) 4 2
  c.each ((List.range 4).filter fun p => c.bit (netK p 0x104) 31 && (st > 2 || p != keep)) fun c p => c.netLink p false false

/-- The endpoints that go off in DRIP, and all of them from SUMP on (R544, R559, R567). -/
def Chip.endpointsDown (c : Chip) (st : Nat) : Chip :=
  let keep := c.fld (pwrA 0x100) 6 1
  c.each ((List.range 2).filter fun e => c.bit (epK e) 31 && (st ≥ 4 || e != keep)) fun c e => c.pcieLink e false 0 0

/-- Every CAN controller is to sleep at its next bus idle, or sleeps at once (R408). -/
def Chip.canRest (c : Chip) (now : Bool) : Chip := c.each (List.range 4) fun c n => c.canSleep n now

/-- The cores lose their power, or have it again: below TRICKLE, whose cores idle, and in a power-fail flush (R92, R544, R554).
Log 28, DEDUCED. -/
def Chip.gateCores (c : Chip) (off : Bool) : Chip := { c with hst := { c.hst with coreGated := if off then 255 else 0 } }

/-- R545, R567: TRICKLE is left downwards: what each chapter stops. -/
def Chip.intoDrip (c : Chip) : Chip :=
  ((((((((((c.gateCores true).fbkStop).adtLeave).cnvStop).netStop).portsDown 2).endpointsDown 2).canRest false).safGroups).pwmPins c.drives).coilsDown

/-- On entry to SUMP (R487, R495, R544). -/
def Chip.intoSump (c : Chip) : Chip :=
  let c := c.setPwr fun x => { x with deep := true }
  let own := c.drives
  let c := (((c.paiSump).paiLinkDown).endpointsDown 4).canRest true
  ((c.safOff).refreshTly).pwmPins own

/-- The return to TRICKLE from below: what each chapter starts again. -/
def Chip.intoTrickle (c : Chip) : Chip :=
  let deep := c.pwr.deep
  let c := c.setPwr fun x => { x with deep := false }
  let c := (((((c.gateCores false).pwmRewait).cnvReturn).trigReturn).netReturn).refreshAdt
  -- R408: a controller runs again unless it was commanded to sleep
  let c := c.each ((List.range 4).filter fun n => !(c.canCtl n).told) fun c n => c.canAwake n
  ((if deep then c.fbkReturn else c).pwmPins c.drives).coilsUp

/-- The transition takes one rung to state `st` from `old` (R548). -/
def Chip.enterState (c : Chip) (old st : Nat) : Chip :=
  let c := c.stand st
  if st ≥ 5 then c.loseState st
  else if old < st then
    (match st with
     | 2 => c.intoDrip
     | 3 => (c.portsDown 3).timRest
     | 4 => c.intoSump
     | _ => c)
  else
    (match st with
     | 3 => c.refreshTly
     | 1 => c.intoTrickle
     | _ => c)

/-- A request that ended: DONE with its code, and REQ_DONE (R547, R559, R560). Log 28, DEDUCED. -/
def Chip.reqDone (c : Chip) (code : Nat) : Chip := (c.setNat (pwrA 0x104) (2 ^ 30 + code)).cause PWR 0 5

/-- The code that refuses a request for state `t`, 0 for none (R547). -/
def Chip.reqCode (c : Chip) (t : Nat) : Nat :=
  if t = c.modState then 1
  else if c.flushing then 2
  else if 1 ≤ t && c.prf.enabled.any (fun a => 2 ≤ c.axState a && c.axState a ≤ 6) then 3
  else if 1 ≤ t && (!c.hoi.admitted.isEmpty || (List.range 64).any fun n =>
      let s := c.fld (pageAddr HOI (16 + n) 0x114) 28 4
      !(s = 0 || s = 5 || s = 6)) then 4
  else if 2 ≤ t && (List.range 16).any (fun g => c.grpState g = 2 || c.grpState g = 3) then 5
  else if t = 7 && !c.supply 0 then 6
  else if t = 6 && !c.supply 4 then 7
  else 0

/-- POWER_REQUEST (R547): a keyed write of PWR_REQ. One request is carried out at a time. Log 28, DEDUCED. -/
def Chip.powerRequest (c : Chip) (d : Word) : Chip :=
  if c.bit (pwrA 0x104) 31 then c
  else
    let t := getBits d 0 3
    -- R3: a port that the part has not is refused as a reserved value is
    let code := if !pageExists c.part NET (getBits d 4 2) then 1 else c.reqCode t
    if code != 0 then (c.count (pwrA 0x03C)).reqDone code
    else
      let c := (c.setWord (pwrA 0x100) (d &&& 0x77#32)).setNat (pwrA 0x104) (2 ^ 31)
      let c := c.setPwr fun x => { x with target := some t, asked := true }
      if t < c.modState && c.bit (pwrA 0x110) 0 then c.setNat (pwrA 0x114) 1 else c

/-! ### Wake (R549, R553) -/

/-- Is wake event `e` (the rows of R549) available in the present state? -/
def Chip.wakeOk (c : Chip) (e : Nat) : Bool :=
  let s := c.modState
  match e with
  | 1 | 2 => true
  | 3 => s ≤ 6
  | 4 | 5 => s ≤ 3
  | 6 => 4 ≤ s
  | _ => false

/-- The exit begins: towards PWR_WAKE_CFG.TO, or by a reset of cause WAKE (R549, R553). -/
def Chip.wakeNow (c : Chip) (e : Nat) : Chip :=
  let s := c.modState
  if s ≥ 5 then
    if s = 7 && !c.supply 4 then (c.setPwr fun x => { x with noSupply := true }).showPwr
    else (c.setNat (pwrA 0x114) (2 ^ e)).moduleReset 5
  else
    let goal := if c.bit (pwrA 0x110) 31 then 0 else 1
    if s ≤ goal then c
    else (c.setNat (pwrA 0x114) (2 ^ e)).setPwr fun x => { x with target := some goal, wake := none }

/-- WAKE_EVENT (R545, R548, R549): an enabled wake event. During a downward transition, and in SUMP without VIN, it waits.
Log 28, DEDUCED. -/
def Chip.wakeEvent (c : Chip) (e : Nat) : Chip :=
  if c.pwr.held.isSome || c.flushing || !(e < 7 && c.wakeOk e && c.bit (pwrA 0x110) e) then c
  else if c.pwr.afterFlush then c
  else
    let hold := (c.setPwr fun x => { x with wake := match x.wake with
      | some w => some w
      | none => some e })
    match c.pwr.target with
    | some t => if t > c.modState then hold else c
    | none => if c.modState = 4 && !c.supply 5 then hold else c.wakeNow e

/-- RTC_ALARM (R549, R552): the real-time clock reaches the alarm instant. Log 29, DESIGN CHOICE. -/
def Chip.rtcAlarm (c : Chip) : Chip :=
  let a := c.u64 (pwrA 0x128)
  match c.tim.backup with
  | some t => if a = 0 then c else ({ c with tim := { c.tim with backup := some (max t a) } }).wakeEvent 2
  | none => c

/-- A transition has arrived; a wake event that waited acts (R548). -/
def Chip.arrived (c : Chip) : Chip :=
  let asked := c.pwr.asked
  let c := c.setPwr fun x => { x with target := none, asked := false }
  let c := if asked then c.reqDone 0 else c
  match c.pwr.wake with
  | some e => if c.modState = 4 && !c.supply 5 then c else (c.setPwr fun x => { x with wake := none }).wakeNow e
  | none => c

/-- POWER_RUNG_ENTERED (R548): the transition reaches the next rung. The way to CISTERN or below flushes Tally and writes the
summary on entry to SUMP, and waits there until the flush has ended. Log 27, DEDUCED. -/
def Chip.rung (c : Chip) : Chip :=
  match c.pwr.target with
  | none => c
  | some t =>
    let s := c.modState
    let n := if s < t then s + 1 else s - 1
    if s = t || (n = 5 && c.tly.flush.isSome) then c
    else
      let c := if n = 4 && 5 ≤ t then (c.tlyFlush 4).writeSummary 4 else c
      let c := c.enterState s n
      if n = t then c.arrived else c

/-! ### Supplies (R542, R543, R545, R550, R554) -/

/-- The backup domain loses its contents (R543, R550, R552). -/
def Chip.loseBackup (c : Chip) : Chip :=
  let c := { c with tim := { c.tim with backup := none } }
  let c := c.setCor fun x => { x with boots := 0, recs := x.recs.map fun (e : Nat × BootRec) => (e.1, { e.2 with backup := 3 }) }
  let c := ((c.setNat (pwrA 0x118) 0).setU64 (pwrA 0x128) 0).setNat (pwrA 0x130) 0
  (c.setPwr fun x => { x with tamper := false, empty := true }).showPwr

/-- POWER_FAIL_DETECT (R554): VIN has stayed below 10.0 V for 2 µs; the flush begins. Log 28, DEDUCED.
Log 30, DESIGN CHOICE. -/
def Chip.powerFail (c : Chip) : Chip :=
  if c.modState ≥ 4 || c.flushing || c.pwr.held.isSome then c
  else
    let c := c.setPwr fun x => { x with supplies := setNatBit x.supplies 5 false, target := none, asked := false, wake := none }
    let c := if c.bit (pwrA 0x104) 31 then c.setNat (pwrA 0x104) 0 else c
    let c := (((c.setBit aPwrStat 28 true).setBit aPwrStat 27 true).showPwr.count (pwrA 0x034)).cause PWR 0 1
    let c := c.writeSummary 0
    let (v, c) := c.freeNat
    let c := (c.tlyFlush 0).tally 0x04A1 v
    let c := (c.safGroups).pwmPins c.drives
    let c := if c.role = 3 then c.paiSurrender 3 else c
    let c := if c.pai.latch then c.latchClear else c
    (((((c.gateCores true).portsDown 4).endpointsDown 4).adtLeave).cnvStop).netStop

/-- POWERFAIL_FLUSH_DONE (R554, R583). -/
def Chip.flushEnd (c : Chip) : Chip :=
  if !c.flushing then c
  else if c.supply 5 then c.moduleReset (if c.pwr.testReset then 7 else 2)
  else
    let st := if c.supply 4 then 6 else 7
    let c := (c.setBit aPwrStat 27 false).loseState st
    c.setPwr fun x => { x with afterFlush := true, testReset := false, critSince := none }

/-- The state that the supplies still keep: SUMP and CISTERN need VIN or VAON, CAPPED needs VAON (R545). -/
def Chip.keepable (c : Chip) : Chip :=
  let s := c.modState
  if (s = 4 || s = 5) && !c.supply 5 && !c.supply 4 then (c.stand 7).loseState 7
  else if s = 6 && !c.supply 4 then (c.stand 7).loseState 7
  else c

/-- SUPPLY_CHANGE (R542, R543, R545, R550, R554): supply `i` becomes good, or leaves its good state. -/
def Chip.supplyChange (c : Chip) (i : Nat) (good : Bool) : Chip :=
  if i ≥ 6 || c.supply i = good then c
  else if i = 5 && !good && c.modState ≤ 3 && !c.flushing && c.pwr.held.isNone then c.powerFail
  else
    let own := c.drives
    let c := (c.setPwr fun x => { x with supplies := setNatBit x.supplies i good }).showPwr
    let c := if !good && i ≤ 1 then c.cause PWR 0 6 else c
    let c := if i = 3 then c.pwmPins own else c
    if !good then
      let c := if !c.supply 4 && !c.supply 0 then c.loseBackup else c
      c.keepable
    else if c.pwr.empty && (i = 4 || (i = 5 && !c.supply 4)) then (c.setPwr fun x => { x with empty := false }).moduleReset 1
    else if i = 5 && c.pwr.afterFlush then c.moduleReset 2
    else if i = 5 && c.modState = 4 && c.pwr.wake.isSome then
      let e := c.pwr.wake.getD 6
      (c.setPwr fun x => { x with wake := none }).wakeNow e
    else if i = 5 then c.wakeEvent 6
    else c

/-- TAMPER (R552): TAMPER_N falls. -/
def Chip.tamperFall (c : Chip) : Chip := (c.setPwr fun x => { x with tamper := true }).showPwr

/-- A write of PWR_STAT_CLR by master `m`: TAMPER needs the key (R552, R559). -/
def Chip.pwrStatClear (c : Chip) (m : Nat) (d : Word) (keyed : Bool) : Chip :=
  let c := if d.getLsbD 31 && !keyed && c.pwr.tamper then c.logErr ecNoKey m (pwrA 0x10C) else c
  (c.setPwr fun x => { x with tamper := x.tamper && !(d.getLsbD 31 && keyed), noSupply := x.noSupply && !d.getLsbD 30 }).showPwr

/-! ### Thermal limits (R557, R558) -/

/-- A keyed write of PWR_THERM_CFG: limits above 110 °C are stored as 110 °C (R558). -/
def Chip.thermCfg (c : Chip) (d : Word) : Chip :=
  c.setNat (pwrA 0x11C) (min 11000 (getBits d 16 16) * 2 ^ 16 + min 11000 (getBits d 0 16))

/-- A thermal flag follows its limit with 5 °C of hysteresis (R558); answers whether it has become set. -/
def Chip.thermFlag (c : Chip) (i : Nat) (tj : Int) (lim : Int) : Chip × Bool :=
  let was := c.bit aPwrStat i
  let v := if was then !decide (tj < lim - 500) else decide (tj ≥ lim)
  (c.setBit aPwrStat i v, v && !was)

/-- THERMAL_SAMPLE (R557, R558): the highest reading of the sensors, in 0.01 °C. Log 30, DESIGN CHOICE. -/
def Chip.thermalSample (c : Chip) (tj : Int) (sensor : Nat) : Chip :=
  if c.pwr.held.isSome then c.setPwr fun x => { x with hot := x.hot && !decide (tj < 10000) }
  else if tj ≥ 12500 then (c.setPwr fun x => { x with hot := true }).moduleReset 6
  else
    let c := c.newResult (pwrA 0x800) (BitVec.ofInt 32 (satS 32 tj)) (sensor % 4) c.now
    let (c, up) := c.thermFlag 26 tj (c.fld (pwrA 0x11C) 16 16)
    let c := if up then
        let (v, c) := c.freeNat
        (c.cause PWR 0 2).tally 0x04A2 v
      else c
    let (c, up) := c.thermFlag 25 tj (c.fld (pwrA 0x11C) 0 16)
    let c := if up then ((c.count (pwrA 0x038)).cause PWR 0 3).shedCores else c
    c.setPwr fun x => { x with critSince := if tj ≥ 11500 then some (x.critSince.getD c.nowNs) else none }

/-- THERMAL_CRIT_EXPIRY (R558): T_J has stood at or above 115 °C for 10 ms; control is given up as in step 3 of R35.
Log 30, DESIGN CHOICE. -/
def Chip.thermalCrit (c : Chip) : Chip :=
  match c.pwr.critSince with
  | none => c
  | some t =>
    if c.nowNs < t + 10000000 || c.bit aPwrStat 24 then c
    else
      let c := (c.setBit aPwrStat 24 true).cause PWR 0 4
      let (v, c) := c.freeNat
      let c := c.tally 0x04A3 v
      if c.role = 3 && c.bit aPaiStat 24 then
        let (v, c) := c.freeNat
        (c.paiSurrender (v % 256)).setSurrendered
      else if c.role ≤ 3 then c.giveUpAlone
      else c

/-! ### The test access port (R577 to R584) -/

/-- Instructions that put the balls under the chain: EXTEST, HIGHZ, CLAMP, EXTEST_PULSE, EXTEST_TRAIN (R583). -/
def tapTest (op : Nat) : Bool := op = 0 || op = 3 || op = 4 || op = 5 || op = 6

/-- A reset of cause TEST; one that meets the power-fail flush waits for its end (R583). -/
def Chip.testReset (c : Chip) : Chip :=
  if c.flushing then c.setPwr fun x => { x with testReset := true } else c.moduleReset 7

/-- Does instruction `op` act, rather than as BYPASS (R577, R578, R585)? -/
def Chip.tapActs (c : Chip) (op : Nat) : Bool :=
  [0, 1, 2, 3, 4, 5, 6, 0x20, 0x21, 0x22].contains op &&
    (op = 2 || (c.supply 5 && c.supply 3 && c.supply 2)) &&
    (!(op = 0x20 || op = 0x22) || !c.bit (pageAddr TST 0 0x100) 31)

/-- The debug freeze is asserted (R578). -/
def Chip.freezing (c : Chip) : Bool := c.tap.ir = 0x22 && c.tap.acts && !c.bit (pageAddr TST 0 0x100) 31

/-- The instruction register takes `op` (R578, R581, R583): leaving a test instruction resets the module; entering one that
drives the balls clears the hold latch; FREEZE raises its cause. Log 68, DEDUCED. -/
def Chip.tapLoad (c : Chip) (op : Nat) : Chip :=
  if !c.supply 4 then c
  else
    let left := tapTest c.tap.ir && c.tap.acts && op != c.tap.ir
    let was := c.freezing
    let acts := c.tapActs op
    let c := { c with tap := { c.tap with ir := op, acts := acts } }
    let c := if acts && (op = 0 || op = 4 || op = 5 || op = 6) && c.pai.latch then c.latchClear else c
    let c := if c.freezing && !was then c.cause TST 0 1 else c
    if left || (op = 0x21 && acts) then c.testReset else c

/-! ### The boundary-scan chain (R578, R580 to R582) -/

/-- The segments of the chain from TDI to TDO: its balls and its cells (R580). -/
def scanSegments : List (Nat × Nat) := [(26, 36), (368, 704), (290, 453), (68, 68), (68, 68), (98, 71)]
/-- The first cell of segment `k`, counted from 0. -/
def scanFirst (k : Nat) : Nat := ((scanSegments.take k).map (·.2)).sum
/-- The chain's cells (R580). -/
def scanLength : Nat := scanFirst 6

/-- What commands a ball of the chain (R578, R581): its own function, the chain's cells, or neither, in high impedance. Safety balls keep
their function. -/
inductive BallRule where
  | own
  | chain
  | highZ
  deriving DecidableEq, Repr

/-- The rule for the balls of the chain but for the safety balls (R578, R581). -/
def Chip.ballRule (c : Chip) : BallRule :=
  if !c.tap.acts then .own
  else if c.tap.ir = 0 || c.tap.ir = 4 || c.tap.ir = 5 || c.tap.ir = 6 then .chain
  else if c.tap.ir = 3 then .highZ
  else .own

/-- GPIO[g] as the module drives it (R316); DRIP and SEEP hold it (R567). -/
def Chip.gpioOut (c : Chip) (g : Nat) : Option Bool :=
  if g < 64 && c.bit (gpioK (0x200 + 4 * g)) 31 && c.drives && c.bankGood (g / 32) && c.modState ≤ 3 then
    some (c.bit (gpioK (0x108 + 4 * (g / 32))) (g % 32) != c.bit (gpioK (0x200 + 4 * g)) 30)
  else none

/-- STP_PULSE (at rest) or STP_DIR of channel `k` (R250, R260, R567): none without pin ownership. -/
def Chip.stepPin (c : Chip) (k : Nat) (dir : Bool) : Option Bool :=
  if !c.drives || !c.bit (stpK k 0) 31 || !c.bankGood 0 || 4 ≤ c.modState then none
  else some (if dir then c.stepDirPin k else c.bit (stpK k 0) 29)

/-- FBK_SSI_CLK of channel `n` at rest (R297, R298, R318, R567): the SSI clock is high, the RS-485 enable low; none without pin
ownership, which at a planned hand-over changes at a frame's end (R509). -/
def Chip.ssiPin (c : Chip) (n : Nat) : Option Bool :=
  let own := match (c.chan n).frame with
    | some f => f.own
    | none => c.drives
  if !own || !c.chanOn n || !c.bankGood 1 || 4 ≤ c.modState then none
  else match c.fbkSrc n with
    | 2 => some true
    | 3 => some false
    | _ => none

/-- CAN_TX[n] between frames (R409, R567): recessive; none without pin ownership, below TRICKLE, and while a frame drives it. -/
def Chip.canTxPin (c : Chip) (n : Nat) : Option Bool :=
  if !c.canOwns n || 2 ≤ c.modState || (c.canCtl n).wire.isSome then none else some true

/-- PAIR_HOLD_OUT (R490, R495, R567): high while this module drives its local pins; none in DRY. -/
def Chip.holdOut (c : Chip) : Option Bool := if c.modState = 7 then none else some (c.drives && c.modState ≤ 3 && c.pwr.held.isNone)
/-- PAIR_ROLE_OUT (R490, R567): high while this module is lead or claims the lead role; none in DRY. -/
def Chip.roleOut (c : Chip) : Option Bool := if c.modState = 7 then none else some (c.pai.claim && c.modState ≤ 3 && c.pwr.held.isNone)

/-- The safety balls are driven: by the module with pin ownership, down to SEEP (R488, R567). -/
def Chip.safDrives (c : Chip) : Bool := c.drives && c.modState ≤ 3
/-- STO_A[g] and STO_B[g] outside their dark pulses (R460, R471): high while the group is energised. -/
def Chip.stoPin (c : Chip) (g : Nat) : Option Bool := if c.safDrives then some (!c.stoGroup g) else none
/-- SAFE_TP[p] outside its pulses (R459, R466): high once the channels run. -/
def Chip.tpPin (c : Chip) : Option Bool := if c.safDrives then some (1 ≤ c.safState && c.safState ≤ 3) else none

/-- What the module's own function drives on output `n` of R563: PWM_OUT[n], from 192 STP_PULSE, from 224 STP_DIR, from 256 GPIO, from 320
TPULSE, from 336 FBK_SSI_CLK, from 368 CAN_TX, from 372 CAN_STB, 376 PAIR_HOLD_OUT, 377 PAIR_ROLE_OUT, from 378 STO_A, from 394 STO_B and
from 410 SAFE_TP; none in high impedance. In reset all but the hold and role lines are (R551, R563). -/
def Chip.ownPin (c : Chip) (n : Nat) : Option Bool :=
  if n = 376 then c.holdOut
  else if n = 377 then c.roleOut
  else if c.pwr.held.isSome then none
  else if n < 192 then c.pwmOut n
  else if n < 256 then c.stepPin ((n - 192) % 32) (224 ≤ n)
  else if n < 320 then c.gpioOut (n - 256)
  else if n < 336 then c.tpulse (n - 320)
  else if n < 368 then c.ssiPin (n - 336)
  else if n < 372 then c.canTxPin (n - 368)
  else if n < 376 then c.canStb (n - 372)
  else if n < 410 then c.stoPin ((n - 378) % 16)
  else if n < 418 then c.tpPin
  else none

/-- Does an active trip input force the balls of pair `p` (R275, R581)? -/
def Chip.tripForces (c : Chip) (p : Nat) : Bool :=
  [false, true].any fun g => (List.range 48).any fun i => c.tripSeen g i && (c.tripPairs g i).contains p

/-- What drives output `n` of `ownPin` at its ball (R578, R581): the trip path acts after the boundary cells, the hold and role lines are
low under the chain, and the safety balls keep their function. Log 20, DESIGN CHOICE. -/
def Chip.ballOut (c : Chip) (n : Nat) : Option Bool :=
  let k := Config.ballCell n
  match c.ballRule with
  | .own => c.ownPin n
  | .chain =>
    if 378 ≤ n then c.ownPin n
    else if n = 376 || n = 377 then some false
    else if n < 192 && c.tripForces (n / 2) then some (c.bit (pwmK (n / 2) 0x100) (if n % 2 = 0 then 27 else 26))
    else if c.tap.cells.getD (k + 1) false then some (c.tap.cells.getD k false) else none
  | .highZ => if 378 ≤ n then c.ownPin n else none

/-- What a capture takes: each cell's level at its ball: what the module drives there, and else the operand, in the order of the BSDL; the
cells of the ports that FVK-8620 has not capture 0 (R580). Log 20, DESIGN CHOICE. -/
def Chip.scanCapture (c : Chip) (pins : List Bool) : List Bool :=
  let seen := (List.range scanLength).map fun k =>
    pins.getD k false && !(c.part == .fvk8620 && decide (scanFirst 5 ≤ k) && Config.portCell (k - scanFirst 5))
  (List.range 418).foldl (fun l n =>
    match c.ballOut n with
    | some b => l.set (Config.ballCell n) b
    | none => l) seen

/-- The cells of segment 6 that transmit pairs take (R580, R582). -/
def Chip.hssCells (c : Chip) : List Bool :=
  ((c.tap.cells.drop (scanFirst 5)).zipIdx.filter fun e => Config.sendCell e.2).map (·.1)

/-- Bits in their order, packed into words. -/
def bitWords (l : List Bool) : List Word :=
  (List.range ((l.length + 31) / 32)).map fun i =>
    ((l.drop (32 * i)).take 32).zipIdx.foldl (fun (w : Word) (e : Bool × Nat) => if e.1 then w ||| BitVec.ofNat 32 (2 ^ e.2) else w) 0

/-- One scan of the selected chain: Capture-DR, which the shift brings to TDO, and Update-DR of what TDI brought, where it has the chain's
length. EXTEST_PULSE and EXTEST_TRAIN send what the transmit cells then hold (R578, R582). An instruction that acts as BYPASS shifts the
bypass bit, which captures 0. No bits from TDI stand for no scan. Log 20, DESIGN CHOICE. -/
def Chip.tapScan (c : Chip) (pins tdi : List Bool) : Chip :=
  if !c.supply 4 || tdi.isEmpty then c
  else if !c.tap.acts then c.answer .done [0]
  else
    let got := c.scanCapture pins
    let cells := if tdi.length = scanLength then tdi else c.tap.cells
    let c := { c with tap := { c.tap with captured := got, cells := cells } }
    let c := if c.tap.ir = 5 || c.tap.ir = 6 then c.out (.hssTest (c.tap.ir = 6) c.hssCells) else c
    c.answer .done (bitWords got)

/-- IDCODE (R579). -/
def Chip.idcode (c : Chip) : Word :=
  BitVec.ofNat 32 (c.fld (corA 0x114) 8 4 * 2 ^ 28 + c.partNo * 2 ^ 12 + 0x5E7 * 2 + 1)

/-- TST_STAT (R585). Log 68, DEDUCED. -/
def Chip.tstStat (c : Chip) : Word := BitVec.ofNat 32 (b2n ([0, 1, 3, 4, 5, 6, 0x20, 0x21, 0x22].contains c.tap.ir) * 2 ^ 31 + c.tap.ir % 256)

/-- BYPASS (R578): opcode 0xFF, or any opcode without an instruction of its own. -/
def Chip.tapBypass (c : Chip) (op : Nat) : Chip :=
  c.tapLoad (if [0, 1, 2, 3, 4, 5, 6, 0x20, 0x21, 0x22].contains (op % 256) then 0xFF else op % 256)

/-- TAP_TEST_EXIT (R583): a test instruction is left for `op`. Log 68, DEDUCED. -/
def Chip.tapExit (c : Chip) (op : Nat) : Chip := if tapTest c.tap.ir && op % 256 != c.tap.ir then c.tapLoad (op % 256) else c

/-- What Capture-DR of REG_ACCESS returns (R584). Log 68, DEDUCED. -/
def Chip.tapCapture (c : Chip) : List Word :=
  [c.tap.data, BitVec.ofNat 32 (b2n c.tap.done * 2 ^ 31 + c.tap.offset % 2 ^ 25 * 2 ^ 6 + c.tap.cause % 16 * 2)]

/-- REG_ACCESS_CAPTURE (R577, R584), while VAON is good; the bypass bit reads 0 where the instruction does not act. Log 68, DEDUCED. -/
def Chip.tapAnswer (c : Chip) : Chip :=
  if !c.supply 4 then c
  else if c.tap.ir = 0x20 && c.tap.acts && !c.bit (pageAddr TST 0 0x100) 31 then c.answer .done c.tapCapture else c.answer .done [0]

end Sys2Proof.Machine
end

