-- ==== Sys2Proof/Machine/Lanes.lean ====
section
/-! DEFINITION. Dispatch to lanes, cores and relays (R123 to R126, R131, R132, R175): a lane task runs its slot once, and its
released outputs are handed on in `outQ`; their writes are carried out in Machine/Route. -/

namespace Sys2Proof.Machine

/-- R67: the instance operates: its page is enabled, in no soft reset, and not halted by the debug freeze (log 12, DEDUCED). -/
def Chip.operates (c : Chip) (b i : Nat) : Bool :=
  c.pageOn b i && !c.resetting b i && !(c.freezing && c.bit (pageAddr b i PG_CTL) 2)

/-- R67: a block that the debug freeze holds at its safe point (the Safety Unit and the trip path are never frozen).
Log 12, DEDUCED. -/
def Chip.frozen (c : Chip) (b i : Nat) : Bool := c.freezing && c.bit (pageAddr b i PG_CTL) 2

/-- R162, R163: the 64-bit value at `a`, with its stamp, and for a result word its GEN and SETTLING. The spec gives a stamp
to result words, frame slots, profile outputs and latches alone; that of any other register is free (log 11, DESIGN CHOICE). -/
def Chip.srcVal (c : Chip) (a : Nat) : SrcVal :=
  -- R305: a word of a feedback latch takes its GEN from the latch's result word
  let o := offOf a
  let gen := if blockOf a = FBK && !isTw a && instOf a < 32 && 0x200 ≤ o && o < 0x2C0
    then some (c.gen (fbkK (instOf a) (0x800 + 8 * ((o - 0x200) / 0x40)))) else none
  match resultAt c.part a with
  | some r =>
    { v := c.u64 r.base, stamp := tab 0 c.stamps r.base, gen := some (c.gen r.base), settling := c.bit r.base 22 }
  | none =>
    match c.stamps.find? (·.1 == a) with
    | some e => { v := c.u64 a, stamp := e.2, gen := gen }
    | none => { v := c.u64 a, gen := gen, stamp := BitVec.ofNat 96 (Config.freeNat (c.freeCount + a)) }

/-- R24: re-sends on the fabric hops of a transfer whose blocks arrive in the end; bit n of `failed` says that operand n failed its
third re-send. -/
def Chip.hops (c : Chip) (resends failed : Nat) : Chip :=
  let n := popCount 8 failed
  let c := c.when (resends + 3 * n > 0) fun c => (c.count (dipA 0x118) (resends + 3 * n)).cause DIP 0 4
  c.when (n > 0) fun c => (c.count (dipA 0x11C) n).cause DIP 0 5

/-- The free lanes of a pool: lane 0, or lanes 1 to 63 (R126). Log 38, DESIGN CHOICE. -/
def Chip.freeLanes (c : Chip) (pool : Nat) : List Nat :=
  (if pool = 0 then [0] else (List.range 63).map (· + 1)).filter fun l => tab 0 c.hoi.lanes l == 0

/-- The lane runs task `i` (R123, R172, R175): the outputs leave as they are formed, or wait in the flow's release buffer
(R131). -/
def Chip.runLane (c : Chip) (l i poison : Nat) (bad : List Nat) : Chip :=
  let trig := (c.inst i).trig
  let c := c.startRun i
  let c := { c with hoi := { c.hoi with lanes := tabPut 0 c.hoi.lanes l (i + 1) } }
  let s := c.fld (dK i 2) 0 12
  if !c.operates LOOP 0 then c
  else
    let hold := c.bit (ctlK s) 29
    let (c, outs) := Chip.runSlotFor Chip.srcVal c s (c.costOf i) poison bad trig
    let outs := if hold then [] else outs
    let c := c.learnCompare s
    match (c.inst i).flow with
    | some _ => c.setInst i { c.inst i with held := outs }
    | none => { c with outQ := c.outQ ++ outs }

/-- Hoist dispatches: in FLOW only, and while its page operates (R155, R67). -/
def Chip.dispatches (c : Chip) : Bool := c.modState = 0 && !c.flushing && c.operates HOI 0

/-- TASK_DISPATCH (R125, R126, R131, R134): the highest-ranked ready run of a pool goes to a free lane or to a core; a relay
is released at once. Which of several free lanes takes it is free. Log 38, DESIGN CHOICE. -/
def Chip.taskDispatch (c : Chip) (pool resends poison : Nat) (bad : List Nat) : Chip :=
  if !c.dispatches then c
  else if pool ≤ 1 then
    match c.pick pool, c.freeLanes pool with
    | some i, l :: r =>
      let (n, c) := c.freeNat
      ((c.hops resends (poison % 256)).runLane ((l :: r).getD (n % (r.length + 1)) l) i poison bad)
    | _, _ => c
  else if pool ≤ 5 then c.dispatchCore (pool - 2)
  else match c.pick 6 with
    | some i => (c.startRun i).finish i
    | none => c

/-- TASK_RELEASE (R131, R137): a lane task has spent its cost. -/
def Chip.laneDone (c : Chip) (i : Nat) : Chip := if c.operates HOI 0 then c.taskRelease i else c

/-- COMPLETION_POST (R121): while Hoist's page operates. -/
def Chip.postNext (c : Chip) : Chip := if c.operates HOI 0 then c.completionPost else c

end Sys2Proof.Machine
end

