-- ==== Sys2Proof/Machine/Track.lean ====
section
/-! DEFINITION. Recipe tracks (R148 to R153): commands, prefetch and its checks, and what a due step waits for. The actions of
a step are applied in Machine/Route. -/

namespace Sys2Proof.Machine

/-- A register of the page of track `t` (R153). -/
def trkA (t off : Nat) : Nat := pageAddr HOI (16 + t) off
/-- What a track holds behind its registers. -/
def Chip.track (c : Chip) (t : Nat) : Track := tab {} c.hoi.tracks t
/-- What a track holds behind its registers changes. -/
def Chip.setTrack (c : Chip) (t : Nat) (x : Track) : Chip :=
  { c with hoi := { c.hoi with tracks := tabPut {} c.hoi.tracks t x } }
/-- STATE of a track: 0 IDLE, 1 ARMED, 2 RUNNING, 3 WAITING, 4 PAUSED, 5 HOLD, 6 DONE (R153). -/
def Chip.trkState (c : Chip) (t : Nat) : Nat := c.fld (trkA t 0x114) 28 4
/-- A track changes its state. -/
def Chip.setTrkState (c : Chip) (t st : Nat) : Chip := c.setFld (trkA t 0x114) 28 4 st
/-- POS: the index of the next step. -/
def Chip.trkPos (c : Chip) (t : Nat) : Nat := c.fld (trkA t 0x114) 0 16
/-- HOI_TRK_START. -/
def Chip.trkStart (c : Chip) (t : Nat) : Nat := c.u64 (trkA t 0x108)

/-! ### A step and its fields (R148) -/

/-- The sixteen words of step `i` of track `t`. -/
def Chip.stepWords (c : Chip) (t i : Nat) : List Word := (List.range 16).map fun w => c.word (stepK t i w)
/-- AT of a step, in µs. -/
def stepAt (w : List Word) : Nat := (w.getD 0 0).toNat + 2 ^ 32 * getBits (w.getD 1 0) 0 8
/-- OP of a step. -/
def stepOp (w : List Word) : Nat := getBits (w.getD 1 0) 8 8
/-- NACT of a step. -/
def stepNact (w : List Word) : Nat := getBits (w.getD 1 0) 16 8
/-- ARG of a step. -/
def stepArg (w : List Word) : Word := w.getD 3 0
/-- Word 0 of action `a`. -/
def actHead (w : List Word) (a : Nat) : Word := w.getD (4 + 2 * a) 0
/-- VALUE of action `a`. -/
def actVal (w : List Word) (a : Nat) : Word := w.getD (5 + 2 * a) 0
/-- The step instant: START + 1,000 ns × AT. -/
def Chip.stepInstant (c : Chip) (t : Nat) (w : List Word) : Nat := (c.trkStart t + 1000 * stepAt w) % 2 ^ 64

/-! ### The checks of R150 -/

/-- Code 1: CHECK does not match. -/
def stepCrcBad (w : List Word) : Bool :=
  crc32c ((w.take 15).flatMap fun x => natBytes 4 x.toNat) != (w.getD 15 0).toNat

/-- Code 3: less than 125 µs after the previous step, which is in the buffer or was applied last. -/
def Chip.stepClose (c : Chip) (t : Nat) (w : List Word) : Bool :=
  let x := c.track t
  match x.buf.getLast?.map (fun p => stepAt p.data) <|> x.last with
  | some a => stepAt w < a + 125
  | none => false

/-- Code 4: an action targets a page, or an element, that the owner of the track page does not own. -/
def Chip.stepForeign (c : Chip) (t : Nat) (w : List Word) : Bool :=
  (List.range (min 5 (stepNact w))).any fun a =>
    let tgt := getBits (actHead w a) 0 25 / 4 * 4
    !implemented c.part tgt || c.ownerAt tgt != c.pageOwner HOI (16 + t)

/-- Code 7: a reserved OP or KIND, or an invalid NACT or JUMP. -/
def stepInvalid (w : List Word) : Bool :=
  let op := stepOp w
  !([1, 2, 3, 4, 0xF].contains op) || stepNact w > 5 ||
  ((List.range (min 5 (stepNact w))).any fun a => getBits (actHead w a) 30 2 ≥ 2) ||
  (op = 4 && (stepNact w != 0 || (actVal w 0).toNat < 125))

/-- The fault code of a step as it enters the buffer. Log 42, DEDUCED. -/
def Chip.stepCode (c : Chip) (t i : Nat) (w : List Word) : Nat :=
  if tab false c.elemPoison (stepK t i 0) then 2
  else if stepCrcBad w then 1
  else if c.stepClose t w then 3
  else if c.stepForeign t w then 4
  else if stepInvalid w then 7
  else 0

/-! ### The next step -/

/-- The words of the next step: from the buffer once it is prefetched, else as they stand in the store (R150, R153). -/
def Chip.nextWords (c : Chip) (t : Nat) : List Word :=
  match (c.track t).buf.head? with
  | some p => p.data
  | none => c.stepWords t (c.trkPos t)

/-- NEXT_AT is the instant of the next step (R153). -/
def Chip.showNextAt (c : Chip) (t : Nat) : Chip := c.setU64 (trkA t 0x118) (c.stepInstant t (c.nextWords t))

/-- The step at POS becomes the next one, now (R152, R153). -/
def Chip.showStep (c : Chip) (t : Nat) : Chip := (c.showNextAt t).setTrack t { c.track t with since := c.nowNs }

/-- R152: the instant of a step with words `w` had passed when it became the next one. -/
def Chip.stepLate (c : Chip) (t : Nat) (w : List Word) : Bool := (c.track t).since > c.stepInstant t w

/-- Index `i` is the next step. -/
def Chip.nextStep (c : Chip) (t i : Nat) : Chip := (c.setFld (trkA t 0x114) 0 16 i).showStep t

/-- The track enters HOLD with a fault code: FAULT, and the fault list if FAULT_POST is set (R150, R152). -/
def Chip.trkHold (c : Chip) (t code i : Nat) : Chip :=
  let c := (c.setTrkState t 5).setNat (trkA t 0x120) (code * 2 ^ 28 + i % 2 ^ 16)
  let c := c.setTrack t { c.track t with buf := [] }
  let c := c.cause HOI (16 + t) 2
  c.postIf (c.bit (trkA t 0x100) 31) (c.fld (trkA t 0x100) 0 17) c.now

/-- What follows a command in which the counter may have stepped: the EPOCH pair (R432), and which steps are late on the new
time (R152). -/
def Chip.stepped (new old : Chip) : Chip :=
  if new.fld aTimStat 16 8 = old.fld aTimStat 16 8 then new
  else
    (new.afterStep old).each ((List.range 64).filter fun t => new.trkState t = 1 || new.trkState t = 2) fun c t => c.showStep t

/-! ### Commands (R149, R152, R153) -/

/-- Nanoseconds rounded up to a whole µs. -/
def ceilUs (n : Nat) : Nat := ceilDiv n 1000 * 1000

/-- START advances. -/
def Chip.trkAdvance (c : Chip) (t n : Nat) : Chip := c.setU64 (trkA t 0x108) (c.trkStart t + n)

/-- A command that the table of R152 lists for the present state is accepted. -/
def Chip.trkTakes (c : Chip) (t cmd : Nat) : Bool :=
  let st := c.trkState t
  match cmd with
  | 1 => (st = 0 || st = 5 || st = 6) && !c.maintenance
  | 2 => st = 2 || st = 3
  | 3 => st = 4
  | 4 => st != 0
  | 5 => st = 3
  | _ => false

/-- TRACK_ARM, TRACK_PAUSE, TRACK_RESUME, TRACK_ABORT, TRACK_CONTINUE (R149, R152, R153): a write of HOI_TRK_CMD. A command
that the table does not list sets CMD_IGNORED; no track is armed in MAINTENANCE (R535). Log 42, DEDUCED. -/
def Chip.trkCommand (c : Chip) (t : Nat) (d : Word) : Chip :=
  let cmd := getBits d 0 3
  if !c.trkTakes t cmd then c.setBit (trkA t 0x114) 27 true
  else
    let c := c.setBit (trkA t 0x114) 27 false
    let x := c.track t
    match cmd with
    | 1 => ((c.setTrack t {}).setNat (trkA t 0x114) (2 ^ 28)).nextStep t (c.fld (trkA t 0x110) 0 16)
    | 2 => (c.setTrkState t 4).setTrack t { x with pausedAt := c.nowNs }
    | 3 => ((c.trkAdvance t (ceilUs (c.nowNs - x.pausedAt))).setTrkState t 2).showStep t
    | 4 => (c.setTrkState t 0).setTrack t {}
    | _ => ((c.trkAdvance t (ceilUs (c.nowNs - x.waitAt))).setTrkState t 2).showStep t

/-- Is the register writable in the track's present state (R153)? -/
def Chip.trkOpen (c : Chip) (t off : Nat) : Bool :=
  let st := c.trkState t
  if off = 0x100 then st = 0 else if off < 0x110 then st = 0 || st = 5 || st = 6 else true

/-! ### Prefetch (R150) -/

/-- The index that enters the buffer of track `t` next. -/
def Chip.nextFetch (c : Chip) (t : Nat) : Nat :=
  match (c.track t).buf.getLast? with
  | some p => p.idx + 1
  | none => c.trkPos t

/-- STEP_PREFETCH (R150): step `i` enters the buffer of track `t` with its checks; a step that was next and whose instant has
come meanwhile is code 8. -/
def Chip.prefetch (c : Chip) (t i rr : Nat) : Chip :=
  let st := c.trkState t
  let x := c.track t
  if t ≥ 64 || !(1 ≤ st && st ≤ 4) || x.buf.length ≥ 16 || i ≥ 65536 || i != c.nextFetch t || !c.running then c
  else
    let w := c.stepWords t i
    if i = c.trkPos t && !c.stepLate t w && st ≤ 2 && c.stepInstant t w < c.nowNs then c.trkHold t 8 i
    else
      let c := c.elemRead (stepK t i 0) rr none
      (c.setTrack t { x with buf := x.buf ++ [{ idx := i, data := w, code := c.stepCode t i w }] }).showNextAt t

/-! ### A due step (R150, R152) -/

/-- What a due step does. -/
inductive DueStep where
  /-- nothing is due -/
  | notYet
  /-- the track holds with this code at this index -/
  | holds (code idx : Nat)
  /-- the step is applied -/
  | applies (x : Prefetched)
  deriving DecidableEq, Repr

/-- The step of track `t` that is due with operation `op`. Log 42, DEDUCED. -/
def Chip.dueStep (c : Chip) (t op : Nat) : DueStep :=
  let st := c.trkState t
  let x := c.track t
  let pos := c.trkPos t
  if t ≥ 64 || !(st = 1 || st = 2) || !c.running || !c.operates HOI (16 + t) then .notYet
  else match x.buf.head? with
    | none =>
      let w := c.stepWords t pos
      if !c.stepLate t w && c.stepInstant t w ≤ c.nowNs then .holds 8 pos else .notYet
    | some p =>
      if c.stepInstant t p.data > c.nowNs then .notYet
      else if p.code != 0 then .holds p.code p.idx
      else if stepOp p.data != op then .notYet
      else if c.stepLate t p.data && c.bit (trkA t 0x100) 30 then .holds 5 p.idx
      else .applies p

/-- What comes before the actions of a step: the track runs, and LATE is counted (R152). -/
def Chip.stepBegin (c : Chip) (t : Nat) (p : Prefetched) : Chip :=
  let c := c.setTrkState t 2
  if c.stepLate t p.data then (c.count (trkA t 0x034)).cause HOI (16 + t) 3 else c

/-- A JUMP (R149): the index of the next step, START and the remaining counts. Log 42, DEDUCED. -/
def Chip.stepJump (c : Chip) (t : Nat) (p : Prefetched) (at' : Nat) : Chip :=
  let x := c.track t
  let arg := stepArg p.data
  let tgt := getBits arg 0 16
  let n := getBits arg 16 16
  let jump (c : Chip) : Chip :=
    let w := c.stepWords t tgt
    let c := c.setU64 (trkA t 0x108) (unsigned 64 ((at' + 1000 * (actVal p.data 0).toNat : Nat) - (1000 * stepAt w : Nat)))
    (c.setTrack t { c.track t with buf := [], last := none }).nextStep t tgt
  if n = 0 then jump c
  else
    let rem := (tab none x.jumps p.idx).getD n
    let c := c.setFld (trkA t 0x114) 16 8 (rem - 1)
    if rem = 0 then (c.setTrack t { c.track t with jumps := tabPut none x.jumps p.idx none }).nextStep t (p.idx + 1)
    else jump (c.setTrack t { c.track t with jumps := tabPut none x.jumps p.idx (some (rem - 1)) })

/-- What follows the actions of a step (R149, R151): STEP_CNT, STEP, and what its OP does. Where an action of the step has
aborted its own track, what its OP does is discarded with the pending steps; where one has paused it, the track does not begin to
wait. Log 42, DEDUCED. -/
def Chip.stepEnd (c : Chip) (t : Nat) (p : Prefetched) : Chip :=
  let at' := c.stepInstant t p.data
  let c := (c.count (trkA t 0x038)).cause HOI (16 + t) 0
  let st := c.trkState t
  if !(st = 2 || st = 4) then c
  else
    let x := c.track t
    let c := c.setTrack t { x with buf := x.buf.drop 1, last := some (stepAt p.data) }
    match stepOp p.data with
    | 2 => (c.post (getBits (stepArg p.data) 0 17) c.now).nextStep t (p.idx + 1)
    | 3 =>
      let c := c.nextStep t (p.idx + 1)
      if st = 4 then c
      else
        ((c.setTrack t { c.track t with waitAt := at', waitLimit := 1000 * (stepArg p.data).toNat, waitIdx := p.idx }).setTrkState
          t 3).cause HOI (16 + t) 4
    | 4 => c.stepJump t p at'
    | 0xF => ((c.nextStep t (p.idx + 1)).setTrkState t 6).cause HOI (16 + t) 1
    | _ => c.nextStep t (p.idx + 1)

/-- WAIT_LIMIT_EXPIRY (R149, R152). Log 42, DEDUCED. -/
def Chip.waitOver (c : Chip) (t : Nat) : Chip :=
  let x := c.track t
  if t < 64 && c.trkState t = 3 && x.waitLimit != 0 && x.waitAt + x.waitLimit ≤ c.nowNs then c.trkHold t 6 x.waitIdx else c

end Sys2Proof.Machine
end

