-- ==== Sys2Proof/Machine/Access.lean ====
section
/-! DEFINITION. Reads of the register window (R11, R16, R19, R56 to R60, R66 to R72, R97, R586): what each word reads as, the
side effects of a read, and the answer to it. -/

namespace Sys2Proof.Machine

/-! ### The page and view an address belongs to -/

/-- A Bell page (R99): MBX instances 1 to 64. -/
def isBell (a : Nat) : Bool := blockOf a == MBX && !isTw a && 1 ≤ instOf a && instOf a < 65

/-- A Bell or Bucket page, whose offsets from 0x100 on the binding governs (R97). Log 34, DEDUCED. -/
def isBound (a : Nat) : Bool := blockOf a == MBX && !isTw a && 1 ≤ instOf a && instOf a < 97

/-- MBX_LOCK_n (R111). Log 34, DEDUCED. -/
def isLock (a : Nat) : Bool :=
  blockOf a == MBX && !isTw a && instOf a == 97 && 0x100 ≤ offOf a && offOf a < 0x300

/-- An entry of a Bucket ring, which its two bound masters alone may read (R106). -/
def isRingEntry (a : Nat) : Bool := blockOf a == MBX && isTw a && 0x4_0000 ≤ twOf a

/-- The offsets of a Bell page that each side sees in its own view (R99, R104). -/
def bellOwn (o : Nat) : Bool := o = PG_EVT_RAW || o = PG_EVT_EN || o = PG_EVT_PEND || 0x034 ≤ o

/-- The key of the word at `a` as master `m` finds it: a partition's own copy (R586), a side's view (R104), a word captured
for the master (R322, R428), or the register. -/
def Chip.regKey (c : Chip) (m a : Nat) (per : Bool) : Nat :=
  if per then viewKey m a
  else if isBell a && bellOwn (offOf a) then
    match c.sideOf (instOf a - 1) m with
    | some s => viewKey s a
    | none => a
  else if !isTw a && ((blockOf a == CNV && instOf a < 4 && 0x300 ≤ offOf a && offOf a < 0x30C) ||
      (blockOf a == ADT && instOf a == 3 && 0x700 ≤ offOf a && offOf a < 0x70C)) then viewKey m a
  else a

/-- The master's own copy serves it (R586)? -/
def perAt (part : Part) (a : Nat) : Bool :=
  match rowAt part a with
  | some h => h.row.per
  | none => false

/-! ### Derived header words (R67) -/

/-- A page without an event line (R94, R366). -/
def noLine (b i : Nat) : Bool := (b == MBX && (i == 0 || 65 ≤ i)) || (b == NET && 4 ≤ i && i < 127)

/-- PG_CAPS: the part in HST instance 0, NO_LINE on pages without a line (R2, R94, R366). -/
def Chip.capsWord (c : Chip) (b i : Nat) : Word :=
  if b = HST && i = 0 then BitVec.ofNat 32 (c.partNo * 2 ^ 16)
  else if noLine b i then 0x8000_0000#32 else 0

/-- BUSY of PG_STAT: the block works on a request (R67; log 14, DEDUCED). -/
def Chip.pageBusy (c : Chip) (b i : Nat) : Bool :=
  (c.iwin.any fun e => e.1 / 16 == pageAddr b i 0 && e.2.live) ||
  (match b with
    | 0x03 => if i = 0 then c.cor.cmd.isSome else c.cor.att.contains (i - 1)
    | 0x04 => if i = 0 then !c.hoi.requests.isEmpty else i < 9 && (c.port (i - 1)).current.isSome
    | 0x05 => i == 0 && !c.loop.cmds.isEmpty
    | 0x09 => i < 4 && (c.cv i).cur.isSome
    | 0x0A => i == 0 && !c.adt.cmds.isEmpty
    | 0x0B => !c.tly.cmds.isEmpty || c.tly.flush.isSome
    | 0x0D => i == 127 && c.bit (pageAddr NET 127 0x120) 31
    | 0x0F => c.bit (pageAddr SAF 0 0x108) 31
    | 0x12 => c.pwr.target.isSome
    | _ => false)

/-- PG_STAT (R67): READY reads 0 until ENABLE is set, as after reset; no chapter gives a page a cause of FAULT, so FAULT reads 0
(log 14, DEDUCED). -/
def Chip.statWord (c : Chip) (b i : Nat) : Word :=
  let d := c.domain b i
  let ready := d = 0 && !c.resetting b i && c.pageOn b i
  BitVec.ofNat 32 (c.modState * 2 ^ 8 + d * 2 ^ 4 + b2n (c.pageBusy b i) * 2 + b2n ready)

/-- PG_EVT_LINE (R67): a Bell page shows the line of the reader's side (R104). -/
def Chip.lineWord (c : Chip) (m b i : Nat) : Word :=
  let s := if b = MBX && 1 ≤ i && i < 65 then (c.sideOf (i - 1) m).getD 0 else 0
  if noLine b i then 0 else BitVec.ofNat 32 ((lineOf b i s).getD 0)

/-- A header word at offset `o` (R67). Log 34, DEDUCED. -/
def Chip.headWord (c : Chip) (m a : Nat) : Word :=
  let b := blockOf a
  let i := instOf a
  match offOf a with
  | 0x000 => BitVec.ofNat 32 (b * 2 ^ 24 + i * 2 ^ 16 + 0x100)
  | 0x004 => c.capsWord b i
  | 0x00C => c.statWord b i
  | 0x01C => c.lineWord m b i
  | 0x024 => 0
  | _ => c.word (c.regKey m a false)

/-! ### Derived block words -/

/-- The present TS96 and the present count (R15, R362). -/
def Chip.timWord (c : Chip) (o : Nat) : Word :=
  if o < 0x110 then wordN c.now.toNat ((o - 0x100) / 4)
  else wordN (c.tim.ns * 2 ^ 32 + c.tim.frac) ((o - 0x110) / 4)

/-- DRAM_STATE of MEM_STAT: 0 active, 1 self-refresh, 2 deep sleep, 3 off (R48, R544). -/
def Chip.dramState (c : Chip) : Nat :=
  if c.modState ≤ 1 then 0 else if c.modState ≤ 3 then 1 else if c.modState = 4 then 2 else 3

/-- A status word with the fields of the reading partition's own command (R586). -/
def Chip.statOf (c : Chip) (m a own : Nat) : Word :=
  (c.word a &&& ~~~(BitVec.ofNat 32 own)) ||| (if m < 16 then c.word (viewKey m a) &&& BitVec.ofNat 32 own else 0)

/-- A register of a Bell page as side `s` reads it (R99). -/
def Chip.bellWord (c : Chip) (ch s a : Nat) : Word :=
  match offOf a with
  | 0x100 => ((c.bell ch).dir s).word
  | 0x104 => ((c.bell ch).dir (1 - s)).word
  | 0x108 => (c.bellTakeWords ch s).getD 0 0
  | 0x10C => (c.bellTakeWords ch s).getD 1 0
  | 0x110 => c.bellStat ch s
  | _ => c.word (viewKey s a)

/-- The word of an instance page at offset 0x034 or above that is no result word, as master `m` reads it. -/
def Chip.pageWord (c : Chip) (m a : Nat) : Word :=
  let b := blockOf a
  let i := instOf a
  let o := offOf a
  let plain := c.word (c.regKey m a (perAt c.part a))
  match b with
  | 0x01 =>
    if i = 0 then plain
    else if 9 ≤ i && (o = 0x100 || o = 0x104) then c.word (pageAddr HST i (o + 0x280))
    else if 0x110 ≤ o && o < 0x190 then c.linePend (i - 1) ((o - 0x110) / 4) else plain
  | 0x02 =>
    if isBell a then
      match c.sideOf (i - 1) m with
      | some s => c.bellWord (i - 1) s a
      | none => plain
    else if 65 ≤ i && i < 97 then
      (match o with
        | 0x118 => c.ringStat (i - 65)
        | 0x120 => BitVec.ofNat 32 (c.ring (i - 65)).count
        | _ => plain)
    else if i = 97 && 0x300 ≤ o && o < 0x500 then c.word (lockK ((o - 0x300) / 4)) else plain
  | 0x04 =>
    if i = 0 && o = 0x114 then (if m < 16 then BitVec.ofNat 32 (c.creditsLeft m) else 0)
    else if i = 0 && o = 0x128 then putBits plain 0 1 (b2n (c.bit aDipStat 2)) else plain
  | 0x0A => if i = 0 && o = 0x104 then c.statOf m a 0x2F00_0000 else plain
  | 0x0B => if o = 0x104 then c.statOf m a 0x2F00_0000 else plain
  | 0x0C => if i = 0 && o < 0x11C && 0x100 ≤ o && o != 0x10C then c.timWord o else plain
  | 0x0D => if i = 127 && o = 0x110 then c.statOf m a 0x0F00_0000 else plain
  | 0x10 => if o = 0x138 then BitVec.ofNat 32 c.hdLeft else plain
  | 0x11 =>
    if o = 0x100 then putBits (putBits plain 28 3 c.dramState) 0 8 (c.dramBytes / 2 ^ 30) else plain
  | 0x12 =>
    if o = 0x120 || o = 0x124 then wordN (if c.pwr.empty then 0 else c.tim.backup.getD 0) ((o - 0x120) / 4) else plain
  | 0x13 => if o = 0x100 then BitVec.ofNat 32 (2 ^ 31 + c.laneFloor % 2 ^ 16) else plain
  | 0x14 => if o = 0x104 then c.tstStat else plain
  | _ => plain

/-- The word at `a` as it stands for master `m`, without any side effect. A write-only register reads 0 (R9). -/
def Chip.liveWord (c : Chip) (m a : Nat) : Word :=
  match resultAt c.part a with
  | some r => if r.word = 0 then c.resultLow m r.base else c.resData r.base
  | none => match rowAt c.part a with
    | none => 0
    | some h =>
      if h.row.wo then 0
      else if isTw a then
        (if blockOf a = BUS then c.canRead m (twOf a / 0x4000) (twOf a % 0x4000 / 0x80) (twOf a % 0x80) else c.word a)
      else if offOf a < 0x034 then c.headWord m a
      else c.pageWord m a

/-- The words of the value whose lowest word is at `base` (R11). -/
def Chip.liveWords (c : Chip) (m base : Nat) : List Word :=
  (List.range (valueWords c.part base)).map fun k => c.liveWord m (base + 4 * k)

/-! ### Side effects of a read of a value (R9, R11, R19) -/

/-- R69: does a read of PG_ERRINFO or PG_ERR_CNT by master `m` clear it? -/
def Chip.clears (c : Chip) (m a : Nat) : Bool :=
  if !isTw a && (offOf a = PG_ERRINFO || offOf a = PG_ERR_CNT) then m = 23 || (m < 16 && c.readsPage (pageOf a) m) else true

/-- A read of a result word or its alias (R19, R322, R400, R428): FRESH, and the words captured with it. -/
def Chip.resultRead (c : Chip) (m : Nat) (r : ResultHit) : Chip :=
  let b := blockOf r.base
  let i := instOf r.base
  let e := (offOf r.base - 0x800) / 8
  let c :=
    if b = CNV then c.cnvCapture m i e
    else if b = ADT then c.atrCapture m e
    else if b = BUS then c.canCapture m i e r.consuming
    else c
  c.when r.consuming fun c => c.consume m r.base

/-- What the read of the value at `base` by master `m` does (R11): RC registers clear, words are taken. -/
def Chip.readEffect (c : Chip) (m base : Nat) : Chip :=
  match resultAt c.part base with
  | some r => c.resultRead m r
  | none => match rowAt c.part base with
    | none => c
    | some h =>
      let b := blockOf base
      let i := instOf base
      let o := offOf base
      if h.row.rc then
        (if c.clears m base then
          c.each (List.range h.row.words) fun c k => c.setWord (c.regKey m (base + 4 * k) false) 0
         else c)
      else if isTw base then c
      else if isBell base && o = 0x108 then
        (match c.sideOf (i - 1) m with
          | some s => c.bellTaken (i - 1) s
          | none => c)
      else if isLock base then (c.lockRead m ((o - 0x100) / 4)).2
      else if b = HOI && 1 ≤ i && i < 9 && o = 0x100 then c.takeNext (i - 1)
      else if b = TIM && i = 5 && 0x500 ≤ o && o < 0x600 then (c.capturePop ((o - 0x500) / 16)).2
      else c

/-- The words that a read of the value at `base` returns (R11), taken before its effects. -/
def Chip.readWords (c : Chip) (m base : Nat) : List Word :=
  if isLock base then [(c.lockRead m ((offOf base - 0x100) / 4)).1]
  else if blockOf base = TIM && !isTw base && instOf base = 5 && 0x500 ≤ offOf base && offOf base < 0x600 then
    (c.capturePop ((offOf base - 0x500) / 16)).1
  else c.liveWords m base

/-! ### Checks (R66, R70, R546, R586) -/

/-- The test access port holds REG_ACCESS, and it acts (R66, R578, R585). -/
def Chip.tapAccess (c : Chip) : Bool := c.tap.ir = 0x20 && c.tap.acts && !c.bit (pageAddr TST 0 0x100) 31

/-- May master `m` write, or read, the register at `a` (R60, R66, R69, R97, R111, R586)? The module's own blocks are not
checked against page ownership, but no register of R586 and no lock serves them; a recipe may post to Tally (R443).
Log 33, DEDUCED. -/
def Chip.permitted (c : Chip) (m a : Nat) (wr : Bool) : Bool :=
  let per := perAt c.part a
  if m < 16 then (if wr then c.mayWrite m a per else c.mayRead m a per)
  else if m = 23 && !c.tapAccess then false
  else if !wr && isRingEntry a then c.mayRead m a false
  else if per then m = 16 && wr && blockOf a = TLY && (offOf a = 0x108 || offOf a = 0x10C || offOf a = 0x110)
  else if isLock a then false
  else if isBound a && (0x100 ≤ offOf a || (isBell a && (offOf a = PG_EVT_EN || offOf a = PG_EVT_PEND))) then
    (if wr then c.mayWrite m a false else c.mayRead m a false)
  else true

/-- R67, R70: the cause that keeps an access from the page: its domain is retained or off, or it is in soft reset. A table
window belongs to the block's page 0; a bound page follows its masters from offset 0x100 on (R98). Log 33, DEDUCED. -/
def Chip.pageCause (c : Chip) (a : Nat) : Nat :=
  let b := blockOf a
  let i := if isTw a then 0 else instOf a
  let d := if isBound a && offOf a < 0x100 then c.domain MBX 0 else c.domain b i
  if !isTw a && offOf a < 0x034 then 0
  else if 2 ≤ d then ecPoweredDown
  else if c.resetting b i then ecResetting else 0

/-- The cause that refuses an access of master `m` to the implemented word at `a`, 0 for none (R70). Log 33, DEDUCED. -/
def Chip.accessCause (c : Chip) (m a : Nat) (wr : Bool) : Nat :=
  if !c.permitted m a wr then (if wr then ecNotOwner else ecNoRead) else c.pageCause a

/-! ### Answers (R70) -/

/-- What an access came to: its cause, 0 when it was carried out, and the words read. -/
structure Reply where
  chip : Chip
  cause : Nat := 0
  data : List Word := []

/-- The sign of a refused access to master `m` (R70). Log 33, DEDUCED. -/
def denial (m cause : Nat) (wr : Bool) : RespStatus :=
  if wr && (cause = ecPoison || 8 ≤ m) then .discarded
  else if 8 ≤ m && m < 16 then .completerAbort else .busError

/-- The reply as the master sees it. -/
def Reply.answer (r : Reply) (m : Nat) (wr : Bool) : Chip :=
  if r.cause = 0 then r.chip.answer .done r.data else r.chip.answer (denial m r.cause wr)

/-- Does master `m` exist, and can it send an access now (R66, R92, R536, R540)? A core sends none while it is halted, gated,
or below TRICKLE; no access reaches a module in reset. Log 24, DEDUCED. Log 36, DEDUCED. -/
def Chip.sends (c : Chip) (m : Nat) : Bool :=
  m < 24 && c.pwr.held.isNone && !c.masterDown m && !(m < 8 && (natBit c.cor.halted m || 2 ≤ c.modState))

/-! ### Reads -/

/-- The key under which the words captured for a master are held (R11). -/
def capKey (m base : Nat) : Nat := m * 2 ^ 26 + base

/-- A 32-bit read of the word at `a` (R11, R58, R70). -/
def Chip.readOne (c : Chip) (m a : Nat) : Reply :=
  if !implemented c.part a then { chip := c.logUnimp m a, data := [0] }
  else
    let e := c.accessCause m a false
    if e != 0 then { chip := c.logErr e m a, cause := e }
    else
      let base := valueBase c.part a
      if a = base then
        let ws := c.readWords m base
        let c := c.readEffect m base
        let c := if 2 ≤ ws.length then { c with caps := tabPut [] c.caps (capKey m base) (ws.drop 1) } else c
        { chip := c, data := [ws.getD 0 0] }
      else
        match (tab [] c.caps (capKey m base))[(a - base) / 4 - 1]? with
        | some w => { chip := c, data := [w] }
        | none => { chip := c, data := [c.liveWord m a] }

/-- Is the value at `a` one 64-bit register (R59)? -/
def isWide (part : Part) (a : Nat) : Bool := valueWords part a = 2 && valueBase part a = a

/-- A 64-bit read at `a`: one register, or two 32-bit reads of which either may be refused (R59). A read of the full width leaves
what the master captured by an earlier 32-bit read of the lowest word (R11; log 74, DEDUCED). -/
def Chip.readTwo (c : Chip) (m a : Nat) : Reply :=
  if implemented c.part a && isWide c.part a then
    let e := c.accessCause m a false
    if e != 0 then { chip := c.logErr e m a, cause := e }
    else { chip := c.readEffect m a, data := c.readWords m a }
  else
    let r := c.readOne m a
    let q := r.chip.readOne m (a + 4)
    { chip := q.chip, cause := if r.cause != 0 then r.cause else q.cause, data := r.data ++ q.data }

/-- Reads of `n` consecutive words from `a` on: a burst in a table window (R59). -/
def Chip.readBurst (c : Chip) (m a : Nat) : Nat → Reply
  | 0 => { chip := c }
  | n + 1 =>
    let r := c.readOne m a
    let q := r.chip.readBurst m (a + 4) n
    { chip := q.chip, cause := if r.cause != 0 then r.cause else q.cause, data := r.data ++ q.data }

/-- A read of `size` bytes at `a` (R59): the size is checked after the address is known to be implemented (R70). -/
def Chip.busRead (c : Chip) (m a size : Nat) : Reply :=
  if size = 4 && a % 4 = 0 then c.readOne m a
  else if size = 8 && a % 8 = 0 then c.readTwo m a
  else if isTw a && 8 ≤ m && m < 16 && size % 4 = 0 && a % 4 = 0 && 4 ≤ size && size ≤ 64 then c.readBurst m a (size / 4)
  else if !implemented c.part (a / 4 * 4) then { chip := c.logUnimp m a, data := [0] }
  else { chip := c.logErr ecSize m a, cause := ecSize }

/-- A read by master `m`, answered. -/
def Chip.readBy (c : Chip) (m a size : Nat) : Chip :=
  if c.sends m then (c.busRead m (a % 2 ^ 25) size).answer m false else c

/-- Is the word at `a` part of an RX entry of the network, at either of its addresses (R366)? -/
def isRxEntry (part : Part) (a : Nat) : Bool :=
  (resultAt part a).isSome && blockOf a = NET && 68 ≤ instOf a && instOf a < 127

/-- A read by master `m` at which the check stored with an RX entry does not match (R70, R370): POISON is logged, a host receives a
poisoned completion and a core a bus error. -/
def Chip.readBad (c : Chip) (m a size : Nat) : Chip :=
  let a := a % 2 ^ 25
  if c.sends m && isRxEntry c.part a && (size = 4 && a % 4 = 0 || size = 8 && a % 8 = 0) && c.accessCause m a false = 0 then
    (c.logErr ecPoison m a).answer (if 8 ≤ m && m < 16 then .poisoned else .busError)
  else c.readBy m a size

end Sys2Proof.Machine
end

