-- ==== Sys2Proof/Machine/Iwin.lean ====
section
/-! DEFINITION. Indirect windows (R60 to R64, R586, R589 and the stores of the chapters): an operation begins with GO and acts on
its store when it ends. -/

namespace Sys2Proof.Machine

/-- Register `o` of context `p` of the window of a page, at W = 0x200 (R61). -/
def winK (b i p o : Nat) : Nat := viewKey p (pageAddr b i (0x200 + o))

/-- What an operation comes to: ERR (R63), and the words that a read fetches. -/
structure ElemRes where
  chip : Chip
  err : Nat := 0
  data : List Word := []

/-- The sixteen words of element `i` of a store. -/
def Chip.elemWords (c : Chip) (st i : Nat) : List Word := (List.range 16).map fun w => c.word (elemKey st i w)

/-- The element is marked poisoned (R47). -/
def Chip.elemBad (c : Chip) (st i : Nat) : Bool := tab false c.elemPoison (elemKey st i 0)

/-- A whole element is written, which ends its poison (R47, R64). -/
def Chip.elemWhole (c : Chip) (st i : Nat) : Chip := { c with elemPoison := tabPut false c.elemPoison (elemKey st i 0) false }

/-- An element on die is read with `rr` re-reads; more than three poison it (R47). -/
def Chip.dieRead (c : Chip) (st i rr : Nat) : Chip :=
  if rr ≤ 3 then c else { c with elemPoison := tabPut false c.elemPoison (elemKey st i 0) true }

/-- A read of an element of a store: rights, then the mark of poison; a poisoned element leaves DATA at 0 (R64). -/
def Chip.elemFetch (c : Chip) (dram ok : Bool) (st i rr : Nat) : ElemRes :=
  if !ok then { chip := c, err := 2 }
  else
    let c := if dram then c.elemRead (elemKey st i 0) rr (if st = dirStore then some (c.u64 (adtA 0x108) + 64 * i) else none) else c.dieRead st i rr
    if c.elemBad st i then { chip := c, err := 3, data := List.replicate 16 0 } else { chip := c, data := c.elemWords st i }

/-- A write of an element by the store's own rule, where the rights allow it. -/
def Chip.elemPut (c : Chip) (ok : Bool) (st i : Nat) (f : Chip → Nat × Chip) : ElemRes :=
  if !ok then { chip := c, err := 2 }
  else
    let r := f c
    { chip := if r.1 = 0 then r.2.elemWhole st i else r.2, err := r.1 }

/-- The words of an element under a mask. -/
def Chip.setElem (c : Chip) (st i : Nat) (data : List Word) (mask : Word) : Chip :=
  c.each (List.range 16) fun c w => c.setWord (elemKey st i w) (data.getD w 0 &&& mask)

/-- Read rights where `own` owns the element: its owner, or read permission for the page (R64). -/
def Chip.winReads (c : Chip) (b i own p : Nat) : Bool := own == p || c.readsPage (pageAddr b i 0) p

/-- The windows of Hoist (R118, R120, R148, R589). -/
def Chip.winHoi (c : Chip) (p : Nat) (q : IwinOp) (rr : Nat) : ElemRes :=
  let wr := q.op = 2
  if q.sel = 1 then
    if q.addr ≥ 65536 then { chip := c, err := 1 }
    else if wr then c.elemPut (c.descOwner q.addr == p) (storeOf HOI 1) q.addr fun c => c.descWrite q.addr q.data
    else c.elemFetch false (c.winReads HOI 0 (c.descOwner q.addr) p) (storeOf HOI 1) q.addr rr
  else if q.sel = 2 then
    if q.addr ≥ 8192 then { chip := c, err := 1 }
    else if wr then
      c.elemPut (c.pageOwner HOI 0 == p) (storeOf HOI 2) q.addr fun c =>
        (0, c.setElem (storeOf HOI 2) q.addr q.data 0x8000_FFFF#32)
    else c.elemFetch false (c.readsPage (pageAddr HOI 0 0) p) (storeOf HOI 2) q.addr rr
  else if 0x80 ≤ q.sel && q.sel < 0xC0 then
    let t := q.sel - 0x80
    if q.addr ≥ 65536 then { chip := c, err := 1 }
    else if wr then
      c.elemPut (c.pageOwner HOI (16 + t) == p) (storeOf HOI q.sel) q.addr fun c =>
        (0, c.setElem (storeOf HOI q.sel) q.addr q.data 0xFFFF_FFFF#32)
    else c.elemFetch true (c.readsPage (pageAddr HOI (16 + t) 0) p) (storeOf HOI q.sel) q.addr rr
  else { chip := c, err := 5 }

/-- The windows of the Loop Array: slot elements and the learning store (R157, R181, R187, R197, R200). -/
def Chip.winLoop (c : Chip) (p : Nat) (q : IwinOp) (rr : Nat) : ElemRes :=
  let wr := q.op = 2
  if (1 ≤ q.sel && q.sel ≤ 8) || q.sel = 0xA then
    if !slotPresent c.part q.addr then { chip := c, err := 1 }
    else
      let own := c.slotOwner q.addr
      if wr then c.elemPut (own == p) (storeOf LOOP q.sel) q.addr fun c => c.slotElemWrite q.addr q.sel q.data
      else
        let r := c.elemFetch false (c.winReads LOOP 0 own p) (storeOf LOOP q.sel) q.addr rr
        if q.sel = 8 && r.err = 3 then { r with chip := r.chip.slotFault q.addr } else r
  else if q.sel = 0x10 then
    if q.addr ≥ 262144 then { chip := c, err := 1 }
    else
      let own := match c.coverSlot q.addr with
        | some s => c.slotOwner s
        | none => c.pageOwner LOOP 0
      if wr then
        c.elemPut (own == p) (storeOf LOOP 0x10) q.addr fun c => (0, c.setElem (storeOf LOOP 0x10) q.addr q.data 0xFFFF_FFFF#32)
      else c.elemFetch false (c.winReads LOOP 0 own p) (storeOf LOOP 0x10) q.addr rr
  else { chip := c, err := 5 }

/-- The windows of PRF, ADT, TLY, NET and PWR (R245, R417, R441, R449, R453, R375 to R378, R555). -/
def Chip.winStore (c : Chip) (b p : Nat) (q : IwinOp) (rr : Nat) : ElemRes :=
  let wr := q.op = 2
  let image (ok : Bool) (l : List Word) : ElemRes :=
    if wr || !ok then { chip := c, err := 2 } else { chip := c, data := l }
  if b = PRF && q.sel = 1 then
    if q.addr ≥ 262144 then { chip := c, err := 1 }
    else
      let own := c.camOwner (q.addr / 1024)
      if wr then c.elemPut (own == p) (storeOf PRF 1) q.addr fun c => c.camPointWrite q.addr q.data
      else c.elemFetch true (c.winReads PRF 0 own p) (storeOf PRF 1) q.addr rr
  else if b = ADT && q.sel = 1 then
    if q.addr = 0 || maxSignal < q.addr then { chip := c, err := 1 }
    else
      let own := c.sigOwner q.addr
      if wr then c.elemPut (own == p) dirStore q.addr fun c => c.recWrite q.addr q.data
      else c.elemFetch (!c.bit (dirK q.addr 0) 26) (c.winReads ADT 0 own p) dirStore q.addr rr
  else if b = TLY && (q.sel = 1 || q.sel = 0x10 || q.sel = 0x11) then
    if q.addr ≥ (if q.sel = 1 then 131072 else 131074) then { chip := c, err := 1 }
    else image (c.readsPage (pageAddr TLY 0 0) p) (c.tlyElem q.sel q.addr)
  else if b = NET && q.sel = 1 then
    if q.addr ≥ 4096 then { chip := c, err := 1 }
    else if wr then c.elemPut (c.netOwner q.addr == p) (storeOf NET 1) q.addr fun c => c.netDescWrite p q.addr q.data
    else c.elemFetch false (c.winReads NET 127 (c.netOwner q.addr) p) (storeOf NET 1) q.addr rr
  else if b = NET && q.sel = 2 then
    if q.addr ≥ 8192 then { chip := c, err := 1 }
    else if wr then c.elemPut (c.pageOwner NET 127 == p) (storeOf NET 2) q.addr fun c => c.netMapWrite q.addr q.data
    else c.elemFetch false (c.readsPage (pageAddr NET 127 0) p) (storeOf NET 2) q.addr rr
  else if b = NET && q.sel = 3 then
    if q.addr ≥ 4096 then { chip := c, err := 1 }
    else if wr then { chip := c, err := 2 }
    else c.elemFetch false (c.winReads NET 127 (c.netOwner q.addr) p) (storeOf NET 3) q.addr rr
  else if b = PWR && (q.sel = 1 || q.sel = 2) then
    if q.addr ≥ 64 then { chip := c, err := 1 }
    else image (c.readsPage (pageAddr PWR 0 0) p) (c.summaryElem q.sel q.addr)
  else { chip := c, err := 5 }

/-- Is the store in DRAM (R51, R245, R417, R589)? -/
def winDram (b sel : Nat) : Bool := (b = HOI && 0x80 ≤ sel) || b = PRF || b = ADT

/-- The indices that a store's index width spans: bits above it are ignored (R61), but for the learning store and the directory,
whose own rules refuse a higher index (R200, R417). Log 15, DEDUCED. -/
def winSpan (b sel : Nat) : Nat :=
  if b = HOI then (if sel = 2 then 2 ^ 13 else 2 ^ 16)
  else if b = LOOP then (if sel = 0x10 then 2 ^ 64 else 2 ^ 12)
  else if b = PRF then 2 ^ 18
  else if b = TLY then (if sel = 1 then 2 ^ 17 else 2 ^ 18)
  else if b = NET then (if sel = 2 then 2 ^ 13 else 2 ^ 12)
  else if b = PWR then 2 ^ 6
  else 2 ^ 64

/-- An operation acts on its store (R63, R64): ERR 5 before 1, 4, 2 and 3 (log 15, DEDUCED). -/
def Chip.winRun (c : Chip) (b i p : Nat) (q : IwinOp) (rr : Nat) : ElemRes :=
  if !(q.op = 1 || q.op = 2) then { chip := c, err := 5 }
  else
    let q := { q with addr := q.addr % winSpan b q.sel }
    let r := if b = HOI then c.winHoi p q rr else if b = LOOP then c.winLoop p q rr else c.winStore b p q rr
    if r.err != 5 && r.err != 1 && (2 ≤ c.domain b i || (winDram b q.sel && c.dramState != 0)) then { chip := c, err := 4 }
    else r

/-- The operation of a page's window that was begun first: requests are carried out one at a time, in their order (R586). -/
def Chip.iwinFirst (c : Chip) (b i : Nat) : Option (Nat × IwinOp) := c.iwin.find? fun e => e.1 / 16 = pageAddr b i 0

/-- IWIN_DONE (R64, R586): the operation of context `p` ends, once it is the oldest of the window; a context that was reset meanwhile
takes its reset values now. Log 15, DEDUCED. -/
def Chip.iwinDone (c : Chip) (p b i rr : Nat) : Chip :=
  match c.iwinFirst b i with
  | none => c
  | some (n, q) =>
    if n != iwinKey b i p then c
    else
    let r := { c with iwin := tabErase c.iwin n }.winRun b i p q rr
    if !q.live then r.chip.clearContext b i p
    else
      let c := if q.op = 1 && (r.err = 0 || r.err = 3) then
          r.chip.each r.data.zipIdx fun c e => c.setWord (winK b i p (0x10 + 4 * e.2)) e.1
        else r.chip
      (c.setNat (winK b i p 0xC) (2 ^ 30 + r.err)).setBit (winK b i p 8) 31 false

/-- GO (R62, R64): the operation begins with the context as it stands, behind those already begun. Log 15, DEDUCED. -/
def Chip.iwinGo (c : Chip) (p b i : Nat) : Chip :=
  let q : IwinOp :=
    { op := c.fld (winK b i p 8) 24 4, sel := c.fld (winK b i p 8) 8 8, addr := c.u64 (winK b i p 0),
      data := (List.range 16).map fun w => c.word (winK b i p (0x10 + 4 * w)), live := true }
  let c := { c with iwin := c.iwin ++ [(iwinKey b i p, q)] }
  (c.setNat (winK b i p 0xC) (2 ^ 31)).setBit (winK b i p 8) 31 true

/-- Is the address a register of a window (R61)? -/
def isWindow (a : Nat) : Bool :=
  !isTw a && windowPages.contains (blockOf a, instOf a) && 0x200 ≤ offOf a && offOf a < 0x250

/-- A write by master `p` of words of its context from address `a` on (R62 to R64): refused while BUSY, and ignored by STAT. -/
def Chip.windowWrite (c : Chip) (p a : Nat) (ws : List Word) : Chip :=
  let b := blockOf a
  let i := instOf a
  if offOf a = 0x20C then c
  else if c.bit (winK b i p 0xC) 31 then c.logErr ecWinBusy p a
  else
    c.each ws.zipIdx fun c e =>
      let o := offOf a - 0x200 + 4 * e.2
      let k := winK b i p o
      if o = 8 then
        let c := c.setWord k (e.1 &&& 0x0F00_FF00#32)
        c.when (e.1.getLsbD 31) fun c => c.iwinGo p b i
      else c.setWord k e.1

end Sys2Proof.Machine
end

