-- ==== Sys2Proof/Machine/RegWrite.lean ====
section
/-! DEFINITION. Writes of the register window once an access has been accepted (R9, R10, R67 to R70, R73, R74): the fields
that a write changes by their access codes, the page header, and the registers of each block that act when written. -/

namespace Sys2Proof.Machine

/-- What a write meets besides its words: operands of its command, or nothing where the command has none (log 16, DEDUCED).
Log 55, DEDUCED. Log 57, DESIGN CHOICE. -/
structure Meets where
  /-- the stored check of a CAN snapshot fails (R401) -/
  canBad : Option Bool := none
  /-- the check of R528 that fails by key, signature, storage or digest; 0 for none -/
  corBad : Option Nat := none
  /-- the CAN bus is idle (R408) -/
  idle : Option Bool := none
  /-- the stamp that the write carries (R174) -/
  stamp : Option Stamp := none
  /-- a keyed action of a recipe (R149), or a forwarded write that the lead took as the keyed one -/
  keyed : Bool := false
  /-- a host write that the lead has forwarded (R501): it meets no key state here -/
  fwd : Bool := false
  /-- a loop output, a recipe action or another write of this module's engines (R179, R284) -/
  own : Bool := false
  /-- bytes of DRAM -/
  rd : Nat → Nat → List Byte := fun _ _ => []

/-- The stamp of the write (R174, R367). -/
def Meets.at' (x : Meets) (c : Chip) : Stamp := x.stamp.getD c.now

/-- An operand that the command gives, or a free one (log 16, DEDUCED). -/
def Chip.orBool (c : Chip) (o : Option Bool) (f : Chip → Bool → Chip) : Chip :=
  match o with
  | some b => f c b
  | none => f c.freeBool.2 c.freeBool.1

/-- An operand that the command gives, or a free one (log 16, DEDUCED). -/
def Chip.orNat (c : Chip) (o : Option Nat) (f : Chip → Nat → Chip) : Chip :=
  match o with
  | some b => f c b
  | none => f c.freeNat.2 c.freeNat.1

/-! ### Fields by their access codes (R9, R70) -/

/-- The RWL fields of the value at `a` are locked by its lock bit. -/
def Chip.lockedAt (c : Chip) (m a : Nat) (h : RegHit) : Bool :=
  h.row.rwl != 0 && h.row.lock < 32 * h.row.words &&
    c.bit (c.regKey m (a - 4 * h.word + 4 * (h.row.lock / 32)) h.row.per) (h.row.lock % 32)

/-- What the word at `a` becomes when `d` is written (R9). Log 34, DEDUCED. -/
def Chip.mergeWord (c : Chip) (m a : Nat) (d : Word) (keyed : Bool) : Word :=
  match rowAt c.part a with
  | none => 0
  | some h =>
    let old := c.word (c.regKey m a h.row.per)
    let eff := wordN h.row.rw h.word ||| (if keyed then wordN h.row.rwk h.word else 0) |||
      (if c.lockedAt m a h then 0 else wordN h.row.rwl h.word)
    ((old &&& ~~~eff) ||| (d &&& eff)) &&& ~~~(d &&& wordN h.row.w1c h.word)

/-- The cause that a write of `d` logs for the word at `a`, 0 for none: NO_KEY or LOCKED, where it would change a field
(R70). Writing 0 to a lock bit is no change. Log 33, DEDUCED. -/
def Chip.mergeCause (c : Chip) (m a : Nat) (d : Word) (keyed : Bool) : Nat :=
  match rowAt c.part a with
  | none => 0
  | some h =>
    let diff := c.word (c.regKey m a h.row.per) ^^^ d
    let lock : Word := if h.row.lock / 32 = h.word then BitVec.ofNat 32 (2 ^ (h.row.lock % 32)) else 0
    if !keyed && diff &&& wordN h.row.rwk h.word != 0 then ecNoKey
    else if c.lockedAt m a h && diff &&& wordN h.row.rwl h.word &&& ~~~lock != 0 then ecLocked
    else 0

/-- Why the words `ws` written from `a` on are logged, 0 for not at all: the first of them that would change what it may not (R70). -/
def Chip.wordsCause (c : Chip) (m a : Nat) (ws : List Word) (keyed : Bool) : Nat :=
  ((ws.zipIdx.map fun e => c.mergeCause m (a + 4 * e.2) e.1 keyed).find? (· != 0)).getD 0

/-- Words written from address `a` on, by the access codes of their fields (R9, R70). -/
def Chip.maskWrite (c : Chip) (m a : Nat) (ws : List Word) (keyed : Bool) : Chip :=
  let n := c.each ws.zipIdx fun c e =>
    c.setWord (c.regKey m (a + 4 * e.2) (perAt c.part (a + 4 * e.2))) (c.mergeWord m (a + 4 * e.2) e.1 keyed)
  let why := c.wordsCause m a ws keyed
  if why = 0 then n else n.logErr why m a

/-- A register of RWK fields that acts when written with the key (R73). -/
def Chip.keyedReg (c : Chip) (m a : Nat) (ws : List Word) (keyed : Bool) (f : Chip → Chip) : Chip :=
  if keyed then f c
  else
    let w := c.wordsCause m a ws false
    if w = 0 then c else c.logErr w m a

/-- A command register with the key: a write of a nonzero OP without it would change the field (R70). -/
def Chip.keyedCmd (c : Chip) (m a : Nat) (d : Word) (mask : Nat) (keyed : Bool) (f : Chip → Chip) : Chip :=
  if keyed then f c else if d &&& BitVec.ofNat 32 mask = 0 then c else c.logErr ecNoKey m a

/-! ### The page header (R67, R68, R74) -/

/-- The registers that a soft reset leaves: state of the module that a page only shows, locks that stand until module reset, and
what the chapters keep (R68, R587, R588, R590; log 17, DEDUCED). Log 2, DESIGN CHOICE. Log 63, DEDUCED. -/
def standsReset (b i o : Nat) : Bool :=
  match b with
  | 0x01 => if i = 0 then 0x108 ≤ o && o < 0x110 else 9 ≤ i
  | 0x02 => i = 0 && o < 0x104
  | 0x03 => i = 0 && !((0x108 ≤ o && o < 0x10C) || (0x140 ≤ o && o < 0x160))
  | 0x04 => (i = 0 && o = 0x128) || (1 ≤ i && i < 9 && 0x100 ≤ o)
  | 0x05 => i = 0 && 0x108 ≤ o && o < 0x110
  | 0x06 => 1 ≤ i
  | 0x07 => i = 0 && 0x510 ≤ o && o < 0x51C
  | 0x0A => if i = 0 then o = 0x104 else i < 3 && 0x118 ≤ o && o < 0x120
  | 0x0B => 0x120 ≤ o && o < 0x128
  | 0x0C => i = 0
  | 0x0D => i = 127 && (0x400 ≤ o && o < 0x600)
  | 0x0F => o = 0x100 || (0x110 ≤ o && o < 0x124) || (0x130 ≤ o && o < 0x180)
  | 0x10 => o = 0x108 || o = 0x118 || o = 0x11C || o = 0x124 || o = 0x130 || o = 0x134
  | 0x11 => o = 0x100
  | 0x12 => o = 0x108 || o = 0x114 || o = 0x118 || (0x120 ≤ o && o < 0x134)
  | 0x13 => !(o = 0x104 || (0x110 ≤ o && o < 0x120))
  | 0x14 => true
  | _ => false

/-- Does a soft reset of the page return the word under key `k` (R68)? The contexts of a window return by R64. -/
def resetKey (b i k : Nat) : Bool :=
  let a := k % 2 ^ 25
  k < 2 ^ 80 && pageAddr b i 0x034 ≤ a && a < pageAddr b i 0x1000 && !standsReset b i (offOf a) && !isWindow a

/-- What an instance holds behind its registers, after a soft reset (R68). -/
def Chip.resetBehind (c : Chip) (b i : Nat) : Chip :=
  match b with
  | 0x02 => if 1 ≤ i && i < 97 then c.clearChannel (i - 1) else c
  | 0x04 => if 16 ≤ i then c.setTrack (i - 16) {} else c
  | 0x06 => c.syncRate
  | 0x07 =>
    if i = 0 then { c with pwm := { c.pwm with gateB := [], testGate := [] } }
    else
      let p := i - 1
      let c := (c.setPair p { faultTrip := (c.pair p).faultTrip }).setArmed p false
      (c.setBit (pwmK p 0x108) 17 (c.pageOn PWM i)).refreshPair p
  | 0x08 => if i < 32 then c.setChan i {} else c
  | 0x09 => if i < 4 then c.setCv i {} else { c with cnv := { c.cnv with plaus := [] } }
  | 0x0A =>
    if i = 0 then
      ((c.setFld (adtA 0x104) 24 8 0).each (List.range 16) fun c p => c.setFld (viewKey p (adtA 0x104)) 24 8 0).refreshAdt
    else if i < 3 then c.setStrm (i - 1) { nextSeq := (c.strm (i - 1)).nextSeq }
    else { c with adt := { c.adt with trgs := [] } }
  | 0x0B => c.refreshTly
  | 0x0C =>
    -- R588: on a standby the Pair Unit writes SRC = 2 again
    if i = 0 then c.timSoftReset.when c.standby (·.setTimSrc 2)
    else if i < 5 then c.setPtp (i - 1) {}
    else if i = 5 then { c with tim := { c.tim with caps := [], plsArmed := 0, plsEnd := [] } }
    else c.evpLevel
  | 0x0D => if i < 4 then c.setGcl i {} else c
  -- R535: in MAINTENANCE every bit of SAF_STO_REQ is held at 1
  | 0x0F => c.when c.maintenance fun c => c.setNat (safA 0x128) 0xFFFF
  | 0x0E => { c.setCanCtl i {} with can := { c.can with objs := c.can.objs.filter fun e => e.1 / 128 != i } }
  | _ => c

/-- What stands until module reset in words that a soft reset otherwise returns: FAULT_A and FAULT_B of the trip inputs, and the
latch of a pair that such a fault has tripped (R281). Log 49, DEDUCED. Log 66, DEDUCED. -/
def Chip.keepFaults (c old : Chip) (b i : Nat) : Chip :=
  if b = PAI then
    -- EN and PAIR_ID can change only in OFF and ALONE (R514); without EN there is no ALONE (R494)
    if old.role ≤ 1 then (if old.role = 1 then c.toOff else c)
    else (c.setBit aPaiCfg 31 (old.bit aPaiCfg 31)).setFld aPaiCfg 0 16 (old.fld aPaiCfg 0 16)
  else if b != PWM then c
  else if i = 0 then
    c.each (List.range 48) fun c n => c.setFld (pwmA (0x400 + 4 * n)) 28 2 (old.fld (pwmA (0x400 + 4 * n)) 28 2)
  else if (old.pair (i - 1)).faultTrip then
    (c.setFld (pwmK (i - 1) 0x108) 21 7 (old.fld (pwmK (i - 1) 0x108) 21 7)).refreshPair (i - 1)
  else c

/-- PAGE_SOFT_RESET (R68): registers, result words and window contexts return, key sequences end, SOFT_RESET reads 1.
Log 17, DEDUCED. -/
def Chip.softReset (c : Chip) (b i : Nat) : Chip :=
  let k := pageAddr b i 0
  let old := c
  let c := c.when (windowPages.contains (b, i)) fun c => c.each (List.range 16) fun c p => c.resetContext b i p
  let res (j : Nat) : Bool := pageAddr b i 0x800 ≤ j && j < pageAddr b i 0x1000 && !standsReset b i 0x800
  let c := { c with words := c.words.filter fun e => !resetKey b i e.1,
                    fresh := c.fresh.filter fun e => !res e.1, stamps := c.stamps.filter fun e => !res e.1,
                    keys := c.keys.filter fun e => e.1 / 64 != k }
  ((c.resetBehind b i).keepFaults old b i).setBit (k + PG_CTL) 1 true

/-- SOFT_RESET_COMPLETE (R68). -/
def Chip.softResetDone (c : Chip) (b i : Nat) : Chip :=
  if pageExists c.part b i then c.setBit (pageAddr b i PG_CTL) 1 false else c

/-- PAGE_ENABLE (R67): ENABLE changes, with the checks of the block. -/
def Chip.enablePage (c : Chip) (b i : Nat) (on : Bool) : Chip :=
  if b = PWM && 1 ≤ i then c.pairEnable (i - 1) on
  else if b = FBK && i < 32 then c.fbkEnable i on
  else if b = BUS then c.canEnable i on
  else if b = TLY then (c.setBit (pageAddr b i PG_CTL) 0 on).refreshTly
  else if b = ADT && i = 0 then (c.setBit (pageAddr b i PG_CTL) 0 on).refreshAdt
  else c.setBit (pageAddr b i PG_CTL) 0 on

/-- A write of PG_CTL (R67, R68, R70). -/
def Chip.ctlWrite (c : Chip) (m a : Nat) (d : Word) (keyed : Bool) : Chip :=
  let b := blockOf a
  let i := instOf a
  let c := c.setBit a 2 (d.getLsbD 2)
  let en := d.getLsbD 0 != c.bit a 0
  let sr := d.getLsbD 1 && !c.bit a 1
  if !keyed then (if en || sr then c.logErr ecNoKey m a else c)
  else
    let c := c.when en fun c => c.enablePage b i (d.getLsbD 0)
    c.when sr fun c => c.softReset b i

/-- The header view in which master `m` finds the causes of the page (R104), and its line. -/
def Chip.viewOf (c : Chip) (m a : Nat) : Nat × Option Nat :=
  let page := pageOf a
  let s := if isBell a then c.sideOf (instOf a - 1) m else none
  match s with
  | some s => (viewKey s page, lineOf MBX (instOf a) s)
  | none => (page, if isBell a then none else lineOf (blockOf a) (instOf a) 0)

/-- A write of PG_EVT_EN: a line that rises signals the router (R74). Pages without a line ignore it (R94, R366). -/
def Chip.evtEnWrite (c : Chip) (m a : Nat) (d : Word) : Chip :=
  if noLine (blockOf a) (instOf a) then c
  else
    let v := c.viewOf m a
    let up := c.lineUp v.1
    let n := c.setWord (v.1 + PG_EVT_EN) d
    if n.lineUp v.1 && !up then n.notify v.1 v.2 else n

/-- EVT_PEND_CLEAR (R74): the causes handled clear, edges in RAW as well; a line still asserted signals the router again. -/
def Chip.evtClear (c : Chip) (m a : Nat) (d : Word) : Chip :=
  let v := c.viewOf m a
  let c := c.setWord (v.1 + PG_EVT_PEND) (c.word (v.1 + PG_EVT_PEND) &&& ~~~d)
  let edges := (List.range 32).filter fun n => d.getLsbD n && !isLevel (blockOf a) (instOf a) n
  let c := c.each edges fun c n => c.setBit (v.1 + PG_EVT_RAW) n false
  -- R258, R316: the cause of an event page of the Profile Generator stays pending while an axis has one, that of the GPIO page likewise
  let held := (blockOf a = PRF && instOf a != 0 && c.u64 (pageOf a + 0x100) != 0) ||
    (blockOf a = FBK && instOf a = 32 && c.u64 (pageOf a + 0x120) != 0)
  let c := c.when (held && d.getLsbD 0 && c.bit (v.1 + PG_EVT_EN) 0)
    (·.setBit (v.1 + PG_EVT_PEND) 0 true)
  if c.lineUp v.1 then c.notify v.1 v.2 else c

/-- A write of a header word (R67). -/
def Chip.headWrite (c : Chip) (m a : Nat) (d : Word) (keyed : Bool) : Chip :=
  match offOf a with
  | 0x008 => c.ctlWrite m a d keyed
  | 0x014 => c.evtEnWrite m a d
  | 0x018 => c.evtClear m a d
  | 0x020 => c.maskWrite m a [d] keyed
  | _ => c

/-! ### Block registers -/

/-- HST pages (R77, R78): a vector that is unmasked while pending sends its message. -/
def Chip.hstWrite (c : Chip) (m a : Nat) (ws : List Word) (keyed : Bool) : Chip :=
  let i := instOf a
  let o := offOf a
  if 9 ≤ i && 0x400 ≤ o && o < 0x800 then
    let c := c.maskWrite m a ws keyed
    c.heldSend (i - 1) ((o - 0x400) / 16)
  else c.maskWrite m a ws keyed

/-- MBX pages (R99, R107, R112, R114). -/
def Chip.mbxWrite (c : Chip) (m a : Nat) (ws : List Word) (keyed : Bool) : Chip :=
  let i := instOf a
  let o := offOf a
  let d := ws.getD 0 0
  if i = 0 then
    (if o = 0x108 then c.setNat a (max 1 (getBits d 0 10)) else c.maskWrite m a ws keyed)
  else if i < 65 then
    (match c.sideOf (i - 1) m with
      | none => c
      | some s => if o = 0x100 then c.bellSend (i - 1) s d else c.maskWrite m a ws keyed)
  else if i < 97 then
    (if o = 0x110 then c.ringPost (i - 65)
     else if o = 0x114 then c.ringTake (i - 65) d.toNat
     else c.maskWrite m a ws keyed)
  else if isLock a then c.lockWrite m ((o - 0x100) / 4) d keyed
  else c.maskWrite m a ws keyed

/-- A command of the Image Authority (R528, R530, R531, R533, R541). -/
def Chip.corCommand (c : Chip) (x : Meets) (op : Nat) : Chip :=
  match op with
  | 1 => c.orNat x.corBad fun c b => c.stageCheck x.rd b
  | 2 => c.orNat x.corBad fun c b => c.writeSlot x.rd b
  | 3 => c.corConfirm
  | 4 => c.orNat x.corBad fun c b => c.keyOrder x.rd b
  | 5 =>
    if !c.corTakes 5 then c
    else if !c.running then c.corBusy { op := 5, code := 14 }
    else c.moduleReset 4
  | _ => c.corReserved op

/-- COR pages (R538, R541). -/
def Chip.corWrite (c : Chip) (x : Meets) (m a : Nat) (ws : List Word) (keyed : Bool) : Chip :=
  let i := instOf a
  let o := offOf a
  let d := ws.getD 0 0
  if i = 0 && o = 0x104 then c.keyedCmd m a d 0xF keyed fun c => c.corCommand x (getBits d 0 4)
  else if 1 ≤ i && o = 0x128 then c.attestGo (i - 1) d
  else c.maskWrite m a ws keyed

/-- HOI pages (R127 to R129, R133, R140, R141, R152, R153). Log 42, DEDUCED. -/
def Chip.hoiWrite (c : Chip) (m a : Nat) (ws : List Word) (keyed : Bool) : Chip :=
  let i := instOf a
  let o := offOf a
  let d := ws.getD 0 0
  if i = 0 then
    match o with
    | 0x100 => c.admitReqWrite m d
    | 0x108 => c.keyedReg m a ws keyed fun c => c.corePoolWrite d
    | 0x10C => c.submit m (getBits d 0 16) a
    | 0x118 => c.keyedReg m a ws keyed fun c => c.beEntriesWrite m d
    | 0x11C => c.keyedReg m a ws keyed fun c => c.capWrite m d
    | _ => c.maskWrite m a ws keyed
  else if i < 9 then
    (if o = 0x108 then c.coreDone (i - 1) (getBits d 0 16)
     else if o = 0x10C then c.suspend (i - 1) (getBits d 0 16)
     else c.maskWrite m a ws keyed)
  else
    let t := i - 16
    if o = 0x104 then c.trkCommand t d
    else if c.trkOpen t o then c.maskWrite m a ws keyed
    else if (ws.zipIdx.any fun e => c.mergeWord m (a + 4 * e.2) e.1 false != c.word (a + 4 * e.2)) then c.logErr ecLocked m a
    else c

/-- PWM pages (R263, R268 to R271, R276 to R278, R286, R288). At a standby its own loop outputs are not written (R179); the lead
forwards shadow writes and arms (R284). -/
def Chip.pwmWrite (c : Chip) (x : Meets) (m a : Nat) (ws : List Word) (keyed : Bool) : Chip :=
  let i := instOf a
  let o := offOf a
  let d := ws.getD 0 0
  if i = 0 then
    if 0x100 ≤ o && o < 0x400 then
      c.keyedReg m a ws keyed fun c => c.tripCfgWrite ((o - 0x100) / 16) ((o - 0x100) / 4 % 4) d
    else if 0x500 ≤ o && o < 0x50C then
      let k := (o - 0x500) / 4
      let arms := (List.range 32).filter fun j => d.getLsbD j && (m = 16 || c.pageOwner PWM (1 + 32 * k + j) = m)
      if x.own && c.standby then c
      else
        let n := c.armWrite m k d
        n.when (c.role = 3 && c.linkUp && !(8 ≤ m && m < 16)) fun n =>
          n.each arms fun n j => n.out (.pair (.shadow (32 * k + j) 0x128 [] (x.at' c) true (c.shadowFrom (32 * k + j))))
    else if o = 0x520 then c.keyedReg m a ws keyed fun c => c.testCfgWrite d
    else c.maskWrite m a ws keyed
  else
    let p := i - 1
    if o = 0x100 || o = 0x10C then c.pairCfgWrite m p o d
    else if o = 0x104 then c.pairCtlWrite p d
    else if (0x110 ≤ o && o < 0x138) || (0x210 ≤ o && o < 0x238) then
      let arm := decide (0x210 ≤ o)
      let off := if arm then o - 0x100 else o
      if x.own && c.standby then c
      else
        let n := c.shadowWrite m p off ws (x.at' c) arm (c.inGuard p)
        if c.role = 3 && c.linkUp && !(8 ≤ m && m < 16) then n.out (.pair (.shadow p off ws (x.at' c) arm (c.shadowFrom p))) else n
    else c.maskWrite m a ws keyed

/-- FBK pages (R310 to R315). -/
def Chip.fbkWrite (c : Chip) (m a : Nat) (ws : List Word) (keyed : Bool) : Chip :=
  let i := instOf a
  let o := offOf a
  let d := ws.getD 0 0
  if i < 32 then
    if o = 0x140 then c.fbkCmdWrite i d
    else if o = 0x110 then c.refCfgWrite i d
    else if fbkFixed o && c.chanOn i then c.logErr ecLocked m a
    else if o = 0x100 then
      let c := c.maskWrite m a ws keyed
      c.setFld a 17 8 (c.filtN i)
    else c.maskWrite m a ws keyed
  else if 0x108 ≤ o && o < 0x120 then c.each ws.zipIdx fun c e => c.gpioOutWrite (o + 4 * e.2) e.1
  else if 0x120 ≤ o && o < 0x128 then (c.maskWrite m a ws keyed).gpioLevel
  else if 0x200 ≤ o && o < 0x300 then c.gpioCfgWrite ((o - 0x200) / 4) d
  else c.maskWrite m a ws keyed

/-- CNV pages (R323 to R325, R327, R328, R331, R334 to R336). -/
def Chip.cnvWrite (c : Chip) (m a : Nat) (ws : List Word) (keyed : Bool) : Chip :=
  let i := instOf a
  let o := offOf a
  let d := ws.getD 0 0
  if i < 4 then
    if o = 0x100 then c.cnvModeWrite i d
    else if o = 0x104 then c.cnvFiltWrite m i d
    else if o = 0x10C then c.cnvSigWrite m i d
    else if o = 0x110 then c.cnvCmd i d
    else if 0x120 ≤ o && o < 0x140 && o % 8 = 0 then c.cnvSeqWrite m i ((o - 0x120) / 8) d
    else if 0x180 ≤ o && o < 0x200 then c.cnvEntWrite m i ((o - 0x180) / 4) d
    else c.maskWrite m a ws keyed
  else if 0x100 ≤ o && o < 0x200 then
    (if o % 16 = 12 then c else c.plausCfgWrite m ((o - 0x100) / 16) (o % 16 / 4) d)
  else if o = 0x200 then c.plausClear d
  else c.maskWrite m a ws keyed

/-- ADT pages (R425, R429, R430, R434, R436, R437). Log 34, DEDUCED. -/
def Chip.adtWrite (c : Chip) (m a : Nat) (ws : List Word) (keyed : Bool) : Chip :=
  let i := instOf a
  let o := offOf a
  let d := ws.getD 0 0
  if i = 0 then
    if o = 0x100 then c.keyedReg m a ws keyed fun c => c.adtCtlWrite m d
    else if o = 0x118 then c.adtCmdWrite m d
    else c.maskWrite m a ws keyed
  else if i < 3 then
    let ch := i - 1
    if o = 0x100 then c.strCtlWrite m ch d
    else if (0x108 ≤ o && o < 0x114) && c.bit (strK ch 0x100) 31 then
      (if ws.zipIdx.any fun e => c.mergeWord m (a + 4 * e.2) e.1 keyed != c.word (a + 4 * e.2) then c.logErr ecLocked m a else c)
    else if o = 0x120 || o = 0x124 then
      let n := c.maskWrite m a ws keyed
      c.strRdWrite ch (n.u64 (strK ch 0x120))
    else c.maskWrite m a ws keyed
  else if 0x100 ≤ o && o < 0x500 && o % 16 = 0 then c.atrCfgWrite m ((o - 0x100) / 16) d
  else if 0x780 ≤ o && o < 0x788 then (c.maskWrite m a ws keyed).atrLevel
  else c.maskWrite m a ws keyed

/-- The TLY page (R443, R450, R455). -/
def Chip.tlyWrite (c : Chip) (m a : Nat) (ws : List Word) (keyed : Bool) : Chip :=
  let d := ws.getD 0 0
  match offOf a with
  | 0x100 =>
    let c := c.qlossClear d
    if d.getLsbD 31 = c.bit a 31 then c else c.keyedReg m a [d &&& 0x8000_0000#32] keyed fun c => c.tlyEnable (d.getLsbD 31)
  | 0x108 => if ws.length = 2 then c.post64 m d (ws.getD 1 0) else c
  | 0x10C => c
  | 0x110 => c.post32 m d
  | 0x114 => c.tlyCmdWrite m d
  | _ => c.maskWrite m a ws keyed

/-- TIM pages (R338, R343, R347, R352, R357, R361, R362). -/
def Chip.timWrite (c : Chip) (m a : Nat) (ws : List Word) (keyed : Bool) : Chip :=
  let i := instOf a
  let o := offOf a
  let d := ws.getD 0 0
  if i = 0 then
    if o = 0x128 || o = 0x12C || o = 0x148 then c.keyedReg m a ws keyed fun c => c.incrWrite (c.maskWrite m a ws true) m a
    else if o = 0x130 then c.keyedReg m a ws keyed fun c => c.timCtlWrite d
    else if o = 0x150 then c.keyedReg m a ws keyed fun c => c.rateSwWrite d
    else if o = 0x144 && getBits d 24 8 = 0 then c.maskWrite m a [d ||| 0x0100_0000#32] keyed
    else c.maskWrite m a ws keyed
  else if i < 5 then
    if o = 0x100 then c.ptpCfgWrite m (i - 1) d
    else if o = 0x108 then (c.maskWrite m a ws keyed).capable (i - 1)
    else c.maskWrite m a ws keyed
  else if i = 5 then
    let ws := if 0x400 ≤ o && o < 0x500 && getBits d 24 4 = 0 then [d ||| 0x0100_0000#32] else ws
    let c := c.maskWrite m a ws keyed
    let q := (o - 0x100) % 32
    if 0x100 ≤ o && o < 0x300 && (q = 8 || q = 12) then c.pulseArm ((o - 0x100) / 32) else c
  else (c.maskWrite m a ws keyed).evpLevel

/-- NET pages (R366 to R368, R379, R383, R388 to R391). A write along the destination path fills TX entries (R368). -/
def Chip.netWrite (c : Chip) (x : Meets) (m a : Nat) (ws : List Word) (keyed : Bool) : Chip :=
  let i := instOf a
  let o := offOf a
  let d := ws.getD 0 0
  if i < 4 then
    if o = 0x100 then c.netPortWrite m i d
    else if o = 0x110 then c.keyedReg m a ws keyed fun c => c.gclCtlWrite i d
    else if 0x200 ≤ o && o < 0x280 && o % 16 = 12 then c.ringTail i (some ((o - 0x200) / 16)) d
    else if o = 0x28C then c.ringTail i none d
    else c.maskWrite m a ws keyed
  else if i = 127 then
    match o with
    | 0x100 => c.keyedReg m a ws keyed fun c => c.cycCfgWrite m d
    | 0x104 => c.keyedReg m a ws keyed fun c => c.etherTypeWrite m d
    | 0x108 => if ws.length = 2 then c.txPutBy m (getBits d 0 13) (ws.getD 1 0) else c
    | 0x120 => c.mdioWrite m d
    | 0x128 => c.mdioCfgWrite d
    | _ => c.maskWrite m a ws keyed
  else
    match txEntryAt a with
    | some e => if m = 16 then c.txFill m e ws (x.at' c) else c
    | none => c

/-- BUS pages (R397, R408, R410). -/
def Chip.busWriteReg (c : Chip) (x : Meets) (m a : Nat) (ws : List Word) (keyed : Bool) : Chip :=
  let n := instOf a
  let o := offOf a
  if o = 0x104 then c.orBool x.idle fun c idle => c.canCmd n (ws.getD 0 0) idle
  else if canFixed o && c.pageOn BUS n then c.logErr ecLocked m a
  else c.maskWrite m a ws keyed

/-- The SAF page (R479 to R481, R484). -/
def Chip.safWrite (c : Chip) (m a : Nat) (ws : List Word) (keyed : Bool) : Chip :=
  let d := ws.getD 0 0
  match offOf a with
  | 0x104 => c.keyedCmd m a d 0xF keyed fun c => c.safCmd d
  | 0x10C => c.keyedCmd m a d m32 keyed fun c => c.safConfirm d
  | 0x124 => c.safReq 0x124 d
  | 0x128 => c.safReq 0x128 d
  | 0x12C => c.keyedCmd m a d 0xFFFF keyed fun c => c.safResetReq d
  | _ => c.maskWrite m a ws keyed

/-- The PAI page (R513, R514, R517). -/
def Chip.paiWrite (c : Chip) (m a : Nat) (ws : List Word) (keyed : Bool) : Chip :=
  let d := ws.getD 0 0
  match offOf a with
  | 0x100 => c.keyedReg m a ws keyed fun c => c.paiCfgWrite m d
  | 0x104 => c.keyedCmd m a d 0xF keyed fun c => c.paiCmd d
  | 0x10C => c.keyedReg m a ws keyed fun c => c.paiCycWrite d
  | _ => c.maskWrite m a ws keyed

/-- The PWR page (R547, R552, R558, R559). -/
def Chip.pwrWrite (c : Chip) (m a : Nat) (ws : List Word) (keyed : Bool) : Chip :=
  let d := ws.getD 0 0
  match offOf a with
  | 0x100 => c.keyedReg m a ws keyed fun c => c.powerRequest d
  | 0x10C => c.pwrStatClear m d keyed
  | 0x11C => c.keyedReg m a ws keyed fun c => c.thermCfg d
  | _ => c.maskWrite m a ws keyed

/-- A write of a block register at offset 0x034 or above of an instance page. -/
def Chip.blockWrite (c : Chip) (x : Meets) (m a : Nat) (ws : List Word) (keyed : Bool) : Chip :=
  let d := ws.getD 0 0
  if isWindow a then c.windowWrite m a ws
  else match blockOf a with
    | 0x01 => c.hstWrite m a ws keyed
    | 0x02 => c.mbxWrite m a ws keyed
    | 0x03 => c.corWrite x m a ws keyed
    | 0x04 => c.hoiWrite m a ws keyed
    | 0x05 => if instOf a = 0 && offOf a = 0x100 then c.slotCmdWrite m d else c.maskWrite m a ws keyed
    | 0x06 => if instOf a = 0 && offOf a = 0x104 then c.stateLostClear d else c.maskWrite m a ws keyed
    | 0x07 => c.pwmWrite x m a ws keyed
    | 0x08 => c.fbkWrite m a ws keyed
    | 0x09 => c.cnvWrite m a ws keyed
    | 0x0A => c.adtWrite m a ws keyed
    | 0x0B => c.tlyWrite m a ws keyed
    | 0x0C => (c.timWrite m a ws keyed).stepped c
    | 0x0D => c.netWrite x m a ws keyed
    | 0x0E => c.busWriteReg x m a ws keyed
    | 0x0F => c.safWrite m a ws keyed
    | 0x10 => c.paiWrite m a ws keyed
    | 0x12 => c.pwrWrite m a ws keyed
    | 0x13 => if offOf a = 0x104 then c.keyedReg m a ws keyed fun c => c.targetWrite d else c.maskWrite m a ws keyed
    | _ => c.maskWrite m a ws keyed

/-- A write of words of a table window; a page key does not serve a table window. -/
def Chip.twWrite (c : Chip) (x : Meets) (m a : Nat) (ws : List Word) : Chip :=
  let o := twOf a
  let d := ws.getD 0 0
  let plain := c.maskWrite m a ws x.keyed
  match blockOf a with
  | 0x01 =>
    if 0x2000 ≤ o && o < 0x2100 && o % 0x20 < 0x10 then
      c.each ws.zipIdx fun c e => c.shmWrite m (8 + (o - 0x2000) / 0x20) (o % 0x20 / 4 + e.2) e.1
    else plain
  | 0x02 => if o < 0x180 then c.bindWrite m (o / 4) d else plain
  | 0x04 => if o < 0x4000 then c.flowWrite m (o / 4) d else plain
  | 0x05 =>
    if 0x400 ≤ o && o < 0x1400 then
      let g := (o - 0x400) / 16
      let k := o % 16 / 4
      -- R182: a recipe action writes REQ alone
      if m = 16 then (if k = 0 then c.groupWrite m g 0 ((c.word (grpK g 0) &&& 0x8000_0000#32) ||| (d &&& 0x00FF_F000#32)) else c)
      else c.groupWrite m g k d
    else if 0x1_0000 ≤ o && o < 0x2_0000 && o % 16 = 0 then c.slotCtlWrite ((o - 0x1_0000) / 16) d
    else if 0x2_0000 ≤ o then
      let s := (o - 0x2_0000) / 64
      c.each ws.zipIdx fun c e =>
        let w := o % 64 / 4 + e.2
        if w < 8 then c.lrnCfgWrite s w e.1
        else if w = 8 then c.lrnCtlWrite s e.1
        else if w = 9 then c.lrnGainWrite m s false e.1
        else if w = 10 then c.lrnGainWrite m s true e.1
        else c
    else plain
  | 0x06 =>
    if o < 0x6_0000 then
      -- R223: a recipe action has the right of its track's owner, which its step was checked for (R150)
      let p := if m = 16 then c.twOwner 0x06 o else m
      c.each ws.zipIdx fun c e => c.prfTwWrite m p (o + 4 * e.2) e.1 (c.mergeWord m (a + 4 * e.2) e.1 false)
    else plain
  | 0x0B => if o < 0x4_0000 then c.tlyCfgWrite (o / 4) d else plain
  | 0x0C =>
    if o < 0x4000 then
      c.each ws.zipIdx fun c e =>
        let w := o % 64 / 4 + e.2
        let n := o / 64
        if w = 0 then c.trigW0 m n e.1
        else if w = 1 || w = 2 || w = 4 || w = 5 then c.trigCfgWrite m n w e.1
        else c
    else plain
  | 0x0D => if o < 0x8000 then c.gclEntryWrite m o d else plain
  | 0x0E =>
    let n := o / 0x4000
    let q := o % 0x4000 / 0x80
    let r := o % 0x80
    if r = 0 then c.canCfgWrite m n q d
    else if r = 4 || r = 8 then c.canIdWrite m n q r d
    else if r = 0x1C then c.orBool x.canBad fun c b => c.canReqWrite n q d b
    else if 0x20 ≤ r && r < 0x60 then c.orBool x.canBad fun c b => c.canDataWrite n q ((r - 0x20) / 4) ws b
    else plain
  | 0x0F =>
    -- R3: an axis that the part has not is refused (log 34, DEDUCED)
    if 0x800 ≤ o && o < 0x900 && (ws.any fun w => [0, 16].any fun i => w.getLsbD (i + 15) && !axisPresent c.part (getBits w i 11)) then c
    else plain
  | 0x10 => c.mirrorWrite plain m a
  | _ => plain

/-- An accepted write of one or two words from address `a` on. A result word and its alias ignore it (R17), but for the entries of
the plant network, which are filled along their own path (R368). -/
def Chip.applyWrite (c : Chip) (x : Meets) (m a : Nat) (ws : List Word) (keyed : Bool) : Chip :=
  if (resultAt c.part a).isSome && blockOf a != NET then c
  else if isTw a then c.twWrite x m a ws
  else if offOf a < 0x034 then c.headWrite m a (ws.getD 0 0) keyed
  else c.blockWrite x m a ws keyed

end Sys2Proof.Machine
end

