-- ==== Sys2Proof/Machine/Bus.lean ====
section
/-! DEFINITION. Writes by a master: acceptance, access size, the key sequence, the checks of R70 in their order, the rule of a
standby (R501), and the write itself. -/

namespace Sys2Proof.Machine

/-! ### Key sequences (R73) -/

/-- Where the sequence of master `m` on the page at `k` stands. -/
def Chip.keySt (c : Chip) (k m : Nat) : KeySt := tab .closed c.keys (keyKey k m)

/-- It moves on. -/
def Chip.setKeySt (c : Chip) (k m : Nat) (s : KeySt) : Chip := { c with keys := tabPut .closed c.keys (keyKey k m) s }

/-- R73: what an accepted write by master `m` at `a` does to its sequence on the page; the mark says that it is the keyed
write. Log 16, DEDUCED. -/
def Chip.keyStep (c : Chip) (m a : Nat) (d : Word) : Chip × Bool :=
  let k := pageOf a
  let isKey := offOf a = PG_KEY
  match c.keySt k m with
  | .opened => (c.setKeySt k m .closed, true)
  | .half =>
    if isKey && d = 0xC0DE#32 then (c.setKeySt k m .opened, false)
    else ((c.setKeySt k m .closed).logErr ecKeyBroken m a, false)
  | .closed => (if isKey && d = 0x5EA1#32 then c.setKeySt k m .half else c, false)

/-- KEY_TIMEOUT (R73): the second key write has not come in time. -/
def Chip.keyExpired (c : Chip) (m b i : Nat) : Chip :=
  let k := pageAddr b i 0
  if c.keySt k m = .half then (c.setKeySt k m .closed).logErr ecKeyBroken m (k + PG_KEY) else c

/-! ### One access -/

/-- The blocks whose pages a host writes at the lead alone (R501). -/
def pairBlock (b : Nat) : Bool := [LOOP, PRF, PWM, FBK, CNV, HOI, NET, BUS, TIM].contains b

/-- An accepted write acts; at the lead a host write to the blocks of R501 is forwarded. Log 66, DEDUCED. -/
def Chip.actWrite (c : Chip) (x : Meets) (m a : Nat) (ws : List Word) (keyed : Bool) : Chip :=
  let host := decide (8 ≤ m) && decide (m < 16) && pairBlock (blockOf a)
  if host && c.standby && !x.fwd then c.logErr ecLocked m a
  else
    let n := c.applyWrite x m a ws keyed
    if host && c.role = 3 && c.linkUp then n.out (.pair (.hostWrite m a ws keyed)) else n

/-- A refused write of a command register of an axis also leaves CODE and counts (R230). -/
def Chip.refusedCommand (c : Chip) (m a cause : Nat) (d : Word) : Chip :=
  if cause = ecNotOwner && isTw a && blockOf a = PRF && twOf a < 0x4_8000 && twOf a % 0x100 = 4 then
    c.axisCommand m (twOf a / 0x100) (getBits d 0 4) (d.getLsbD 4)
  else c

/-- The cause that refuses a write to the implemented word at `a` before its key is looked at, 0 for none (R70). A forwarded write of a
host is not checked again (R66, R501). -/
def Chip.writeCause (c : Chip) (x : Meets) (m a : Nat) : Nat := if x.fwd then c.pageCause a else c.accessCause m a true

/-- One write of a word, or of both words of a 64-bit register, through the checks of R70 in their order. A lock's own rule
(R112) decides on a write to it. Log 33, DEDUCED. Log 16, DEDUCED. -/
def Chip.writeOne (c : Chip) (x : Meets) (m a : Nat) (ws : List Word) (poisoned : Bool) : Reply :=
  let d := ws.getD 0 0
  if !implemented c.part a then
    -- R58; the page's sequence is used up by it, but not broken (log 16, DEDUCED)
    let c := if !isTw a && c.keySt (pageOf a) m = .opened && !poisoned && !x.keyed && !x.fwd then c.setKeySt (pageOf a) m .closed else c
    { chip := c.logUnimp m a }
  else
    let e := c.writeCause x m a
    let e := if e = 0 && poisoned then ecPoison else e
    let (c, keyed) :=
      if x.keyed || x.fwd then (c, x.keyed)
      else if isTw a then (c, false)
      else if poisoned then
        (if c.keySt (pageOf a) m = .opened then c.setKeySt (pageOf a) m .closed else c, false)
      else c.keyStep m a d
    let e := if e = 0 && isLock a && c.lockDenied m ((offOf a - 0x100) / 4) d keyed then ecNotOwner else e
    if e != 0 then { chip := (c.logErr e m a).refusedCommand m a e d, cause := e }
    else { chip := c.actWrite x m a ws keyed }

/-- Consecutive 32-bit writes from `a` on, each checked on its own (R59). -/
def Chip.writeEach (c : Chip) (x : Meets) (m a : Nat) (poisoned : Bool) : List Word → Reply
  | [] => { chip := c }
  | w :: ws =>
    let r := c.writeOne x m a [w] poisoned
    let q := r.chip.writeEach x m (a + 4) poisoned ws
    { chip := q.chip, cause := if r.cause != 0 then r.cause else q.cause }

/-- A burst into the payload of a CAN object, which is stored before a request that it makes (R404). -/
def isCanData (a : Nat) : Bool := isTw a && blockOf a == BUS && 0x20 ≤ twOf a % 0x80 && twOf a % 0x80 < 0x60

/-- A write refused by its size (R59, R70): it is the master's next write to the page, so it uses up or breaks its key sequence
(R73). Log 16, DEDUCED. -/
def Chip.sizeRefused (c : Chip) (x : Meets) (m a : Nat) (poisoned : Bool) : Reply :=
  let c := if x.keyed || x.fwd || isTw a || poisoned || c.keySt (pageOf a) m = .closed then c else (c.keyStep m a 0).1
  { chip := c.logErr ecSize m a, cause := ecSize }

/-- A write of `size` bytes at `a` (R59). Log 16, DEDUCED. -/
def Chip.busWrite (c : Chip) (x : Meets) (m a size : Nat) (data : List Word) (poisoned : Bool) : Reply :=
  let ws := (data ++ List.replicate 16 0).take (size / 4)
  if size = 4 && a % 4 = 0 then c.writeOne x m a ws poisoned
  else if size = 8 && a % 8 = 0 then
    (if isCanData a then c.writeOne x m a ws poisoned
     else if implemented c.part a && isWide c.part a then c.writeOne x m a ws poisoned
     else c.writeEach x m a poisoned ws)
  else if isTw a && 8 ≤ m && m < 16 && size % 4 = 0 && a % 4 = 0 && 4 ≤ size && size ≤ 64 then
    (if isCanData a && twOf a % 0x80 + size ≤ 0x60 then c.writeOne x m a ws poisoned else c.writeEach x m a poisoned ws)
  else if !implemented c.part (a / 4 * 4) then { chip := c.logUnimp m a }
  else c.sizeRefused x m a poisoned

/-- A control transfer has been delivered poisoned: a lead surrenders with cause 4 (R24, R506). -/
def Chip.controlPoison (c : Chip) : Chip := if c.role = 3 then c.paiSurrender 4 else c

/-- A write by master `m`, answered; `hops` is how often its block is sent again on the fabric (R24, R70). A keyed write is control
traffic (R73, R506). Log 55, DEDUCED. Log 73, DEDUCED. -/
def Chip.writeBy (c : Chip) (x : Meets) (m a size : Nat) (data : List Word) (hops : Nat := 0) : Chip :=
  if !c.sends m then c
  else
    let a := a % 2 ^ 25
    let control := hopFails hops && !isTw a && c.keySt (pageOf a) m = .opened
    (((c.hopSends hops).busWrite x m a size data (hopFails hops)).answer m true).when control Chip.controlPoison

/-- A write of one word by master `m`. Log 55, DEDUCED. -/
def Chip.put32 (c : Chip) (x : Meets) (m a : Nat) (d : Word) : Chip := c.writeBy x m a 4 [d]

end Sys2Proof.Machine
end

