-- ==== Sys2Proof/Machine/Route.lean ====
section
/-! DEFINITION. What the module's own blocks write as master 16: released loop outputs (R174, R179, R184, R504), axis outputs
(R225) and the actions of recipe steps (R149 to R151); forwarded host writes of a pair (R501); and register accesses of the
test access port (R584). -/

namespace Sys2Proof.Machine

/-- The master number of the module's own blocks (R66). -/
def ownMaster : Nat := 16

/-- A destination at local pins but for PWM shadows, which have a rule of their own (R284): GPIO and TPULSE. A CAN object is none: the
standby holds the same send requests (R358, R409, R490; log 32, DEDUCED). -/
def isLocalPin (a : Nat) : Bool :=
  !isTw a && ((blockOf a = FBK && instOf a = 32) || (blockOf a = TIM && pageOf a = plsA 0))

/-- A write that carries the stamp of an output (R174); FMT 1 writes 64 bits; a standby suppresses it at local pins (R179, R260).
Log 32, DEDUCED. -/
def Chip.stampedWrite (c : Chip) (x : Meets) (a : Nat) (wide : Bool) (v : Int) : Reply :=
  let n := unsigned 64 v
  if c.standby && isLocalPin a then { chip := c }
  else if wide then c.busWrite x ownMaster a 8 [BitVec.ofNat 32 n, BitVec.ofNat 32 (n / 2 ^ 32)] false
  else c.busWrite x ownMaster a 4 [BitVec.ofNat 32 n] false

/-- The record of a class 5 output: the value word, then the three words of the stamp (R174). -/
def outRecord (h : HeldOut) : List Byte :=
  natBytes 4 (unsigned 32 h.value) ++ natBytes 12 h.stamp.toNat

/-- One released output goes to its destination (R174, R179, R184); the lead sends its digest (R504). Log 32, DEDUCED.
Log 49, DEDUCED. -/
def Chip.deliverOut (c : Chip) (h : HeldOut) : Chip :=
  let hd := c.slotHdr h.slot
  let dest := c.fld (outK h.slot h.k 0) 25 3
  let dst := c.fld (outK h.slot h.k 0) 0 25
  if !(1 ≤ dest && dest ≤ 5) then c
  else if hd.groupEn && c.fld (grpK hd.group 0) 0 12 != h.slot then c.count (loopA 0x03C)
  else
    let c := c.when (c.role = 3 && c.linkUp) (·.out (.pair (.digest true h.slot true)))
    if dest = 5 then c.toDram [(dst * 512 + 16 * (h.exec % 32), outRecord h)]
    else
      let r := c.stampedWrite { stamp := some h.stamp, own := true } dst (c.fld (outK h.slot h.k 3) 30 2 = 1) h.value
      if r.chip.logged = c.logged then r.chip else (r.chip.count (loopA 0x044)).cause LOOP 0 6

/-- Outputs on their way are delivered in order, and then those that these writes release: a write to a core port ends a run,
which no more than the eight cores can. Log 32, DEDUCED. -/
def Chip.deliverRounds (n : Nat) (c : Chip) : Chip :=
  match n, c.outQ with
  | _, [] => c
  | 0, _ => { c with outQ := [] }
  | n + 1, l => Chip.deliverRounds n ({ c with outQ := [] }.each l Chip.deliverOut)

/-- Every output on its way is delivered. Log 32, DEDUCED. -/
def Chip.deliverOuts (c : Chip) : Chip := c.deliverRounds 16

/-- The outputs of an axis tick are written, 64 bits each, with the stamp of the tick (R225). Log 32, DEDUCED. -/
def Chip.axisWrites (r : Chip × List AxisWrite) : Chip :=
  r.1.each r.2 fun c w => (c.stampedWrite { stamp := some w.stamp, own := true } w.dst true w.value).chip

/-- An action of a step: a write of one word by master 16, keyed by its KIND (R148, R149). -/
def Chip.stepAction (c : Chip) (head value : Word) : Chip :=
  (c.busWrite { keyed := getBits head 30 2 == 1, own := true } ownMaster (getBits head 0 25 / 4 * 4) 4 [value] false).chip

/-- A step of track `t` with operation `op` is due (R149 to R152): its actions in order, then what its OP does; or the track
holds. -/
def Chip.recipeStep (c : Chip) (t op : Nat) : Chip :=
  match c.dueStep t op with
  | .notYet => c
  | .holds code i => c.trkHold t code i
  | .applies p =>
    ((c.stepBegin t p).each (List.range (stepNact p.data)) fun c a => c.stepAction (actHead p.data a) (actVal p.data a)).stepEnd
      t p

/-- A host write that the lead has forwarded is applied at the standby as the lead applied it: the host's partition gives it its
context, and what it logs bears master 19 (R12, R501). Log 66, DEDUCED. -/
def Chip.forwardedWrite (c : Chip) (m a : Nat) (data : List Word) (keyed : Bool) : Chip :=
  { ({ c with logAs := some 19 }.busWrite { fwd := true, keyed := keyed } m a (4 * data.length) data false).chip with logAs := none }

/-- A message of the Pair Link takes effect (R498 to R511); `blk` reads a block of DRAM and says whether it is sound. Log 66, DEDUCED. Log 67, DEDUCED. -/
def Chip.pairTakes (blk : Nat → List Word × Bool) (c : Chip) (msg : PairMsg) : Chip :=
  match msg with
  | .hostWrite m a data keyed =>
    if c.standby then c.forwardedWrite m a data keyed else c
  | .repair false b => c.out (.pair (.repairCopy false b (blk b).1 (blk b).2))
  | _ => c.paiMsg msg

/-- PAIR_LINK_BLOCK_RX (R497): the messages that a block delivers take effect in order. Log 67, DEDUCED. -/
def Chip.pairBlockRx (blk : Nat → List Word × Bool) (c : Chip) (l seq : Nat) (ok nak : Bool) (msg : PairMsg) : Chip :=
  let r := c.paiBlock l seq ok nak msg
  r.1.each r.2 (Chip.pairTakes blk)

/-- REG_ACCESS_UPDATE (R584, R585): one 32-bit access as master 23, and its outcome for Capture-DR. Log 68, DEDUCED. -/
def Chip.tapUpdate (c : Chip) (wr : Bool) (addr : Nat) (d : Word) : Chip :=
  if !c.tapAccess || c.pwr.held.isSome then c
  else
    let a := addr % 2 ^ 25 / 4 * 4
    let c := c.cause TST 0 0
    let r := if wr then c.busWrite {} 23 a 4 [d] false else c.busRead 23 a 4
    { r.chip with tap := { r.chip.tap with done := true, offset := a, cause := r.cause,
                                           data := if wr then d else r.data.getD 0 0 } }

end Sys2Proof.Machine
end

