-- ==== Sys2Proof/Machine/Recipe.lean ====
section
/-! DEFINITION. The recipe image's sections (R521): the base image applies them in the order in which they stand, as partition 0,
and then locks the pages. Its readings: log 76, DESIGN CHOICE. -/

namespace Sys2Proof.Machine

/-- A section of a recipe body (R521). -/
structure Section where
  kind : Nat
  blk : Nat
  sel : Nat
  first : Nat
  payload : List Byte
  deriving DecidableEq, Repr

/-- The bytes of a section header: words 0 to 4, of which R521 tells the contents. Log 76, DESIGN CHOICE. -/
def sectionHead : Nat := 20

/-- The sections of a body, at most `n` of them; one that is cut short ends the series (R521). Log 76, DESIGN CHOICE. -/
def sectionsOf (b : List Byte) : Nat → List Section
  | 0 => []
  | n + 1 =>
    let tgt := hdrNat b 4 4
    let len := hdrNat b 16 4
    if b.length < sectionHead + len || len % 64 != 0 then []
    else
      { kind := hdrNat b 0 2, blk := tgt / 2 ^ 24, sel := tgt / 2 ^ 8 % 256, first := hdrNat b 8 8,
        payload := (b.drop sectionHead).take len } :: sectionsOf (b.drop (sectionHead + len)) n

/-- Word `i` of a payload. -/
def Section.word (x : Section) (i : Nat) : Word := BitVec.ofNat 32 (hdrNat x.payload (4 * i) 4)

/-- One PG_OWNER value for each page of a block, from page `first` on (R69, R521). Log 76, DESIGN CHOICE. -/
def Chip.applyPlan (c : Chip) (x : Section) : Chip :=
  c.each ((List.range (x.payload.length / 4)).filter fun i => pageExists c.part x.blk (x.first + i)) fun c i =>
    (c.busWrite {} 0 (pageAddr x.blk (x.first + i) PG_OWNER) 4 [x.word i] false).chip

/-- Pairs of an offset in the register window and a value, written in their order (R521). Log 76, DESIGN CHOICE. -/
def Chip.applyWrites (c : Chip) (x : Section) : Chip :=
  c.each (List.range (x.payload.length / 8)) fun c i =>
    (c.busWrite {} 0 ((x.word (2 * i)).toNat % 2 ^ 25) 4 [x.word (2 * i + 1)] false).chip

/-- Elements of an indirect window, from index `first` on (R64, R521). Log 76, DESIGN CHOICE. -/
def Chip.applyElems (c : Chip) (x : Section) : Chip :=
  c.each (List.range (x.payload.length / 64)) fun c i =>
    (c.winRun x.blk 0 0 { op := 2, sel := x.sel, addr := x.first + i, data := (List.range 16).map fun w => x.word (16 * i + w),
                          live := true } 0).chip

/-- DRAM contents: elements of a step store or of the cam table, else 64-byte units of DRAM from unit `first` on (R521).
Log 76, DESIGN CHOICE. -/
def Chip.applyDram (c : Chip) (x : Section) : Chip :=
  if x.blk = HOI || x.blk = PRF then c.applyElems x else c.toDram [(64 * x.first, x.payload)]

/-- A section is applied (R521); one of another TYPE changes nothing. -/
def Chip.applySection (c : Chip) (x : Section) : Chip :=
  match x.kind with
  | 1 => c.applyPlan x
  | 2 => c.applyWrites x
  | 3 => c.applyElems x
  | 4 => c.applyDram x
  | _ => c

/-- Every page is locked (R69, R521). -/
def Chip.lockPages (c : Chip) : Chip :=
  c.each (List.range 32) fun c b =>
    c.each ((List.range 128).filter fun i => pageExists c.part b i) fun c i => c.setBit (pageAddr b i PG_OWNER) 31 true

/-- The base image, started on core 0, applies the recipe and locks the pages (R521, R529). -/
def Chip.applyRecipe (c : Chip) : Chip :=
  match c.cor.recipe with
  | some i => (c.each (sectionsOf i.body (i.body.length / sectionHead)) Chip.applySection).lockPages
  | none => c

/-- What follows BOOT_COMPLETE in RUN (R529). -/
def Chip.bootRecipe (new old : Chip) : Chip :=
  if old.fld aCorState 28 4 = 0 && new.fld aCorState 28 4 = 1 then new.applyRecipe else new

end Sys2Proof.Machine
end

