-- ==== Sys2Proof/Machine/Command.lean ====
section
/-! DEFINITION. How a command meets the machine: an access of a master to the register window, an event of an instance that
operates, and an event of the module. A command whose precondition does not stand leaves the machine as it is
(log 18, DESIGN CHOICE). What pins and gauges show is an operand (log 69, DEDUCED). -/

namespace Sys2Proof.Machine

/-- Does an event of instance `i` of block `b` take place? The module is not held in reset, the page's domain is powered, it is
in no soft reset, enabled where ENABLE governs it, and not halted by the debug freeze (R67, R68, R546, R551). Log 12, DEDUCED. -/
def Chip.acts (c : Chip) (b i : Nat) : Bool :=
  c.pwr.held.isNone && c.domain b i < 2 && !c.resetting b i && !c.frozen b i && (ungated b i || c.pageOn b i)

/-- A port of the plant network works: below TRICKLE the port kept in DRIP alone is up, which carries PTP and the host rings (R392). -/
def Chip.portUp (c : Chip) (p : Nat) : Bool :=
  c.pwr.held.isNone && c.pageOn NET p && !c.resetting NET p && !c.frozen NET p &&
  (c.modState ≤ 1 || (c.modState = 2 && c.fld (pwrA 0x100) 4 2 = p))

/-- What a command does to the machine: `f` acts on the module, and writes to DRAM arrive. No loop output is released by it.
Log 31, DESIGN CHOICE. Log 70, DESIGN CHOICE. -/
def State.settle (s : State) (f : Chip → Chip) : State :=
  { s with chip := { f s.chip with outQ := s.chip.outQ } }.flushDram

/-- What a command does that may release loop outputs (a run ends, a core port is written): they are delivered as well.
Log 31, DESIGN CHOICE. -/
def State.settleOut (s : State) (f : Chip → Chip) : State := { s with chip := (f s.chip).deliverOuts }.flushDram

/-- A command that acts on the module. -/
def State.act (s : State) (f : Chip → Chip) : Host.Outcome State Fault Refusal := .next (s.settle f)

/-- A command that acts on the module where its precondition stands, and leaves the machine as it is elsewhere (log 18, DESIGN CHOICE). -/
def State.actIf (s : State) (p : Bool) (f : Chip → Chip) : Host.Outcome State Fault Refusal := if p then s.act f else .next s

/-- An event of an instance. Log 18, DESIGN CHOICE. -/
def State.event (s : State) (b i : Nat) (f : Chip → Chip) : Host.Outcome State Fault Refusal := s.actIf (s.chip.acts b i) f

/-- An event of an instance that may release loop outputs. -/
def State.eventOut (s : State) (b i : Nat) (f : Chip → Chip) : Host.Outcome State Fault Refusal :=
  if s.chip.acts b i then .next (s.settleOut f) else .next s

/-- An event of an instance that takes place only while the page is enabled (R67, log 12, DEDUCED). Log 18, DESIGN CHOICE. -/
def State.enabledEvent (s : State) (b i : Nat) (f : Chip → Chip) : Host.Outcome State Fault Refusal :=
  s.actIf (s.chip.acts b i && s.chip.pageOn b i) f

/-- An event that is no register access and needs no page to operate; none takes place while the module is held in reset.
Log 18, DESIGN CHOICE. -/
def State.anytime (s : State) (f : Chip → Chip) : Host.Outcome State Fault Refusal := s.actIf s.chip.pwr.held.isNone f

/-- A command that reads or writes DRAM itself and comes to `t`, where its precondition stands. Log 18, DESIGN CHOICE. -/
def State.memory (s : State) (p : Bool) (t : State) : Host.Outcome State Fault Refusal := if p then t.act id else .next s

/-- Below SUMP the contents of DRAM are lost (R544). Log 26, DEDUCED. -/
def State.loseDram (s : State) : State :=
  if 5 ≤ s.chip.modState then { s with dram := [], dramPoison := [] } else s

/-- An event in which the module's power state may change. -/
def State.power (s : State) (f : Chip → Chip) : Host.Outcome State Fault Refusal :=
  .next (s.settle f).loseDram

/-- What an access meets besides its operands: the bytes of DRAM. -/
def State.meets (s : State) (x : Meets) : Meets := { x with rd := s.memLoad }

/-- A write of master `m` to the register window (R57 to R59, R66, R70, R73). A write to Hoist can end the run of a core.
Log 55, DEDUCED. -/
def State.write (s : State) (x : Meets) (m a size : Nat) (data : List Word) (hops : Nat := 0) :
    Host.Outcome State Fault Refusal :=
  let f (c : Chip) := c.writeBy (s.meets x) m a size data hops
  .next (if blockOf (a % 2 ^ 25) = HOI then s.settleOut f else s.settle f)

/-- A write of one word. Log 55, DEDUCED. -/
def State.put (s : State) (m a : Nat) (d : Word) (x : Meets := {}) : Host.Outcome State Fault Refusal := s.write x m a 4 [d]

/-- A read of master `m` (R11, R57 to R59, R66, R70). -/
def State.read (s : State) (m a size : Nat) : Host.Outcome State Fault Refusal := s.act fun c => c.readBy m a size

end Sys2Proof.Machine
end

