-- ==== Sys2Proof/Machine/CmdTimebase.lean ====
section
/-! DEFINITION. The commands of 11_timebase: TREF, PTP, steps of time, cycle-start triggers, pulse outputs and captures. -/

namespace Sys2Proof.Machine

/-- TREF_LOSS (R339). -/
def execTrefLoss (s : State) : Host.Outcome State Fault Refusal := s.event TIM 0 fun c => c.trefLoss

/-- TREF_RETURN (R339). -/
def execTrefReturn (s : State) : Host.Outcome State Fault Refusal := s.event TIM 0 fun c => c.trefReturn

/-- An event at a PTP port: in DRIP one plant network port is up, the one that KEEP_PORT names (R340, R544, R547). -/
def State.ptpEvent (s : State) (p : Nat) (f : Chip → Chip) : Host.Outcome State Fault Refusal :=
  s.event TIM (1 + p) fun c => if c.modState = 2 && c.fld (pwrA 0x100) 4 2 != p then c else (f c).stepped c

/-- A PTP message arrives at port `p`: at a port of the plant network that works and is enabled (R389, R392). -/
def State.ptpArrives (s : State) (p : Nat) (f : Chip → Chip) : Host.Outcome State Fault Refusal :=
  s.ptpEvent p fun c => if c.portUp p && c.bit (netK p 0x100) 31 then f c else c

/-- A PTP message of `len` bytes leaves port `p` through queue PTP_QUEUE, at a port with a link, while that gate stays open for it (R382,
R389). Log 54, PRESUMED. -/
def State.ptpLeaves (s : State) (p len : Nat) (f : Chip → Chip) : Host.Outcome State Fault Refusal :=
  s.ptpEvent p fun c => if c.portUp p && c.canLeave p (c.fld (netK p 0x100) 21 3) len then f c else c

/-- PTP_SYNC_RX (R348, R349, R351). -/
def execPtpSyncRx (p domain t1 : Nat) (corr : Int) (twoStep tagged : Bool) (s : State) : Host.Outcome State Fault Refusal :=
  s.ptpArrives p fun c => c.syncRx p domain t1 corr twoStep tagged

/-- PTP_FOLLOW_UP_RX (R351). -/
def execPtpFollowUpRx (p t1 : Nat) (corr : Int) (s : State) : Host.Outcome State Fault Refusal :=
  s.ptpArrives p fun c => c.followUp p t1 corr

/-- FOLLOW_UP_TIMEOUT (R351). -/
def execFollowUpTimeout (p : Nat) (s : State) : Host.Outcome State Fault Refusal :=
  s.ptpEvent p fun c => c.followUpTimeout p

/-- PTP_SYNC_TX (R350, R352). -/
def execPtpSyncTx (p : Nat) (s : State) : Host.Outcome State Fault Refusal := s.ptpLeaves p 90 fun c => c.syncTx p

/-- PDELAY_REQ_TX (R351). -/
def execPdelayReqTx (p : Nat) (s : State) : Host.Outcome State Fault Refusal := s.ptpLeaves p 68 fun c => c.pdelayReq p

/-- PDELAY_REQ_RX (R348, R350). -/
def execPdelayReqRx (p stay : Nat) (tagged : Bool) (s : State) : Host.Outcome State Fault Refusal :=
  s.ptpArrives p fun c => c.pdelayAnswer p stay tagged

/-- PDELAY_RESP_RX (R351). -/
def execPdelayRespRx (p : Nat) (turn : Int) (t3 : Option Int) (s : State) : Host.Outcome State Fault Refusal :=
  s.ptpArrives p fun c => c.pdelayResp p turn t3

/-- PDELAY_RESP_TIMEOUT (R351). -/
def execPdelayRespTimeout (p : Nat) (s : State) : Host.Outcome State Fault Refusal :=
  s.ptpEvent p fun c => c.pdelayTimeout p

/-- SYNC_TIMEOUT (R343). -/
def execSyncTimeout (s : State) : Host.Outcome State Fault Refusal := s.event TIM 0 fun c => c.syncTimeout

/-- TIME_STEP_APPLY (R341, R344, R355, R432). -/
def execTimeStepApply (s : State) : Host.Outcome State Fault Refusal := s.event TIM 0 fun c => c.stepApply.stepped c

/-- TIM_STEP_GO (R347): a write of TIM_CTL as it stands, with STEP_GO. -/
def execTimStepGo (m : Nat) (s : State) : Host.Outcome State Fault Refusal :=
  s.put m (timA 0x130) (s.chip.word (timA 0x130) ||| 0x4000_0000#32)

/-- TIM_REACQ (R343): a write of TIM_CTL as it stands, with REACQ. -/
def execTimReacq (m : Nat) (s : State) : Host.Outcome State Fault Refusal :=
  s.put m (timA 0x130) (s.chip.word (timA 0x130) ||| 0x8000_0000#32)

/-- BACKUP_CLOCK_WRITE (R340). -/
def execBackupClockWrite (s : State) : Host.Outcome State Fault Refusal := s.event TIM 0 fun c => c.backupWrite

/-- An occurrence of trigger `n` that is due reaches every consumer: the Timebase's own part, converter and PWM strobes, feedback
latches, axis ticks, pulse outputs, network cycles, CAN objects and the pair's cycle (R224, R269, R304, R324, R353, R357, R377,
R404, R499). -/
def Chip.triggerOccurs (c : Chip) (n : Nat) : Chip :=
  if !c.trigDue n then c
  else
    let s := c.trigStamp n
    let c := c.trigCount n s
    let c := { c with strobes := c.strobes ++ [(n, s)] }
    let c := ((c.pwmSync n s).fbkTrigger n s).ticksDue n s
    let c := c.when (c.acts TIM 5) (·.pulsesDue n s)
    ((c.netTrigger n s.ns).canTrigger n).paiCycle n

/-- TRIGGER_OCCURRENCE (R353, R354). -/
def execTriggerOccurrence (n : Nat) (s : State) : Host.Outcome State Fault Refusal := s.event TIM 0 fun c => c.triggerOccurs n

/-- TRIGGER_ENABLE (R354, R356): a write of word 0 of the entry with EN = 1. -/
def execTriggerEnable (m n : Nat) (d : Word) (s : State) : Host.Outcome State Fault Refusal :=
  s.put m (trgK n 0) (d ||| 0x8000_0000#32)

/-- TRIGGER_DISABLE (R354, R356): a write of word 0 of the entry with EN = 0. -/
def execTriggerDisable (m n : Nat) (d : Word) (s : State) : Host.Outcome State Fault Refusal :=
  s.put m (trgK n 0) (d &&& 0x7FFF_FFFF#32)

/-- PULSE_AT_WRITE (R357): `off` is the offset within TIM_PLS_AT. -/
def execPulseAtWrite (m n off : Nat) (data : List Word) (s : State) : Host.Outcome State Fault Refusal :=
  s.write {} m (plsA (0x108 + 32 * n + off)) (4 * data.length) data

/-- PULSE_AT_REACHED (R357, R358). -/
def execPulseAtReached (n : Nat) (s : State) : Host.Outcome State Fault Refusal := s.event TIM 5 fun c => c.pulseAt n

/-- CAPTURE_EDGE (R359). -/
def execCaptureEdge (n : Nat) (rising : Bool) (s : State) : Host.Outcome State Fault Refusal :=
  s.event TIM 5 fun c => c.captureEdge n rising

/-- CAPTURE_POP (R359): a read of TIM_CAP_POP_n from its word 0 on. -/
def execCapturePop (m n size : Nat) (s : State) : Host.Outcome State Fault Refusal := s.read m (plsA (0x500 + 16 * n)) size

/-- PTP_CFG_WRITE (R352). -/
def execPtpCfgWrite (m p : Nat) (d : Word) (s : State) : Host.Outcome State Fault Refusal := s.put m (ptpK p 0x100) d

/-- One period of the oscillators with no command waiting (log 6, DESIGN CHOICE): the counter runs down to SUMP, and below it, and while the
module is held in reset, the backup-domain clock alone goes on (R338, R340, R552). Log 29, DESIGN CHOICE. -/
def Chip.idle (c : Chip) : Chip :=
  if c.pwr.held.isNone && c.modState ≤ 4 then c.tick
  else { c with tim := { c.tim with backup := c.tim.backup.map (· + 8) } }

end Sys2Proof.Machine
end

