-- ==== Sys2Proof/Machine/CmdAdit.lean ====
section
/-! DEFINITION. The commands of 14_adit_directory: samples and records, streams, bulk commands and trigger units. -/

namespace Sys2Proof.Machine

/-- What waits inside Adit goes on in every state of power, unless the debug freeze halts the instance: samples issued below
TRICKLE are discarded, and blocks closed on the way there are still written (R438). -/
def State.aditEvent (s : State) (i : Nat) (f : Chip → Chip) : Host.Outcome State Fault Refusal :=
  s.anytime fun c => if c.frozen ADT i then c else f c

/-- ADT_SAMPLE_INTAKE (R412, R419 to R422, R426). -/
def execAdtSampleIntake (s : State) : Host.Outcome State Fault Refusal := s.aditEvent 0 fun c => c.adtIntake

/-- ADT_RECORD_UPDATE (R47, R415, R416, R418, R441): `rr` is how often the record is read again. Log 73, DEDUCED. -/
def execAdtRecordUpdate (rr : Nat) (s : State) : Host.Outcome State Fault Refusal := s.aditEvent 0 fun c => c.adtUpdate rr

/-- ADT_WINDOW_END (R421). -/
def execAdtWindowEnd (s : State) : Host.Outcome State Fault Refusal := s.event ADT 0 fun c => c.adtWindow

/-- STREAM_FLUSH_TIMEOUT (R433). -/
def execStreamFlushTimeout (ch : Nat) (s : State) : Host.Outcome State Fault Refusal :=
  s.event ADT (1 + ch) fun c => c.strFlush ch

/-- STREAM_BLOCK_WRITTEN (R431, R433). -/
def execStreamBlockWritten (ch : Nat) (s : State) : Host.Outcome State Fault Refusal :=
  s.aditEvent (1 + ch) fun c => c.strWritten ch

/-- STREAM_RD_WRITE (R434): a write of ADT_STR_RD. -/
def execStreamRdWrite (m ch : Nat) (data : List Word) (s : State) : Host.Outcome State Fault Refusal :=
  s.write {} m (strK ch 0x120) (4 * data.length) data

/-- STREAM_ENABLE (R430): a write of ADT_STR_CTL with EN = 1. -/
def execStreamEnable (m ch : Nat) (d : Word) (s : State) : Host.Outcome State Fault Refusal :=
  s.put m (strK ch 0x100) (d ||| 0x8000_0000#32)

/-- STREAM_DISABLE (R430): a write of ADT_STR_CTL with EN = 0. -/
def execStreamDisable (m ch : Nat) (d : Word) (s : State) : Host.Outcome State Fault Refusal :=
  s.put m (strK ch 0x100) (d &&& 0x7FFF_FFFF#32)

/-- ADT_CLEAR_STATS (R437): OP 1 of ADT_CMD. -/
def execAdtClearStats (m : Nat) (s : State) : Host.Outcome State Fault Refusal := s.put m (adtA 0x118) 0x1000_0000#32

/-- ADT_SET_POLICY (R437): OP 2 of ADT_CMD. -/
def execAdtSetPolicy (m : Nat) (s : State) : Host.Outcome State Fault Refusal := s.put m (adtA 0x118) 0x2000_0000#32

/-- ADT_SET_AND_CLEAR (R437): OP 3 of ADT_CMD. -/
def execAdtSetAndClear (m : Nat) (s : State) : Host.Outcome State Fault Refusal := s.put m (adtA 0x118) 0x3000_0000#32

/-- ADT_CMD_DONE (R437). -/
def execAdtCmdDone (s : State) : Host.Outcome State Fault Refusal := s.event ADT 0 fun c => c.adtCmdDone

/-- ADT_ENABLE (R439): a write of ADT_CTL. -/
def execAdtEnable (m : Nat) (d : Word) (s : State) : Host.Outcome State Fault Refusal := s.put m (adtA 0x100) d

/-- DIR_CLEAR_DONE (R439). -/
def execDirClearDone (s : State) : Host.Outcome State Fault Refusal := s.event ADT 0 fun c => c.dirCleared

/-- ADT_TRG_CFG_WRITE (R425): a write of ADT_TRG_CFG_u. -/
def execAdtTrgCfgWrite (m u : Nat) (d : Word) (s : State) : Host.Outcome State Fault Refusal :=
  s.put m (atrA (0x100 + 16 * u)) d

/-- ADT_TRG_RESULT_READ (R19, R428): at the result word of unit `u`, or at its consuming alias. -/
def execAdtTrgResultRead (m u size : Nat) (consuming : Bool) (s : State) : Host.Outcome State Fault Refusal :=
  s.read m (atrA ((if consuming then 0xC00 else 0x800) + 8 * u)) size

end Sys2Proof.Machine
end

