-- ==== Sys2Proof/Machine/CmdPwm.lean ====
section
/-! DEFINITION. The commands of 08_pwm_trips: boundaries and transfers, shadows and arms, and the trip path, which the debug freeze
never halts (R67). -/

namespace Sys2Proof.Machine

/-- PWM_PERIOD_BOUNDARY (R265 to R278), `sub` times 250 ps after the counter's last step. -/
def execPwmPeriodBoundary (p : Nat) (s : State) (sub : Nat := 0) : Host.Outcome State Fault Refusal :=
  s.enabledEvent PWM (1 + p) fun c => c.periodBoundary p (c.now250 + sub)

/-- PWM_HALF_BOUNDARY (R272). -/
def execPwmHalfBoundary (p : Nat) (s : State) : Host.Outcome State Fault Refusal :=
  s.enabledEvent PWM (1 + p) fun c => c.halfBoundary p

/-- SHADOW_WRITE (R24, R268, R269): a write of the shadow register at offset `off` of pair `p`, with `hops` re-sends on the fabric. -/
def execShadowWrite (m p off : Nat) (data : List Word) (hops : Nat) (s : State) : Host.Outcome State Fault Refusal :=
  s.write {} m (pwmK p off) (4 * data.length) data hops

/-- SHADOW_WRITE_ARM (R268, R286): a write at the write-and-arm alias, 0x100 above the shadow register at `off`, with `hops` re-sends.
Log 73, DEDUCED. -/
def execShadowWriteArm (m p off : Nat) (data : List Word) (hops : Nat) (s : State) : Host.Outcome State Fault Refusal :=
  s.write {} m (pwmK p (off + 0x100)) (4 * data.length) data hops

/-- PWM_ARM (R24, R268, R270): `hops` re-sends on the fabric. -/
def execPwmArm (m k : Nat) (d : Word) (hops : Nat) (s : State) : Host.Outcome State Fault Refusal :=
  s.write {} m (pwmA (0x500 + 4 * k)) 4 [d] hops

/-- PWM_COMPARE_MATCH (R274). -/
def execPwmCompareMatch (p n : Nat) (s : State) : Host.Outcome State Fault Refusal :=
  s.enabledEvent PWM (1 + p) fun c => c.compareMatch p n

/-- An event of the trip path. -/
def State.tripEvent (s : State) (f : Chip → Chip) : Host.Outcome State Fault Refusal :=
  s.anytime f

/-- TRIP_INPUT_ACTIVE (R275, R276): the inputs of `high` rise and those of `low` fall, `sub` times 250 ps after the counter's last step. -/
def execTripInputActive (high low sub : Nat) (s : State) : Host.Outcome State Fault Refusal :=
  s.tripEvent fun c => c.tripBalls high low sub

/-- BLANK_WINDOW_CLOSE (R276), `sub` times 250 ps after the counter's last step. -/
def execBlankWindowClose (i : Nat) (s : State) (sub : Nat := 0) : Host.Outcome State Fault Refusal :=
  s.tripEvent fun c => c.blankClose i sub

/-- TRIP_CLEAR (R278): a write of PWM_CTL of pair `p`. -/
def execTripClear (m p : Nat) (d : Word) (s : State) : Host.Outcome State Fault Refusal := s.put m (pwmK p 0x104) d

/-- TRIP_SELF_TEST (R279, R280). -/
def execTripSelfTest (i : Nat) (pass : Bool) (s : State) : Host.Outcome State Fault Refusal :=
  s.event PWM 0 fun c => c.selfTest i pass

/-- TEST_STALE_EXPIRY (R281). -/
def execTestStaleExpiry (i : Nat) (s : State) : Host.Outcome State Fault Refusal := s.event PWM 0 fun c => c.testStale i

/-- TRIP_CFG_WRITE (R277): word `w` of the configuration of input `i`. -/
def execTripCfgWrite (m i w : Nat) (d : Word) (s : State) : Host.Outcome State Fault Refusal :=
  s.put m (pwmA (0x100 + 16 * i + 4 * w)) d

/-- CFG_MISMATCH_EXPIRY (R277): `copy` is gate B's copy of the four words. -/
def execCfgMismatchExpiry (i : Nat) (copy : List Word) (s : State) : Host.Outcome State Fault Refusal :=
  s.tripEvent fun c => c.cfgMismatch i copy

end Sys2Proof.Machine
end

