-- ==== Sys2Proof/Machine/CmdConverter.lean ====
section
/-! DEFINITION. The commands of 10_converters: triggers and conversions, filtered rounds, entries and sequences, and plausibility. -/

namespace Sys2Proof.Machine

/-- CNV_SEQUENCE_TRIGGER (R324, R325): the oldest strobe reaches the sequences that it triggers. -/
def execCnvSequenceTrigger (s : State) : Host.Outcome State Fault Refusal := s.tripEvent fun c => c.strobe

/-- CNV_SOFT_TRIGGER (R324, R335): a write of CNV_CMD. -/
def execCnvSoftTrigger (m i : Nat) (d : Word) (s : State) : Host.Outcome State Fault Refusal := s.put m (cnvK i 0x110) d

/-- CNV_ABORT (R335): a write of CNV_CMD. -/
def execCnvAbort (m i : Nat) (d : Word) (s : State) : Host.Outcome State Fault Refusal := s.put m (cnvK i 0x110) d

/-- CONVERSION_DONE (R320 to R329): `nv` is the converted input in nV. In DRIP and SEEP the conversion in progress still resolves
(R337), so the page's power domain is no condition. -/
def execConversionDone (i : Nat) (nv : Int) (s : State) : Host.Outcome State Fault Refusal :=
  s.actIf (s.chip.pwr.held.isNone && !s.chip.resetting CNV i && !s.chip.frozen CNV i && s.chip.pageOn CNV i)
    fun c => c.convDone i nv

/-- FILTER_ROUND_START (R328). -/
def execFilterRoundStart (i : Nat) (s : State) : Host.Outcome State Fault Refusal :=
  s.enabledEvent CNV i fun c => c.roundStart i

/-- CNV_MODE_WRITE (R328). -/
def execCnvModeWrite (m i : Nat) (d : Word) (s : State) : Host.Outcome State Fault Refusal := s.put m (cnvK i 0x100) d

/-- CNV_ENTRY_WRITE (R327). -/
def execCnvEntryWrite (m i e : Nat) (d : Word) (s : State) : Host.Outcome State Fault Refusal :=
  s.put m (cnvK i (0x180 + 4 * e)) d

/-- CNV_SEQ_CFG_WRITE (R335). -/
def execCnvSeqCfgWrite (m i s' : Nat) (d : Word) (s : State) : Host.Outcome State Fault Refusal :=
  s.put m (cnvK i (0x120 + 8 * s')) d

/-- CNV_RESULT_READ (R19, R322): at the result word of entry `e`, or at its consuming alias. -/
def execCnvResultRead (m i e size : Nat) (consuming : Bool) (s : State) : Host.Outcome State Fault Refusal :=
  s.read m (cnvK i ((if consuming then 0xC00 else 0x800) + 8 * e)) size

/-- PLAUS_PARTNER_TIMEOUT (R332). -/
def execPlausPartnerTimeout (k : Nat) (s : State) : Host.Outcome State Fault Refusal :=
  s.enabledEvent CNV 4 fun c => c.plausTimeout k

/-- PLAUS_CLEAR (R334). -/
def execPlausClear (m : Nat) (d : Word) (s : State) : Host.Outcome State Fault Refusal := s.put m (cnvK 4 0x200) d

/-- PLAUS_CFG_WRITE (R331): word `w` of unit `k`. -/
def execPlausCfgWrite (m k w : Nat) (d : Word) (s : State) : Host.Outcome State Fault Refusal := s.put m (plK k (4 * w)) d

end Sys2Proof.Machine
end

