-- ==== Sys2Proof/Machine/CmdFeedback.lean ====
section
/-! DEFINITION. The commands of 09_feedback: encoders, Hall inputs, SSI and RS-485 frames, references, latches and GPIO. -/

namespace Sys2Proof.Machine

/-- An event at the inputs of a feedback channel: quadrature and Hall counting go on in DRIP and SEEP (R317), so the page's power
domain is no condition; each meaning checks what it needs. -/
def State.fbkEvent (s : State) (n : Nat) (f : Chip → Chip) : Host.Outcome State Fault Refusal :=
  s.actIf (s.chip.pwr.held.isNone && !s.chip.resetting FBK n && !s.chip.frozen FBK n) f

/-- ENCODER_COUNT (R290 to R293). -/
def execEncoderCount (ch : Nat) (a b : Bool) (s : State) : Host.Outcome State Fault Refusal :=
  s.fbkEvent ch fun c => c.encoderCount ch a b

/-- HALL_CHANGE (R296). -/
def execHallChange (ch h : Nat) (s : State) : Host.Outcome State Fault Refusal := s.fbkEvent ch fun c => c.hallChange ch h

/-- SSI_FRAME_DONE (R304). -/
def execSsiFrameDone (ch v : Nat) (datHigh monoLow : Bool) (s : State) : Host.Outcome State Fault Refusal :=
  s.enabledEvent FBK ch fun c => c.ssiDone ch v datHigh monoLow

/-- RS485_RESPONSE (R298 to R301). Log 57, DESIGN CHOICE. -/
def execRs485Response (ch : Nat) (bytes : List Byte) (stopLow : Bool) (s : State) : Host.Outcome State Fault Refusal :=
  s.enabledEvent FBK ch fun c => c.rsResponse ch bytes stopLow

/-- RS485_RESP_TIMEOUT (R300). -/
def execRs485RespTimeout (ch : Nat) (s : State) : Host.Outcome State Fault Refusal :=
  s.enabledEvent FBK ch fun c => c.rsTimeout ch

/-- INDEX_PULSE (R308, R309): the index input goes high or low. -/
def execIndexPulse (ch : Nat) (s : State) (high : Bool := true) : Host.Outcome State Fault Refusal :=
  s.fbkEvent ch fun c => c.indexPulse ch high

/-- REFERENCE_EDGE (R310): an edge of `input`: 0 to 2 H1 to H3 of the channel, from 3 GPIO[input - 3]. -/
def execReferenceEdge (ch input : Nat) (s : State) (rising : Bool := true) : Host.Outcome State Fault Refusal :=
  s.fbkEvent ch fun c => c.refEdge ch input rising

/-- FBK_SET_POS (R295): code 1 of FBK_CMD. -/
def execFbkSetPos (m ch : Nat) (s : State) : Host.Outcome State Fault Refusal := s.put m (fbkK ch 0x140) 1

/-- REF_ARM (R310): a write of FBK_REF. -/
def execRefArm (m ch : Nat) (d : Word) (s : State) : Host.Outcome State Fault Refusal := s.put m (fbkK ch 0x110) d

/-- LATCH_CAPTURE_READ (R302, R312): the first word of latch `l`. -/
def execLatchCaptureRead (m ch l size : Nat) (s : State) : Host.Outcome State Fault Refusal :=
  s.read m (fbkK ch (0x200 + 0x40 * l)) size

/-- GPIO_INPUT_EDGE (R316). -/
def execGpioInputEdge (n : Nat) (high : Bool) (s : State) : Host.Outcome State Fault Refusal :=
  s.event FBK 32 fun c => c.gpioEdge n high

/-- GPIO_OUT_WRITE (R315, R316): `off` is the offset within FBK_GPIO_OUT. -/
def execGpioOutWrite (m off : Nat) (data : List Word) (s : State) : Host.Outcome State Fault Refusal :=
  s.write {} m (gpioK (0x108 + off)) (4 * data.length) data

/-- GPIO_SET (R315): `off` is the offset within FBK_GPIO_SET. -/
def execGpioSet (m off : Nat) (data : List Word) (s : State) : Host.Outcome State Fault Refusal :=
  s.write {} m (gpioK (0x110 + off)) (4 * data.length) data

/-- GPIO_CLR (R315): `off` is the offset within FBK_GPIO_CLR. -/
def execGpioClr (m off : Nat) (data : List Word) (s : State) : Host.Outcome State Fault Refusal :=
  s.write {} m (gpioK (0x118 + off)) (4 * data.length) data

end Sys2Proof.Machine
end

