-- ==== Sys2Proof/Machine/CmdHoist.lean ====
section
/-! DEFINITION. The commands of 04_hoist_dispatcher: completions, dispatch and release, admission, flows, and recipe tracks. -/

namespace Sys2Proof.Machine

/-- COMPLETION_POST (R121, R122). -/
def execCompletionPost (s : State) : Host.Outcome State Fault Refusal := s.eventOut HOI 0 fun c => c.postNext

/-- HOI_SUBMIT (R129, R586). -/
def execHoiSubmit (m : Nat) (d : Word) (s : State) : Host.Outcome State Fault Refusal := s.put m (hoiA 0x10C) d

/-- TASK_DISPATCH (R123 to R126, R131, R134, R155). -/
def execTaskDispatch (pool resends poison : Nat) (s : State) (bad : List Nat := []) : Host.Outcome State Fault Refusal :=
  s.eventOut HOI 0 fun c => c.taskDispatch pool resends poison bad

/-- TASK_RELEASE (R130, R131, R137). -/
def execTaskRelease (desc : Nat) (s : State) : Host.Outcome State Fault Refusal := s.eventOut HOI 0 fun c => c.laneDone desc

/-- HELD_ENTRY_GRANT (R128). -/
def execHeldEntryGrant (s : State) : Host.Outcome State Fault Refusal := s.enabledEvent HOI 0 fun c => c.grantHeld

/-- CORE_NEXT_READ (R133). -/
def execCoreNextRead (m n size : Nat) (s : State) : Host.Outcome State Fault Refusal := s.read m (portA n 0x100) size

/-- CORE_DONE (R133). -/
def execCoreDone (m n : Nat) (d : Word) (s : State) : Host.Outcome State Fault Refusal := s.put m (portA n 0x108) d

/-- CORE_SUSPEND (R134). -/
def execCoreSuspend (m n : Nat) (d : Word) (s : State) : Host.Outcome State Fault Refusal := s.put m (portA n 0x10C) d

/-- PREEMPT_TIMEOUT (R135, R536). -/
def execPreemptTimeout (n : Nat) (s : State) : Host.Outcome State Fault Refusal := s.eventOut HOI 0 fun c => c.preemptHalt n

/-- ADMIT (R141, R142): OP 1 of HOI_ADMIT_REQ. -/
def execAdmitTasks (m first : Nat) (s : State) : Host.Outcome State Fault Refusal :=
  s.put m (hoiA 0x100) (BitVec.ofNat 32 (1 * 2 ^ 30 + first % 65536))

/-- RETIRE (R141, R144): OP 2 of HOI_ADMIT_REQ. -/
def execRetire (m first : Nat) (s : State) : Host.Outcome State Fault Refusal :=
  s.put m (hoiA 0x100) (BitVec.ofNat 32 (2 * 2 ^ 30 + first % 65536))

/-- QUERY (R141): OP 3 of HOI_ADMIT_REQ. -/
def execQuery (m first : Nat) (s : State) : Host.Outcome State Fault Refusal :=
  s.put m (hoiA 0x100) (BitVec.ofNat 32 (3 * 2 ^ 30 + first % 65536))

/-- ADMISSION_DONE (R142). -/
def execAdmissionDone (s : State) : Host.Outcome State Fault Refusal := s.eventOut HOI 0 fun c => c.admissionDone

/-- BE_MAX_COST_WRITE (R140). -/
def execBeMaxCostWrite (m : Nat) (d : Word) (s : State) : Host.Outcome State Fault Refusal := s.put m (hoiA 0x11C) d

/-- BE_ENTRIES_WRITE (R128). -/
def execBeEntriesWrite (m : Nat) (d : Word) (s : State) : Host.Outcome State Fault Refusal := s.put m (hoiA 0x118) d

/-- CORE_POOL_WRITE (R127). -/
def execCorePoolWrite (m : Nat) (d : Word) (s : State) : Host.Outcome State Fault Refusal := s.put m (hoiA 0x108) d

/-- FLOW_CFG_WRITE (R130). -/
def execFlowCfgWrite (m n : Nat) (d : Word) (s : State) : Host.Outcome State Fault Refusal := s.put m (flowK n) d

/-- TRACK_ARM (R152, R153): command 1 of HOI_TRK_CMD. -/
def execTrackArm (m t : Nat) (s : State) : Host.Outcome State Fault Refusal := s.put m (trkA t 0x104) 1

/-- TRACK_PAUSE (R152, R153): command 2 of HOI_TRK_CMD. -/
def execTrackPause (m t : Nat) (s : State) : Host.Outcome State Fault Refusal := s.put m (trkA t 0x104) 2

/-- TRACK_RESUME (R152, R153): command 3 of HOI_TRK_CMD. -/
def execTrackResume (m t : Nat) (s : State) : Host.Outcome State Fault Refusal := s.put m (trkA t 0x104) 3

/-- TRACK_ABORT (R152, R153): command 4 of HOI_TRK_CMD. -/
def execTrackAbort (m t : Nat) (s : State) : Host.Outcome State Fault Refusal := s.put m (trkA t 0x104) 4

/-- TRACK_CONTINUE (R149, R153): command 5 of HOI_TRK_CMD. -/
def execTrackContinue (m t : Nat) (s : State) : Host.Outcome State Fault Refusal := s.put m (trkA t 0x104) 5

/-- STEP_PREFETCH (R150). -/
def execStepPrefetch (t idx rr : Nat) (s : State) : Host.Outcome State Fault Refusal :=
  s.enabledEvent HOI (16 + t) fun c => c.prefetch t idx rr

/-- RECIPE_STEP_SET (R149, R151, R152). -/
def execRecipeStepSet (t : Nat) (s : State) : Host.Outcome State Fault Refusal :=
  s.eventOut HOI (16 + t) fun c => c.recipeStep t 1

/-- RECIPE_STEP_POST (R149, R151, R152). -/
def execRecipeStepPost (t : Nat) (s : State) : Host.Outcome State Fault Refusal :=
  s.eventOut HOI (16 + t) fun c => c.recipeStep t 2

/-- RECIPE_STEP_WAIT (R149, R151, R152). -/
def execRecipeStepWait (t : Nat) (s : State) : Host.Outcome State Fault Refusal :=
  s.eventOut HOI (16 + t) fun c => c.recipeStep t 3

/-- RECIPE_STEP_JUMP (R149, R151, R152). -/
def execRecipeStepJump (t : Nat) (s : State) : Host.Outcome State Fault Refusal :=
  s.eventOut HOI (16 + t) fun c => c.recipeStep t 4

/-- RECIPE_STEP_END (R149, R151, R152). -/
def execRecipeStepEnd (t : Nat) (s : State) : Host.Outcome State Fault Refusal :=
  s.eventOut HOI (16 + t) fun c => c.recipeStep t 0xF

/-- WAIT_LIMIT_EXPIRY (R149, R152). -/
def execWaitLimitExpiry (t : Nat) (s : State) : Host.Outcome State Fault Refusal :=
  s.enabledEvent HOI (16 + t) fun c => c.waitOver t

end Sys2Proof.Machine
end

