-- ==== Sys2Proof/Machine/CmdHosts.lean ====
section
/-! DEFINITION. The commands of 03_hosts_mailboxes: the event router, PCIe endpoints, shared-memory windows, Bell channels, Bucket
rings and locks. -/

namespace Sys2Proof.Machine

/-- EVENT_NOTICE_DELIVERY (R76, R79, R442). -/
def execEventNoticeDelivery (line : Nat) (s : State) : Host.Outcome State Fault Refusal :=
  s.event HST 0 fun c => c.deliverNotice line

/-- ROUTE_WRITE (R75, R76). -/
def execRouteWrite (m n : Nat) (d : Word) (s : State) : Host.Outcome State Fault Refusal := s.put m (routeK n) d

/-- VEC_PEND_CLEAR (R77): `off` is the offset within HST_VEC_PEND of partition `p`. -/
def execVecPendClear (m p off : Nat) (data : List Word) (s : State) : Host.Outcome State Fault Refusal :=
  s.write {} m (partA p (0x100 + off)) (4 * data.length) data

/-- MSIX_UNMASK (R78): a write of the vector control word. -/
def execMsixUnmask (m p v : Nat) (d : Word) (s : State) : Host.Outcome State Fault Refusal := s.put m (msixK p v 3) d

/-- MSIX_HELD_SEND (R78). -/
def execMsixHeldSend (p v : Nat) (s : State) : Host.Outcome State Fault Refusal :=
  s.event HST (1 + p) fun c => c.heldSend p v

/-- PCIE_LINK_CHANGE (R85, R93). -/
def execPcieLinkChange (e : Nat) (up : Bool) (speed width : Nat) (s : State) : Host.Outcome State Fault Refusal :=
  s.event HST 0 fun c => c.pcieLink e up speed width

/-- FUNCTION_LEVEL_RESET (R91). -/
def execFunctionLevelReset (e f : Nat) (s : State) : Host.Outcome State Fault Refusal :=
  s.event HST 0 fun c => c.flr e f

/-- PERST_ASSERT (R93). -/
def execPerstAssert (e : Nat) (s : State) : Host.Outcome State Fault Refusal := s.event HST 0 fun c => c.perst e

/-- PERST_RELEASE (R93). -/
def execPerstRelease (e : Nat) (s : State) : Host.Outcome State Fault Refusal := s.event HST 0 fun c => c.perstEnd e

/-- PCIE_CONFIG_WRITE (R78, R85, R92). -/
def execPcieConfigWrite (p : Nat) (msix master fnMask d3 : Bool) (s : State) : Host.Outcome State Fault Refusal :=
  s.event HST 0 fun c => c.pcieConfig p msix master fnMask d3

/-- SHM_ENTRY_WRITE (R86): `off` is the offset within entry `k`. -/
def execShmEntryWrite (m k off : Nat) (data : List Word) (s : State) : Host.Outcome State Fault Refusal :=
  s.write {} m (shmK (8 + k) + off) (4 * data.length) data

/-- BAR2_READ (R24, R47, R87, R88): `rr` re-reads of each block, `hops` re-sends on the fabric. -/
def execBar2Read (p off len : Nat) (rr : List Nat) (s : State) (hops : Nat := 0) : Host.Outcome State Fault Refusal :=
  s.memory s.chip.pwr.held.isNone (s.bar2Read p off len rr hops)

/-- BAR2_WRITE (R24, R87, R88). -/
def execBar2Write (p off : Nat) (data : List Byte) (s : State) (hops : Nat := 0) : Host.Outcome State Fault Refusal :=
  s.memory s.chip.pwr.held.isNone (s.bar2Write p off data hops)

/-- CORE_DRAM_ACCESS (R24, R47, R89, R502, R546). -/
def execCoreDramAccess (m : Nat) (island wr : Bool) (addr len : Nat) (data : List Byte) (rr : List Nat) (s : State)
    (hops : Nat := 0) : Host.Outcome State Fault Refusal :=
  s.memory s.chip.pwr.held.isNone (s.coreDram m island wr addr len data rr hops)

/-- BINDING_WRITE (R95, R96). -/
def execBindingWrite (m k : Nat) (d : Word) (s : State) : Host.Outcome State Fault Refusal := s.put m (aBind k) d

/-- BELL_SEND (R100). -/
def execBellSend (m ch : Nat) (d : Word) (s : State) : Host.Outcome State Fault Refusal := s.put m (mbxA ch 0x100) d

/-- A read of a Bell word whose end-to-end check fails: where the access itself is accepted, its reader receives the poisoned
response, and nothing is taken (R101). -/
def Chip.bellBadRead (c : Chip) (m ch a size : Nat) : Chip :=
  if !c.sends m then c
  else
    let r := c.busRead m a size
    if r.cause != 0 then r.answer m false
    else match c.sideOf ch m with
      | some t => c.bellCheckFail ch t m (offOf a)
      | none => r.answer m false

/-- BELL_TAKE (R100, R101). -/
def execBellTake (m ch size : Nat) (ok : Bool) (s : State) : Host.Outcome State Fault Refusal :=
  if ok then s.read m (mbxA ch 0x108) size else s.act fun c => c.bellBadRead m ch (mbxA ch 0x108) size

/-- BELL_IN_READ (R101). -/
def execBellInRead (m ch : Nat) (ok : Bool) (s : State) : Host.Outcome State Fault Refusal :=
  if ok then s.read m (mbxA ch 0x104) 4 else s.act fun c => c.bellBadRead m ch (mbxA ch 0x104) 4

/-- CROSS_TIME_EXPIRY (R102). -/
def execCrossTimeExpiry (ch : Nat) (s : State) : Host.Outcome State Fault Refusal :=
  s.event MBX (1 + ch) fun c => c.crossExpired ch

/-- BUCKET_POST (R107, R108). -/
def execBucketPost (m r : Nat) (d : Word) (s : State) : Host.Outcome State Fault Refusal := s.put m (mbxA (64 + r) 0x110) d

/-- BUCKET_POST_COMMIT (R108, R109). -/
def execBucketPostCommit (r : Nat) (s : State) : Host.Outcome State Fault Refusal :=
  s.event MBX (65 + r) fun c => c.ringCommit r

/-- BUCKET_TAKE (R107, R110). -/
def execBucketTake (m r : Nat) (d : Word) (s : State) : Host.Outcome State Fault Refusal := s.put m (mbxA (64 + r) 0x114) d

/-- LOCK_READ (R112). -/
def execLockRead (m n : Nat) (s : State) : Host.Outcome State Fault Refusal := s.read m (lockK n) 4

/-- LOCK_RELEASE (R112). -/
def execLockRelease (m n : Nat) (d : Word) (s : State) : Host.Outcome State Fault Refusal := s.put m (lockK n) d

/-- LOCK_FORCE_RELEASE (R112). -/
def execLockForceRelease (m n : Nat) (d : Word) (s : State) : Host.Outcome State Fault Refusal := s.put m (lockK n) d

end Sys2Proof.Machine
end

