-- ==== Sys2Proof/Machine/CmdImage.lean ====
section
/-! DEFINITION. The commands of 18_boot_images_security: boot, staged images, trials, key orders and attestation. -/

namespace Sys2Proof.Machine

/-- BOOT_COMPLETE (R521, R529, R532, R534, R535): the image slots whose check by key, signature, storage or digest fails. -/
def execBootComplete (bad : List Nat) (s : State) : Host.Outcome State Fault Refusal :=
  if s.chip.pwr.held.isNone then .next (s.settleOut fun c => (c.boot bad).bootRecipe c) else .next s

/-- STAGE_CHECK (R528, R541): command 1 of COR_CMD; `bad` is the check that the staged bytes fail by key, signature, storage or
digest, 0 for none. -/
def execStageCheck (m bad : Nat) (s : State) : Host.Outcome State Fault Refusal :=
  s.put m (corA 0x104) 1 { corBad := some bad }

/-- WRITE_SLOT (R528, R531, R541): command 2 of COR_CMD. -/
def execWriteSlot (m bad : Nat) (s : State) : Host.Outcome State Fault Refusal :=
  s.put m (corA 0x104) 2 { corBad := some bad }

/-- CONFIRM (R533, R541): command 3 of COR_CMD. -/
def execConfirm (m : Nat) (s : State) : Host.Outcome State Fault Refusal := s.put m (corA 0x104) 3

/-- KEY_ORDER (R530, R541): command 4 of COR_CMD. -/
def execKeyOrder (m bad : Nat) (s : State) : Host.Outcome State Fault Refusal :=
  s.put m (corA 0x104) 4 { corBad := some bad }

/-- RESTART (R541, R550): command 5 of COR_CMD. -/
def execRestart (m : Nat) (s : State) : Host.Outcome State Fault Refusal := s.put m (corA 0x104) 5

/-- COR_CMD_DONE (R541). -/
def execCorCmdDone (s : State) : Host.Outcome State Fault Refusal := s.event COR 0 fun c => c.corDone

/-- ATTEST_GO (R538): a write of COR_ATT_CTL of page 1 + `p`. -/
def execAttestGo (m p : Nat) (d : Word) (s : State) : Host.Outcome State Fault Refusal := s.put m (attA p 0x128) d

/-- ATTEST_DONE (R538, R539). -/
def execAttestDone (s : State) : Host.Outcome State Fault Refusal := s.event COR 0 fun c => c.attestDone

end Sys2Proof.Machine
end

