-- ==== Sys2Proof/Machine/CmdLoop.lean ====
section
/-! DEFINITION. The commands of 05_loop_array and 06_repetitive_learning: slot commands, slot control, hand-over groups and the
learning store. -/

namespace Sys2Proof.Machine

/-- SLOT_ENABLE (R194, R195): CMD 1 of LOOP_SLOT_CMD. -/
def execSlotEnable (m s' : Nat) (s : State) : Host.Outcome State Fault Refusal :=
  s.put m (loopA 0x100) (BitVec.ofNat 32 (1 * 2 ^ 28 + s' % 4096))

/-- SLOT_DISABLE (R194, R195): CMD 2 of LOOP_SLOT_CMD. -/
def execSlotDisable (m s' : Nat) (s : State) : Host.Outcome State Fault Refusal :=
  s.put m (loopA 0x100) (BitVec.ofNat 32 (2 * 2 ^ 28 + s' % 4096))

/-- SLOT_RESET_STATE (R192, R194, R195): CMD 3 of LOOP_SLOT_CMD. -/
def execSlotResetState (m s' : Nat) (s : State) : Host.Outcome State Fault Refusal :=
  s.put m (loopA 0x100) (BitVec.ofNat 32 (3 * 2 ^ 28 + s' % 4096))

/-- SLOT_CLEAR_STAT (R194, R195): CMD 4 of LOOP_SLOT_CMD. -/
def execSlotClearStat (m s' : Nat) (s : State) : Host.Outcome State Fault Refusal :=
  s.put m (loopA 0x100) (BitVec.ofNat 32 (4 * 2 ^ 28 + s' % 4096))

/-- SLOT_CMD_DONE (R194, R195). -/
def execSlotCmdDone (s : State) : Host.Outcome State Fault Refusal := s.event LOOP 0 fun c => c.slotCmdDone

/-- SLOT_CTL_WRITE (R180). -/
def execSlotCtlWrite (m s' : Nat) (d : Word) (s : State) : Host.Outcome State Fault Refusal := s.put m (ctlK s') d

/-- HO_GROUP_WRITE (R182, R187): word `k` of group `g`. -/
def execHoGroupWrite (m g k : Nat) (d : Word) (s : State) : Host.Outcome State Fault Refusal := s.put m (grpK g k) d

/-- LEARN_CLEAR (R203): a write of LOOP_LRN_CTL_s. -/
def execLearnClear (m s' : Nat) (d : Word) (s : State) : Host.Outcome State Fault Refusal := s.put m (lrnK s' 8) d

/-- LEARN_CLEAR_DONE (R203). -/
def execLearnClearDone (s' : Nat) (s : State) : Host.Outcome State Fault Refusal := s.event LOOP 0 fun c => c.lrnClearDone s'

/-- LEARN_GAIN_WRITE (R204): GAMMA, or RHO. -/
def execLearnGainWrite (m s' : Nat) (rho : Bool) (d : Word) (s : State) : Host.Outcome State Fault Refusal :=
  s.put m (lrnK s' (if rho then 10 else 9)) d

end Sys2Proof.Machine
end

