-- ==== Sys2Proof/Machine/CmdMessageBus.lean ====
section
/-! DEFINITION. The commands of 13_message_bus: CAN frames, requests, errors, sleep and wake. -/

namespace Sys2Proof.Machine

/-- An event of CAN controller `n`, which in DRIP and SEEP goes on until it sleeps at the next bus idle (R408). -/
def State.canEvent (s : State) (n : Nat) (f : Chip → Chip) : Host.Outcome State Fault Refusal :=
  let c := s.chip
  s.actIf (c.pwr.held.isNone && c.pageOn BUS n && !c.resetting BUS n && !c.frozen BUS n && c.modState ≤ 3) f

/-- CAN_FRAME_RX (R396, R402, R403): the frame's start was `age` ns ago. Log 57, DESIGN CHOICE. -/
def execCanFrameRx (ch : Nat) (frame : CanFrame) (age : Nat) (s : State) : Host.Outcome State Fault Refusal :=
  s.canEvent ch fun c => c.canRx ch frame age

/-- CAN_TX_REQUEST (R401, R404): REQ of the object; `bad` says that the stored check of the snapshot fails. -/
def execCanTxRequest (m ch o : Nat) (bad : Bool) (s : State) : Host.Outcome State Fault Refusal :=
  s.put m (objK ch o 0x1C) 1 { canBad := some bad }

/-- CAN_DATA0_WRITE (R401, R404): a write of the payload from DATA_0 on. -/
def execCanData0Write (m ch o : Nat) (data : List Word) (bad : Bool) (s : State) : Host.Outcome State Fault Refusal :=
  s.write { canBad := some bad } m (objK ch o 0x20) (4 * data.length) data

/-- CAN_TX_ABORT (R404): ABORT of the object. -/
def execCanTxAbort (m ch o : Nat) (s : State) : Host.Outcome State Fault Refusal := s.put m (objK ch o 0x1C) 2

/-- CAN_TX_START (R405, R408): the bus is idle. -/
def execCanTxStart (ch : Nat) (s : State) : Host.Outcome State Fault Refusal := s.canEvent ch fun c => c.canStart ch

/-- CAN_TX_DONE (R405). -/
def execCanTxDone (ch : Nat) (how : CanEnd) (delay : Nat) (s : State) : Host.Outcome State Fault Refusal :=
  s.canEvent ch fun c => c.canDone ch how delay

/-- CAN_ERROR_DETECTED (R396, R406, R407). -/
def execCanErrorDetected (ch lec : Nat) (sending exempt : Bool) (eights : Nat) (s : State) :
    Host.Outcome State Fault Refusal := s.canEvent ch fun c => c.canError ch lec sending exempt eights

/-- BUS_OFF_RECOVERY (R407). -/
def execBusOffRecovery (ch : Nat) (s : State) : Host.Outcome State Fault Refusal := s.canEvent ch fun c => c.canRecovered ch

/-- CAN_BUS_INTEGRATED (R396, R408). -/
def execCanBusIntegrated (ch : Nat) (s : State) : Host.Outcome State Fault Refusal :=
  s.canEvent ch fun c => c.canIntegrated ch

/-- CAN_SLEEP (R408, R410): command 1 of BUS_CMD. -/
def execCanSleep (m ch : Nat) (idle : Bool) (s : State) : Host.Outcome State Fault Refusal :=
  s.put m (canK ch 0x104) 1 { idle := some idle }

/-- CAN_WAKE (R408, R410): command 2 of BUS_CMD. -/
def execCanWake (m ch : Nat) (s : State) : Host.Outcome State Fault Refusal := s.put m (canK ch 0x104) 2

/-- CAN_RECOVER (R407, R410): command 3 of BUS_CMD. -/
def execCanRecover (m ch : Nat) (s : State) : Host.Outcome State Fault Refusal := s.put m (canK ch 0x104) 3

/-- CAN_ABORT_ALL (R410): command 4 of BUS_CMD. -/
def execCanAbortAll (m ch : Nat) (s : State) : Host.Outcome State Fault Refusal := s.put m (canK ch 0x104) 4

/-- A wake event at CAN controller `n` wakes the module where it is below TRICKLE (R408, R549). In CISTERN and CAPPED the
controller's registers are lost: the always-on domain watches CAN_RX, and PWR_WAKE_CFG alone enables it (log 19, DEDUCED). -/
def Chip.canWakes (c : Chip) (n width : Nat) (frame : Option CanFrame) : Chip :=
  if 5 ≤ c.modState then
    if n ≥ 4 || width < 500 then c
    else if width ≥ 2000 then c.wakeEvent 3
    else
      let (b, c) := c.freeBool
      if b then c.wakeEvent 3 else c
  else
    let r := c.canWakeEvent n width frame
    if r.2 && 2 ≤ c.modState then r.1.wakeEvent 3 else r.1

/-- CAN_WAKE_EVENT (R408, R549): a dominant level of `width` ns, or a wake frame. -/
def execCanWakeEvent (ch width : Nat) (frame : Option CanFrame) (s : State) : Host.Outcome State Fault Refusal :=
  if s.chip.pwr.held.isSome then .next s else s.power fun c => c.canWakes ch width frame

/-- CAN_RESULT_READ (R19, R400, R403): at the result word of object `o`, or at its consuming alias. -/
def execCanResultRead (m ch o size : Nat) (consuming : Bool) (s : State) : Host.Outcome State Fault Refusal :=
  s.read m (canResK ch o + (if consuming then 0x400 else 0)) size

end Sys2Proof.Machine
end

