-- ==== Sys2Proof/Machine/CmdNetwork.lean ====
section
/-! DEFINITION. The commands of 12_plant_network: frames, cyclic exchange, gate lists, host rings and MDIO. -/

namespace Sys2Proof.Machine

/-- An event of a port. -/
def State.portEvent (s : State) (p : Nat) (f : Chip → Chip) : Host.Outcome State Fault Refusal := s.actIf (s.chip.portUp p) f

/-- An event of a port in which the host rings' engine reads DRAM: `f` answers with the writes still on their way. -/
def State.portMemory (s : State) (p : Nat) (f : State → State) : Host.Outcome State Fault Refusal :=
  if s.chip.portUp p then (f s).act id else .next s

/-- The host rings' engine reads `n` bytes at `a` (R47, R388): is a block of them poisoned? Log 75, DESIGN CHOICE. -/
def State.ringFetch (s : State) (a n : Nat) (rr : List Nat) : Bool × State :=
  let s := s.readFaults a n rr
  (s.meetsPoison a n, s)

/-- HOST_FRAME_RX (R388): a frame for the receive ring of port `p`. A descriptor that is read poisoned takes no frame. `rr` gives the
re-reads of the descriptor's block. Log 75, DESIGN CHOICE. -/
def State.ringRx (s : State) (p : Nat) (bytes : List Byte) (rr : List Nat) : State :=
  match s.chip.ringHead p none with
  | none => { s with chip := s.chip.hostRxDrop p }
  | some a =>
    let (bad, s) := s.ringFetch a 16 rr
    if bad then { s with chip := s.chip.hostRxDrop p }
    else { s with chip := s.chip.hostRx p a (ringBuf s.memByte a) bytes }

/-- The frame at HEAD of transmit ring `q` of port `p` is read and sent, or dropped (R382, R388); one whose buffer is read poisoned is not
sent. `rr` gives the re-reads of the descriptor's block and then of the buffer's. Log 75, DESIGN CHOICE. -/
def State.ringTx (s : State) (p q : Nat) (sent : Bool) (rr : List Nat) : State :=
  match s.chip.ringHead p (some q) with
  | none => s
  | some a =>
    let rd := s.memByte
    let (bad, s) := s.ringFetch a 16 (rr.take 1)
    if bad then { s with chip := s.chip.hostTxLost p q }
    else
      let (bad, s) := if sent then s.ringFetch (ringBuf rd a) (ringLen rd a) (rr.drop 1) else (false, s)
      { s with chip := s.chip.hostTx rd p q a (sent && !bad) }

/-- ETH_FRAME_RX (R364, R365, R384, R388): a frame without its FCS. Log 57, DESIGN CHOICE. -/
def execEthFrameRx (p : Nat) (bytes : List Byte) (fcsOk : Bool) (s : State) (rr : List Nat := []) : Host.Outcome State Fault Refusal :=
  s.portMemory p fun s =>
    let (ring, c) := s.chip.ethRx p bytes fcsOk
    let s := { s with chip := c }
    if ring then s.ringRx p bytes rr else s

/-- CYCLIC_FRAME_RX (R384 to R387): the oldest Gikai frame received is matched and checked; `hops` is how often a block of it is sent again
on the fabric (R24). Log 57, DESIGN CHOICE. Log 73, DEDUCED. -/
def execCyclicFrameRx (hops : Nat) (s : State) : Host.Outcome State Fault Refusal :=
  s.event NET 127 fun c =>
    let control := hopFails hops && c.rxControl
    ((c.hopSends hops).cycRx (hopFails hops)).when control Chip.controlPoison

/-- RX_DEADLINE (R378, R386). -/
def execRxDeadline (d : Nat) (s : State) : Host.Outcome State Fault Refusal := s.event NET 127 fun c => c.rxDeadline d

/-- The lead of a pair sends a digest for each section of the frame of descriptor `d` that it has just formed (R504). -/
def Chip.cycSent (new old : Chip) (d : Nat) : Chip :=
  let n := b2n (new.fld (ndK d 10) 16 10 != 0) + b2n (new.fld (ndK d 10) 0 10 != 0)
  if (new.ndesc d).sent && !(old.ndesc d).sent && new.role = 3 && new.linkUp then
    new.each (List.range n) fun c _ => c.out (.pair (.digest false d true))
  else new

/-- CYCLIC_FRAME_TX (R377, R380, R381): descriptor `d` at its send instant; `bad` names values whose storage check fails. -/
def execCyclicFrameTx (d : Nat) (bad : List Nat) (s : State) : Host.Outcome State Fault Refusal :=
  s.event NET 127 fun c => (c.cycTx d bad).cycSent c d

/-- TX_FRAME_DROP (R380). -/
def execTxFrameDrop (d : Nat) (s : State) : Host.Outcome State Fault Refusal := s.event NET 127 fun c => c.txDropDue d

/-- GATE_DROP (R382): a frame of queue `q` of port `p` has waited a whole gate-list cycle; with GATE_EN = 0 every gate is open. `rr` gives the re-reads of the host ring's
descriptor. -/
def execGateDrop (p q : Nat) (s : State) (rr : List Nat := []) : Host.Outcome State Fault Refusal :=
  s.portMemory p fun s =>
    let c := s.chip
    if !c.bit (netK p 0x110) 31 then s else match c.gateHead p q with
    | some f => { s with chip := { c with net := { c.net with egress := c.net.egress.erase f } }.gateDropped p }
    | none =>
      if (c.ringHead p (some q)).isSome then
        let s := s.ringTx p q false rr
        { s with chip := s.chip.gateDropped p }
      else s

/-- GCL_ENTRY_EXPIRY (R383). -/
def execGclEntryExpiry (p : Nat) (s : State) : Host.Outcome State Fault Refusal := s.portEvent p fun c => c.gclNext p

/-- GCL_SWAP (R383): a write of NET_GCL_CTL. -/
def execGclSwap (m p : Nat) (d : Word) (s : State) : Host.Outcome State Fault Refusal := s.put m (netK p 0x110) d

/-- GCL_SWAP_EFFECT (R383). -/
def execGclSwapEffect (p : Nat) (s : State) : Host.Outcome State Fault Refusal := s.portEvent p fun c => c.gclSwap p

/-- NET_TX_PUT (R390): a 64-bit write of the entry's number and the value. -/
def execNetTxPut (m e : Nat) (value : Word) (s : State) : Host.Outcome State Fault Refusal :=
  s.write {} m (netA 0x108) 8 [BitVec.ofNat 32 (e % 8192), value]

/-- CYC_ENABLE (R379, R390): a write of NET_CYC_CFG. -/
def execCycEnable (m : Nat) (d : Word) (s : State) : Host.Outcome State Fault Refusal := s.put m (netA 0x100) d

/-- TX_RING_TAIL_WRITE (R388, R389). -/
def execTxRingTailWrite (m p q : Nat) (d : Word) (s : State) : Host.Outcome State Fault Refusal :=
  s.put m (ringK p (some q) 0xC) d

/-- RX_RING_TAIL_WRITE (R388, R389). -/
def execRxRingTailWrite (m p : Nat) (d : Word) (s : State) : Host.Outcome State Fault Refusal := s.put m (ringK p none 0xC) d

/-- LEN of the frame at HEAD of transmit ring `q` of port `p` (R388). -/
def State.ringNext (s : State) (p q : Nat) : Nat := ((s.chip.ringHead p (some q)).map (ringLen s.memByte)).getD 0

/-- HOST_FRAME_TX_DONE (R382, R388): a frame is sent at a port with a link, while the gate of its queue stays open for it. -/
def execHostFrameTxDone (p q : Nat) (s : State) (rr : List Nat := []) : Host.Outcome State Fault Refusal :=
  s.portMemory p fun s => if s.chip.canLeave p q (s.ringNext p q) then s.ringTx p q true rr else s

/-- NET_LINK_CHANGE (R389). -/
def execNetLinkChange (p : Nat) (up an : Bool) (s : State) : Host.Outcome State Fault Refusal :=
  s.portEvent p fun c => c.netLink p up an

/-- MDIO_FRAME_START (R391): a write of NET_MDIO_CTL. -/
def execMdioFrameStart (m : Nat) (d : Word) (s : State) : Host.Outcome State Fault Refusal := s.put m (netA 0x120) d

/-- MDIO_DONE (R391). -/
def execMdioDone (data : Nat) (noPhy : Bool) (s : State) : Host.Outcome State Fault Refusal :=
  s.event NET 127 fun c => c.mdioDone data noPhy

end Sys2Proof.Machine
end

