-- ==== Sys2Proof/Machine/CmdPages.lean ====
section
/-! DEFINITION. The commands of 01_timing_promise and 02_register_pages: register accesses, indirect windows, page headers, and
the pace of the regions. -/

namespace Sys2Proof.Machine

/-- WIDE_VALUE_LOW_WORD_READ (R11). -/
def execWideValueLowWordRead (m addr : Nat) (s : State) : Host.Outcome State Fault Refusal := s.read m addr 4

/-- RESULT_ALIAS_READ (R17, R19, R370): `bad` says that the stored check of an RX entry fails at this read. Log 73, DEDUCED. -/
def execResultAliasRead (m addr size : Nat) (s : State) (bad : Bool := false) : Host.Outcome State Fault Refusal :=
  s.act fun c => if bad then c.readBad m addr size else c.readBy m addr size

/-- RC_REGISTER_READ (R9, R69). -/
def execRcRegisterRead (m addr size : Nat) (s : State) : Host.Outcome State Fault Refusal := s.read m addr size

/-- REGISTER_WRITE (R9, R24, R59, R66, R70, R73, R586): `hops` re-sends on the fabric; with more than three the block arrives
poisoned. -/
def execRegisterWrite (m addr size : Nat) (data : List Word) (hops : Nat) (s : State) :
    Host.Outcome State Fault Refusal := s.write {} m addr size data hops

/-- UNIMPLEMENTED_ACCESS (R58). Log 55, DEDUCED. -/
def execUnimplementedAccess (m addr : Nat) (wr : Bool) (s : State) : Host.Outcome State Fault Refusal :=
  if wr then s.put m addr 0 else s.read m addr 4

/-- IWIN_READ (R60 to R64): GO with OP = 1. -/
def execIwinRead (m blk inst sel : Nat) (s : State) : Host.Outcome State Fault Refusal :=
  s.put m (pageAddr blk inst 0x208) (BitVec.ofNat 32 (2 ^ 31 + 1 * 2 ^ 24 + sel % 256 * 256))

/-- IWIN_WRITE (R60 to R64): GO with OP = 2. -/
def execIwinWrite (m blk inst sel : Nat) (s : State) : Host.Outcome State Fault Refusal :=
  s.put m (pageAddr blk inst 0x208) (BitVec.ofNat 32 (2 ^ 31 + 2 * 2 ^ 24 + sel % 256 * 256))

/-- IWIN_DONE (R63, R64): an operation that has begun is never cancelled, in a soft reset neither. -/
def execIwinDone (p blk inst rr : Nat) (s : State) : Host.Outcome State Fault Refusal :=
  s.anytime fun c => c.iwinDone p blk inst rr

/-- PAGE_ENABLE (R67). -/
def execPageEnable (m blk inst : Nat) (d : Word) (s : State) : Host.Outcome State Fault Refusal :=
  s.put m (pageAddr blk inst PG_CTL) d

/-- PAGE_SOFT_RESET (R68). -/
def execPageSoftReset (m blk inst : Nat) (d : Word) (s : State) : Host.Outcome State Fault Refusal :=
  s.put m (pageAddr blk inst PG_CTL) (d ||| 2#32)

/-- SOFT_RESET_COMPLETE (R68). -/
def execSoftResetComplete (blk inst : Nat) (s : State) : Host.Outcome State Fault Refusal :=
  s.anytime fun c => c.softResetDone blk inst

/-- DEBUG_FREEZE_WRITE (R67). -/
def execDebugFreezeWrite (m blk inst : Nat) (d : Word) (s : State) : Host.Outcome State Fault Refusal :=
  s.put m (pageAddr blk inst PG_CTL) d

/-- PG_OWNER_WRITE (R69). -/
def execPgOwnerWrite (m blk inst : Nat) (d : Word) (s : State) : Host.Outcome State Fault Refusal :=
  s.put m (pageAddr blk inst PG_OWNER) d

/-- PG_KEY_WRITE (R73). -/
def execPgKeyWrite (m blk inst : Nat) (d : Word) (s : State) : Host.Outcome State Fault Refusal :=
  s.put m (pageAddr blk inst PG_KEY) d

/-- KEY_TIMEOUT (R73). -/
def execKeyTimeout (m blk inst : Nat) (s : State) : Host.Outcome State Fault Refusal :=
  s.anytime fun c => c.keyExpired m blk inst

/-- EVT_PEND_CLEAR (R74). -/
def execEvtPendClear (m blk inst : Nat) (d : Word) (s : State) : Host.Outcome State Fault Refusal :=
  s.put m (pageAddr blk inst PG_EVT_PEND) d

/-- DIPSTICK_WINDOW_END (R27 to R37): the pace of every region; a standby's conditions follow (R503). -/
def execDipstickWindowEnd (paces : List Nat) (s : State) : Host.Outcome State Fault Refusal :=
  s.event DIP 0 fun c => (c.dipWindow paces).paceSeen c

/-- FLOOR_TIMER_EXPIRY (R35). -/
def execFloorTimerExpiry (s : State) : Host.Outcome State Fault Refusal := s.event DIP 0 fun c => c.floorExpired

/-- PACE_RECOVERY_EXPIRY (R37). -/
def execPaceRecoveryExpiry (s : State) : Host.Outcome State Fault Refusal := s.event DIP 0 fun c => c.paceRecovered

/-- DIP_TARGET_WRITE (R32). -/
def execDipTargetWrite (m : Nat) (d : Word) (s : State) : Host.Outcome State Fault Refusal := s.put m (dipA 0x104) d

/-- MEM_USE_INTERVAL_END (R48). -/
def execMemUseIntervalEnd (draws : List Nat) (s : State) : Host.Outcome State Fault Refusal :=
  s.event MEM 0 fun c => c.memInterval draws

end Sys2Proof.Machine
end

