-- ==== Sys2Proof/Machine/CmdPair.lean ====
section
/-! DEFINITION. The commands of 17_twin_pair: forming, the Pair Link, readiness, cross-compare, hold latch, hand-over and repair. -/

namespace Sys2Proof.Machine

/-- PAIR_ENABLE (R494, R513): a write of PAI_CFG with EN = 1. -/
def execPairEnable (m : Nat) (d : Word) (s : State) : Host.Outcome State Fault Refusal :=
  s.put m aPaiCfg (d ||| 0x8000_0000#32)

/-- PAIR_DISABLE (R494, R513): a write of PAI_CFG with EN = 0. -/
def execPairDisable (m : Nat) (d : Word) (s : State) : Host.Outcome State Fault Refusal :=
  s.put m aPaiCfg (d &&& 0x7FFF_FFFF#32)

/-- PAIR_HELLO_RX (R491, R492). -/
def execPairHelloRx (h : Hello) (s : State) : Host.Outcome State Fault Refusal := s.event PAI 0 fun c => c.paiHello h

/-- ROLE_CLAIM_DELAY (R492). -/
def execRoleClaimDelay (roleIn : Bool) (s : State) : Host.Outcome State Fault Refusal := s.event PAI 0 fun c => c.paiClaim roleIn

/-- PAIR_LINK_TIMEOUT (R492). -/
def execPairLinkTimeout (roleIn holdIn : Bool) (s : State) : Host.Outcome State Fault Refusal :=
  s.event PAI 0 fun c => c.paiNoLink roleIn holdIn

/-- PAIR_LINK_UP (R494). -/
def execPairLinkUp (lanes : Nat) (s : State) : Host.Outcome State Fault Refusal := s.event PAI 0 fun c => c.paiLinkUp lanes

/-- PAIR_LINK_DOWN (R494). -/
def execPairLinkDown (s : State) : Host.Outcome State Fault Refusal := s.event PAI 0 fun c => c.paiLinkDown

/-- LINK_LOST_GRACE_EXPIRY (R494). -/
def execLinkLostGraceExpiry (holdIn : Bool) (s : State) : Host.Outcome State Fault Refusal :=
  s.event PAI 0 fun c => c.graceEnd holdIn

/-- PAIR_LINK_BLOCK_RX (R497 to R502, R504, R505, R509, R511). Log 57, DESIGN CHOICE. -/
def execPairLinkBlockRx (lane seq : Nat) (ok nak : Bool) (msg : PairMsg) (s : State) : Host.Outcome State Fault Refusal :=
  s.eventOut PAI 0 fun c =>
    c.pairBlockRx (fun b => (bytesWords (dramLoad s.dram (64 * b) 64), !tab false s.dramPoison b)) lane seq ok nak msg

/-- PAIR_LANE_DOWN (R497). -/
def execPairLaneDown (lane : Nat) (s : State) : Host.Outcome State Fault Refusal := s.event PAI 0 fun c => c.laneDown lane

/-- PAIR_LANE_RETURN (R497). -/
def execPairLaneReturn (lane : Nat) (s : State) : Host.Outcome State Fault Refusal := s.event PAI 0 fun c => c.laneReturn lane

/-- PAIR_TIME_EXCHANGE (R499): `theta` in 2^-16 ns, with the lead's epoch and the link delay. -/
def execPairTimeExchange (theta : Int) (epoch : Nat) (delta : Option Int) (s : State) : Host.Outcome State Fault Refusal :=
  s.event PAI 0 fun c => (c.paiTime theta epoch delta).stepped c

/-- HOLD_LATCH_REFRESH (R495). -/
def execHoldLatchRefresh (s : State) : Host.Outcome State Fault Refusal := s.anytime fun c => c.holdRefresh

/-- HOLD_WATCHDOG_EXPIRY (R495, R506). -/
def execHoldWatchdogExpiry (s : State) : Host.Outcome State Fault Refusal := s.anytime fun c => c.holdWatchdog

/-- HOLD_IN_FALL (R495, R508). -/
def execHoldInFall (s : State) : Host.Outcome State Fault Refusal := s.anytime fun c => c.holdFall

/-- BULK_COPY_DONE (R503): the words of the copy. -/
def execBulkCopyDone (copy : List (Nat × Word)) (s : State) : Host.Outcome State Fault Refusal :=
  s.event PAI 0 fun c => c.paiBulk copy

/-- STANDBY_READY (R503, R512). -/
def execStandbyReady (s : State) : Host.Outcome State Fault Refusal := s.event PAI 0 fun c => c.paiReady

/-- PAIR_SELFTEST_DONE (R505). -/
def execPairSelftestDone (own peer : Bool) (s : State) : Host.Outcome State Fault Refusal :=
  s.event PAI 0 fun c => c.paiSelfTest own peer

/-- HANDOVER (R509, R517): command 1 of PAI_CMD. -/
def execHandover (m : Nat) (s : State) : Host.Outcome State Fault Refusal := s.put m (paiA 0x104) 1

/-- RESYNC (R517): command 2 of PAI_CMD. -/
def execResync (m : Nat) (s : State) : Host.Outcome State Fault Refusal := s.put m (paiA 0x104) 2

/-- DISSOLVE (R494, R517): command 3 of PAI_CMD. -/
def execDissolve (m : Nat) (s : State) : Host.Outcome State Fault Refusal := s.put m (paiA 0x104) 3

/-- SURRENDER (R506, R517): command 4 of PAI_CMD. -/
def execSurrender (m : Nat) (s : State) : Host.Outcome State Fault Refusal := s.put m (paiA 0x104) 4

/-- HANDOVER_CHECK (R509). -/
def execHandoverCheck (s : State) : Host.Outcome State Fault Refusal := s.event PAI 0 fun c => c.paiCheck

/-- HANDOVER_INSTANT (R509). -/
def execHandoverInstant (s : State) : Host.Outcome State Fault Refusal := s.event PAI 0 fun c => c.paiInstant

/-- HOLD_STUCK_CHECK (R509). -/
def execHoldStuckCheck (holdIn : Bool) (s : State) : Host.Outcome State Fault Refusal :=
  s.event PAI 0 fun c => c.paiStuck holdIn

/-- HOLD_DOWN_EXPIRY (R510). -/
def execHoldDownExpiry (s : State) : Host.Outcome State Fault Refusal := s.event PAI 0 fun c => c.hdExpiry

/-- The repair of DRAM block `b` ends (R511): the requester writes the twin's copy, which clears the poison; a repair fails when
the link is down, the copy is bad or the block lies outside every mirror region. -/
def State.repairBlock (s : State) (b : Nat) (data : List Word) (ok : Bool) : State :=
  let c := s.chip
  if !tab false s.dramPoison b then s
  else if ok && c.linkUp && c.paired && c.mirrored (64 * b) then
    let bs := ((data ++ List.replicate 16 0).take 16).flatMap fun (w : Word) => natBytes 4 w.toNat
    { s with chip := c.repairEnd true (64 * b), dram := dramStore s.dram (64 * b) bs,
             dramPoison := tabPut false s.dramPoison b false }
  else { s with chip := c.repairEnd false (64 * b) }

/-- REPAIR_COMPLETE (R511): of the element under `key`, or of DRAM block `key`. -/
def execRepairComplete (elem : Bool) (key : Nat) (data : List Word) (ok : Bool) (s : State) :
    Host.Outcome State Fault Refusal :=
  if elem then s.event PAI 0 fun c => c.repairElem key data ok
  else s.memory (s.chip.acts PAI 0) (s.repairBlock key data ok)

end Sys2Proof.Machine
end

