-- ==== Sys2Proof/Machine/CmdPower.lean ====
section
/-! DEFINITION. The commands of 19_power_reset: the power ladder, wake events, resets, supplies, power failure and temperature. -/

namespace Sys2Proof.Machine

/-- POWER_REQUEST (R547): a write of PWR_REQ. -/
def execPowerRequest (m : Nat) (d : Word) (s : State) : Host.Outcome State Fault Refusal := s.put m (pwrA 0x100) d

/-- POWER_RUNG_ENTERED (R544, R548, R555). -/
def execPowerRungEntered (s : State) : Host.Outcome State Fault Refusal := s.power fun c => c.rung

/-- WAKE_EVENT (R549): the event of row `e` of the table, from 0. -/
def execWakeEvent (e : Nat) (s : State) : Host.Outcome State Fault Refusal := s.power fun c => c.wakeEvent e

/-- RTC_ALARM (R549, R552). -/
def execRtcAlarm (s : State) : Host.Outcome State Fault Refusal := s.power fun c => c.rtcAlarm

/-- RESET_PIN (R550): RESET_N low for `width` ns. -/
def execResetPin (width : Nat) (s : State) : Host.Outcome State Fault Refusal := s.power fun c => c.resetPin width

/-- RESET_RELEASE (R551). -/
def execResetRelease (pinHigh : Bool) (s : State) : Host.Outcome State Fault Refusal := s.power fun c => c.resetRelease pinHigh

/-- SUPPLY_CHANGE (R542, R543, R545, R550): supply `i` by its bit of PWR_STAT. -/
def execSupplyChange (i : Nat) (good : Bool) (s : State) : Host.Outcome State Fault Refusal :=
  s.power fun c => c.supplyChange i good

/-- POWER_FAIL_DETECT (R554). -/
def execPowerFailDetect (s : State) : Host.Outcome State Fault Refusal := s.power fun c => c.powerFail

/-- POWERFAIL_FLUSH_DONE (R554, R583): DRAM has been powered down. Log 26, DEDUCED. -/
def execPowerfailFlushDone (s : State) : Host.Outcome State Fault Refusal :=
  State.power (if s.chip.flushing then { s with dram := [], dramPoison := [] } else s) fun c => c.flushEnd

/-- TAMPER (R552). -/
def execTamper (s : State) : Host.Outcome State Fault Refusal := s.act fun c => c.tamperFall

/-- PWR_STAT_CLEAR (R559): a write of PWR_STAT_CLR. -/
def execPwrStatClear (m : Nat) (d : Word) (s : State) : Host.Outcome State Fault Refusal := s.put m (pwrA 0x10C) d

/-- THERMAL_SAMPLE (R556, R557): T_J in hundredths of a degree, and the sensor. -/
def execThermalSample (tj : Int) (sensor : Nat) (s : State) : Host.Outcome State Fault Refusal :=
  s.power fun c => c.thermalSample tj sensor

/-- THERMAL_CRIT_EXPIRY (R558). -/
def execThermalCritExpiry (s : State) : Host.Outcome State Fault Refusal := s.anytime fun c => c.thermalCrit

end Sys2Proof.Machine
end

