-- ==== Sys2Proof/Machine/CmdProfile.lean ====
section
/-! DEFINITION. The commands of 07_motion_profiles: the ticks of axes, and the commands of PRF_AX_CMD (R229). -/

namespace Sys2Proof.Machine

/-- PRF_AX_CMD of axis `a` (R226, R229). -/
def axCmdK (a : Nat) : Nat := axK a 4

/-- AXIS_TICK (R224, R225, R233 to R255): the tick that is due first; a cam reads its points with `rr` re-reads (R47). -/
def execAxisTick (s : State) (rr : Nat := 0) : Host.Outcome State Fault Refusal :=
  if s.chip.acts PRF 0 && s.chip.pageOn PRF 0 then .next (s.settleOut fun c => Chip.axisWrites (c.axisTick rr)) else .next s

/-- AXIS_ENABLE (R229, R231): code 1. -/
def execAxisEnable (m a : Nat) (s : State) : Host.Outcome State Fault Refusal := s.put m (axCmdK a) 1

/-- AXIS_DISABLE (R229, R231): code 2. -/
def execAxisDisable (m a : Nat) (s : State) : Host.Outcome State Fault Refusal := s.put m (axCmdK a) 2

/-- MOVE_ABS (R229, R233): code 3. -/
def execMoveAbs (m a : Nat) (s : State) : Host.Outcome State Fault Refusal := s.put m (axCmdK a) 3

/-- MOVE_REL (R229, R233): code 4. -/
def execMoveRel (m a : Nat) (s : State) : Host.Outcome State Fault Refusal := s.put m (axCmdK a) 4

/-- VELOCITY (R229, R236): code 5. -/
def execVelocity (m a : Nat) (s : State) : Host.Outcome State Fault Refusal := s.put m (axCmdK a) 5

/-- GEAR_IN (R229, R241): code 6, with ENGAGE_AT where bit 4 is set. -/
def execGearIn (m a : Nat) (atPos : Bool) (s : State) : Host.Outcome State Fault Refusal :=
  s.put m (axCmdK a) (if atPos then 22 else 6)

/-- CAM_IN (R229, R246): code 7. -/
def execCamIn (m a : Nat) (s : State) : Host.Outcome State Fault Refusal := s.put m (axCmdK a) 7

/-- SUP_MOVE (R229, R242): code 8. -/
def execSupMove (m a : Nat) (s : State) : Host.Outcome State Fault Refusal := s.put m (axCmdK a) 8

/-- STOP (R229, R236): code 9. -/
def execStop (m a : Nat) (s : State) : Host.Outcome State Fault Refusal := s.put m (axCmdK a) 9

/-- QSTOP (R229, R248): code 10. -/
def execQstop (m a : Nat) (s : State) : Host.Outcome State Fault Refusal := s.put m (axCmdK a) 10

/-- LOAD_LIMITS (R229, R237): code 11. -/
def execLoadLimits (m a : Nat) (s : State) : Host.Outcome State Fault Refusal := s.put m (axCmdK a) 11

/-- AXIS_SET_POS (R229): code 12. -/
def execAxisSetPos (m a : Nat) (s : State) : Host.Outcome State Fault Refusal := s.put m (axCmdK a) 12

/-- RESET_FAULT (R229, R231): code 13. -/
def execResetFault (m a : Nat) (s : State) : Host.Outcome State Fault Refusal := s.put m (axCmdK a) 13

/-- STATE_LOST_CLEAR (R259): a write of PRF_STAT_CLR. -/
def execStateLostClear (m : Nat) (d : Word) (s : State) : Host.Outcome State Fault Refusal :=
  s.put m (pageAddr PRF 0 0x104) d

end Sys2Proof.Machine
end

