-- ==== Sys2Proof/Machine/CmdSafety.lean ====
section
/-! DEFINITION. The commands of 16_safety_unit. The debug freeze has no effect on the Safety Unit, and a soft reset of its page
resets the page's registers only (R67, R481). -/

namespace Sys2Proof.Machine

/-- An event of the Safety Unit. -/
def State.safeEvent (s : State) (f : Chip → Chip) : Host.Outcome State Fault Refusal :=
  s.actIf (s.chip.pwr.held.isNone && s.chip.domain SAF 0 < 2) f

/-- SAFETY_TICK (R457, R462 to R478). -/
def execSafetyTick (smp : SafeSample) (s : State) : Host.Outcome State Fault Refusal := s.safeEvent fun c => c.safTick smp

/-- DISCREPANCY_TIMEOUT (R463). -/
def execDiscrepancyTimeout (i : Nat) (s : State) : Host.Outcome State Fault Refusal := s.safeEvent fun c => c.discrepancy i

/-- TEST_PULSE_START (R466): the lines active at each channel during the low pulse. Log 64, DESIGN CHOICE. -/
def execTestPulseStart (p actA actB : Nat) (s : State) : Host.Outcome State Fault Refusal :=
  s.safeEvent fun c => c.safPulse p actA actB

/-- OUTPUT_TEST_PULSE (R471). Log 64, DESIGN CHOICE. -/
def execOutputTestPulse (g ch : Nat) (differs : Bool) (s : State) : Host.Outcome State Fault Refusal :=
  s.safeEvent fun c => c.outPulse g ch differs

/-- SS1_EXPIRY (R470). -/
def execSs1Expiry (g : Nat) (s : State) : Host.Outcome State Fault Refusal := s.safeEvent fun c => c.ss1Expiry g

/-- EDM_TIMEOUT (R473). -/
def execEdmTimeout (g : Nat) (s : State) : Host.Outcome State Fault Refusal := s.safeEvent fun c => c.edmTimeout g

/-- SAFETY_STARTUP_DONE (R459, R487). Log 64, DESIGN CHOICE. -/
def execSafetyStartupDone (okA okB readA readB : Bool) (s : State) : Host.Outcome State Fault Refusal :=
  s.safeEvent fun c => c.safStartup okA okB readA readB

/-- COMMISSION (R479): code 1 of SAF_CMD. -/
def execCommission (m : Nat) (s : State) : Host.Outcome State Fault Refusal := s.put m (safA 0x104) 1

/-- VERIFY (R479): code 2 of SAF_CMD. -/
def execVerify (m : Nat) (s : State) : Host.Outcome State Fault Refusal := s.put m (safA 0x104) 2

/-- SAFETY_VERIFY_DONE (R479): `flip` is what tells channel B's CHECK from channel A's. Log 64, DESIGN CHOICE. -/
def execSafetyVerifyDone (flip : Word) (s : State) : Host.Outcome State Fault Refusal := s.safeEvent fun c => c.safVerified flip

/-- ABORT (R480): code 3 of SAF_CMD. -/
def execAbort (m : Nat) (s : State) : Host.Outcome State Fault Refusal := s.put m (safA 0x104) 3

/-- SAF_CONFIRM (R480). -/
def execSafConfirm (m : Nat) (d : Word) (s : State) : Host.Outcome State Fault Refusal := s.put m (safA 0x10C) d

/-- SAF_SS1_REQ (R484). -/
def execSafSs1Req (m : Nat) (d : Word) (s : State) : Host.Outcome State Fault Refusal := s.put m (safA 0x124) d

/-- SAF_STO_REQ (R484). -/
def execSafStoReq (m : Nat) (d : Word) (s : State) : Host.Outcome State Fault Refusal := s.put m (safA 0x128) d

/-- SAF_RESET_REQ (R484). -/
def execSafResetReq (m : Nat) (d : Word) (s : State) : Host.Outcome State Fault Refusal := s.put m (safA 0x12C) d

end Sys2Proof.Machine
end

