-- ==== Sys2Proof/Machine/CmdTally.lean ====
section
/-! DEFINITION. The commands of 15_tally_recorder: intake and folding, tokens, posts, bulk commands and flushes. -/

namespace Sys2Proof.Machine

/-- TALLY_EVENT_INTAKE (R444, R454): an event that arrives while Tally does not fold is discarded, in every state of power. -/
def execTallyEventIntake (s : State) : Host.Outcome State Fault Refusal :=
  s.anytime fun c => if c.frozen TLY 0 then c else c.tlyIntake

/-- TALLY_EVENT_FOLD (R446 to R448). -/
def execTallyEventFold (s : State) : Host.Outcome State Fault Refusal := s.event TLY 0 fun c => c.tlyFold

/-- TALLY_TOKEN_REFILL (R446). -/
def execTallyTokenRefill (code : Nat) (s : State) : Host.Outcome State Fault Refusal :=
  s.event TLY 0 fun c => c.tlyRefill code

/-- TLY_POST32 (R443, R586). -/
def execTlyPost32 (m : Nat) (d : Word) (s : State) : Host.Outcome State Fault Refusal := s.put m (tlyA 0x110) d

/-- TLY_POST64 (R443, R586): one access of both words. -/
def execTlyPost64 (m : Nat) (data : List Word) (s : State) : Host.Outcome State Fault Refusal :=
  s.write {} m (tlyA 0x108) (4 * data.length) data

/-- TALLY_CLEAR (R450): OP 1 of TLY_CMD, from code `first` on. -/
def execTallyClear (m first : Nat) (s : State) : Host.Outcome State Fault Refusal :=
  s.put m (tlyA 0x114) (BitVec.ofNat 32 (1 * 2 ^ 28 + first % 65536))

/-- TALLY_FLUSH (R450, R451): OP 2 of TLY_CMD. -/
def execTallyFlush (m : Nat) (s : State) : Host.Outcome State Fault Refusal := s.put m (tlyA 0x114) 0x2000_0000#32

/-- TALLY_CMD_DONE (R450). -/
def execTallyCmdDone (s : State) : Host.Outcome State Fault Refusal := s.event TLY 0 fun c => c.tlyCmdDone

/-- TALLY_FLUSH_DONE (R451 to R454): on the way down the ladder and in a power failure too. -/
def execTallyFlushDone (ok : Bool) (s : State) : Host.Outcome State Fault Refusal := s.anytime fun c => c.tlyFlushDone ok

/-- TALLY_CFG_WRITE (R445). -/
def execTallyCfgWrite (m code : Nat) (d : Word) (s : State) : Host.Outcome State Fault Refusal := s.put m (tlyCfgK code) d

/-- QLOSS_CLEAR (R455): a write of TLY_CTL. -/
def execQlossClear (m : Nat) (d : Word) (s : State) : Host.Outcome State Fault Refusal := s.put m (tlyA 0x100) d

end Sys2Proof.Machine
end

