-- ==== Sys2Proof/Machine/CmdTap.lean ====
section
/-! DEFINITION. The commands of 20_pins_electrical_test: the instructions of the test access port. The order of the chain's cells is
in the BSDL files, outside the spec (log 20, DESIGN CHOICE). -/

namespace Sys2Proof.Machine

/-- TAP_RESET (R577, R578): IDCODE is held. -/
def execTapReset (s : State) : Host.Outcome State Fault Refusal := s.power fun c => c.tapLoad 2

/-- EXTEST (R578, R581): the balls are driven from the chain, and a scan captures and updates it. `pins` is what each cell meets at its ball. -/
def execExtest (s : State) (pins tdi : List Bool := []) : Host.Outcome State Fault Refusal :=
  s.power fun c => (c.tapLoad 0).tapScan pins tdi

/-- SAMPLE/PRELOAD (R578): a scan captures and updates the chain; the balls keep their function. `pins` is what each cell meets at its ball. -/
def execSamplePreload (s : State) (pins tdi : List Bool := []) : Host.Outcome State Fault Refusal :=
  s.power fun c => (c.tapLoad 1).tapScan pins tdi

/-- IDCODE (R577, R578, R579): the identification register is answered, while VAON is good. -/
def execIdcode (s : State) : Host.Outcome State Fault Refusal :=
  s.power fun c => if c.supply 4 then (c.tapLoad 2).answer .done [c.idcode] else c

/-- HIGHZ (R578). -/
def execHighz (s : State) : Host.Outcome State Fault Refusal := s.power fun c => c.tapLoad 3

/-- CLAMP (R578, R581). -/
def execClamp (s : State) : Host.Outcome State Fault Refusal := s.power fun c => c.tapLoad 4

/-- EXTEST_PULSE (R578, R581, R582): as EXTEST; the HSS transmitters send a pulse. `pins` is what each cell meets at its ball. -/
def execExtestPulse (s : State) (pins tdi : List Bool := []) : Host.Outcome State Fault Refusal :=
  s.power fun c => (c.tapLoad 5).tapScan pins tdi

/-- EXTEST_TRAIN (R578, R581, R582): as EXTEST; the HSS transmitters send a train of pulses. `pins` is what each cell meets at its ball. -/
def execExtestTrain (s : State) (pins tdi : List Bool := []) : Host.Outcome State Fault Refusal :=
  s.power fun c => (c.tapLoad 6).tapScan pins tdi

/-- REG_ACCESS (R578, R584). -/
def execRegAccess (s : State) : Host.Outcome State Fault Refusal := s.power fun c => c.tapLoad 0x20

/-- MOD_RESET (R578, R583). -/
def execModReset (s : State) : Host.Outcome State Fault Refusal := s.power fun c => c.tapLoad 0x21

/-- FREEZE (R67, R578). -/
def execFreeze (s : State) : Host.Outcome State Fault Refusal := s.power fun c => c.tapLoad 0x22

/-- BYPASS (R578): opcode 0xFF, or one without an instruction. -/
def execBypass (op : Nat) (s : State) : Host.Outcome State Fault Refusal := s.power fun c => c.tapBypass op

/-- TAP_TEST_EXIT (R583): a test instruction is left for `op`. -/
def execTapTestExit (op : Nat) (s : State) : Host.Outcome State Fault Refusal := s.power fun c => c.tapExit op

/-- REG_ACCESS_UPDATE (R66, R70, R584, R585). -/
def execRegAccessUpdate (wr : Bool) (addr : Nat) (d : Word) (s : State) : Host.Outcome State Fault Refusal :=
  .next (s.settleOut fun c => c.tapUpdate wr addr d)

/-- REG_ACCESS_CAPTURE (R584). -/
def execRegAccessCapture (s : State) : Host.Outcome State Fault Refusal := s.act fun c => c.tapAnswer

end Sys2Proof.Machine
end

