-- ==== Sys2Proof/Machine/Dispatch.lean ====
section
/-! DEFINITION. One arm per command: a direct call of its meaning. -/

namespace Sys2Proof.Machine

/-- The effect of a command on everything but the queue of waiting commands. -/
def exec (i : Instr) (s : State) : Host.Outcome State Fault Refusal :=
  match i with
  | .wideValueLowWordRead m addr => Sys2Proof.Machine.execWideValueLowWordRead m addr s
  | .resultAliasRead m addr size bad => Sys2Proof.Machine.execResultAliasRead m addr size s bad
  | .dipstickWindowEnd paces => Sys2Proof.Machine.execDipstickWindowEnd paces s
  | .floorTimerExpiry => Sys2Proof.Machine.execFloorTimerExpiry s
  | .paceRecoveryExpiry => Sys2Proof.Machine.execPaceRecoveryExpiry s
  | .dipTargetWrite m d => Sys2Proof.Machine.execDipTargetWrite m d s
  | .memUseIntervalEnd draws => Sys2Proof.Machine.execMemUseIntervalEnd draws s
  | .registerWrite m addr size data hops => Sys2Proof.Machine.execRegisterWrite m addr size data hops s
  | .unimplementedAccess m addr wr => Sys2Proof.Machine.execUnimplementedAccess m addr wr s
  | .rcRegisterRead m addr size => Sys2Proof.Machine.execRcRegisterRead m addr size s
  | .iwinRead m blk inst sel => Sys2Proof.Machine.execIwinRead m blk inst sel s
  | .iwinWrite m blk inst sel => Sys2Proof.Machine.execIwinWrite m blk inst sel s
  | .iwinDone p blk inst rr => Sys2Proof.Machine.execIwinDone p blk inst rr s
  | .pageEnable m blk inst d => Sys2Proof.Machine.execPageEnable m blk inst d s
  | .pageSoftReset m blk inst d => Sys2Proof.Machine.execPageSoftReset m blk inst d s
  | .softResetComplete blk inst => Sys2Proof.Machine.execSoftResetComplete blk inst s
  | .debugFreezeWrite m blk inst d => Sys2Proof.Machine.execDebugFreezeWrite m blk inst d s
  | .pgOwnerWrite m blk inst d => Sys2Proof.Machine.execPgOwnerWrite m blk inst d s
  | .pgKeyWrite m blk inst d => Sys2Proof.Machine.execPgKeyWrite m blk inst d s
  | .keyTimeout m blk inst => Sys2Proof.Machine.execKeyTimeout m blk inst s
  | .evtPendClear m blk inst d => Sys2Proof.Machine.execEvtPendClear m blk inst d s
  | .eventNoticeDelivery line => Sys2Proof.Machine.execEventNoticeDelivery line s
  | .routeWrite m n d => Sys2Proof.Machine.execRouteWrite m n d s
  | .vecPendClear m p off data => Sys2Proof.Machine.execVecPendClear m p off data s
  | .msixUnmask m p v d => Sys2Proof.Machine.execMsixUnmask m p v d s
  | .msixHeldSend p v => Sys2Proof.Machine.execMsixHeldSend p v s
  | .pcieLinkChange e up speed width => Sys2Proof.Machine.execPcieLinkChange e up speed width s
  | .functionLevelReset e f => Sys2Proof.Machine.execFunctionLevelReset e f s
  | .perstAssert e => Sys2Proof.Machine.execPerstAssert e s
  | .perstRelease e => Sys2Proof.Machine.execPerstRelease e s
  | .shmEntryWrite m k off data => Sys2Proof.Machine.execShmEntryWrite m k off data s
  | .bar2Read p off len rr hops => Sys2Proof.Machine.execBar2Read p off len rr s hops
  | .bar2Write p off data hops => Sys2Proof.Machine.execBar2Write p off data s hops
  | .bindingWrite m k d => Sys2Proof.Machine.execBindingWrite m k d s
  | .bellSend m ch d => Sys2Proof.Machine.execBellSend m ch d s
  | .bellTake m ch size ok => Sys2Proof.Machine.execBellTake m ch size ok s
  | .bellInRead m ch ok => Sys2Proof.Machine.execBellInRead m ch ok s
  | .crossTimeExpiry ch => Sys2Proof.Machine.execCrossTimeExpiry ch s
  | .bucketPost m r d => Sys2Proof.Machine.execBucketPost m r d s
  | .bucketPostCommit r => Sys2Proof.Machine.execBucketPostCommit r s
  | .bucketTake m r d => Sys2Proof.Machine.execBucketTake m r d s
  | .lockRead m n => Sys2Proof.Machine.execLockRead m n s
  | .lockRelease m n d => Sys2Proof.Machine.execLockRelease m n d s
  | .lockForceRelease m n d => Sys2Proof.Machine.execLockForceRelease m n d s
  | .completionPost => Sys2Proof.Machine.execCompletionPost s
  | .hoiSubmit m d => Sys2Proof.Machine.execHoiSubmit m d s
  | .taskDispatch pool resends poison bad => Sys2Proof.Machine.execTaskDispatch pool resends poison s bad
  | .taskRelease desc => Sys2Proof.Machine.execTaskRelease desc s
  | .heldEntryGrant => Sys2Proof.Machine.execHeldEntryGrant s
  | .coreNextRead m n size => Sys2Proof.Machine.execCoreNextRead m n size s
  | .coreDone m n d => Sys2Proof.Machine.execCoreDone m n d s
  | .coreSuspend m n d => Sys2Proof.Machine.execCoreSuspend m n d s
  | .preemptTimeout n => Sys2Proof.Machine.execPreemptTimeout n s
  | .admitTasks m first => Sys2Proof.Machine.execAdmitTasks m first s
  | .retire m first => Sys2Proof.Machine.execRetire m first s
  | .query m first => Sys2Proof.Machine.execQuery m first s
  | .admissionDone => Sys2Proof.Machine.execAdmissionDone s
  | .beMaxCostWrite m d => Sys2Proof.Machine.execBeMaxCostWrite m d s
  | .beEntriesWrite m d => Sys2Proof.Machine.execBeEntriesWrite m d s
  | .corePoolWrite m d => Sys2Proof.Machine.execCorePoolWrite m d s
  | .flowCfgWrite m n d => Sys2Proof.Machine.execFlowCfgWrite m n d s
  | .trackArm m t => Sys2Proof.Machine.execTrackArm m t s
  | .trackPause m t => Sys2Proof.Machine.execTrackPause m t s
  | .trackResume m t => Sys2Proof.Machine.execTrackResume m t s
  | .trackAbort m t => Sys2Proof.Machine.execTrackAbort m t s
  | .trackContinue m t => Sys2Proof.Machine.execTrackContinue m t s
  | .stepPrefetch t idx rr => Sys2Proof.Machine.execStepPrefetch t idx rr s
  | .recipeStepSet t => Sys2Proof.Machine.execRecipeStepSet t s
  | .recipeStepPost t => Sys2Proof.Machine.execRecipeStepPost t s
  | .recipeStepWait t => Sys2Proof.Machine.execRecipeStepWait t s
  | .recipeStepJump t => Sys2Proof.Machine.execRecipeStepJump t s
  | .recipeStepEnd t => Sys2Proof.Machine.execRecipeStepEnd t s
  | .waitLimitExpiry t => Sys2Proof.Machine.execWaitLimitExpiry t s
  | .slotEnable m slot => Sys2Proof.Machine.execSlotEnable m slot s
  | .slotDisable m slot => Sys2Proof.Machine.execSlotDisable m slot s
  | .slotResetState m slot => Sys2Proof.Machine.execSlotResetState m slot s
  | .slotClearStat m slot => Sys2Proof.Machine.execSlotClearStat m slot s
  | .slotCmdDone => Sys2Proof.Machine.execSlotCmdDone s
  | .slotCtlWrite m slot d => Sys2Proof.Machine.execSlotCtlWrite m slot d s
  | .hoGroupWrite m g k d => Sys2Proof.Machine.execHoGroupWrite m g k d s
  | .learnClear m slot d => Sys2Proof.Machine.execLearnClear m slot d s
  | .learnClearDone slot => Sys2Proof.Machine.execLearnClearDone slot s
  | .learnGainWrite m slot rho d => Sys2Proof.Machine.execLearnGainWrite m slot rho d s
  | .axisTick rr => Sys2Proof.Machine.execAxisTick s rr
  | .axisEnable m a => Sys2Proof.Machine.execAxisEnable m a s
  | .axisDisable m a => Sys2Proof.Machine.execAxisDisable m a s
  | .moveAbs m a => Sys2Proof.Machine.execMoveAbs m a s
  | .moveRel m a => Sys2Proof.Machine.execMoveRel m a s
  | .velocity m a => Sys2Proof.Machine.execVelocity m a s
  | .gearIn m a atPos => Sys2Proof.Machine.execGearIn m a atPos s
  | .camIn m a => Sys2Proof.Machine.execCamIn m a s
  | .supMove m a => Sys2Proof.Machine.execSupMove m a s
  | .stop m a => Sys2Proof.Machine.execStop m a s
  | .qstop m a => Sys2Proof.Machine.execQstop m a s
  | .loadLimits m a => Sys2Proof.Machine.execLoadLimits m a s
  | .axisSetPos m a => Sys2Proof.Machine.execAxisSetPos m a s
  | .resetFault m a => Sys2Proof.Machine.execResetFault m a s
  | .stateLostClear m d => Sys2Proof.Machine.execStateLostClear m d s
  | .pwmPeriodBoundary p sub => Sys2Proof.Machine.execPwmPeriodBoundary p s sub
  | .pwmHalfBoundary p => Sys2Proof.Machine.execPwmHalfBoundary p s
  | .shadowWrite m p off data hops => Sys2Proof.Machine.execShadowWrite m p off data hops s
  | .shadowWriteArm m p off data hops => Sys2Proof.Machine.execShadowWriteArm m p off data hops s
  | .pwmArm m k d hops => Sys2Proof.Machine.execPwmArm m k d hops s
  | .pwmCompareMatch p n => Sys2Proof.Machine.execPwmCompareMatch p n s
  | .tripInputActive high low sub => Sys2Proof.Machine.execTripInputActive high low sub s
  | .blankWindowClose k sub => Sys2Proof.Machine.execBlankWindowClose k s sub
  | .tripClear m p d => Sys2Proof.Machine.execTripClear m p d s
  | .tripSelfTest k pass => Sys2Proof.Machine.execTripSelfTest k pass s
  | .testStaleExpiry k => Sys2Proof.Machine.execTestStaleExpiry k s
  | .tripCfgWrite m k w d => Sys2Proof.Machine.execTripCfgWrite m k w d s
  | .cfgMismatchExpiry k copy => Sys2Proof.Machine.execCfgMismatchExpiry k copy s
  | .encoderCount ch a b => Sys2Proof.Machine.execEncoderCount ch a b s
  | .hallChange ch h => Sys2Proof.Machine.execHallChange ch h s
  | .ssiFrameDone ch v datHigh monoLow => Sys2Proof.Machine.execSsiFrameDone ch v datHigh monoLow s
  | .rs485Response ch bytes stopLow => Sys2Proof.Machine.execRs485Response ch bytes stopLow s
  | .rs485RespTimeout ch => Sys2Proof.Machine.execRs485RespTimeout ch s
  | .indexPulse ch high => Sys2Proof.Machine.execIndexPulse ch s high
  | .referenceEdge ch input rising => Sys2Proof.Machine.execReferenceEdge ch input s rising
  | .fbkSetPos m ch => Sys2Proof.Machine.execFbkSetPos m ch s
  | .refArm m ch d => Sys2Proof.Machine.execRefArm m ch d s
  | .latchCaptureRead m ch l size => Sys2Proof.Machine.execLatchCaptureRead m ch l size s
  | .gpioInputEdge n high => Sys2Proof.Machine.execGpioInputEdge n high s
  | .gpioOutWrite m off data => Sys2Proof.Machine.execGpioOutWrite m off data s
  | .gpioSet m off data => Sys2Proof.Machine.execGpioSet m off data s
  | .gpioClr m off data => Sys2Proof.Machine.execGpioClr m off data s
  | .cnvSequenceTrigger => Sys2Proof.Machine.execCnvSequenceTrigger s
  | .cnvSoftTrigger m k d => Sys2Proof.Machine.execCnvSoftTrigger m k d s
  | .cnvAbort m k d => Sys2Proof.Machine.execCnvAbort m k d s
  | .conversionDone k nv => Sys2Proof.Machine.execConversionDone k nv s
  | .filterRoundStart k => Sys2Proof.Machine.execFilterRoundStart k s
  | .cnvModeWrite m k d => Sys2Proof.Machine.execCnvModeWrite m k d s
  | .cnvEntryWrite m k e d => Sys2Proof.Machine.execCnvEntryWrite m k e d s
  | .cnvSeqCfgWrite m k seq d => Sys2Proof.Machine.execCnvSeqCfgWrite m k seq d s
  | .cnvResultRead m k e size consuming => Sys2Proof.Machine.execCnvResultRead m k e size consuming s
  | .plausPartnerTimeout k => Sys2Proof.Machine.execPlausPartnerTimeout k s
  | .plausClear m d => Sys2Proof.Machine.execPlausClear m d s
  | .plausCfgWrite m k w d => Sys2Proof.Machine.execPlausCfgWrite m k w d s
  | .trefLoss => Sys2Proof.Machine.execTrefLoss s
  | .trefReturn => Sys2Proof.Machine.execTrefReturn s
  | .ptpSyncRx p domain t1 corr twoStep tagged => Sys2Proof.Machine.execPtpSyncRx p domain t1 corr twoStep tagged s
  | .ptpFollowUpRx p t1 corr => Sys2Proof.Machine.execPtpFollowUpRx p t1 corr s
  | .followUpTimeout p => Sys2Proof.Machine.execFollowUpTimeout p s
  | .ptpSyncTx p => Sys2Proof.Machine.execPtpSyncTx p s
  | .pdelayReqTx p => Sys2Proof.Machine.execPdelayReqTx p s
  | .pdelayReqRx p stay tagged => Sys2Proof.Machine.execPdelayReqRx p stay tagged s
  | .pdelayRespRx p turn t3 => Sys2Proof.Machine.execPdelayRespRx p turn t3 s
  | .syncTimeout => Sys2Proof.Machine.execSyncTimeout s
  | .timeStepApply => Sys2Proof.Machine.execTimeStepApply s
  | .timStepGo m => Sys2Proof.Machine.execTimStepGo m s
  | .timReacq m => Sys2Proof.Machine.execTimReacq m s
  | .backupClockWrite => Sys2Proof.Machine.execBackupClockWrite s
  | .triggerOccurrence n => Sys2Proof.Machine.execTriggerOccurrence n s
  | .triggerEnable m n d => Sys2Proof.Machine.execTriggerEnable m n d s
  | .triggerDisable m n d => Sys2Proof.Machine.execTriggerDisable m n d s
  | .pulseAtWrite m n off data => Sys2Proof.Machine.execPulseAtWrite m n off data s
  | .pulseAtReached n => Sys2Proof.Machine.execPulseAtReached n s
  | .captureEdge n rising => Sys2Proof.Machine.execCaptureEdge n rising s
  | .capturePop m n size => Sys2Proof.Machine.execCapturePop m n size s
  | .ptpCfgWrite m p d => Sys2Proof.Machine.execPtpCfgWrite m p d s
  | .ethFrameRx p bytes fcsOk rr => Sys2Proof.Machine.execEthFrameRx p bytes fcsOk s rr
  | .cyclicFrameRx hops => Sys2Proof.Machine.execCyclicFrameRx hops s
  | .rxDeadline d => Sys2Proof.Machine.execRxDeadline d s
  | .cyclicFrameTx d bad => Sys2Proof.Machine.execCyclicFrameTx d bad s
  | .txFrameDrop d => Sys2Proof.Machine.execTxFrameDrop d s
  | .gateDrop p q rr => Sys2Proof.Machine.execGateDrop p q s rr
  | .gclEntryExpiry p => Sys2Proof.Machine.execGclEntryExpiry p s
  | .gclSwap m p d => Sys2Proof.Machine.execGclSwap m p d s
  | .gclSwapEffect p => Sys2Proof.Machine.execGclSwapEffect p s
  | .netTxPut m e value => Sys2Proof.Machine.execNetTxPut m e value s
  | .cycEnable m d => Sys2Proof.Machine.execCycEnable m d s
  | .txRingTailWrite m p q d => Sys2Proof.Machine.execTxRingTailWrite m p q d s
  | .rxRingTailWrite m p d => Sys2Proof.Machine.execRxRingTailWrite m p d s
  | .hostFrameTxDone p q rr => Sys2Proof.Machine.execHostFrameTxDone p q s rr
  | .netLinkChange p up an => Sys2Proof.Machine.execNetLinkChange p up an s
  | .mdioFrameStart m d => Sys2Proof.Machine.execMdioFrameStart m d s
  | .mdioDone data noPhy => Sys2Proof.Machine.execMdioDone data noPhy s
  | .canFrameRx ch frame age => Sys2Proof.Machine.execCanFrameRx ch frame age s
  | .canTxRequest m ch o bad => Sys2Proof.Machine.execCanTxRequest m ch o bad s
  | .canData0Write m ch o data bad => Sys2Proof.Machine.execCanData0Write m ch o data bad s
  | .canTxAbort m ch o => Sys2Proof.Machine.execCanTxAbort m ch o s
  | .canTxStart ch => Sys2Proof.Machine.execCanTxStart ch s
  | .canTxDone ch how delay => Sys2Proof.Machine.execCanTxDone ch how delay s
  | .canErrorDetected ch lec sending exempt eights => Sys2Proof.Machine.execCanErrorDetected ch lec sending exempt eights s
  | .busOffRecovery ch => Sys2Proof.Machine.execBusOffRecovery ch s
  | .canSleep m ch idle => Sys2Proof.Machine.execCanSleep m ch idle s
  | .canWake m ch => Sys2Proof.Machine.execCanWake m ch s
  | .canRecover m ch => Sys2Proof.Machine.execCanRecover m ch s
  | .canAbortAll m ch => Sys2Proof.Machine.execCanAbortAll m ch s
  | .canWakeEvent ch width frame => Sys2Proof.Machine.execCanWakeEvent ch width frame s
  | .canResultRead m ch o size consuming => Sys2Proof.Machine.execCanResultRead m ch o size consuming s
  | .adtSampleIntake => Sys2Proof.Machine.execAdtSampleIntake s
  | .adtRecordUpdate rr => Sys2Proof.Machine.execAdtRecordUpdate rr s
  | .adtWindowEnd => Sys2Proof.Machine.execAdtWindowEnd s
  | .streamFlushTimeout ch => Sys2Proof.Machine.execStreamFlushTimeout ch s
  | .streamBlockWritten ch => Sys2Proof.Machine.execStreamBlockWritten ch s
  | .streamRdWrite m ch data => Sys2Proof.Machine.execStreamRdWrite m ch data s
  | .streamEnable m ch d => Sys2Proof.Machine.execStreamEnable m ch d s
  | .streamDisable m ch d => Sys2Proof.Machine.execStreamDisable m ch d s
  | .adtClearStats m => Sys2Proof.Machine.execAdtClearStats m s
  | .adtSetPolicy m => Sys2Proof.Machine.execAdtSetPolicy m s
  | .adtSetAndClear m => Sys2Proof.Machine.execAdtSetAndClear m s
  | .adtCmdDone => Sys2Proof.Machine.execAdtCmdDone s
  | .adtEnable m d => Sys2Proof.Machine.execAdtEnable m d s
  | .dirClearDone => Sys2Proof.Machine.execDirClearDone s
  | .adtTrgCfgWrite m u d => Sys2Proof.Machine.execAdtTrgCfgWrite m u d s
  | .adtTrgResultRead m u size consuming => Sys2Proof.Machine.execAdtTrgResultRead m u size consuming s
  | .tallyEventIntake => Sys2Proof.Machine.execTallyEventIntake s
  | .tallyEventFold => Sys2Proof.Machine.execTallyEventFold s
  | .tallyTokenRefill code => Sys2Proof.Machine.execTallyTokenRefill code s
  | .tlyPost32 m d => Sys2Proof.Machine.execTlyPost32 m d s
  | .tlyPost64 m data => Sys2Proof.Machine.execTlyPost64 m data s
  | .tallyClear m first => Sys2Proof.Machine.execTallyClear m first s
  | .tallyFlush m => Sys2Proof.Machine.execTallyFlush m s
  | .tallyCmdDone => Sys2Proof.Machine.execTallyCmdDone s
  | .tallyFlushDone ok => Sys2Proof.Machine.execTallyFlushDone ok s
  | .tallyCfgWrite m code d => Sys2Proof.Machine.execTallyCfgWrite m code d s
  | .qlossClear m d => Sys2Proof.Machine.execQlossClear m d s
  | .safetyTick smp => Sys2Proof.Machine.execSafetyTick smp s
  | .discrepancyTimeout k => Sys2Proof.Machine.execDiscrepancyTimeout k s
  | .testPulseStart p actA actB => Sys2Proof.Machine.execTestPulseStart p actA actB s
  | .outputTestPulse g ch differs => Sys2Proof.Machine.execOutputTestPulse g ch differs s
  | .ss1Expiry g => Sys2Proof.Machine.execSs1Expiry g s
  | .edmTimeout g => Sys2Proof.Machine.execEdmTimeout g s
  | .safetyStartupDone okA okB readA readB => Sys2Proof.Machine.execSafetyStartupDone okA okB readA readB s
  | .commission m => Sys2Proof.Machine.execCommission m s
  | .verify m => Sys2Proof.Machine.execVerify m s
  | .safetyVerifyDone flip => Sys2Proof.Machine.execSafetyVerifyDone flip s
  | .abort m => Sys2Proof.Machine.execAbort m s
  | .safConfirm m d => Sys2Proof.Machine.execSafConfirm m d s
  | .safSs1Req m d => Sys2Proof.Machine.execSafSs1Req m d s
  | .safStoReq m d => Sys2Proof.Machine.execSafStoReq m d s
  | .safResetReq m d => Sys2Proof.Machine.execSafResetReq m d s
  | .pairEnable m d => Sys2Proof.Machine.execPairEnable m d s
  | .pairDisable m d => Sys2Proof.Machine.execPairDisable m d s
  | .pairHelloRx h => Sys2Proof.Machine.execPairHelloRx h s
  | .roleClaimDelay roleIn => Sys2Proof.Machine.execRoleClaimDelay roleIn s
  | .pairLinkTimeout roleIn holdIn => Sys2Proof.Machine.execPairLinkTimeout roleIn holdIn s
  | .pairLinkUp lanes => Sys2Proof.Machine.execPairLinkUp lanes s
  | .pairLinkDown => Sys2Proof.Machine.execPairLinkDown s
  | .linkLostGraceExpiry holdIn => Sys2Proof.Machine.execLinkLostGraceExpiry holdIn s
  | .pairLinkBlockRx lane seq ok nak msg => Sys2Proof.Machine.execPairLinkBlockRx lane seq ok nak msg s
  | .pairLaneDown lane => Sys2Proof.Machine.execPairLaneDown lane s
  | .pairLaneReturn lane => Sys2Proof.Machine.execPairLaneReturn lane s
  | .pairTimeExchange theta epoch delta => Sys2Proof.Machine.execPairTimeExchange theta epoch delta s
  | .holdLatchRefresh => Sys2Proof.Machine.execHoldLatchRefresh s
  | .holdWatchdogExpiry => Sys2Proof.Machine.execHoldWatchdogExpiry s
  | .holdInFall => Sys2Proof.Machine.execHoldInFall s
  | .bulkCopyDone copy => Sys2Proof.Machine.execBulkCopyDone copy s
  | .standbyReady => Sys2Proof.Machine.execStandbyReady s
  | .pairSelftestDone own peer => Sys2Proof.Machine.execPairSelftestDone own peer s
  | .handover m => Sys2Proof.Machine.execHandover m s
  | .resync m => Sys2Proof.Machine.execResync m s
  | .dissolve m => Sys2Proof.Machine.execDissolve m s
  | .surrender m => Sys2Proof.Machine.execSurrender m s
  | .handoverCheck => Sys2Proof.Machine.execHandoverCheck s
  | .handoverInstant => Sys2Proof.Machine.execHandoverInstant s
  | .holdStuckCheck holdIn => Sys2Proof.Machine.execHoldStuckCheck holdIn s
  | .holdDownExpiry => Sys2Proof.Machine.execHoldDownExpiry s
  | .repairComplete elem key data ok => Sys2Proof.Machine.execRepairComplete elem key data ok s
  | .bootComplete bad => Sys2Proof.Machine.execBootComplete bad s
  | .stageCheck m bad => Sys2Proof.Machine.execStageCheck m bad s
  | .writeSlot m bad => Sys2Proof.Machine.execWriteSlot m bad s
  | .confirm m => Sys2Proof.Machine.execConfirm m s
  | .keyOrder m bad => Sys2Proof.Machine.execKeyOrder m bad s
  | .restart m => Sys2Proof.Machine.execRestart m s
  | .corCmdDone => Sys2Proof.Machine.execCorCmdDone s
  | .attestGo m p d => Sys2Proof.Machine.execAttestGo m p d s
  | .attestDone => Sys2Proof.Machine.execAttestDone s
  | .powerRequest m d => Sys2Proof.Machine.execPowerRequest m d s
  | .powerRungEntered => Sys2Proof.Machine.execPowerRungEntered s
  | .wakeEvent e => Sys2Proof.Machine.execWakeEvent e s
  | .rtcAlarm => Sys2Proof.Machine.execRtcAlarm s
  | .resetPin width => Sys2Proof.Machine.execResetPin width s
  | .resetRelease pinHigh => Sys2Proof.Machine.execResetRelease pinHigh s
  | .supplyChange k good => Sys2Proof.Machine.execSupplyChange k good s
  | .powerFailDetect => Sys2Proof.Machine.execPowerFailDetect s
  | .powerfailFlushDone => Sys2Proof.Machine.execPowerfailFlushDone s
  | .tamper => Sys2Proof.Machine.execTamper s
  | .pwrStatClear m d => Sys2Proof.Machine.execPwrStatClear m d s
  | .thermalSample tj sensor => Sys2Proof.Machine.execThermalSample tj sensor s
  | .thermalCritExpiry => Sys2Proof.Machine.execThermalCritExpiry s
  | .tapReset => Sys2Proof.Machine.execTapReset s
  | .extest pins tdi => Sys2Proof.Machine.execExtest s pins tdi
  | .samplePreload pins tdi => Sys2Proof.Machine.execSamplePreload s pins tdi
  | .idcode => Sys2Proof.Machine.execIdcode s
  | .highz => Sys2Proof.Machine.execHighz s
  | .clamp => Sys2Proof.Machine.execClamp s
  | .extestPulse pins tdi => Sys2Proof.Machine.execExtestPulse s pins tdi
  | .extestTrain pins tdi => Sys2Proof.Machine.execExtestTrain s pins tdi
  | .regAccess => Sys2Proof.Machine.execRegAccess s
  | .modReset => Sys2Proof.Machine.execModReset s
  | .freeze => Sys2Proof.Machine.execFreeze s
  | .bypass op => Sys2Proof.Machine.execBypass op s
  | .tapTestExit op => Sys2Proof.Machine.execTapTestExit op s
  | .regAccessUpdate wr addr d => Sys2Proof.Machine.execRegAccessUpdate wr addr d s
  | .regAccessCapture => Sys2Proof.Machine.execRegAccessCapture s
  | .pcieConfigWrite p msix master fnMask d3 => Sys2Proof.Machine.execPcieConfigWrite p msix master fnMask d3 s
  | .pdelayRespTimeout p => Sys2Proof.Machine.execPdelayRespTimeout p s
  | .canBusIntegrated ch => Sys2Proof.Machine.execCanBusIntegrated ch s
  | .coreDramAccess m island wr addr len data rr hops => Sys2Proof.Machine.execCoreDramAccess m island wr addr len data rr s hops

end Sys2Proof.Machine
end

