-- ==== Sys2Proof/Machine/Step.lean ====
section
/-! DEFINITION. One step: the command at the front of the queue acts; with an empty queue one period of TREF passes (log 6, DESIGN CHOICE). -/

namespace Sys2Proof.Machine

/-- The command at the front of the queue is taken and acts; an empty queue lets time pass. Log 1, DESIGN CHOICE.
Log 6, DESIGN CHOICE. Log 70, DESIGN CHOICE. -/
def step (s : State) : Host.Outcome State Fault Refusal :=
  match s.pending with
  | [] => .next { s with chip := s.chip.idle }
  | c :: r => exec c { s with pending := r }

/-- The command that a word spells is put at the front of the queue. No row of the table has bits, so no word spells one, and the
state stands (log 1, DESIGN CHOICE). -/
def State.withFetchWord (s : State) (nbits w : Nat) : State :=
  match decodeTableWord nbits w with
  | some c => { s with pending := c :: s.pending }
  | none => s

end Sys2Proof.Machine
end

