-- ==== Sys2Proof/Safety.lean ====
section
/-! DEFINITION. What counts as a well-kept machine: DRAM and its poison marks in canonical form, and nothing left on its way. -/

namespace Sys2Proof.Machine

/-- DRAM is in canonical form (no byte listed that an unlisted address reads as, addresses strictly rising). -/
def State.memoryKept (s : State) : Bool := Memory.wf s.dram

/-- The poison marks of DRAM blocks are in canonical form (R47). -/
def State.poisonKept (s : State) : Bool := tabWf (fun _ => false) s.dramPoison

/-- Between two commands no released output and no write to DRAM is on its way. -/
def State.settled (s : State) : Bool := s.chip.outQ.isEmpty && s.chip.dramQ.isEmpty

/-- A command ends in a next state, of which `P` holds. -/
def Answers (o : Host.Outcome State Fault Refusal) (P : State → Prop) : Prop := ∃ t, o = .next t ∧ P t

/-- The register window takes a write of one word by master `m` at `a`: the master can send it, the register exists, no check of
R70 refuses it, it is no hardware lock, and the page's key sequence stands open where `key` asks for it, and is not under way
elsewhere (R66, R70, R73, R112, R501). -/
def Chip.takes (c : Chip) (m a : Nat) (key : Bool) : Bool :=
  c.sends m && decide (a < 2 ^ 25) && a % 4 = 0 && implemented c.part a && c.accessCause m a true = 0 && !isLock a &&
    (isTw a || c.keySt (pageOf a) m == (if key then .opened else .closed)) &&
    !(8 ≤ m && m < 16 && pairBlock (blockOf a) && c.standby)

/-- The register window takes a read of one word by master `m` at `a`, where a value begins (R11, R66, R70). -/
def Chip.gives (c : Chip) (m a : Nat) : Bool :=
  c.sends m && decide (a < 2 ^ 25) && a % 4 = 0 && implemented c.part a && c.accessCause m a false = 0 && valueBase c.part a = a

/-- The machine after reset with its cores running and some words set: for statements about one configuration. -/
def State.ready (l : List (Nat × Nat)) : State :=
  let c : Chip := { State.reset.chip with cor := { State.reset.chip.cor with halted := 0 } }
  { State.reset with chip := c.each l fun c e => c.setNat e.1 e.2 }

/-- A state with the key sequence of master `m` open on the page of `a` (R73). -/
def opened (s : State) (m a : Nat) : State := { s with chip := s.chip.setKeySt (pageOf a) m .opened }

end Sys2Proof.Machine
end

