-- ==== Sys2Proof/Certificates/Slice0/Obligations.lean ====
section
/-! DEFINITION. The statements about the machine. -/

open Sys2Proof Sys2Proof.Machine

/-- For every state whose queue is c followed by r, a step is exec of c on that state with the queue r. (spec/opcode_table.json,
spec/00_scope.md) -/
def Obligations.StepTakesFront : Prop :=
  ∀ (s : State) (c : Instr) (r : List Instr), s.pending = c :: r → step s = exec c { s with pending := r }

/-- With an empty queue, a module in FLOW that is not held in reset adds INCR to the counter of NS and its 32-bit fraction, and
the backup-domain clock goes on by 8 ns; that a step on an empty queue is one TREF tick is the model's choice, log 6.
(spec/11_timebase.md R338, spec/11_timebase.md R340) -/
def Obligations.StepIdles : Prop :=
  ∀ s : State, s.pending = [] → s.chip.pwr.held = none → s.chip.modState = 0 →
    Answers (step s) fun t =>
      t.chip.tim.ns = (s.chip.tim.ns + (s.chip.tim.frac + s.chip.u64 (timA 0x120)) / 2 ^ 32) % 2 ^ 64 ∧
      t.chip.tim.frac = (s.chip.tim.frac + s.chip.u64 (timA 0x120)) % 2 ^ 32 ∧
      t.chip.tim.backup = s.chip.tim.backup.map (· + 8) ∧ t.chip.words = s.chip.words ∧ t.dram = s.dram

/-- For every command and every state, exec answers a next state whose queue of waiting commands is the state's own: no command
faults and none is refused. (spec/opcode_table.json) -/
def Obligations.EveryCommandAnswers : Prop :=
  ∀ (i : Instr) (s : State), Answers (exec i s) fun t => t.pending = s.pending

/-- From every state whose DRAM list is in canonical form (addresses strictly rising, no byte listed that an unlisted address
reads as), whatever command waits, a step answers a next state whose DRAM list is in canonical form.
(spec/01_timing_promise.md R47, spec/19_power_reset.md R544) -/
def Obligations.MemoryKept : Prop :=
  ∀ s : State, s.memoryKept = true → Answers (step s) fun t => t.memoryKept = true

/-- From every state whose list of poisoned DRAM blocks is in canonical form, a step answers a next state whose list is in
canonical form. (spec/01_timing_promise.md R47, spec/03_hosts_mailboxes.md R88) -/
def Obligations.PoisonKept : Prop :=
  ∀ s : State, s.poisonKept = true → Answers (step s) fun t => t.poisonKept = true

/-- From every state with no released loop output and no write to DRAM on its way, a step answers a next state of which the same
holds. (spec/05_loop_array.md R174, spec/04_hoist_dispatcher.md R131) -/
def Obligations.SettledKept : Prop :=
  ∀ s : State, s.settled = true → Answers (step s) fun t => t.settled = true

/-- The state after reset meets the three invariants, has no command waiting, is in FLOW with no reset held, and shows the load
of the counter with 0 as a step: EPOCH 1, STEPPED set. After reset INCR_NOM is 0x08_0000_0000, DIP_TARGET 0x04B0,
HST_VEC_MASK of every core partition all ones, HOI_BE_ENTRIES 0x0400, HOI_BE_MAX_COST 0x3E8, MBX_CROSS_TIME 0x00A,
NET_ETHERTYPE 0x88B5, and every cause register of every page of HST reads 0. (spec/19_power_reset.md R551,
spec/11_timebase.md R340, spec/11_timebase.md R338, spec/01_timing_promise.md R51, spec/02_register_pages.md R67,
spec/02_register_pages.md R77, spec/04_hoist_dispatcher.md R128, spec/04_hoist_dispatcher.md R140, spec/03_hosts_mailboxes.md
R114, spec/12_plant_network.md R390) -/
def Obligations.ResetKept : Prop :=
  (State.reset.memoryKept = true ∧ State.reset.poisonKept = true ∧ State.reset.settled = true ∧ State.reset.pending = [] ∧
    State.reset.chip.modState = 0 ∧ State.reset.chip.pwr.held = none ∧ State.reset.chip.tim.ns = 0 ∧
    State.reset.chip.fld aTimStat 16 8 = 1 ∧ State.reset.chip.bit aTimStat 2 = true) ∧
  let c := State.reset.chip
  c.u64 (timA 0x128) = 0x8_0000_0000 ∧ c.nat (dipA 0x104) = 0x4B0 ∧
    (∀ p < 8, c.word (partA p 0x108) = 0xFFFF_FFFF#32 ∧ c.word (partA p 0x10C) = 0xFFFF_FFFF#32) ∧
    c.nat (hoiA 0x118) = 0x400 ∧ c.nat (hoiA 0x11C) = 0x3E8 ∧ c.nat (pageAddr MBX 0 0x108) = 0xA ∧
    c.nat (pageAddr NET 127 0x104) = 0x88B5 ∧
    (∀ i < 17, c.word (pageAddr HST i PG_EVT_RAW) = 0 ∧ c.word (pageAddr HST i PG_EVT_PEND) = 0)

/-- For every page and every accepted write: a keyed write of PG_CTL sets ENABLE as written, where the checks of the page (ALIGN
of a PWM pair, the configuration of a feedback channel or of a CAN controller) pass, and starts the soft reset that
SOFT_RESET_COMPLETE ends; on pages that show no state behind their registers the soft reset returns every register that it
governs; DEBUG_FREEZE is set without the key; an unlocked PG_OWNER takes the RWL fields written; a W1C write of PG_EVT_PEND,
on a Bell page in the view of the master's side, clears exactly the bits written as 1, where no axis or GPIO cause of an
event page stays pending. (spec/02_register_pages.md R67, spec/02_register_pages.md R68, spec/02_register_pages.md R69,
spec/02_register_pages.md R74) -/
def Obligations.HeaderWrites : Prop :=
  ∀ (s : State) (m b i : Nat) (d : Word), b < 32 → i < 128 → s.settled = true →
    (s.chip.takes m (pageAddr b i PG_CTL) true = true → d.getLsbD 1 = false →
      (d.getLsbD 0 = true → s.chip.pageOn b i = false →
        (b = PWM → 1 ≤ i → s.chip.fld (pwmK (i - 1) 0x100) 29 2 ≠ 3) ∧ (b = FBK → i < 32 → s.chip.fbkCode i = 0) ∧
        (b = BUS → s.chip.canCode i = 0)) →
      Answers (exec (.pageEnable m b i d) s) fun t => t.chip.pageOn b i = d.getLsbD 0 ∧ t.chip.resp.status = .done) ∧
    (s.chip.takes m (pageAddr b i PG_CTL) true = true → d.getLsbD 0 = s.chip.pageOn b i →
      Answers (exec (.pageSoftReset m b i d) s) fun t =>
        t.chip.resetting b i = true ∧ t.chip.resp.status = .done ∧
        (s.chip.resetting b i = false → b ∈ [COR, HOI, LOOP, FBK, CNV, NET, BUS, DIP] →
          ∀ k, resetKey b i k = true → t.chip.word k = wordReset k)) ∧
    (s.chip.pwr.held = none → pageExists s.chip.part b i = true →
      Answers (exec (.softResetComplete b i) s) fun t =>
        t.chip.resetting b i = false ∧ t.chip.keys = s.chip.keys ∧
        ∀ k, k ≠ pageAddr b i PG_CTL → t.chip.word k = s.chip.word k) ∧
    (s.chip.takes m (pageAddr b i PG_CTL) false = true →
      Answers (exec (.debugFreezeWrite m b i d) s) fun t =>
        t.chip.bit (pageAddr b i PG_CTL) 2 = d.getLsbD 2 ∧ t.chip.pageOn b i = s.chip.pageOn b i ∧ t.chip.resp.status = .done) ∧
    (s.chip.takes m (pageAddr b i PG_OWNER) false = true → s.chip.bit (pageAddr b i PG_OWNER) 31 = false →
      Answers (exec (.pgOwnerWrite m b i d) s) fun t =>
        t.chip.word (pageAddr b i PG_OWNER) =
          ((s.chip.word (pageAddr b i PG_OWNER) &&& ~~~0x800F_FFFF#32) ||| (d &&& 0x800F_FFFF#32)) ∧
        t.chip.resp.status = .done) ∧
    (s.chip.takes m (pageAddr b i PG_EVT_PEND) false = true → ¬(b = MBX ∧ 1 ≤ i ∧ i < 65) →
      (b = PRF → 1 ≤ i → s.chip.u64 (pageAddr b i 0x100) = 0) → (b = FBK → i = 32 → s.chip.u64 (pageAddr b i 0x120) = 0) →
      Answers (exec (.evtPendClear m b i d) s) fun t =>
        t.chip.word (pageAddr b i PG_EVT_PEND) = (s.chip.word (pageAddr b i PG_EVT_PEND) &&& ~~~d) ∧ t.chip.resp.status = .done) ∧
    (∀ ch t0, ch < 64 → s.chip.takes m (mbxA ch PG_EVT_PEND) false = true → s.chip.sideOf ch m = some t0 →
      Answers (exec (.evtPendClear m MBX (1 + ch) d) s) fun t =>
        t.chip.word (viewKey t0 (mbxA ch PG_EVT_PEND)) = (s.chip.word (viewKey t0 (mbxA ch PG_EVT_PEND)) &&& ~~~d) ∧
        t.chip.resp.status = .done)

/-- The first key word written to PG_KEY with no sequence under way leaves the master's sequence half done; the second, accepted
while half done, opens it; the key timeout closes a half-done sequence; and a keyed write ends an open one (shown for
DEBUG_FREEZE of the same page). Sequences of other masters and pages stand. (spec/02_register_pages.md R73) -/
def Obligations.KeySequence : Prop :=
  ∀ (s : State) (m b i : Nat), b < 32 → i < 128 → s.settled = true → m < 64 →
    (s.chip.takes m (pageAddr b i PG_KEY) false = true →
      Answers (exec (.pgKeyWrite m b i 0x5EA1) s) fun t =>
        t.chip.keySt (pageAddr b i 0) m = .half ∧ t.chip.resp.status = .done ∧
        ∀ k n, n < 64 → (k ≠ pageAddr b i 0 ∨ n ≠ m) → t.chip.keySt k n = s.chip.keySt k n) ∧
    (s.chip.takes m (pageAddr b i PG_KEY) false = true →
      Answers (exec (.pgKeyWrite m b i 0xC0DE) { s with chip := s.chip.setKeySt (pageAddr b i 0) m .half }) fun t =>
        t.chip.keySt (pageAddr b i 0) m = .opened ∧ t.chip.words = s.chip.words) ∧
    (s.chip.pwr.held = none → s.chip.keySt (pageAddr b i 0) m = .half →
      Answers (exec (.keyTimeout m b i) s) fun t => t.chip.keySt (pageAddr b i 0) m = .closed) ∧
    (s.chip.takes m (pageAddr b i PG_CTL) true = true →
      Answers (exec (.debugFreezeWrite m b i 0) s) fun t => t.chip.keySt (pageAddr b i 0) m = .closed)

/-- An accepted write of LOOP_PARAM sets its Q15 field, or, where its block fails after three re-sends, leaves it and counts in
the Dipstick page; one of an unlocked route sets the fields of HST_EVR_ROUTE, one of HST_VEC_PEND clears the bits written as
1, and a write of an unlocked shared-memory entry sets BASE (bits 20:0 stay 0) and SIZE. (spec/02_register_pages.md R70,
spec/02_register_pages.md R75, spec/02_register_pages.md R77, spec/05_loop_array.md R180, spec/03_hosts_mailboxes.md R86) -/
def Obligations.PlainWrites : Prop :=
  ∀ (s : State) (m : Nat) (d : Word),
    (∀ slot j hops, slot < 4096 → j < 3 → s.chip.takes m (twAddr LOOP (0x1_0004 + 16 * slot + 4 * j)) false = true →
      (hops ≤ 3 → Answers (exec (.registerWrite m (twAddr LOOP (0x1_0004 + 16 * slot + 4 * j)) 4 [d] hops) s) fun t =>
        t.chip.fld (twAddr LOOP (0x1_0004 + 16 * slot + 4 * j)) 0 16 = getBits d 0 16 ∧ t.chip.resp.status = .done) ∧
      (3 < hops → Answers (exec (.registerWrite m (twAddr LOOP (0x1_0004 + 16 * slot + 4 * j)) 4 [d] hops) s) fun t =>
        t.chip.word (twAddr LOOP (0x1_0004 + 16 * slot + 4 * j)) = s.chip.word (twAddr LOOP (0x1_0004 + 16 * slot + 4 * j)) ∧
        t.chip.nat (pageAddr DIP 0 0x118) = min (2 ^ 32 - 1) (s.chip.nat (pageAddr DIP 0 0x118) + 3) ∧
        t.chip.nat (pageAddr DIP 0 0x11C) = min (2 ^ 32 - 1) (s.chip.nat (pageAddr DIP 0 0x11C) + 1))) ∧
    (∀ n, n < 1024 → s.chip.takes m (routeK n) false = true → s.chip.bit (routeK n) 30 = false →
      Answers (exec (.routeWrite m n d) s) fun t =>
        t.chip.word (routeK n) = ((s.chip.word (routeK n) &&& ~~~0xC000_0F3F#32) ||| (d &&& 0xC000_0F3F#32))) ∧
    (∀ p j, p < 8 → j < 2 → s.chip.takes m (partA p (0x100 + 4 * j)) false = true →
      Answers (exec (.vecPendClear m p (4 * j) [d]) s) fun t =>
        t.chip.word (partA p (0x100 + 4 * j)) = (s.chip.word (partA p (0x100 + 4 * j)) &&& ~~~d)) ∧
    (∀ k, k < 8 → s.chip.bit (shmK (8 + k) + 0xC) 31 = false →
      (s.chip.takes m (shmK (8 + k)) false = true →
        Answers (exec (.shmEntryWrite m k 0 [d]) s) fun t => t.chip.word (shmK (8 + k)) = (d &&& 0xFFE0_0000#32)) ∧
      (s.chip.takes m (shmK (8 + k) + 8) false = true →
        Answers (exec (.shmEntryWrite m k 8 [d]) s) fun t => t.chip.word (shmK (8 + k) + 8) = (d &&& 0x1FFF#32)))

/-- An access to an unimplemented address reads 0 or is discarded and counts in HST_UNIMP_CNT; a write of one word that a check
of R70 refuses leaves every table-window word as it is and is answered by its denial; a read of PG_ERR_CNT returns the count
and clears it only for a reader with read rights. (spec/02_register_pages.md R58, spec/02_register_pages.md R70,
spec/03_hosts_mailboxes.md R85, spec/02_register_pages.md R69, spec/00_scope.md R9) -/
def Obligations.AccessErrors : Prop :=
  ∀ (s : State) (m : Nat),
    (∀ a wr, s.chip.sends m = true → a < 2 ^ 25 → a % 4 = 0 → implemented s.chip.part a = false → s.settled = true →
      Answers (exec (.unimplementedAccess m a wr) s) fun t =>
        t.chip.nat (pageAddr HST 0 0x034) = min (2 ^ 32 - 1) (s.chip.nat (pageAddr HST 0 0x034) + 1) ∧
        t.chip.resp = { status := .done, data := if wr then [] else [0] }) ∧
    (∀ a d hops, hops ≤ 3 → s.chip.sends m = true → a < 2 ^ 25 → a % 4 = 0 → implemented s.chip.part a = true → isTw a = true → s.settled = true →
      ¬(blockOf a = PRF ∧ twOf a < 0x4_8000 ∧ twOf a % 0x100 = 4) → s.chip.accessCause m a true ≠ 0 →
      Answers (exec (.registerWrite m a 4 [d] hops) s) fun t =>
        (∀ k, isTw k = true → k < 2 ^ 25 → t.chip.word k = s.chip.word k) ∧
        t.chip.resp.status = denial m (s.chip.accessCause m a true) true) ∧
    (∀ b i, b < 32 → i < 128 → s.chip.gives m (pageAddr b i PG_ERR_CNT) = true →
      Answers (exec (.rcRegisterRead m (pageAddr b i PG_ERR_CNT) 4) s) fun t =>
        t.chip.resp = { status := .done, data := [s.chip.word (pageAddr b i PG_ERR_CNT)] } ∧
        t.chip.word (pageAddr b i PG_ERR_CNT) =
          if s.chip.clears m (pageAddr b i PG_ERR_CNT) then 0 else s.chip.word (pageAddr b i PG_ERR_CNT))

/-- A 32-bit read of the lowest word of a wider value returns that word and keeps the remaining words for that master; a read at
the lower word of a consuming alias returns the result word and clears the FRESH bit of the reader's partition, leaving the
FRESH bits of every other partition. (spec/00_scope.md R11, spec/00_scope.md R16, spec/00_scope.md R19) -/
def Obligations.WideAndResultReads : Prop :=
  ∀ (s : State) (m a : Nat), s.chip.gives m a = true →
    (2 ≤ (s.chip.readWords m a).length →
      Answers (exec (.wideValueLowWordRead m a) s) fun t =>
        t.chip.resp = { status := .done, data := [(s.chip.readWords m a).getD 0 0] } ∧
        tab [] t.chip.caps (capKey m a) = (s.chip.readWords m a).drop 1) ∧
    (∀ r, resultAt s.chip.part a = some r → r.consuming = true → r.word = 0 → m < 16 →
      Answers (exec (.resultAliasRead m a 4 false) s) fun t =>
        t.chip.resp = { status := .done, data := [s.chip.resultLow m r.base] } ∧
        (tab 0 t.chip.fresh r.base).getLsbD m = false ∧
        ∀ p, p ≠ m → (tab 0 t.chip.fresh r.base).getLsbD p = (tab 0 s.chip.fresh r.base).getLsbD p)

/-- With the writer's context of a window idle, IWIN_READ and IWIN_WRITE set BUSY, clear DONE and ERR and start an operation of
OP 1 or 2 with the address, SEL and data of that context; IWIN_DONE of the oldest operation of the window, still live, clears
BUSY and GO, sets DONE and ERR as the operation came out, and leaves the element read in IWIN_DATA; shown for the successor
lists of Hoist, a write of an element by the owner stores its sixteen words under the element's fields.
(spec/02_register_pages.md R60, spec/02_register_pages.md R62, spec/02_register_pages.md R63, spec/02_register_pages.md R64) -/
def Obligations.IndirectWindows : Prop :=
  ∀ (s : State) (m b i sel : Nat), s.settled = true → windowPages.contains (b, i) = true →
    (s.chip.takes m (pageAddr b i 0x208) false = true → s.chip.bit (winK b i m 0xC) 31 = false →
      (s.chip.iwin.find? fun e => e.1 = iwinKey b i m) = none → sel < 256 →
      (Answers (exec (.iwinRead m b i sel) s) fun t =>
        t.chip.word (winK b i m 0xC) = 0x8000_0000#32 ∧ t.chip.resp.status = .done ∧
        ∃ q, (t.chip.iwin.find? fun e => e.1 = iwinKey b i m) = some (iwinKey b i m, q) ∧ q.op = 1 ∧ q.sel = sel ∧
          q.addr = s.chip.u64 (winK b i m 0) ∧ q.live = true) ∧
      (Answers (exec (.iwinWrite m b i sel) s) fun t =>
        t.chip.word (winK b i m 0xC) = 0x8000_0000#32 ∧ t.chip.resp.status = .done ∧
        ∃ q, (t.chip.iwin.find? fun e => e.1 = iwinKey b i m) = some (iwinKey b i m, q) ∧ q.op = 2 ∧ q.sel = sel ∧
          q.data = (List.range 16).map fun w => s.chip.word (winK b i m (0x10 + 4 * w)))) ∧
    (∀ p rr q, p < 16 → s.chip.pwr.held = none → s.chip.iwinFirst b i = some (iwinKey b i p, q) → q.live = true →
      Answers (exec (.iwinDone p b i rr) s) fun t =>
        let r := ({ s.chip with iwin := tabErase s.chip.iwin (iwinKey b i p) } : Chip).winRun b i p q rr
        t.chip.word (winK b i p 0xC) = BitVec.ofNat 32 (2 ^ 30 + r.err) ∧ t.chip.bit (winK b i p 8) 31 = false ∧
        (q.op = 1 → r.err = 0 → ∀ w d, r.data[w]? = some d → w < 16 → t.chip.word (winK b i p (0x10 + 4 * w)) = d) ∧
        (b = HOI → q.op = 2 → q.sel = 2 → q.addr < 8192 → s.chip.pageOwner HOI 0 = p → s.chip.domain HOI 0 < 2 →
          r.err = 0 ∧ ∀ w, w < 16 →
            t.chip.word (elemKey (storeOf HOI 2) q.addr w) = (q.data.getD w 0 &&& 0x8000_FFFF#32)))

/-- Every 32-bit read of PG_CAPS of HST instance 0 that is answered (the table has one row for a plain register read) reads
0x8640 in bits 31:16 on FVK-8640 and 0x8620 on FVK-8620. (R2) -/
def Obligations.PartReported : Prop :=
  ∀ (s : State) (m : Nat), s.chip.gives m (pageAddr HST 0 PG_CAPS) = true →
    Answers (exec (.rcRegisterRead m (pageAddr HST 0 PG_CAPS) 4) s) fun t =>
      ∃ w : Word, t.chip.resp = { status := .done, data := [w] } ∧
        getBits w 16 16 = match s.chip.part with
          | .fvk8640 => 0x8640
          | .fvk8620 => 0x8620

/-- An accepted unkeyed write by a core that arrives at its first sending of a LOOP_PARAM word, of an unlocked route, of a word
of an unlocked shared-memory entry or of a staged register of an axis changes no other word, no other state of the module
than the answer, and no byte or mark of DRAM; a refresh of the hold latch changes its instant alone; a tamper pulse changes
the latch and PWR_STAT alone. (spec/02_register_pages.md R66, spec/02_register_pages.md R75, spec/03_hosts_mailboxes.md R86,
spec/05_loop_array.md R180, spec/07_motion_profiles.md R226, spec/17_twin_pair.md R508, spec/19_power_reset.md R552) -/
def Obligations.RegisterFrames : Prop :=
  ∀ s : State, s.settled = true →
    let keeps (i : Instr) (a : Nat) : Prop := Answers (exec i s) fun t =>
      (∀ k, k ≠ a → t.chip.word k = s.chip.word k) ∧ t.dram = s.dram ∧ t.dramPoison = s.dramPoison ∧ t.pending = s.pending ∧
      t.chip = { s.chip with words := t.chip.words, resp := { status := .done, data := [] } }
    (∀ (m : Nat) (d : Word), m < 8 →
      (∀ slot j, slot < 4096 → j < 3 → s.chip.takes m (twAddr LOOP (0x1_0004 + 16 * slot + 4 * j)) false = true →
        keeps (.registerWrite m (twAddr LOOP (0x1_0004 + 16 * slot + 4 * j)) 4 [d] 0) (twAddr LOOP (0x1_0004 + 16 * slot + 4 * j))) ∧
      (∀ n, n < 1024 → s.chip.bit (routeK n) 30 = false → s.chip.takes m (routeK n) false = true → keeps (.routeWrite m n d) (routeK n)) ∧
      (∀ n, n < 8 → s.chip.bit (shmK (8 + n) + 0xC) 31 = false →
        (s.chip.takes m (shmK (8 + n)) false = true → keeps (.shmEntryWrite m n 0 [d]) (shmK (8 + n))) ∧
        (s.chip.takes m (shmK (8 + n) + 8) false = true → keeps (.shmEntryWrite m n 8 [d]) (shmK (8 + n) + 8))) ∧
      ∀ a o, a < 1152 → o ∈ [0x10, 0x14, 0x18, 0x1C, 0x20, 0x24, 0x28, 0x2C, 0x30, 0x34, 0x38, 0x3C] → s.chip.takes m (axK a o) false = true →
        keeps (.registerWrite m (axK a o) 4 [d] 0) (axK a o)) ∧
    (s.chip.pwr.held = none → s.chip.pai.latch = true → s.chip.modState ≤ 3 → Answers (exec .holdLatchRefresh s) fun t =>
      t = { s with chip := { s.chip with pai := { s.chip.pai with refreshed := s.chip.nowNs } } }) ∧
    Answers (exec .tamper s) fun t =>
      (∀ k, k ≠ aPwrStat → t.chip.word k = s.chip.word k) ∧ t.dram = s.dram ∧ t.dramPoison = s.dramPoison ∧
      t.chip = { s.chip with words := t.chip.words, pwr := { s.chip.pwr with tamper := true } }

/-- A keyed write of TARGET below the ceiling of 1.10 x LANE_FLOOR is stored as that ceiling, one above 2,000 as 2,000, and where
the ceiling exceeds 2,000 every write is stored as the ceiling; other writes are stored as written. (R32) -/
def Obligations.DipTargetClamped : Prop :=
  ∀ (s : State) (m : Nat) (d : Word), s.chip.takes m (dipA 0x104) true = true → s.chip.laneFloor < 30000 →
    let low := (110 * s.chip.laneFloor + 99) / 100
    Answers (exec (.dipTargetWrite m d) s) fun t =>
      (2000 < low → t.chip.fld (dipA 0x104) 0 16 = low) ∧
      (low ≤ 2000 → getBits d 0 16 < low → t.chip.fld (dipA 0x104) 0 16 = low) ∧
      (low ≤ 2000 → 2000 < getBits d 0 16 → t.chip.fld (dipA 0x104) 0 16 = 2000) ∧
      (low ≤ getBits d 0 16 → getBits d 0 16 ≤ 2000 → t.chip.fld (dipA 0x104) 0 16 = getBits d 0 16)

/-- At the end of every window the minimum pace, its region and the pace of all sixteen regions are published (a standby that is
ready or its peer apart, whose role may change as well); a minimum below LANE_FLOOR sets PACE_FLOOR and SHEDDING and counts,
ten windows at or above it clear them, and the floor timer counts the windows between; a minimum at or below 1.05 x
LANE_FLOOR sets PACE_LOW, and above it, with PACE_LOW clear, a pace below TARGET raises the core voltage by 5 mV; a ready
standby below the floor leaves the ready state. The floor timer's expiry at a module that leads or works alone sets
SURRENDERED, and without a ready twin forces off every pair that no safety group governs; elsewhere it only ends the wait.
After 10 s with PACE_FLOOR clear recovery is noted and nothing else. The draws of the nine consumers are published, and one
beyond its reservation counts and raises OVER. (spec/01_timing_promise.md R27, spec/01_timing_promise.md R31,
spec/01_timing_promise.md R34, spec/01_timing_promise.md R35, spec/01_timing_promise.md R37, spec/01_timing_promise.md R48) -/
def Obligations.PaceAndMemoryWindows : Prop :=
  ∀ s : State,
    (∀ paces, s.chip.acts DIP 0 = true →
      let p := (minPace paces).1
      let floor := s.chip.laneFloor
      (s.chip.role ≠ 5 → s.chip.role ≠ 6 →
        Answers (exec (.dipstickWindowEnd paces) s) fun t =>
          t.chip.nat (dipA 0x804) = p % 2 ^ 32 ∧ t.chip.fld aDipStat 8 4 = (minPace paces).2 % 16 ∧
          (∀ n < 16, t.chip.nat (dipA (0x80C + 8 * n)) = paces.getD n 0 % 2 ^ 32) ∧
          (s.chip.bit aDipStat 1 = false → p < floor →
            t.chip.bit aDipStat 1 = true ∧ t.chip.bit aDipStat 2 = true ∧ t.chip.fld aDipStat 16 6 = 0 ∧
            t.chip.nat (dipA 0x114) = min (2 ^ 32 - 1) (s.chip.nat (dipA 0x114) + 1)) ∧
          (s.chip.bit aDipStat 1 = false → floor ≤ p → t.chip.bit aDipStat 1 = false) ∧
          (s.chip.bit aDipStat 1 = true → floor ≤ p → 9 ≤ s.chip.dip.good →
            t.chip.bit aDipStat 1 = false ∧ t.chip.bit aDipStat 2 = false ∧ t.chip.fld aDipStat 16 6 = 0) ∧
          (s.chip.bit aDipStat 1 = true → p < floor →
            t.chip.bit aDipStat 1 = true ∧ t.chip.fld aDipStat 16 6 = min 50 (s.chip.fld aDipStat 16 6 + 1)) ∧
          (p * 100 ≤ 105 * floor → t.chip.bit aDipStat 0 = true) ∧
          (s.chip.bit aDipStat 0 = false → 105 * floor < p * 100 →
            t.chip.bit aDipStat 0 = false ∧
            (p < s.chip.fld (dipA 0x104) 0 16 →
              t.chip.fld (dipA 0x10C) 0 16 = min 800 (s.chip.fld (dipA 0x10C) 0 16 + 5)))) ∧
      (s.chip.role = 5 ∨ s.chip.role = 6 → s.chip.bit aDipStat 1 = false → p < floor →
        Answers (exec (.dipstickWindowEnd paces) s) fun t => t.chip.role = 4 ∧ t.chip.bit aDipStat 1 = true)) ∧
    (s.chip.acts DIP 0 = true → s.chip.dip.expired = true →
      Answers (exec .floorTimerExpiry s) fun t =>
        t.chip.dip.expired = false ∧ (s.chip.role ≤ 3 → t.chip.bit aDipStat 4 = true) ∧
        (s.chip.role ≤ 2 ∨ s.chip.role = 3 ∧ s.chip.bit aPaiStat 24 = false →
          ∀ p < 96, s.chip.bit (pwmK p 0x100) 24 = false → t.chip.bit (pwmK p 0x104) 0 = true) ∧
        (4 ≤ s.chip.role → t.chip.words = s.chip.words)) ∧
    (s.chip.acts DIP 0 = true → s.chip.bit aDipStat 1 = false →
      Answers (exec .paceRecoveryExpiry s) fun t =>
        t.chip.dip = { s.chip.dip with recovered := true } ∧ t.chip.words = s.chip.words) ∧
    (∀ draws, s.chip.acts MEM 0 = true →
      Answers (exec (.memUseIntervalEnd draws) s) fun t =>
        (∀ k < 9, t.chip.nat (memA (0x140 + 4 * k)) = draws.getD k 0 % 2 ^ 32) ∧
        ((∃ k < 9, s.chip.nat (memA (0x110 + 4 * k)) < draws.getD k 0) →
          t.chip.nat (memA 0x03C) = min (2 ^ 32 - 1) (s.chip.nat (memA 0x03C) + 1) ∧ t.chip.bit (memA PG_EVT_RAW) 1 = true) ∧
        ((∀ k < 9, draws.getD k 0 ≤ s.chip.nat (memA (0x110 + 4 * k))) → t.chip.nat (memA 0x03C) = s.chip.nat (memA 0x03C)))

/-- Delivering the oldest notice of a line takes it from the router and, where the line's route is enabled, sets the pending
vector of a core partition, and sends the message of a host function that can message and has the vector unmasked, or else
leaves it pending; unmasking a pending vector of a host function that can message sends its message and clears its pending
bit, as does the sending of a held vector. (spec/02_register_pages.md R74, spec/02_register_pages.md R75,
spec/02_register_pages.md R77, spec/02_register_pages.md R78) -/
def Obligations.NoticesAndMessages : Prop :=
  ∀ s : State,
    (∀ n x, s.chip.acts HST 0 = true → n < 1024 → (s.chip.notices.find? (·.line == n)) = some x → s.chip.bit (routeK n) 31 = true →
      Answers (exec (.eventNoticeDelivery n) s) fun t =>
        let p := s.chip.fld (routeK n) 8 4
        let v := s.chip.fld (routeK n) 0 6
        t.chip.notices = s.chip.notices.erase x ∧
        (p < 8 → t.chip.bit (vecK (partA p 0x100) v) (v % 32) = true) ∧
        (8 ≤ p → s.chip.bit (vecK (partA p 0x380) v) (v % 32) = false →
          (s.chip.canMessage p = true → s.chip.unmasked p v = true →
            t.chip.outs = s.chip.outs ++ [.msix p (s.chip.nat (msixK p v 0)) (s.chip.nat (msixK p v 1)) (s.chip.word (msixK p v 2))]) ∧
          (s.chip.canMessage p = false ∨ s.chip.unmasked p v = false → t.chip.bit (vecK (partA p 0x380) v) (v % 32) = true))) ∧
    (∀ p v, 8 ≤ p → p < 16 → v < 64 → s.chip.bit (vecK (partA p 0x380) v) (v % 32) = true → s.chip.canMessage p = true →
      natBit s.chip.hst.fnMask (p - 8) = false →
      (∀ m d, s.chip.takes m (msixK p v 3) false = true → d.getLsbD 0 = false →
        Answers (exec (.msixUnmask m p v d) s) fun t =>
          t.chip.bit (vecK (partA p 0x380) v) (v % 32) = false ∧
          t.chip.outs = s.chip.outs ++ [.msix p (s.chip.nat (msixK p v 0)) (s.chip.nat (msixK p v 1)) (s.chip.word (msixK p v 2))]) ∧
      (s.chip.acts HST (1 + p) = true → s.chip.bit (msixK p v 3) 0 = false →
        Answers (exec (.msixHeldSend p v) s) fun t =>
          t.chip.bit (vecK (partA p 0x380) v) (v % 32) = false ∧
          t.chip.outs = s.chip.outs ++ [.msix p (s.chip.nat (msixK p v 0)) (s.chip.nat (msixK p v 1)) (s.chip.word (msixK p v 2))]))

/-- A link that comes up or goes down shows in LINK_UP with its speed and width; a function-level reset and PERST end MSI-X
enable, bus mastering and D3 of the functions they reset and count; the end of PERST starts link training; a configuration
write sets the function's enables. (spec/03_hosts_mailboxes.md R85, spec/03_hosts_mailboxes.md R91,
spec/03_hosts_mailboxes.md R93, spec/02_register_pages.md R78) -/
def Obligations.EndpointEvents : Prop :=
  ∀ (s : State) (e : Nat), e < 2 → s.chip.acts HST 0 = true →
    (∀ up speed width, speed < 8 → width < 16 → ¬(up = true ∧ s.chip.bit (epK e) 30 = true) →
      Answers (exec (.pcieLinkChange e up speed width) s) fun t =>
        t.chip.bit (epK e) 31 = up ∧ t.chip.fld (epK e) 27 3 = (if up then speed else 0) ∧
        t.chip.fld (epK e) 23 4 = (if up then width else 0)) ∧
    (∀ f, f < 4 → Answers (exec (.functionLevelReset e f) s) fun t =>
        t.chip.bit (epK e) (8 + f) = false ∧ t.chip.bit (epK e) (4 + f) = false ∧ t.chip.bit (epK e) f = false ∧
        t.chip.nat (hstA 0x038) = min (2 ^ 32 - 1) (s.chip.nat (hstA 0x038) + 1) ∧ t.chip.bit (hstA PG_EVT_RAW) 3 = true) ∧
    (s.chip.bit (epK e) 30 = false → Answers (exec (.perstAssert e) s) fun t =>
        t.chip.bit (epK e) 30 = true ∧ t.chip.bit (epK e) 31 = false ∧ t.chip.fld (epK e) 0 12 = 0 ∧
        t.chip.nat (hstA 0x03C) = min (2 ^ 32 - 1) (s.chip.nat (hstA 0x03C) + 1)) ∧
    (s.chip.bit (epK e) 30 = true → Answers (exec (.perstRelease e) s) fun t =>
        t.chip.bit (epK e) 30 = false ∧ t.chip.outs = s.chip.outs ++ [.linkTraining e]) ∧
    (∀ f msix master fnMask d3, f < 4 → s.chip.bit (epK e) 30 = false → s.chip.bit (epK e) 31 = true →
      Answers (exec (.pcieConfigWrite (8 + 4 * e + f) msix master fnMask d3) s) fun t =>
        t.chip.bit (epK e) (8 + f) = msix ∧ t.chip.bit (epK e) (4 + f) = master ∧ t.chip.bit (epK e) f = d3 ∧
        natBit t.chip.hst.fnMask (4 * e + f) = fnMask)

/-- A BAR2 or core write that meets no refusal and no partly covered poisoned block stores its bytes from its address on and
leaves every other byte; a BAR2 or core read that meets no poison, at most three re-reads of each block and at most three
re-sends returns the bytes there, lowest first, and leaves all of DRAM; a refused BAR2 write is discarded, a refused read
ends in a completer abort, and both leave DRAM. (spec/03_hosts_mailboxes.md R87, spec/03_hosts_mailboxes.md R88,
spec/03_hosts_mailboxes.md R89, spec/00_scope.md R4) -/
def Obligations.HostMemory : Prop :=
  ∀ s : State, s.chip.pwr.held = none → s.settled = true →
    (∀ p off data hops, 8 ≤ p → p < 16 → s.chip.masterDown p = false → hops ≤ 3 → s.chip.shmWhy p off data.length true = 0 →
      s.partPoison (s.chip.u64 (shmK p) + off) data.length = false →
      Answers (exec (.bar2Write p off data hops) s) fun t =>
        (∀ i (h : i < data.length), dramByte t.dram (s.chip.u64 (shmK p) + off + i) = data[i]) ∧
        (∀ a, (a < s.chip.u64 (shmK p) + off ∨ s.chip.u64 (shmK p) + off + data.length ≤ a) → dramByte t.dram a = dramByte s.dram a) ∧
        t.chip.resp.status = .done) ∧
    (∀ p off len rr hops, 8 ≤ p → p < 16 → s.chip.masterDown p = false → s.chip.shmWhy p off len false = 0 →
      rr.all (· ≤ 3) = true → hops ≤ 3 → s.meetsPoison (s.chip.u64 (shmK p) + off) len = false →
      Answers (exec (.bar2Read p off len rr hops) s) fun t =>
        t.chip.resp = { status := .done, data := bytesWords (s.memLoad (s.chip.u64 (shmK p) + off) len) } ∧ t.dram = s.dram) ∧
    (∀ p off len data rr hops, 8 ≤ p → p < 16 → s.chip.masterDown p = false →
      (s.chip.shmWhy p off len false ≠ 0 → Answers (exec (.bar2Read p off len rr hops) s) fun t =>
        t.chip.resp.status = .completerAbort ∧ t.dram = s.dram) ∧
      (s.chip.shmWhy p off data.length true ≠ 0 → Answers (exec (.bar2Write p off data hops) s) fun t =>
        t.chip.resp.status = .discarded ∧ t.dram = s.dram)) ∧
    (∀ m addr data len rr hops, hops ≤ 3 → m < 8 → natBit s.chip.cor.halted m = false → natBit s.chip.hst.coreGated m = false → s.chip.running = true →
      (addr + data.length ≤ s.chip.dramBytes → s.partPoison addr data.length = false →
        Answers (exec (.coreDramAccess m false true addr len data rr hops) s) fun t =>
          (∀ i (h : i < data.length), dramByte t.dram (addr + i) = data[i]) ∧
          (∀ a, (a < addr ∨ addr + data.length ≤ a) → dramByte t.dram a = dramByte s.dram a) ∧ t.chip.resp.status = .done) ∧
      (addr + len ≤ s.chip.dramBytes → rr.all (· ≤ 3) = true → s.meetsPoison addr len = false →
        Answers (exec (.coreDramAccess m false false addr len data rr hops) s) fun t =>
          t.chip.resp = { status := .done, data := bytesWords (s.memLoad addr len) } ∧ t.dram = s.dram) ∧
      (addr + data.length ≤ 4 * 2 ^ 20 →
        Answers (exec (.coreDramAccess m true true addr len data rr hops) s) fun t =>
          t.chip.pwr.island = dramStore s.chip.pwr.island addr data ∧ t.dram = s.dram) ∧
      (addr + len ≤ 4 * 2 ^ 20 →
        Answers (exec (.coreDramAccess m true false addr len data rr hops) s) fun t =>
          t.chip.resp = { status := .done, data := bytesWords (dramLoad s.chip.pwr.island addr len) } ∧ t.dram = s.dram))

/-- On an enabled, bound channel a send makes the sender's direction full with the word and the next RXSEQ, COLLIDED when it was
full; a take empties the other side's direction and returns its status word; a look at BELL_IN returns the word and leaves
the channel; a take whose check fails answers a core with a bus error and a host poisoned, sets CHK_FAIL and leaves the
channel; CROSS_TIME_EXPIRY with both directions full sets CROSS and raises it to both sides. (spec/03_hosts_mailboxes.md
R100, spec/03_hosts_mailboxes.md R101, spec/03_hosts_mailboxes.md R102) -/
def Obligations.BellChannels : Prop :=
  ∀ (s : State) (m ch t0 : Nat), ch < 64 → s.chip.sideOf ch m = some t0 → s.chip.channelOn ch = true →
    (∀ d, s.chip.takes m (mbxA ch 0x100) false = true →
      Answers (exec (.bellSend m ch d) s) fun t =>
        (t.chip.bell ch).dir t0 = { word := d, full := true, collided := ((s.chip.bell ch).dir t0).full || ((s.chip.bell ch).dir t0).collided,
                                    rxseq := (((s.chip.bell ch).dir t0).rxseq + 1) % 256 } ∧ t.chip.resp.status = .done) ∧
    (s.chip.gives m (mbxA ch 0x108) = true →
      (Answers (exec (.bellTake m ch 4 true) s) fun t =>
        ((t.chip.bell ch).dir (1 - t0)).full = false ∧ t.chip.resp = { status := .done, data := [(s.chip.bellTakeWords ch t0).getD 0 0] }) ∧
      (Answers (exec (.bellTake m ch 4 false) s) fun t =>
        t.chip.bells = s.chip.bells ∧ t.chip.resp.status = (if m < 8 then .busError else .poisoned) ∧ t.chip.bit (viewKey t0 (mbxA ch 0x110)) 5 = true)) ∧
    (s.chip.gives m (mbxA ch 0x104) = true →
      Answers (exec (.bellInRead m ch true) s) fun t =>
        t.chip.bells = s.chip.bells ∧ t.chip.resp = { status := .done, data := [((s.chip.bell ch).dir (1 - t0)).word] }) ∧
    (s.chip.acts MBX (1 + ch) = true → (s.chip.bell ch).d0.full = true → (s.chip.bell ch).d1.full = true → (s.chip.bell ch).cross = false →
      Answers (exec (.crossTimeExpiry ch) s) fun t =>
        (t.chip.bell ch).cross = true ∧ t.chip.bit (viewKey 0 (mbxA ch PG_EVT_RAW)) 3 = true ∧
        t.chip.bit (viewKey 1 (mbxA ch PG_EVT_RAW)) 3 = true)

/-- On an enabled, bound ring a post stages the notice of PTR, LEN and TAG; its commit writes the next entry and counts one more,
unless the ring holds 256 entries (reason 1), which leaves them; a take of n up to COUNT moves the tail and frees n.
(spec/03_hosts_mailboxes.md R106, spec/03_hosts_mailboxes.md R107, spec/03_hosts_mailboxes.md R108,
spec/03_hosts_mailboxes.md R110) -/
def Obligations.BucketRings : Prop :=
  ∀ (s : State) (m r : Nat) (d : Word), r < 32 →
    (s.chip.channelOn (64 + r) = true → s.chip.takes m (mbxA (64 + r) 0x110) false = true →
      Answers (exec (.bucketPost m r d) s) fun t =>
        (t.chip.ring r).staged = (s.chip.ring r).staged ++
          [{ ptr := s.chip.u64 (mbxA (64 + r) 0x100), len := s.chip.nat (mbxA (64 + r) 0x108), tag := s.chip.fld (mbxA (64 + r) 0x10C) 0 16 }] ∧
        t.chip.resp.status = .done) ∧
    (∀ n rest, s.chip.acts MBX (65 + r) = true → (s.chip.ring r).staged = n :: rest →
      ((s.chip.ring r).count < 256 → n.ptr + n.len ≤ s.chip.dramBytes →
        Answers (exec (.bucketPostCommit r) s) fun t =>
          (t.chip.ring r).staged = rest ∧ (t.chip.ring r).count = (s.chip.ring r).count + 1 ∧
          (t.chip.ring r).nextSeq = ((s.chip.ring r).nextSeq + 1) % 65536 ∧ (t.chip.ring r).lastRefuse = false ∧
          t.chip.word (ringEntK r (((s.chip.ring r).tail + (s.chip.ring r).count) % 256) 2) = BitVec.ofNat 32 n.len) ∧
      ((s.chip.ring r).count = 256 → Answers (exec (.bucketPostCommit r) s) fun t =>
          (t.chip.ring r).staged = rest ∧ (t.chip.ring r).count = 256 ∧ (t.chip.ring r).lastRefuse = true ∧ (t.chip.ring r).why = 1)) ∧
    (s.chip.channelOn (64 + r) = true → s.chip.takes m (mbxA (64 + r) 0x114) false = true → d.toNat ≤ (s.chip.ring r).count →
      Answers (exec (.bucketTake m r d) s) fun t =>
        (t.chip.ring r).count = (s.chip.ring r).count - d.toNat ∧ (t.chip.ring r).tail = ((s.chip.ring r).tail + d.toNat) % 256)

/-- A read of a free lock answers 0 and makes the reader the holder, a read of a held one answers its holder and leaves it; the
holder's write of 0 frees it, and any other master's write is refused; a keyed write of 0x80 by the page's owner frees a held
lock and counts; a binding write with EN that breaks a rule of R96 leaves the entry and shows the reason, any other sets the
entry and clears the channel. (spec/03_hosts_mailboxes.md R112, spec/03_hosts_mailboxes.md R95, spec/03_hosts_mailboxes.md
R96) -/
def Obligations.LocksAndBindings : Prop :=
  ∀ (s : State) (m n : Nat), n < 128 → m < 16 →
    (s.chip.gives m (lockK n) = true → s.chip.nat (lockK n) = 0 →
      Answers (exec (.lockRead m n) s) fun t => t.chip.nat (lockK n) = m + 1 ∧ t.chip.resp = { status := .done, data := [0] }) ∧
    (s.chip.gives m (lockK n) = true → s.chip.nat (lockK n) ≠ 0 →
      Answers (exec (.lockRead m n) s) fun t =>
        t.chip.words = s.chip.words ∧ t.chip.resp = { status := .done, data := [s.chip.word (lockK n)] }) ∧
    (s.chip.sends m = true → s.chip.accessCause m (lockK n) true = 0 → s.chip.keySt (pageAddr MBX 97 0) m = .closed →
      (s.chip.nat (lockK n) = m + 1 →
        Answers (exec (.lockRelease m n 0) s) fun t => t.chip.nat (lockK n) = 0 ∧ t.chip.resp.status = .done) ∧
      (∀ d, s.chip.nat (lockK n) ≠ m + 1 →
        Answers (exec (.lockRelease m n d) s) fun t =>
          t.chip.nat (lockK n) = s.chip.nat (lockK n) ∧ t.chip.resp.status = denial m ecNotOwner true)) ∧
    (s.chip.sends m = true → s.chip.accessCause m (lockK n) true = 0 → s.chip.keySt (pageAddr MBX 97 0) m = .opened → s.chip.owner (pageAddr MBX 97 0) = m → s.chip.nat (lockK n) ≠ 0 →
      Answers (exec (.lockForceRelease m n 0x80) s) fun t =>
        t.chip.nat (lockK n) = 0 ∧ t.chip.nat (pageAddr MBX 97 0x034) = min (2 ^ 32 - 1) (s.chip.nat (pageAddr MBX 97 0x034) + 1)) ∧
    (∀ k d, k < 96 → s.chip.takes m (aBind k) false = true → s.chip.bit (pageAddr MBX 0 0x100) 31 = false →
      (d.getLsbD 31 = false ∨ s.chip.bindWhy k (d &&& 0x803F_3F3F#32) = 0 →
        Answers (exec (.bindingWrite m k d) s) fun t => t.chip.word (aBind k) = (d &&& 0x803F_3F3F#32)) ∧
      (d.getLsbD 31 = true → s.chip.bindWhy k (d &&& 0x803F_3F3F#32) ≠ 0 →
        Answers (exec (.bindingWrite m k d) s) fun t =>
          t.chip.word (aBind k) = s.chip.word (aBind k) ∧
          t.chip.fld (pageAddr MBX 0 0x104) 0 4 = s.chip.bindWhy k (d &&& 0x803F_3F3F#32)))

/-- Posting the oldest completion whose list has one entry takes it from the queue and decrements the TALLY of a loaded task that
has more than one count to go, and makes an admitted task with one count to go ready with the completion's stamp; HOI_SUBMIT
by the descriptor's owner decrements it in the same way; the held run that was triggered first gets a best-effort entry that
is free. (spec/04_hoist_dispatcher.md R121, spec/04_hoist_dispatcher.md R118, spec/04_hoist_dispatcher.md R128) -/
def Obligations.HoistPosts : Prop :=
  ∀ s : State, s.settled = true →
    (∀ q r i, s.chip.acts HOI 0 = true → s.chip.posts = q :: r →
      s.chip.bit (succK (q.head % 2 ^ 17)) 31 = true → s.chip.fld (succK (q.head % 2 ^ 17)) 0 16 = i →
      s.chip.stateCode i (s.chip.inst i) = 2 → (s.chip.inst i).ending = false → (s.chip.inst i).queued = false → 2 ≤ s.chip.fld (dK i 1) 0 16 →
      Answers (exec .completionPost s) fun t =>
        t.chip.posts = r ∧ t.chip.fld (dK i 1) 0 16 = s.chip.fld (dK i 1) 0 16 - 1 ∧ t.chip.hoi = s.chip.hoi) ∧
    (∀ q r i, s.chip.acts HOI 0 = true → s.chip.posts = q :: r →
      s.chip.bit (succK (q.head % 2 ^ 17)) 31 = true → s.chip.fld (succK (q.head % 2 ^ 17)) 0 16 = i →
      s.chip.stateCode i (s.chip.inst i) = 2 → (s.chip.inst i).ending = false → (s.chip.inst i).queued = false → s.chip.fld (dK i 1) 0 16 = 1 →
      s.chip.reqBound i ≠ 0 →
      Answers (exec .completionPost s) fun t =>
        t.chip.posts = r ∧ (t.chip.inst i).phase = .ready ∧ (t.chip.inst i).trig = q.stamp) ∧
    (∀ m d, s.chip.takes m (hoiA 0x10C) false = true → s.chip.descOwner (getBits d 0 16) = m →
      s.chip.stateCode (getBits d 0 16) (s.chip.inst (getBits d 0 16)) = 2 → (s.chip.inst (getBits d 0 16)).ending = false →
      (s.chip.inst (getBits d 0 16)).queued = false → 2 ≤ s.chip.fld (dK (getBits d 0 16) 1) 0 16 →
      Answers (exec (.hoiSubmit m d) s) fun t =>
        t.chip.fld (dK (getBits d 0 16) 1) 0 16 = s.chip.fld (dK (getBits d 0 16) 1) 0 16 - 1 ∧ t.chip.resp.status = .done) ∧
    (∀ i, s.chip.acts HOI 0 = true → (s.chip.inst i).phase = .held → s.chip.beFree = true →
      (∀ e ∈ s.chip.hoi.inst, e.1 ≠ i → (e.2.phase = .held → (s.chip.inst i).trig.fine < e.2.trig.fine) ∧
        (e.2.queued = true → e.2.qHeld = true → (s.chip.inst i).trig.fine < e.2.qTrig.fine)) →
      Answers (exec .heldEntryGrant s) fun t => (t.chip.inst i).phase = .ready)

/-- Dispatching a lane pool puts its highest-ranked ready run, here of a slot that is not enabled or with the Loop Array halted,
on a free lane of the pool, marks it running and reloads TALLY unless it resumes or is ONESHOT; dispatching a relay outside
any flow posts its successor list and returns it to idle at once; dispatching a core pool with a free core offers its
highest-ranked run there; the release of a lane run outside any flow frees the lane, posts its successor list where enabled
and returns the task to idle; one out of its turn in an ordered flow waits. (spec/04_hoist_dispatcher.md R123,
spec/04_hoist_dispatcher.md R126, spec/04_hoist_dispatcher.md R131, spec/04_hoist_dispatcher.md R133) -/
def Obligations.HoistDispatch : Prop :=
  ∀ s : State, s.settled = true → s.chip.acts HOI 0 = true →
    (∀ pool i, pool ≤ 1 → s.chip.dispatches = true → s.chip.pick pool = some i → s.chip.freeLanes pool ≠ [] →
      (s.chip.slotHdr (s.chip.fld (dK i 2) 0 12)).enabled = false ∨ s.chip.operates LOOP 0 = false →
      ∀ resends poison bad, Answers (exec (.taskDispatch pool resends poison bad) s) fun t =>
        (∃ l ∈ s.chip.freeLanes pool, tab 0 t.chip.hoi.lanes l = i + 1) ∧ (t.chip.inst i).phase = .running ∧
        (s.chip.bit (dK i 0) 27 = false → (s.chip.inst i).dispatched = false →
          t.chip.fld (dK i 1) 0 16 = s.chip.fld (dK i 1) 16 16)) ∧
    (∀ pool i, 6 ≤ pool → s.chip.dispatches = true → s.chip.pick 6 = some i → (s.chip.inst i).flow = none → (s.chip.inst i).held = [] →
      (s.chip.inst i).retiring = false → (s.chip.inst i).ending = false → (s.chip.inst i).queued = false → s.chip.bit (dK i 0) 27 = false →
      ∀ resends poison bad, Answers (exec (.taskDispatch pool resends poison bad) s) fun t =>
        (t.chip.inst i).phase = .idle ∧
        t.chip.posts = s.chip.posts ++ (if s.chip.bit (dK i 8) 31 then [{ head := s.chip.fld (dK i 8) 0 17, stamp := s.chip.now }] else [])) ∧
    (∀ k i n, k < 4 → s.chip.dispatches = true → natBit s.chip.hoi.poolOut k = false → s.chip.pick (2 + k) = some i →
      ((s.chip.poolCores k).find? fun n => (s.chip.port n).current.isNone && (s.chip.port n).next.isNone) = some n →
      Answers (exec (.taskDispatch (2 + k) 0 0 []) s) fun t =>
        (t.chip.port n).next = some i ∧ (t.chip.inst i).offered = true ∧ t.chip.bit (portA n 0x110) 30 = true) ∧
    (∀ i l, (s.chip.hoi.lanes.find? (·.2 == i + 1)) = some (l, i + 1) →
      ((s.chip.inst i).flow = none → (s.chip.inst i).held = [] → (s.chip.inst i).retiring = false → (s.chip.inst i).ending = false →
        (s.chip.inst i).queued = false → s.chip.bit (dK i 0) 27 = false →
        Answers (exec (.taskRelease i) s) fun t =>
          tab 0 t.chip.hoi.lanes l = 0 ∧ (t.chip.inst i).phase = .idle ∧
          t.chip.posts = s.chip.posts ++ (if s.chip.bit (dK i 8) 31 then [{ head := s.chip.fld (dK i 8) 0 17, stamp := s.chip.now }] else [])) ∧
      (∀ n, (s.chip.inst i).flow = some n → (s.chip.flowOrder n).head? ≠ some i →
        Answers (exec (.taskRelease i) s) fun t => tab 0 t.chip.hoi.lanes l = 0 ∧ (t.chip.inst i).phase = .waitOrder))

/-- Reading HOI_CORE_NEXT of a port with a task offered and none current makes it current; DONE of the current task frees the
core, and the task goes idle, or waits for its place in an ordered flow; SUSPEND of the current task on request frees the
core, counts and returns the task to ready; PREEMPT_TIMEOUT sets TIMEOUT, takes the pool out of dispatch and halts the core
(shown where the module neither leads nor must stop for core 0). (spec/04_hoist_dispatcher.md R133,
spec/04_hoist_dispatcher.md R134, spec/04_hoist_dispatcher.md R135) -/
def Obligations.CorePorts : Prop :=
  ∀ (s : State) (m n i : Nat), n < 8 → i < 65536 → s.settled = true →
    (s.chip.gives m (portA n 0x100) = true → s.chip.port n = { current := none, next := some i } →
      Answers (exec (.coreNextRead m n 4) s) fun t =>
        t.chip.port n = { current := some i, next := none } ∧ t.chip.fld (portA n 0x110) 0 16 = i ∧ (t.chip.inst i).phase = .running ∧
        t.chip.resp = { status := .done, data := [s.chip.word (portA n 0x100)] }) ∧
    (∀ f, s.chip.takes m (portA n 0x108) false = true → (s.chip.port n).current = some i → (s.chip.inst i).flow = some f →
      (s.chip.flowOrder f).head? ≠ some i →
      Answers (exec (.coreDone m n (BitVec.ofNat 32 i)) s) fun t =>
        (t.chip.port n).current = none ∧ (t.chip.inst i).phase = .waitOrder ∧ t.chip.resp.status = .done) ∧
    (s.chip.takes m (portA n 0x108) false = true → (s.chip.port n).current = some i → (s.chip.inst i).flow = none → (s.chip.inst i).held = [] →
      (s.chip.inst i).retiring = false → (s.chip.inst i).ending = false → (s.chip.inst i).queued = false → s.chip.bit (dK i 0) 27 = false →
      Answers (exec (.coreDone m n (BitVec.ofNat 32 i)) s) fun t => (t.chip.port n).current = none ∧ (t.chip.inst i).phase = .idle) ∧
    (s.chip.takes m (portA n 0x10C) false = true → (s.chip.port n).current = some i → s.chip.bit (portA n 0x110) 31 = true →
      Answers (exec (.coreSuspend m n (BitVec.ofNat 32 i)) s) fun t =>
        (t.chip.port n).current = none ∧ (t.chip.inst i).phase = .ready ∧ t.chip.bit (portA n 0x110) 31 = false ∧
        t.chip.nat (portA n 0x034) = min (2 ^ 32 - 1) (s.chip.nat (portA n 0x034) + 1)) ∧
    (s.chip.acts HOI 0 = true → s.chip.bit (portA n 0x110) 31 = true → s.chip.role ≠ 3 → (1 < s.chip.role ∨ s.chip.corePool 0 ≠ s.chip.corePool n) →
      Answers (exec (.preemptTimeout n) s) fun t =>
        t.chip.bit (portA n 0x110) 29 = true ∧ natBit t.chip.hoi.poolOut (s.chip.corePool n) = true ∧ natBit t.chip.cor.halted n = true)

/-- ADMIT and QUERY, and RETIRE behind another request, set BUSY of the partition's own status and join the queue with FIRST and
COUNT; a RETIRE that is first takes its idle descriptor out of the admitted tasks; the end of the last request shows DONE
with the code and culprit of its test and empties the queue, a successful ADMIT admits every member of the request, and a
successful raise of the cap stores it; a lower HOI_BE_MAX_COST, HOI_BE_ENTRIES in range, HOI_CORE_POOL with no core task
admitted and a flow that no admitted task names are written. (spec/04_hoist_dispatcher.md R127, spec/04_hoist_dispatcher.md
R128, spec/04_hoist_dispatcher.md R130, spec/04_hoist_dispatcher.md R140, spec/04_hoist_dispatcher.md R141,
spec/04_hoist_dispatcher.md R142) -/
def Obligations.HoistAdmission : Prop :=
  ∀ (s : State) (m : Nat), s.settled = true →
    (∀ first, first < 65536 → s.chip.takes m (hoiA 0x100) false = true → s.chip.bit (admStatK m) 31 = false →
      (Answers (exec (.admitTasks m first) s) fun t =>
        t.chip.nat (admStatK m) = 2 ^ 31 ∧ t.chip.resp.status = .done ∧
        t.chip.hoi.requests = s.chip.hoi.requests ++ [{ p := m, op := 1, first := first, count := s.chip.fld (viewKey m (hoiA 0x104)) 0 17 }]) ∧
      (Answers (exec (.query m first) s) fun t =>
        t.chip.nat (admStatK m) = 2 ^ 31 ∧ t.chip.resp.status = .done ∧
        t.chip.hoi.requests = s.chip.hoi.requests ++ [{ p := m, op := 3, first := first, count := s.chip.fld (viewKey m (hoiA 0x104)) 0 17 }]) ∧
      (s.chip.hoi.requests ≠ [] → Answers (exec (.retire m first) s) fun t =>
        t.chip.nat (admStatK m) = 2 ^ 31 ∧ t.chip.resp.status = .done ∧
        t.chip.hoi.requests = s.chip.hoi.requests ++ [{ p := m, op := 2, first := first, count := s.chip.fld (viewKey m (hoiA 0x104)) 0 17 }])) ∧
    (∀ first, first < 65536 → s.chip.takes m (hoiA 0x100) false = true → s.chip.bit (admStatK m) 31 = false → s.chip.hoi.requests = [] →
      s.chip.fld (viewKey m (hoiA 0x104)) 0 17 = 1 → s.chip.bit (dK first 0) 31 = true → s.chip.descOwner first = m →
      s.chip.hoi.admitted.contains first = true → (s.chip.inst first).phase = .idle → (s.chip.inst first).flow = none →
      Answers (exec (.retire m first) s) fun t =>
        t.chip.hoi.admitted = s.chip.hoi.admitted.filter (· != first) ∧ t.chip.nat (dK first 11) = 0) ∧
    (∀ q, s.chip.acts HOI 0 = true → s.chip.hoi.requests = [q] → q.p < 16 →
      Answers (exec .admissionDone s) fun t =>
        let v := (s.chip.decideRequest q).1
        t.chip.hoi.requests = [] ∧ t.chip.nat (admStatK q.p) = 2 ^ 30 + v.code % 16 * 2 ^ 24 + v.culprit % 2 ^ 16 ∧
        t.chip.bit (hoiA PG_EVT_RAW) 0 = true ∧
        (q.op = 1 → v.code = 0 → ∀ i, q.first ≤ i → i < q.first + q.count → i ∈ t.chip.hoi.admitted) ∧
        (q.op = 4 → v.code = 0 → q.cap < 2 ^ 32 → t.chip.nat (hoiA 0x11C) = q.cap)) ∧
    (∀ d, s.chip.takes m (hoiA 0x11C) true = true → d.toNat ≤ s.chip.nat (hoiA 0x11C) →
      Answers (exec (.beMaxCostWrite m d) s) fun t => t.chip.word (hoiA 0x11C) = d) ∧
    (∀ d, s.chip.takes m (hoiA 0x118) true = true → getBits d 0 15 ≤ 16384 → s.chip.hoi.admitted.length ≤ 16384 - getBits d 0 15 →
      Answers (exec (.beEntriesWrite m d) s) fun t => t.chip.nat (hoiA 0x118) = getBits d 0 15) ∧
    (∀ d, s.chip.takes m (hoiA 0x108) true = true → (∀ i ∈ s.chip.hoi.admitted, s.chip.kind i ≠ 1) →
      Answers (exec (.corePoolWrite m d) s) fun t => t.chip.nat (hoiA 0x108) = d.toNat % 2 ^ 16 ∧ t.chip.bit (hoiA 0x128) 2 = false) ∧
    (∀ n d, n < 4096 → s.chip.takes m (flowK n) false = true →
      (∀ i ∈ s.chip.hoi.admitted, s.chip.bit (dK i 0) 19 = true → s.chip.fld (dK i 0) 0 12 ≠ n) →
      Answers (exec (.flowCfgWrite m n d) s) fun t =>
        t.chip.word (flowK n) = ((s.chip.word (flowK n) &&& 0x1F00#32) ||| (d &&& 0x8000_00F0#32)))

/-- From the states of R152 each command leads to its state: ARM to ARMED at FIRST, PAUSE to PAUSED at the present instant,
RESUME and CONTINUE to RUNNING with START moved by the time that passed, rounded up to a microsecond, and ABORT to IDLE.
(spec/04_hoist_dispatcher.md R152, spec/04_hoist_dispatcher.md R153) -/
def Obligations.TrackCommands : Prop :=
  ∀ (s : State) (m t0 : Nat), t0 < 64 → s.settled = true → s.chip.takes m (trkA t0 0x104) false = true →
    (s.chip.trkTakes t0 1 = true → Answers (exec (.trackArm m t0) s) fun t =>
      t.chip.trkState t0 = 1 ∧ t.chip.trkPos t0 = s.chip.fld (trkA t0 0x110) 0 16 ∧ (t.chip.track t0).buf = [] ∧ t.chip.resp.status = .done) ∧
    (s.chip.trkTakes t0 2 = true → Answers (exec (.trackPause m t0) s) fun t =>
      t.chip.trkState t0 = 4 ∧ (t.chip.track t0).pausedAt = s.chip.nowNs) ∧
    (s.chip.trkTakes t0 3 = true → Answers (exec (.trackResume m t0) s) fun t =>
      t.chip.trkState t0 = 2 ∧
      t.chip.u64 (trkA t0 0x108) = (s.chip.u64 (trkA t0 0x108) + ceilUs (s.chip.nowNs - (s.chip.track t0).pausedAt)) % 2 ^ 64) ∧
    (s.chip.trkTakes t0 4 = true → Answers (exec (.trackAbort m t0) s) fun t => t.chip.trkState t0 = 0 ∧ t.chip.track t0 = {}) ∧
    (s.chip.trkTakes t0 5 = true → Answers (exec (.trackContinue m t0) s) fun t =>
      t.chip.trkState t0 = 2 ∧
      t.chip.u64 (trkA t0 0x108) = (s.chip.u64 (trkA t0 0x108) + ceilUs (s.chip.nowNs - (s.chip.track t0).waitAt)) % 2 ^ 64)

/-- A prefetch of the next step of an active track, not late, joins the buffer with its check code; a due step of OP SET moves
POS on, POST posts its list as well, WAIT leaves the track WAITING, END leaves it DONE, a JUMP goes to its target while it
has no count or its count is not used up and moves on after; all with NACT = 0; a SET step with one action, in one
configuration, writes its value to LOOP_PARAM; and a wait past its limit holds the track with code 6.
(spec/04_hoist_dispatcher.md R149, spec/04_hoist_dispatcher.md R150, spec/04_hoist_dispatcher.md R152) -/
def Obligations.TrackSteps : Prop :=
  ∀ (s : State) (t0 : Nat), t0 < 64 → s.settled = true → s.chip.acts HOI (16 + t0) = true →
    (∀ idx, 1 ≤ s.chip.trkState t0 → s.chip.trkState t0 ≤ 4 → (s.chip.track t0).buf.length < 16 →
      (s.chip.trkState t0 ≤ 2 → idx = s.chip.trkPos t0 → s.chip.stepLate t0 (s.chip.stepWords t0 idx) = true ∨ s.chip.nowNs ≤ s.chip.stepInstant t0 (s.chip.stepWords t0 idx)) →
      idx < 65536 → s.chip.nextFetch t0 = idx → s.chip.running = true →
      ∀ rr, Answers (exec (.stepPrefetch t0 idx rr) s) fun t =>
        (t.chip.track t0).buf.length = (s.chip.track t0).buf.length + 1 ∧
        (t.chip.track t0).buf.getLast?.map (·.idx) = some idx) ∧
    (∀ p, stepNact p.data = 0 → p.idx < 65535 →
      (s.chip.dueStep t0 1 = .applies p → Answers (exec (.recipeStepSet t0) s) fun t =>
        t.chip.trkState t0 = 2 ∧ t.chip.trkPos t0 = p.idx + 1 ∧ (t.chip.track t0).buf = (s.chip.track t0).buf.drop 1) ∧
      (s.chip.dueStep t0 2 = .applies p → Answers (exec (.recipeStepPost t0) s) fun t =>
        t.chip.trkState t0 = 2 ∧ t.chip.trkPos t0 = p.idx + 1 ∧
        t.chip.posts = s.chip.posts ++ [{ head := getBits (stepArg p.data) 0 17, stamp := s.chip.now }]) ∧
      (s.chip.dueStep t0 3 = .applies p → Answers (exec (.recipeStepWait t0) s) fun t =>
        t.chip.trkState t0 = 3 ∧ t.chip.trkPos t0 = p.idx + 1 ∧ (t.chip.track t0).waitLimit = 1000 * (stepArg p.data).toNat ∧
        t.chip.bit (trkA t0 PG_EVT_RAW) 4 = true) ∧
      (s.chip.dueStep t0 4 = .applies p → Answers (exec (.recipeStepJump t0) s) fun t =>
        let n := getBits (stepArg p.data) 16 16
        let left := (tab none (s.chip.track t0).jumps p.idx).getD n
        t.chip.trkState t0 = 2 ∧
        t.chip.trkPos t0 = if n = 0 ∨ left ≠ 0 then getBits (stepArg p.data) 0 16 else p.idx + 1) ∧
      (s.chip.dueStep t0 0xF = .applies p → Answers (exec (.recipeStepEnd t0) s) fun t =>
        t.chip.trkState t0 = 6 ∧ t.chip.bit (trkA t0 PG_EVT_RAW) 1 = true)) ∧
    (let d := [0, 0x1_0100, 0, 0, BitVec.ofNat 32 (twAddr LOOP 0x1_0054), 77]
     let r := State.ready [(pageAddr HOI 16 8, 1), (trkA 0 0x114, 2 * 2 ^ 28), (twAddr LOOP 0x1_0054, 1)]
     Answers (exec (.recipeStepSet 0) { r with chip := r.chip.setTrack 0 { buf := [{ idx := 0, data := d, code := 0 }] } }) fun t =>
       t.chip.nat (twAddr LOOP 0x1_0054) = 77 ∧ t.chip.trkPos 0 = 1) ∧
    (s.chip.trkState t0 = 3 → (s.chip.track t0).waitLimit ≠ 0 →
      (s.chip.track t0).waitAt + (s.chip.track t0).waitLimit ≤ s.chip.nowNs → (s.chip.track t0).waitIdx < 65536 →
      Answers (exec (.waitLimitExpiry t0) s) fun t =>
        t.chip.trkState t0 = 5 ∧ t.chip.nat (trkA t0 0x120) = 6 * 2 ^ 28 + (s.chip.track t0).waitIdx ∧ (t.chip.track t0).buf = [])

/-- Each command written while the partition's own LOOP_SLOT_RESP is not BUSY sets BUSY with the slot and joins the queue of
commands; at an empty queue ENABLE that passes every check enables the slot, DISABLE of an enabled slot that no admitted task
names disables it, RESET_STATE sets the sixteen state words to 0, CLEAR_STAT clears the flags and counters; the end of the
only command shows DONE, its code and slot. (spec/05_loop_array.md R194, spec/05_loop_array.md R195, spec/05_loop_array.md
R192, spec/05_loop_array.md R172) -/
def Obligations.SlotCommands : Prop :=
  ∀ (s : State) (m n : Nat), m < 16 → n < 4096 → s.settled = true →
    (s.chip.takes m (loopA 0x100) false = true → s.chip.bit (slotRespK m) 31 = false →
      (Answers (exec (.slotEnable m n) s) fun t =>
        t.chip.nat (slotRespK m) = 2 ^ 31 + n ∧ t.chip.resp.status = .done ∧
        t.chip.loop.cmds.map (fun q => (q.p, q.cmd, q.slot)) = s.chip.loop.cmds.map (fun q => (q.p, q.cmd, q.slot)) ++ [(m, 1, n)] ∧
        (s.chip.loop.cmds = [] → s.chip.enableCode m n = 0 → (t.chip.slotHdr n).enabled = true)) ∧
      (Answers (exec (.slotDisable m n) s) fun t =>
        t.chip.nat (slotRespK m) = 2 ^ 31 + n ∧ t.chip.resp.status = .done ∧
        t.chip.loop.cmds.map (fun q => (q.p, q.cmd, q.slot)) = s.chip.loop.cmds.map (fun q => (q.p, q.cmd, q.slot)) ++ [(m, 2, n)] ∧
        (s.chip.loop.cmds = [] → s.chip.plainCode m n true = 0 → (t.chip.slotHdr n).enabled = false)) ∧
      (Answers (exec (.slotResetState m n) s) fun t =>
        t.chip.nat (slotRespK m) = 2 ^ 31 + n ∧ t.chip.resp.status = .done ∧
        t.chip.loop.cmds.map (fun q => (q.p, q.cmd, q.slot)) = s.chip.loop.cmds.map (fun q => (q.p, q.cmd, q.slot)) ++ [(m, 3, n)] ∧
        (s.chip.loop.cmds = [] → s.chip.plainCode m n true = 0 → ∀ k, k < 16 → t.chip.word (slotK n 0x08 k) = 0)) ∧
      (Answers (exec (.slotClearStat m n) s) fun t =>
        t.chip.nat (slotRespK m) = 2 ^ 31 + n ∧ t.chip.resp.status = .done ∧
        t.chip.loop.cmds.map (fun q => (q.p, q.cmd, q.slot)) = s.chip.loop.cmds.map (fun q => (q.p, q.cmd, q.slot)) ++ [(m, 4, n)] ∧
        (s.chip.loop.cmds = [] → s.chip.plainCode m n false = 0 →
          t.chip.fld (hdrK n 6) 0 10 = 0 ∧ t.chip.nat (hdrK n 7) = 0 ∧ t.chip.nat (hdrK n 8) = 0 ∧ t.chip.nat (hdrK n 9) = 0))) ∧
    (∀ q, s.chip.acts LOOP 0 = true → s.chip.loop.cmds = [q] → q.p < 16 → q.slot < 4096 → q.code < 16 →
      Answers (exec .slotCmdDone s) fun t =>
        t.chip.loop.cmds = [] ∧ t.chip.nat (slotRespK q.p) = 2 ^ 30 + q.code * 2 ^ 24 + q.slot ∧ t.chip.bit (loopA PG_EVT_RAW) 0 = true)

/-- LOOP_SLOT_CTL takes its three fields, and with BANK the learning freeze of a mode change; word 0 of a hand-over group takes
EN and a REQ that is a member, which holds the token at once when EN rises, and word 1 takes its settings and keeps
BLEND_LEFT; LOOP_LRN_CTL takes FREEZE, and with CLEAR the clear is under way until LEARN_CLEAR_DONE, which leaves every bin
of the slot 0; GAMMA and RHO are written, on an enabled slot only within their ranges and with the freeze of a mode change.
(spec/05_loop_array.md R180, spec/05_loop_array.md R182, spec/06_repetitive_learning.md R203, spec/06_repetitive_learning.md
R204) -/
def Obligations.LoopControl : Prop :=
  ∀ (s : State) (m n : Nat) (d : Word), n < 4096 → s.settled = true →
    (s.chip.takes m (ctlK n) false = true → Answers (exec (.slotCtlWrite m n d) s) fun t =>
      t.chip.word (ctlK n) = (d &&& 0xE000_0000#32) ∧ t.chip.resp.status = .done ∧
      t.chip.fld (lrnK n 11) 0 8 = s.chip.fld (lrnK n 1) 16 8) ∧
    (∀ g, g < 256 → m < 16 → s.chip.takes m (grpK g 0) false = true → s.chip.memberOf g (getBits d 12 12) = true →
      Answers (exec (.hoGroupWrite m g 0 d) s) fun t =>
        t.chip.bit (grpK g 0) 31 = d.getLsbD 31 ∧ t.chip.fld (grpK g 0) 12 12 = getBits d 12 12 ∧
        (d.getLsbD 31 = true → s.chip.bit (grpK g 0) 31 = false →
          t.chip.fld (grpK g 0) 0 12 = getBits d 12 12 ∧ t.chip.bit (grpK g 0) 30 = false) ∧ t.chip.resp.status = .done) ∧
    (∀ g, g < 256 → m < 16 → s.chip.takes m (grpK g 1) false = true → Answers (exec (.hoGroupWrite m g 1 d) s) fun t =>
      t.chip.fld (grpK g 1) 0 24 = getBits d 0 24 ∧ t.chip.fld (grpK g 1) 24 8 = s.chip.fld (grpK g 1) 24 8 ∧ t.chip.resp.status = .done) ∧
    (s.chip.takes m (lrnK n 8) false = true → Answers (exec (.learnClear m n d) s) fun t =>
      t.chip.bit (lrnK n 8) 31 = d.getLsbD 31 ∧ t.chip.bit (lrnK n 8) 30 = (s.chip.bit (lrnK n 8) 30 || d.getLsbD 30) ∧
      t.chip.bit (lrnK n 11) 24 = (s.chip.bit (lrnK n 11) 24 || d.getLsbD 30)) ∧
    (s.chip.acts LOOP 0 = true → s.chip.bit (lrnK n 11) 24 = true → Answers (exec (.learnClearDone n) s) fun t =>
      t.chip.bit (lrnK n 8) 30 = false ∧ t.chip.bit (lrnK n 11) 24 = false ∧
      ∀ b, b < s.chip.nbins n → t.chip.lrnSample (s.chip.firstSample n + b) = 0) ∧
    (∀ rho, s.chip.takes m (lrnK n (if rho then 10 else 9)) false = true →
      let k := lrnK n (if rho then 10 else 9)
      let v := coefRat (d &&& 0xF_FFFF#32)
      ((s.chip.slotHdr n).enabled = false ∨ (if rho then 1 / 2 ≤ v ∧ v ≤ 1 else 0 < v ∧ v < 2) →
        Answers (exec (.learnGainWrite m n rho d) s) fun t =>
          t.chip.word k = (d &&& 0xF_FFFF#32) ∧ t.chip.resp.status = .done ∧
          ((s.chip.slotHdr n).enabled = true → t.chip.fld (lrnK n 11) 0 8 = s.chip.fld (lrnK n 1) 16 8)) ∧
      ((s.chip.slotHdr n).enabled = true → ¬(if rho then 1 / 2 ≤ v ∧ v ≤ 1 else 0 < v ∧ v < 2) →
        Answers (exec (.learnGainWrite m n rho d) s) fun t => t.chip.word k = s.chip.word k ∧ t.chip.resp.status = .done))

/-- For every axis and each of the thirteen commands that passes the checks of R230, the write leaves CODE 0 and the staged
registers, as they stand now, pending for the next tick in place of any earlier command; GEAR_IN with CMD[4] carries
ENGAGE_AT. A tick due for an axis that is neither enabled nor about to be enabled, or outside FLOW, is used up without other
effect on any register word; a tick with DISABLE pending leaves the axis disabled with nothing pending; in one configuration
each, a tick with SET_POS pending leaves the staged target in POS, with MOVE_ABS the axis moves in POSITION, with RESET_FAULT
it is at STANDSTILL with FAULT 0, and with ENABLE it is enabled at STANDSTILL; bit 31 written to PRF_STAT_CLR clears
STATE_LOST. (spec/07_motion_profiles.md R224, spec/07_motion_profiles.md R229, spec/07_motion_profiles.md R230,
spec/07_motion_profiles.md R231, spec/07_motion_profiles.md R259) -/
def Obligations.AxisCommands : Prop :=
  (∀ (s : State) (m a : Nat), m < 16 → a < 1152 → s.settled = true → s.chip.takes m (axCmdK a) false = true →
    let loaded (code : Nat) (gearAt : Bool) (t : State) : Prop :=
      (t.chip.axis a).pending = some (s.chip.staged a code gearAt) ∧ t.chip.fld (axK a 8) 24 4 = 0 ∧ t.chip.resp.status = .done
    (s.chip.axisCode m a 1 = 0 → Answers (exec (.axisEnable m a) s) (loaded 1 false)) ∧
    (s.chip.axisCode m a 2 = 0 → Answers (exec (.axisDisable m a) s) (loaded 2 false)) ∧
    (s.chip.axisCode m a 3 = 0 → Answers (exec (.moveAbs m a) s) (loaded 3 false)) ∧
    (s.chip.axisCode m a 4 = 0 → Answers (exec (.moveRel m a) s) (loaded 4 false)) ∧
    (s.chip.axisCode m a 5 = 0 → Answers (exec (.velocity m a) s) (loaded 5 false)) ∧
    (∀ p, s.chip.axisCode m a 6 = 0 → Answers (exec (.gearIn m a p) s) (loaded 6 p)) ∧
    (s.chip.axisCode m a 7 = 0 → Answers (exec (.camIn m a) s) (loaded 7 false)) ∧
    (s.chip.axisCode m a 8 = 0 → Answers (exec (.supMove m a) s) (loaded 8 false)) ∧
    (s.chip.axisCode m a 9 = 0 → Answers (exec (.stop m a) s) (loaded 9 false)) ∧
    (s.chip.axisCode m a 10 = 0 → Answers (exec (.qstop m a) s) (loaded 10 false)) ∧
    (s.chip.axisCode m a 11 = 0 → Answers (exec (.loadLimits m a) s) (loaded 11 false)) ∧
    (s.chip.axisCode m a 12 = 0 → Answers (exec (.axisSetPos m a) s) (loaded 12 false)) ∧
    (s.chip.axisCode m a 13 = 0 → Answers (exec (.resetFault m a) s) (loaded 13 false))) ∧
  (∀ (s : State) (d : TickDue) (r : List TickDue) (rr : Nat), s.settled = true → s.chip.acts PRF 0 = true → s.chip.prf.due = d :: r →
    (s.chip.axTicks d.axis = false ∨ s.chip.modState ≠ 0 →
      Answers (exec (.axisTick rr) s) fun t => t.chip.prf.due = r ∧ t.chip.words = s.chip.words) ∧
    (∀ q, s.chip.axisOn d.axis = true → s.chip.modState = 0 → s.chip.axState d.axis ≠ 7 → (s.chip.axis d.axis).pending = some q → q.code = 2 →
      Answers (exec (.axisTick rr) s) fun t =>
        t.chip.prf.due = r ∧ t.chip.axisOn d.axis = false ∧ t.chip.axState d.axis = 0 ∧ (t.chip.axis d.axis).pending = none)) ∧
  (let ticks (l : List (Nat × Nat)) (q : AxisCmd) (p : Chip → Prop) : Prop :=
     let w := State.ready ([(pageAddr PRF 0 8, 1), (twAddr TIM 4, 1000000)] ++ l)
     let c : Chip := { w.chip with prf := { w.chip.prf with enabled := [0], due := [{ axis := 0, stamp := 0 }] } }
     Answers (exec (.axisTick 0) { w with chip := c.setAxis 0 { pending := some q } }) fun t =>
       p t.chip ∧ (t.chip.axis 0).pending = none ∧ t.chip.prf.due = []
   let q (code : Nat) : AxisCmd := { code := code, lim := { v := 2 ^ 32, a := 2 ^ 32, d := 2 ^ 32, j := 2 ^ 40 }, target := 5 * 2 ^ 32, num := 0, den := 0, master := 0, cam := 0, engageAt := 0 }
   let on (st : Nat) : List (Nat × Nat) := [(axK 0 0, 2 ^ 31), (axK 0 8, st * 2 ^ 28)]
   ticks (on 1) (q 12) (fun c => c.s64 (axK 0 0x90) = 5 * 2 ^ 32 ∧ c.axState 0 = 1) ∧
   ticks (on 1) (q 3) (fun c => c.axState 0 = 2 ∧ 0 < c.s64 (axK 0 0x98) ∧ 0 < c.s64 (axK 0 0xA0)) ∧
   ticks (on 8) (q 13) (fun c => c.axState 0 = 1 ∧ c.fld (axK 0 8) 0 4 = 0) ∧
   ticks [] (q 1) (fun c => c.axisOn 0 = true ∧ c.axState 0 = 1)) ∧
  (∀ (s : State) (m : Nat) (d : Word), s.chip.takes m (pageAddr PRF 0 0x104) false = true →
    Answers (exec (.stateLostClear m d) s) fun t =>
      t.chip.bit (pageAddr PRF 0 0x100) 31 = (s.chip.bit (pageAddr PRF 0 0x100) 31 && !d.getLsbD 31) ∧ t.chip.resp.status = .done)

/-- A 32-bit shadow write that arrives, with at most three re-sends, outside the guard window that leaves PERIOD in its range
takes its place under the register's fields and leaves ARMED as it is; at the write-and-arm alias it also arms the pair;
inside the guard window it is kept and counted as late. PWM_ARM arms the pairs named, where the writer owns them all and none
is in its guard window. A boundary of a running pair begins the next period at its instant, and copies every shadow to its
active register and ends ARMED where the pair transfers, or leaves the active registers; a half boundary of a centre-aligned
pair with the half-boundary transfer copies too; a compare match inside the period raises its trigger line once. Enabling a
pair makes it wait for SYNC_TRIG. (spec/08_pwm_trips.md R263, spec/08_pwm_trips.md R264, spec/08_pwm_trips.md R267,
spec/08_pwm_trips.md R268, spec/08_pwm_trips.md R269, spec/08_pwm_trips.md R272, spec/08_pwm_trips.md R274) -/
def Obligations.PwmShadows : Prop :=
  ∀ (s : State) (m p hops : Nat) (d : Word), p < 96 → hops ≤ 3 → s.settled = true →
    let regs : List Nat := [0x110, 0x114, 0x118, 0x11C, 0x120, 0x128, 0x12C, 0x130, 0x134]
    let mask (off : Nat) : Word := if off = 0x114 ∨ off = 0x11C then 7#32 else if off = 0x120 then 0x0FFF_0FFF#32 else 0xFFFF_FFFF#32
    (∀ off ∈ regs, (off = 0x110 → periodBad d.toNat = false) →
      (off = 0x114 → (s.chip.pair p).late = [] ∧ periodBad (getBits d 0 3 * 2 ^ 32 + s.chip.nat (pwmK p 0x110)) = false) →
      (s.chip.takes m (pwmK p off) false = true →
        (s.chip.inGuard p = false → Answers (exec (.shadowWrite m p off [d] hops) s) fun t =>
          t.chip.word (pwmK p off) = (d &&& mask off) ∧ t.chip.bit (pwmK p 0x108) 20 = s.chip.bit (pwmK p 0x108) 20 ∧
          t.chip.resp.status = .done) ∧
        (s.chip.inGuard p = true → Answers (exec (.shadowWrite m p off [d] hops) s) fun t =>
          t.chip.word (pwmK p off) = s.chip.word (pwmK p off) ∧ (t.chip.pair p).late.length = (s.chip.pair p).late.length + 1 ∧
          t.chip.nat (pwmK p 0x034) = min (2 ^ 32 - 1) (s.chip.nat (pwmK p 0x034) + 1))) ∧
      (s.chip.takes m (pwmK p (off + 0x100)) false = true → s.chip.inGuard p = false →
        Answers (exec (.shadowWriteArm m p off [d] hops) s) fun t =>
          t.chip.word (pwmK p off) = (d &&& mask off) ∧ t.chip.bit (pwmK p 0x108) 20 = true ∧ t.chip.resp.status = .done)) ∧
    (∀ k, k < 3 → m < 16 → s.chip.takes m (pwmA (0x500 + 4 * k)) false = true →
      (∀ j, j < 32 → s.chip.pageOwner PWM (1 + (32 * k + j)) = m ∧ s.chip.inGuard (32 * k + j) = false) →
      Answers (exec (.pwmArm m k d hops) s) fun t =>
        ∀ j, j < 32 → t.chip.bit (pwmK (32 * k + j) 0x108) 20 = (s.chip.bit (pwmK (32 * k + j) 0x108) 20 || d.getLsbD j)) ∧
    (s.chip.acts PWM (1 + p) = true → s.chip.pairRuns p = true → (s.chip.pair p).late = [] →
      (∀ sub, Answers (exec (.pwmPeriodBoundary p sub) s) fun t =>
        (t.chip.pair p).bAt = (s.chip.now250 + sub : Nat) ∧
        (s.chip.transfers p = true →
          (∀ o ∈ regs, t.chip.word (pwmK p (o + 0x70)) = s.chip.word (pwmK p o)) ∧ t.chip.bit (pwmK p 0x108) 20 = false) ∧
        (s.chip.transfers p = false → ∀ o ∈ regs, t.chip.word (pwmK p (o + 0x70)) = s.chip.word (pwmK p (o + 0x70)))) ∧
      (s.chip.transfers p = true → s.chip.bit (pwmK p 0x100) 28 = true → s.chip.fld (pwmK p 0x100) 29 2 = 2 →
        Answers (exec (.pwmHalfBoundary p) s) fun t =>
          (∀ o ∈ regs, t.chip.word (pwmK p (o + 0x70)) = s.chip.word (pwmK p o)) ∧ t.chip.bit (pwmK p 0x108) 20 = false)) ∧
    (∀ n, n < 4 → s.chip.acts PWM (1 + p) = true → s.chip.pairRuns p = true → s.chip.bit (pwmK p (0x198 + 4 * n)) 31 = true →
      s.chip.fld (pwmK p (0x198 + 4 * n)) 0 31 * 8 < s.chip.u64 (pwmK p 0x180) →
      Answers (exec (.pwmCompareMatch p n) s) fun t =>
        natBit (t.chip.pair p).fired n = true ∧ t.chip.words = s.chip.words ∧
        t.chip.strobes = s.chip.strobes ++ (if natBit (s.chip.pair p).fired n then [] else [(256 + 4 * p + n, s.chip.now)])) ∧
    (s.chip.takes m (pageAddr PWM (1 + p) PG_CTL) true = true → s.chip.fld (pwmK p 0x100) 29 2 ≠ 3 → s.chip.pageOn PWM (1 + p) = false →
      Answers (exec (.pageEnable m PWM (1 + p) 1) s) fun t => t.chip.pageOn PWM (1 + p) = true ∧ t.chip.bit (pwmK p 0x108) 17 = true)

/-- An enabled, active-high input without a blanking window whose ball rises trips every pair of gate A's mask; in one
configuration the first input that trips is named, and one that rises inside the blanking window of its pair trips nothing;
at the end of a blanking window an input still active trips every pair of gate A's mask. PWM_PAIR_CTL written with TRIP_CLR
clears the latch where every source is inactive, and sets CLR_FAIL where one is not. A keyed TRIP_CFG write stores its word,
except a BLANK_PAIR of 96 to 126, which changes nothing; a lasting mismatch of gate B is shown; a passed self-test counts and
clears the failures and TEST_STALE, a failed one counts, and the third in a row shows the fault of the gate tested;
TEST_STALE is set for an enabled tested input. (spec/08_pwm_trips.md R275, spec/08_pwm_trips.md R276, spec/08_pwm_trips.md
R277, spec/08_pwm_trips.md R278, spec/08_pwm_trips.md R280, spec/08_pwm_trips.md R281) -/
def Obligations.TripPath : Prop :=
  (let w := State.ready [(pwmA (0x100 + 16 * 47), 0x805F_0001), (pwmA (0x10C + 16 * 47), 2 ^ 31)]
   (Answers (exec (.tripInputActive (2 ^ 47) 0 0) w) fun t => t.chip.bit (pwmK 95 0x108) 21 = true ∧ t.chip.fld (pwmK 95 0x108) 22 6 = 47) ∧
   Answers (exec (.tripInputActive (2 ^ 47) 0 0) { w with chip := w.chip.setPair 95 { past := [0] } }) fun t =>
     t.chip.bit (pwmK 95 0x108) 21 = false ∧ t.chip.pwm.balls = 2 ^ 47) ∧
  ∀ (s : State) (m i p : Nat) (d : Word), i < 48 → p < 96 → s.settled = true →
    (∀ high low sub, s.chip.pwr.held = none → s.chip.running = true → natBit high i = true → natBit s.chip.pwm.balls i = false →
      (s.chip.tripCopy false i 0).getLsbD 31 = true → (s.chip.tripCopy false i 0).getLsbD 30 = false →
      (96 ≤ getBits (s.chip.tripCopy false i 0) 16 7 ∨ getBits (s.chip.tripCopy false i 0) 0 10 = 0) → p ∈ s.chip.tripPairs false i →
      Answers (exec (.tripInputActive high low sub) s) fun t =>
        t.chip.bit (pwmK p 0x108) 21 = true ∧ natBit t.chip.pwm.balls i = true) ∧
    (∀ sub, s.chip.pwr.held = none → s.chip.running = true → s.chip.tripSeen false i = true → s.chip.blanked false i (s.chip.now250 + sub : Nat) = false →
      p ∈ s.chip.tripPairs false i →
      Answers (exec (.blankWindowClose i sub) s) fun t => t.chip.bit (pwmK p 0x108) 21 = true) ∧
    (s.chip.takes m (pwmK p 0x104) false = true → d.getLsbD 1 = true →
      (s.chip.clearable p = true → Answers (exec (.tripClear m p d) s) fun t =>
        t.chip.bit (pwmK p 0x108) 21 = false ∧ t.chip.bit (pwmK p 0x108) 18 = false ∧ t.chip.word (pwmK p 0x104) = (d &&& 0x8000_0001#32)) ∧
      (s.chip.clearable p = false → Answers (exec (.tripClear m p d) s) fun t =>
        t.chip.bit (pwmK p 0x108) 21 = s.chip.bit (pwmK p 0x108) 21 ∧ t.chip.bit (pwmK p 0x108) 18 = true)) ∧
    (∀ w, w < 4 → s.chip.takes m (pwmA (0x100 + 16 * i + 4 * w)) true = true →
      ((w = 0 → getBits d 16 7 < 96 ∨ getBits d 16 7 = 127) → Answers (exec (.tripCfgWrite m i w d) s) fun t =>
        t.chip.word (pwmA (0x100 + 16 * i + 4 * w)) = (if w = 0 then d &&& 0xE07F_03FF#32 else d) ∧ t.chip.resp.status = .done) ∧
      (w = 0 → 96 ≤ getBits d 16 7 → getBits d 16 7 ≠ 127 → Answers (exec (.tripCfgWrite m i w d) s) fun t =>
        t.chip.words = s.chip.words)) ∧
    (∀ copy, s.chip.pwr.held = none → (∃ w < 4, copy.getD w 0 ≠ s.chip.tripCopy false i w) →
      Answers (exec (.cfgMismatchExpiry i copy) s) fun t => t.chip.bit (pwmA (0x400 + 4 * i)) 26 = true) ∧
    (s.chip.acts PWM 0 = true → s.chip.testable i = true →
      (Answers (exec (.tripSelfTest i true) s) fun t =>
        t.chip.fld (pwmA (0x400 + 4 * i)) 0 16 = min 65535 (s.chip.fld (pwmA (0x400 + 4 * i)) 0 16 + 1) ∧
        t.chip.fld (pwmA (0x400 + 4 * i)) 16 8 = 0 ∧ t.chip.bit (pwmA (0x400 + 4 * i)) 27 = false) ∧
      (Answers (exec (.tripSelfTest i false) s) fun t =>
        t.chip.fld (pwmA (0x400 + 4 * i)) 16 8 = min 255 (s.chip.fld (pwmA (0x400 + 4 * i)) 16 8 + 1) ∧
        t.chip.nat (pwmA 0x034) = min (2 ^ 32 - 1) (s.chip.nat (pwmA 0x034) + 1) ∧
        (s.chip.fld (pwmA (0x400 + 4 * i)) 16 8 = 2 →
          t.chip.bit (pwmA (0x400 + 4 * i)) (if tab 0 s.chip.pwm.testGate i = 0 then 29 else 28) = true))) ∧
    (s.chip.acts PWM 0 = true → s.chip.bit (pwmA (0x100 + 16 * i)) 31 = true → s.chip.bit (pwmA (0x100 + 16 * i)) 29 = true →
      Answers (exec (.testStaleExpiry i) s) fun t => t.chip.bit (pwmA (0x400 + 4 * i)) 27 = true)

/-- For an enabled channel with CPR not 0, an accepted quadrature sample moves COUNT by its step modulo CPR, one in which both
inputs change where the mode forbids it leaves COUNT and counts a quadrature error; a Hall code whose sector is next to the
last one shows the sector and moves COUNT by one, up or down, with INV_DIR the other way, where SRC selects Hall, and a code
that is illegal, names no sector or skips one leaves COUNT and sets HALL_ERR; SET_POS with a count below CPR leaves that
count and TURNS, and one outside sets SET_ERR; an enable without a fault clears COUNT and TURNS. (spec/09_feedback.md R292,
spec/09_feedback.md R293, spec/09_feedback.md R294, spec/09_feedback.md R295, spec/09_feedback.md R296, spec/09_feedback.md
R313) -/
def Obligations.FeedbackCounting : Prop :=
  ∀ (s : State) (m n : Nat), n < 32 → s.settled = true → s.chip.cpr n ≠ 0 →
    (s.chip.pwr.held = none → s.chip.resetting FBK n = false → s.chip.frozen FBK n = false → s.chip.pageOn FBK n = true → s.chip.counting = true →
      (∀ a b, s.chip.fbkSrc n = 0 →
        (∀ d, quadrature (s.chip.fld (fbkK n 0x100) 26 3) (s.chip.chan n).a (s.chip.chan n).b a b = some d → d ≠ 0 →
          Answers (exec (.encoderCount n a b) s) fun t =>
            (t.chip.nat (fbkK n 0x158) : Int) = (s.chip.fbkPos n + (if s.chip.bit (fbkK n 0x100) 25 then -d else d)) % s.chip.cpr n ∧
            (t.chip.chan n).a = a ∧ (t.chip.chan n).b = b) ∧
        (quadrature (s.chip.fld (fbkK n 0x100) 26 3) (s.chip.chan n).a (s.chip.chan n).b a b = none →
          Answers (exec (.encoderCount n a b) s) fun t =>
            t.chip.fbkPos n = s.chip.fbkPos n ∧ t.chip.bit (fbkK n 0x150) 21 = true ∧
            t.chip.nat (fbkK n 0x034) = min (2 ^ 32 - 1) (s.chip.nat (fbkK n 0x034) + 1))) ∧
      (∀ h, h < 8 → s.chip.bit (fbkK n 0x100) 16 = true →
        (8 ≤ s.chip.fld (fbkK n 0x11C) (4 * h) 4 → s.chip.fld (fbkK n 0x11C) (4 * h) 4 % 8 ≤ 5 → s.chip.fbkSrc n = 1 →
          ∀ up : Bool, (s.chip.fld (fbkK n 0x11C) (4 * h) 4 % 8 + 6 - s.chip.fld (fbkK n 0x150) 0 3) % 6 = (if up then 1 else 5) →
          Answers (exec (.hallChange n h) s) fun t =>
            (t.chip.nat (fbkK n 0x158) : Int) = (s.chip.fbkPos n + (if s.chip.bit (fbkK n 0x100) 25 = up then -1 else 1)) % s.chip.cpr n ∧
            t.chip.fld (fbkK n 0x150) 0 3 = s.chip.fld (fbkK n 0x11C) (4 * h) 4 % 8) ∧
        (s.chip.fld (fbkK n 0x11C) (4 * h) 4 < 8 ∨ 5 < s.chip.fld (fbkK n 0x11C) (4 * h) 4 % 8 ∨
            (s.chip.fld (fbkK n 0x11C) (4 * h) 4 % 8 + 6 - s.chip.fld (fbkK n 0x150) 0 3) % 6 ∈ [2, 3, 4] →
          Answers (exec (.hallChange n h) s) fun t =>
            t.chip.fbkPos n = s.chip.fbkPos n ∧ t.chip.bit (fbkK n 0x150) 18 = true))) ∧
    (s.chip.takes m (fbkK n 0x140) false = true →
      (s.chip.nat (fbkK n 0x138) < s.chip.cpr n → Answers (exec (.fbkSetPos m n) s) fun t =>
        t.chip.nat (fbkK n 0x158) = s.chip.nat (fbkK n 0x138) ∧ t.chip.word (fbkK n 0x15C) = s.chip.word (fbkK n 0x13C) ∧
        t.chip.bit (fbkK n 0x150) 16 = false ∧ t.chip.bit (fbkK n 0x150) 23 = false) ∧
      (s.chip.cpr n ≤ s.chip.nat (fbkK n 0x138) → Answers (exec (.fbkSetPos m n) s) fun t =>
        t.chip.fbkPos n = s.chip.fbkPos n ∧ t.chip.bit (fbkK n 0x150) 16 = true)) ∧
    (s.chip.takes m (pageAddr FBK n PG_CTL) true = true → s.chip.pageOn FBK n = false → s.chip.fbkCode n = 0 →
      Answers (exec (.pageEnable m FBK n 1) s) fun t =>
        t.chip.pageOn FBK n = true ∧ t.chip.nat (fbkK n 0x158) = 0 ∧ t.chip.nat (fbkK n 0x15C) = 0)

/-- On an enabled channel with a frame running, an SSI frame without DAT high at its start fails with reason 1 and one not low at
the monoflop check with reason 2, an RS-485 answer of wrong length fails with reason 4, one with a wrong CRC with 5, one of
another ID with 6, one with a stop bit low with 7, and a missing answer fails with reason 4; each ends the frame, sets
FRAME_ERR and counts; a good SSI frame and a good RS-485 answer leave their value in COUNT (one configuration each).
(spec/09_feedback.md R297, spec/09_feedback.md R298, spec/09_feedback.md R299, spec/09_feedback.md R300) -/
def Obligations.FeedbackFrames : Prop :=
  (∀ (s : State) (n : Nat), n < 32 → s.chip.acts FBK n = true → s.chip.pageOn FBK n = true → (s.chip.chan n).frame.isSome = true →
    let fails (why : Nat) (t : State) : Prop := (t.chip.chan n).frame = none ∧ t.chip.bit (fbkK n 0x150) 19 = true ∧
      t.chip.fld (fbkK n 0x150) 25 3 = why ∧ t.chip.nat (fbkK n 0x03C) = min (2 ^ 32 - 1) (s.chip.nat (fbkK n 0x03C) + 1)
    (∀ v low, s.chip.fbkSrc n = 2 → Answers (exec (.ssiFrameDone n v false low) s) (fails 1)) ∧
    (∀ v, s.chip.fbkSrc n = 2 → Answers (exec (.ssiFrameDone n v true false) s) (fails 2)) ∧
    (∀ bytes low, s.chip.fbkSrc n = 3 → bytes.length ≠ 4 + ceilDiv (s.chip.fld (fbkK n 0x120) 26 6) 8 →
      Answers (exec (.rs485Response n bytes low) s) (fails 4)) ∧
    (∀ (body : List Byte) (hi lo : Byte) (low : Bool), s.chip.fbkSrc n = 3 → body.length = 2 + ceilDiv (s.chip.fld (fbkK n 0x120) 26 6) 8 →
      (crc16 body ≠ hi.toNat * 256 + lo.toNat → Answers (exec (.rs485Response n (body ++ [hi, lo]) low) s) (fails 5)) ∧
      (crc16 body = hi.toNat * 256 + lo.toNat → (body.getD 0 0).toNat ≠ 0xA0 + s.chip.fld (fbkK n 0x12C) 12 4 →
        Answers (exec (.rs485Response n (body ++ [hi, lo]) low) s) (fails 6)) ∧
      (crc16 body = hi.toNat * 256 + lo.toNat → (body.getD 0 0).toNat = 0xA0 + s.chip.fld (fbkK n 0x12C) 12 4 →
        Answers (exec (.rs485Response n (body ++ [hi, lo]) true) s) (fails 7))) ∧
    (s.chip.fbkSrc n = 3 → Answers (exec (.rs485RespTimeout n) s) (fails 4))) ∧
  (let w (src : Nat) := State.ready [(fbkK 5 8, 1), (fbkK 5 0x100, src * 2 ^ 29), (fbkK 5 0x104, 256), (fbkK 5 0x120, 8 * 2 ^ 26 + 8 * 2 ^ 14 + 8 * 2 ^ 6),
      (fbkK 5 0x124, 100 * 2 ^ 20)]
   let b : List Byte := [0xA0, 0x00, 0x55]
   let run (x : State) : State := { x with chip := x.chip.setChan 5 { frame := some { t0 := 0, frac := 0 } } }
   (Answers (exec (.ssiFrameDone 5 0x5A true true) (run (w 2))) fun t => t.chip.nat (fbkK 5 0x158) = 0x5A ∧ (t.chip.chan 5).frame = none) ∧
   Answers (exec (.rs485Response 5 (b ++ [BitVec.ofNat 8 (crc16 b / 256), BitVec.ofNat 8 (crc16 b)]) false) (run (w 3))) fun t =>
     t.chip.nat (fbkK 5 0x158) = 0x55)

/-- A rising edge, to the active level, of a qualified index of mode 1 with no reference pending takes the index latch with the
next SEQ and leaves the count, and the other edge takes nothing; an armed reference edge of the selected input and sense
takes the reference latch and disarms; FBK_REF with ARM arms; a read of a latch's first word returns it and keeps the rest of
the latch; an accepted edge of a general input shows the ball with INV, and OUT, SET and CLR write, set and clear the
outputs. (spec/09_feedback.md R302, spec/09_feedback.md R308, spec/09_feedback.md R310, spec/09_feedback.md R315,
spec/09_feedback.md R316) -/
def Obligations.LatchesAndGpio : Prop :=
  ∀ (s : State) (m n : Nat) (d : Word), n < 32 → s.settled = true →
    (s.chip.pwr.held = none → s.chip.resetting FBK n = false → s.chip.frozen FBK n = false →
      (s.chip.indexQualified n = true → s.chip.fld (fbkK n 0x108) 30 2 = 1 → s.chip.bit (fbkK n 0x150) 14 = false →
        ∀ high : Bool, (high ≠ s.chip.bit (fbkK n 0x108) 25 → Answers (exec (.indexPulse n high) s) fun t =>
            t.chip.fld (latchK n 1 0x30) 0 16 = (s.chip.fld (latchK n 1 0x30) 0 16 + 1) % 65536 ∧ t.chip.fbkPos n = s.chip.fbkPos n ∧
            t.chip.bit (fbkK n PG_EVT_RAW) 1 = true) ∧
          (high = s.chip.bit (fbkK n 0x108) 25 → Answers (exec (.indexPulse n high) s) fun t => t.chip.words = s.chip.words)) ∧
      (∀ (input : Nat) (rising : Bool), s.chip.refFrom n input = true → s.chip.chanOn n = true → s.chip.running = true → s.chip.bit (fbkK n 0x110) 31 = true →
        s.chip.bit (fbkK n 0x110) (if rising then 27 else 28) = true → s.chip.bit (fbkK n 0x110) 30 = true →
        s.chip.bit (fbkK n 0x150) 15 = true → s.chip.bit (fbkK n 0x110) 26 = false →
        Answers (exec (.referenceEdge n input rising) s) fun t =>
          t.chip.fld (latchK n 2 0x30) 0 16 = (s.chip.fld (latchK n 2 0x30) 0 16 + 1) % 65536 ∧ t.chip.bit (fbkK n 0x150) 15 = false)) ∧
    (s.chip.takes m (fbkK n 0x110) false = true → Answers (exec (.refArm m n d) s) fun t =>
      t.chip.bit (fbkK n 0x150) 15 = (d.getLsbD 29 || s.chip.bit (fbkK n 0x150) 15) ∧ t.chip.bit (fbkK n 0x110) 31 = d.getLsbD 31) ∧
    (∀ l, l < 3 → s.chip.gives m (fbkK n (0x200 + 0x40 * l)) = true → Answers (exec (.latchCaptureRead m n l 4) s) fun t =>
      t.chip.resp = { status := .done, data := [(s.chip.readWords m (fbkK n (0x200 + 0x40 * l))).getD 0 0] } ∧
      tab [] t.chip.caps (capKey m (fbkK n (0x200 + 0x40 * l))) = (s.chip.readWords m (fbkK n (0x200 + 0x40 * l))).drop 1) ∧
    (∀ p high, p < 64 → s.chip.acts FBK 32 = true → s.chip.running = true → Answers (exec (.gpioInputEdge p high) s) fun t =>
      natBit t.chip.fbk.gpio p = high ∧
      t.chip.bit (gpioK (0x100 + 4 * (p / 32))) (p % 32) = (high != s.chip.bit (gpioK (0x200 + 4 * p)) 30)) ∧
    (∀ off, off ∈ [0, 4] →
      (s.chip.takes m (gpioK (0x108 + off)) false = true → Answers (exec (.gpioOutWrite m off [d]) s) fun t =>
        t.chip.word (gpioK (0x108 + off)) = d ∧ t.chip.resp.status = .done) ∧
      (s.chip.takes m (gpioK (0x110 + off)) false = true → Answers (exec (.gpioSet m off [d]) s) fun t =>
        t.chip.word (gpioK (0x108 + off)) = (s.chip.word (gpioK (0x108 + off)) ||| d) ∧ t.chip.resp.status = .done) ∧
      (s.chip.takes m (gpioK (0x118 + off)) false = true → Answers (exec (.gpioClr m off [d]) s) fun t =>
        t.chip.word (gpioK (0x108 + off)) = (s.chip.word (gpioK (0x108 + off)) &&& ~~~d) ∧ t.chip.resp.status = .done))

/-- In one configuration the strobe of a trigger line activates the sequence that names it and begins its first entry; a software
trigger activates an idle enabled sequence; an abort leaves every sequence idle; the end of an unfiltered conversion on a
module that is no standby leaves the code of the voltage, by R320, in the entry's result word; a filter round that comes
while one runs is kept to follow at once, and one that comes to a free converter begins with the first filtered entry and
shows in PACE_SHORT whether PACE is shorter than its conversions; CNV_CFG, a legal entry word and a legal configuration of a
disabled sequence are written; a read of a result word leaves its stamp in CNV_RTS of the reader and every register as it is.
(spec/10_converters.md R320, spec/10_converters.md R321, spec/10_converters.md R322, spec/10_converters.md R324,
spec/10_converters.md R325, spec/10_converters.md R328, spec/10_converters.md R335) -/
def Obligations.ConverterSequences : Prop :=
  (let r := State.ready [(cnvK 3 8, 1), (cnvK 3 (0x120 + 8 * 2), 0x8050_1000 + 7), (cnvK 3 (0x180 + 4 * 4), 0x2000_0000)]
   Answers (exec .cnvSequenceTrigger { r with chip := { r.chip with strobes := [(5, 0)] } }) fun t =>
     t.chip.strobes = [] ∧ t.chip.seqActive 3 2 = true ∧ (t.chip.cv 3).cur.map (fun q => (q.entry, q.seq)) = some (4, some 2)) ∧
  ∀ (s : State) (m i : Nat) (d : Word), i < 4 → s.settled = true →
    (s.chip.takes m (cnvK i 0x110) false = true →
      (∀ q, q < 4 → d.getLsbD 31 = false → d.getLsbD q = true → s.chip.pageOn CNV i = true → s.chip.running = true → s.chip.filtering i = false →
        s.chip.bit (cnvK i (0x120 + 8 * q)) 31 = true →
        Answers (exec (.cnvSoftTrigger m i d) s) fun t => t.chip.seqActive i q = true ∧ t.chip.resp.status = .done) ∧
      (d.getLsbD 31 = true → getBits d 0 4 = 0 → s.chip.filtering i = false → Answers (exec (.cnvAbort m i d) s) fun t =>
        (∀ q, q < 4 → t.chip.seqActive i q = false) ∧ t.chip.resp.status = .done)) ∧
    (∀ nv q, s.chip.acts CNV i = true → s.chip.pageOn CNV i = true → (s.chip.cv i).cur = some q → q.entry < 32 → s.chip.filtering i = false →
      s.chip.standby = false → Answers (exec (.conversionDone i nv) s) fun t =>
        t.chip.word (cnvK i (0x804 + 8 * q.entry)) = codeData q.ent (codeOf q.ent nv).c) ∧
    (s.chip.acts CNV i = true → s.chip.pageOn CNV i = true → s.chip.filtering i = true → s.chip.running = true →
      ((s.chip.cv i).cur.isSome = true → Answers (exec (.filterRoundStart i) s) fun t =>
        (t.chip.cv i).again = true ∧ (t.chip.cv i).cur = (s.chip.cv i).cur ∧ t.chip.words = s.chip.words) ∧
      ((s.chip.cv i).cur = none → (s.chip.cv i).round = [] → Answers (exec (.filterRoundStart i) s) fun t =>
        (t.chip.cv i).cur.map (fun q => (q.entry, q.seq)) = (s.chip.roundOf i).head?.map (fun e => (e, none)) ∧
        (t.chip.cv i).round = (s.chip.roundOf i).drop 1 ∧ t.chip.bit (cnvK i 0x114) 26 = s.chip.paceShort i)) ∧
    (s.chip.takes m (cnvK i 0x100) false = true → Answers (exec (.cnvModeWrite m i d) s) fun t =>
      t.chip.word (cnvK i 0x100) = (d &&& 0x8000_0000#32) ∧ t.chip.resp.status = .done) ∧
    (∀ e, e < 32 → s.chip.takes m (cnvK i (0x180 + 4 * e)) false = true → getBits d 24 6 / 32 = i / 2 →
      (d.getLsbD 23 = true → getBits d 24 6 % 2 = 0) → getBits d 20 3 ≤ 4 → 4 ≤ getBits d 0 10 →
      Answers (exec (.cnvEntryWrite m i e d) s) fun t => t.chip.word (cnvK i (0x180 + 4 * e)) = (d &&& 0xBFFC_03FF#32)) ∧
    (∀ q, q < 4 → s.chip.takes m (cnvK i (0x120 + 8 * q)) false = true → s.chip.bit (cnvK i (0x120 + 8 * q)) 31 = false →
      d.getLsbD 31 = false ∨ seqCode (d &&& 0xFFF0_7C1F#32) = 0 →
      Answers (exec (.cnvSeqCfgWrite m i q d) s) fun t => t.chip.word (cnvK i (0x120 + 8 * q)) = (d &&& 0xFFF0_7C1F#32)) ∧
    (∀ e, e < 32 → s.chip.gives m (cnvK i (0x800 + 8 * e)) = true → Answers (exec (.cnvResultRead m i e 4 false) s) fun t =>
      t.chip.resp = { status := .done, data := [(s.chip.readWords m (cnvK i (0x800 + 8 * e))).getD 0 0] } ∧
      t.chip.stampOf (viewKey m (cnvK i 0x300)) = tab 0 s.chip.stamps (cnvK i (0x800 + 8 * e)) ∧ ∀ k, k < 2 ^ 25 → t.chip.word k = s.chip.word k)

/-- The timeout of the oldest waiting result, once the counter has reached its stamp plus SKEW plus 200 ns, takes it from the
list, sets FAIL and MISSING and counts one consecutive failure; CNV_PLAUS_CLR releases FAULT and the count of the units
written as 1 that do not fail at present; LIM (with at least one failure) and SUCC of a disabled unit are written.
(spec/10_converters.md R331, spec/10_converters.md R332, spec/10_converters.md R333, spec/10_converters.md R334,
spec/10_converters.md R336) -/
def Obligations.Plausibility : Prop :=
  ∀ (s : State) (m k : Nat) (d : Word), k < 16 → s.settled = true →
    (∀ w r, s.chip.acts CNV 4 = true → s.chip.pageOn CNV 4 = true → s.chip.plWait k = w :: r →
      w.stamp.fine + (s.chip.fld (plK k 4) 0 16 + 200) * 2 ^ 16 ≤ s.chip.now.fine →
      Answers (exec (.plausPartnerTimeout k) s) fun t =>
        t.chip.plWait k = r ∧ t.chip.bit (plK k 0xC) 30 = true ∧ t.chip.bit (plK k 0xC) 29 = true ∧
        t.chip.fld (plK k 0xC) 16 8 = min 255 (s.chip.fld (plK k 0xC) 16 8 + 1)) ∧
    (s.chip.takes m (cnvK 4 0x200) false = true → d.getLsbD k = true → s.chip.bit (plK k 0xC) 30 = false →
      Answers (exec (.plausClear m d) s) fun t => t.chip.bit (plK k 0xC) 31 = false ∧ t.chip.fld (plK k 0xC) 16 8 = 0) ∧
    (s.chip.bit (plK k 0) 31 = false →
      (s.chip.takes m (plK k 4) false = true → getBits d 24 8 ≠ 0 → Answers (exec (.plausCfgWrite m k 1 d) s) fun t =>
        t.chip.word (plK k 4) = (d &&& 0xFF00_FFFF#32) ∧ t.chip.resp.status = .done) ∧
      (s.chip.takes m (plK k 8) false = true → Answers (exec (.plausCfgWrite m k 2 d) s) fun t =>
        t.chip.word (plK k 8) = (d &&& 0x1_FFFF#32) ∧ t.chip.resp.status = .done))

/-- Loss of TREF sets TREF_LOST and leaves TRACK or LOCKED for HOLDOVER, and its return clears the flag without a step; three
Sync intervals without an offset lead from ACQUIRE to FREE and from TRACK or LOCKED to HOLDOVER; a due step counts the epoch
on, sets the step flag and leaves TRACK; STEP_GO with the software servo in ACQUIRE makes the prepared step due, and in any
other state sets the error flag; REACQ leads to ACQUIRE; in LOCKED the backup clock takes the time. (spec/11_timebase.md
R339, spec/11_timebase.md R340, spec/11_timebase.md R341, spec/11_timebase.md R343, spec/11_timebase.md R344,
spec/11_timebase.md R347) -/
def Obligations.TimebaseServo : Prop :=
  ∀ (s : State) (m : Nat), s.settled = true →
    (s.chip.acts TIM 0 = true →
      (s.chip.bit aTimStat 28 = false → Answers (exec .trefLoss s) fun t =>
        t.chip.bit aTimStat 28 = true ∧ t.chip.servo = (if s.chip.servo = 2 ∨ s.chip.servo = 3 then 4 else s.chip.servo) ∧ t.chip.tim.ns = s.chip.tim.ns) ∧
      (Answers (exec .trefReturn s) fun t => t.chip.bit aTimStat 28 = false ∧ t.chip.tim = s.chip.tim) ∧
      (Answers (exec .syncTimeout s) fun t =>
        t.chip.servo = (if s.chip.servo = 1 then 0 else if s.chip.servo = 2 ∨ s.chip.servo = 3 then 4 else s.chip.servo)) ∧
      (∀ q, s.chip.tim.stepDue = some q → Answers (exec .timeStepApply s) fun t =>
        t.chip.servo = 2 ∧ t.chip.fld aTimStat 16 8 = (s.chip.fld aTimStat 16 8 + 1) % 256 ∧ t.chip.bit aTimStat 2 = true ∧ t.chip.tim.stepDue = none) ∧
      (s.chip.servo = 3 → Answers (exec .backupClockWrite s) fun t => t.chip.tim.backup = some s.chip.tim.ns ∧ t.chip.words = s.chip.words)) ∧
    (s.chip.takes m (timA 0x130) true = true →
      (s.chip.bit (timA 0x130) 31 = false → s.chip.softServo = true → s.chip.servo = 1 → Answers (exec (.timStepGo m) s) fun t =>
        t.chip.tim.stepDue.map (·.theta) = some (-(signed 80 (s.chip.wide (timA 0x154) 3 / 65536))) ∧ t.chip.bit aTimStat 5 = false) ∧
      (s.chip.bit (timA 0x130) 31 = false → s.chip.servo ≠ 1 → Answers (exec (.timStepGo m) s) fun t =>
        t.chip.tim.stepDue = s.chip.tim.stepDue ∧ t.chip.bit aTimStat 5 = true) ∧
      (s.chip.bit (timA 0x130) 30 = false → 2 ≤ s.chip.servo → s.chip.servo ≤ 4 → Answers (exec (.timReacq m) s) fun t =>
        t.chip.servo = 1 ∧ t.chip.resp.status = .done))

/-- On an enabled port in FLOW or TRICKLE, the message leaving through the open gate of PTP_QUEUE, a two-step Sync of the domain
is counted and held with its ingress time, a Follow_Up completes it, and its time-out counts; a tagged message is discarded
and counted; a master port with a time source sends Sync; a peer delay request holds its egress time, one received is
answered with the residence time, a response leaves D by R351, and its time-out clears ASCAPABLE; the port configuration is
written where it makes no second slave. (spec/11_timebase.md R348, spec/11_timebase.md R349, spec/11_timebase.md R350,
spec/11_timebase.md R351, spec/11_timebase.md R352) -/
def Obligations.PtpPorts : Prop :=
  ∀ (s : State) (m p : Nat), p < 4 → s.settled = true →
    (s.chip.acts TIM (1 + p) = true → s.chip.portUp p = true → s.chip.bit (netK p 0x100) 31 = true → s.chip.modState ≤ 1 →
      s.chip.ptpHas p = true → s.chip.bit (ptpK p 0x100) 31 = true →
      (∀ dom t1 corr, s.chip.ptpRole p ≠ 0 → dom = s.chip.fld (ptpK p 0x100) 16 7 →
        Answers (exec (.ptpSyncRx p dom t1 corr true false) s) fun t =>
          (t.chip.ptp p).sync = some { t2 := s.chip.ingress p, corr := corr } ∧
          t.chip.nat (ptpK p 0x034) = min (2 ^ 32 - 1) (s.chip.nat (ptpK p 0x034) + 1) ∧ t.chip.bit (ptpK p 0x10C) 29 = true) ∧
      (∀ dom t1 corr two, s.chip.ptpRole p ≠ 0 → Answers (exec (.ptpSyncRx p dom t1 corr two true) s) fun t =>
        t.chip.nat (ptpK p 0x044) = min (2 ^ 32 - 1) (s.chip.nat (ptpK p 0x044) + 1) ∧ t.chip.tim = s.chip.tim) ∧
      (∀ q t1 corr, (s.chip.ptp p).sync = some q → s.chip.ptpRole p = 1 → Answers (exec (.ptpFollowUpRx p t1 corr) s) fun t =>
        (t.chip.ptp p).sync = none ∧ t.chip.stampOf (ptpK p 0x120) = s.chip.stamp16 (t1 * 65536)) ∧
      ((s.chip.ptp p).sync.isSome = true → Answers (exec (.followUpTimeout p) s) fun t =>
        (t.chip.ptp p).sync = none ∧ t.chip.nat (ptpK p 0x040) = min (2 ^ 32 - 1) (s.chip.nat (ptpK p 0x040) + 1)) ∧
      (s.chip.ptpRole p = 1 → 2 ≤ s.chip.servo ∨ s.chip.timSrc = 1 → s.chip.canLeave p (s.chip.fld (netK p 0x100) 21 3) 90 = true → Answers (exec (.ptpSyncTx p) s) fun t =>
        t.chip.outs = s.chip.outs ++ [.ptpSync p (s.chip.egress p / 65536 / 10 ^ 9) (s.chip.egress p / 65536 % 10 ^ 9) (s.chip.egress p % 65536) s.chip.rate] ∧
        t.chip.nat (ptpK p 0x038) = min (2 ^ 32 - 1) (s.chip.nat (ptpK p 0x038) + 1)) ∧
      (s.chip.canLeave p (s.chip.fld (netK p 0x100) 21 3) 68 = true → Answers (exec (.pdelayReqTx p) s) fun t =>
        (t.chip.ptp p).pdT1 = some (s.chip.egress p) ∧ t.chip.outs = s.chip.outs ++ [.pdelayReq p]) ∧
      (∀ stay : Nat, Answers (exec (.pdelayReqRx p stay false) s) fun t =>
        t.chip.outs = s.chip.outs ++ [.pdelayResp p (s.chip.egress p + stay * 65536 - s.chip.ingress p)]) ∧
      (∀ t1 turn, (s.chip.ptp p).pdT1 = some t1 → Answers (exec (.pdelayRespRx p turn none) s) fun t =>
        t.chip.u64 (ptpK p 0x110) = unsigned 64 (ratRound
          (((s.chip.ingress p - t1 : Int) * (1 + (signed 32 (s.chip.nat (ptpK p 0x118)) : Rat) / 2 ^ 41) - turn) / 2)) ∧ (t.chip.ptp p).pdT1 = none) ∧
      ((s.chip.ptp p).pdT1.isSome = true → Answers (exec (.pdelayRespTimeout p) s) fun t =>
        (t.chip.ptp p).pdT1 = none ∧ t.chip.bit (ptpK p 0x10C) 31 = false ∧
        t.chip.nat (ptpK p 0x03C) = min (2 ^ 32 - 1) (s.chip.nat (ptpK p 0x03C) + 1))) ∧
    (∀ d, s.chip.takes m (ptpK p 0x100) false = true → getBits d 29 2 ≠ 2 → Answers (exec (.ptpCfgWrite m p d) s) fun t =>
      t.chip.word (ptpK p 0x100) = (d &&& 0xE07F_FFFF#32) ∧ t.chip.resp.status = .done)

/-- An enable of a disabled trigger with a legal period arms it at the first grid instant at least 2 µs away, and a disable
disarms it; in one configuration a due occurrence counts, moves to the next grid instant and raises its line; TIM_PLS_AT is
written and arms a one-shot where at least 100 ns remain; a one-shot reached is used up and shown; a selected capture edge
joins a FIFO that has room, and one that meets a full FIFO is lost; a pop takes the oldest entry. (spec/11_timebase.md R353,
spec/11_timebase.md R354, spec/11_timebase.md R356, spec/11_timebase.md R357, spec/11_timebase.md R359) -/
def Obligations.TriggersAndCaptures : Prop :=
  (let r := State.ready [(trgK 255 0, 2 ^ 31), (trgK 255 1, 1000)]
   let c : Chip := { r.chip with tim := { r.chip.tim with ns := 5000 } }
   let s5000 := c.stamp16 (5000 * 65536)
   Answers (exec (.triggerOccurrence 255) { r with chip := c.setTrig 255 { armed := true, next := 5000 * 65536 } }) fun t =>
     t.chip.nat (trgK 255 6) = 1 ∧ (t.chip.trig 255).next = 6000 * 65536 ∧ t.chip.strobes = [(255, s5000)]) ∧
  ∀ (s : State) (m n : Nat) (d : Word), n < 256 → s.settled = true →
    (s.chip.takes m (trgK n 0) false = true →
      (s.chip.bit (trgK n 0) 31 = false → s.chip.trigPBad n = false → Answers (exec (.triggerEnable m n d) s) fun t =>
        t.chip.word (trgK n 0) = ((d ||| 0x8000_0000#32) &&& 0xE001_FFFF#32) ∧ (t.chip.trig n).armed = true ∧
        (t.chip.trig n).next = s.chip.gridFrom n (s.chip.t16 + 2000 * 65536) ∧ t.chip.bit (trgK n 7) 31 = true) ∧
      (s.chip.bit (trgK n 0) 31 = true → Answers (exec (.triggerDisable m n d) s) fun t =>
        t.chip.word (trgK n 0) = (d &&& 0x6001_FFFF#32) ∧ (t.chip.trig n).armed = false ∧ t.chip.bit (trgK n 7) 31 = false)) ∧
    (n < 16 →
      (∀ off, off ∈ [0, 4] → s.chip.takes m (plsA (0x108 + 32 * n + off)) false = true → Answers (exec (.pulseAtWrite m n off [d]) s) fun t =>
        t.chip.word (plsA (0x108 + 32 * n + off)) = d ∧
        (s.chip.fld (plsA (0x100 + 32 * n)) 30 2 = 1 →
          natBit t.chip.tim.plsArmed n = decide (s.chip.t16 + 100 * 65536 ≤ t.chip.u64 (plsA (0x108 + 32 * n)) * 65536))) ∧
      (s.chip.acts TIM 5 = true → natBit s.chip.tim.plsArmed n = true → s.chip.u64 (plsA (0x108 + 32 * n)) ≤ s.chip.tim.ns →
        2 ≤ s.chip.nat (plsA (0x104 + 32 * n)) → s.chip.fld (plsA (0x100 + 32 * n)) 30 2 = 1 →
        Answers (exec (.pulseAtReached n) s) fun t => natBit t.chip.tim.plsArmed n = false ∧ t.chip.bit (plsA (0x110 + 32 * n)) 31 = true) ∧
      (∀ rising, s.chip.acts TIM 5 = true → s.chip.running = true → s.chip.bit (plsA (0x400 + 16 * n)) 31 = true →
        s.chip.bit (plsA (0x400 + 16 * n)) (if rising then 29 else 30) = true → Answers (exec (.captureEdge n rising) s) fun t =>
          if (s.chip.capIn n).fifo.length < 16 then
            (t.chip.capIn n).fifo.dropLast = (s.chip.capIn n).fifo ∧ (t.chip.capIn n).fifo.getLast?.map (·.rising) = some rising
          else (t.chip.capIn n).fifo = (s.chip.capIn n).fifo ∧ (t.chip.capIn n).lost = true) ∧
      (s.chip.gives m (plsA (0x500 + 16 * n)) = true → Answers (exec (.capturePop m n 4) s) fun t =>
        (t.chip.capIn n).fifo = (s.chip.capIn n).fifo.drop 1 ∧ t.chip.resp = { status := .done, data := [(s.chip.capturePop n).1.getD 0 0] }))

/-- At an enabled port a frame with a bad FCS is counted and dropped and a Gikai frame for the port joins the receive queue; a
queued frame of a wrong version is discarded and counted; in one configuration a matching frame with a D section is accepted:
the descriptor is RUNNING, counts it and its RX entry takes the value; a deadline missed with no frame waiting counts; the
link state and the host rings follow their commands, and the end of a host frame that its gate lets leave moves HEAD on.
(spec/12_plant_network.md R364, spec/12_plant_network.md R365, spec/12_plant_network.md R384, spec/12_plant_network.md R385,
spec/12_plant_network.md R386, spec/12_plant_network.md R388) -/
def Obligations.PlantFrames : Prop :=
  (let r := State.ready [(netA 8, 1), (netA 0x100, 2 ^ 31), (ndK 0 0, 0x8100_0000), (ndK 0 1, 7 * 2 ^ 16), (ndK 0 4, 1), (ndK 0 11, 2), (ndK 0 13, 1),
      (mapK 0 0, 0x9000_0005), (nsK 0 0, 2 ^ 28)]
   let b : List Byte := [0, 0, 0, 0, 0, 0] ++ [0, 0, 0, 0, 0, 1] ++ [0x89, 0x44] ++ [0x18, 2, 0, 7, 0, 0, 0, 9] ++
      ([2, 0, 0, 2] ++ List.replicate 12 0 ++ [0x12, 0x34])
   Answers (exec (.cyclicFrameRx 0) { r with chip := { r.chip with net := { r.chip.net with rxq := [{ port := 0, bytes := b, stamp := 0 }] } } }) fun t =>
     t.chip.nstate 0 = 2 ∧ t.chip.nat (nsK 0 4) = 1 ∧ t.chip.nat (nsK 0 1) = 9 ∧ t.chip.resData (rxEnt 5) = 0x1234 ∧ t.chip.net.rxq = []) ∧
  ∀ (s : State) (m p : Nat), p < 4 → s.settled = true →
    (s.chip.portUp p = true → s.chip.modState ≤ 1 → pageExists s.chip.part NET p = true →
      (∀ bytes rr, s.chip.bit (netK p 0x100) 31 = true → bytes.length + 4 ≤ 1536 →
        (Answers (exec (.ethFrameRx p bytes false rr) s) fun t =>
          t.chip.nat (netK p 0x034) = min (2 ^ 32 - 1) (s.chip.nat (netK p 0x034) + 1) ∧ t.chip.net = s.chip.net ∧ t.dram = s.dram) ∧
        (beNat (bytes.take 6) = s.chip.mac p → (afterType bytes).1 = s.chip.nat (netA 0x104) → (afterType bytes).1 ≠ 0x8808 →
          s.chip.bit (netK p 0x100) 24 = true → s.chip.cycRuns = true →
          Answers (exec (.ethFrameRx p bytes true rr) s) fun t =>
            t.chip.net.rxq = s.chip.net.rxq ++ [{ port := p, bytes := bytes, stamp := s.chip.now }] ∧ t.chip.words = s.chip.words)) ∧
      (∀ up an, Answers (exec (.netLinkChange p up an) s) fun t =>
        t.chip.bit (netK p 0x104) 31 = up ∧ t.chip.bit (netK p 0x104) 30 = an) ∧
      (∀ q, q < 8 → s.chip.canLeave p q (s.ringNext p q) = true → 16 ≤ s.chip.fld (ringK p (some q) 8) 0 13 →
        s.chip.fld (ringK p (some q) 0xC) 16 16 ≠ s.chip.fld (ringK p (some q) 0xC) 0 16 →
        ∀ rr, Answers (exec (.hostFrameTxDone p q rr) s) fun t =>
          t.chip.fld (ringK p (some q) 0xC) 16 16 = (s.chip.fld (ringK p (some q) 0xC) 16 16 + 1) % s.chip.fld (ringK p (some q) 8) 0 13)) ∧
    (∀ d q, q < 8 →
      (s.chip.takes m (ringK p (some q) 0xC) false = true → Answers (exec (.txRingTailWrite m p q d) s) fun t =>
        t.chip.fld (ringK p (some q) 0xC) 0 16 = getBits d 0 16 ∧ t.chip.fld (ringK p (some q) 0xC) 16 16 = s.chip.fld (ringK p (some q) 0xC) 16 16) ∧
      (s.chip.takes m (ringK p none 0xC) false = true → Answers (exec (.rxRingTailWrite m p d) s) fun t =>
        t.chip.fld (ringK p none 0xC) 0 16 = getBits d 0 16 ∧ t.chip.fld (ringK p none 0xC) 16 16 = s.chip.fld (ringK p none 0xC) 16 16)) ∧
    (s.chip.acts NET 127 = true → s.chip.cycRuns = true →
      (∀ f r hops, s.chip.net.rxq = f :: r → beNat ((afterType f.bytes).2.take 1) / 16 ≠ 1 → hops ≤ 3 ∨ s.chip.rxControl = false →
        Answers (exec (.cyclicFrameRx hops) s) fun t =>
          t.chip.net.rxq = r ∧ t.chip.nat (netA 0x03C) = min (2 ^ 32 - 1) (s.chip.nat (netA 0x03C) + 1)) ∧
      (∀ d, d < 4096 → s.chip.net.rxq = [] → s.chip.nvalid d = true → (s.chip.ndesc d).begun = true → (s.chip.ndesc d).missed = false → (s.chip.ndesc d).got = false →
        2 ≤ s.chip.nstate d → s.chip.fld (ndK d 9) 0 29 ≠ 0 → (s.chip.ndesc d).start + s.chip.fld (ndK d 9) 0 29 ≤ s.chip.nowNs →
        Answers (exec (.rxDeadline d) s) fun t =>
          (t.chip.ndesc d).missed = true ∧ t.chip.fld (nsK d 0) 0 8 = min 255 (s.chip.fld (nsK d 0) 0 8 + 1)))

/-- At its send instant a descriptor's frame is sent for this cycle; a frame still waiting at the end of its partner cycle is
dropped and counted; one blocked by its gates for a list cycle is dropped; the expiry of a gate-list entry puts the gates of
the entry that the counter has reached into force; an accepted swap waits for its base instant, a refused one shows its
reason, and at the instant the banks change; NET_TX_PUT stores the value; cyclic exchange is enabled on a legal trigger; an
MDIO command leaves and its end shows the data. (spec/12_plant_network.md R367, spec/12_plant_network.md R379,
spec/12_plant_network.md R380, spec/12_plant_network.md R382, spec/12_plant_network.md R383, spec/12_plant_network.md R390,
spec/12_plant_network.md R391) -/
def Obligations.PlantSending : Prop :=
  ∀ (s : State) (m : Nat), s.settled = true →
    (∀ d, s.chip.acts NET 127 = true → d < 4096 →
      (∀ bad, s.chip.nvalid d = true → s.chip.cycRuns = true → s.chip.sendsCyclic = true → s.chip.bit (netK (s.chip.fld (ndK d 0) 28 2) 0x100) 24 = true →
        s.chip.sendDue d = true → Answers (exec (.cyclicFrameTx d bad) s) fun t => (t.chip.ndesc d).sent = true ∧ t.chip.sendDue d = false) ∧
      ((s.chip.net.egress.any fun f => f.desc = d) = true → (s.chip.ndesc d).start + s.chip.partnerLen d ≤ s.chip.nowNs →
        Answers (exec (.txFrameDrop d) s) fun t =>
        (t.chip.net.egress.any fun f => f.desc = d) = false ∧ t.chip.fld (nsK d 9) 0 16 = min 65535 (s.chip.fld (nsK d 9) 0 16 + 1) ∧
        t.chip.nat (netA 0x040) = min (2 ^ 32 - 1) (s.chip.nat (netA 0x040) + 1))) ∧
    (∀ p, p < 4 → s.chip.portUp p = true →
      (∀ q f, s.chip.bit (netK p 0x110) 31 = true → (s.chip.net.egress.find? fun f => f.port = p && f.queue = q) = some f → ∀ rr, Answers (exec (.gateDrop p q rr) s) fun t =>
        t.chip.net.egress = s.chip.net.egress.erase f ∧ t.chip.nat (netK p 0x040) = min (2 ^ 32 - 1) (s.chip.nat (netK p 0x040) + 1)) ∧
      (s.chip.bit (netK p 0x110) 31 = true → Answers (exec (.gclEntryExpiry p) s) fun t =>
        (t.chip.gcl p).idx = (s.chip.gclAt p).1 ∧ (t.chip.gcl p).elapsed = (s.chip.gclAt p).2 ∧
        t.chip.gates p = s.chip.fld (twAddr NET (p * 0x2000 + b2n (s.chip.bit (netK p 0x104) 29) * 0x1000 + 4 * (s.chip.gclAt p).1)) 24 8) ∧
      (s.chip.bit (netK p 0x104) 28 = true → (s.chip.gcl p).swapAt ≤ s.chip.nowNs → Answers (exec (.gclSwapEffect p) s) fun t =>
        t.chip.bit (netK p 0x104) 28 = false ∧ t.chip.bit (netK p 0x104) 29 = !s.chip.bit (netK p 0x104) 29 ∧
        (t.chip.gcl p).len = (s.chip.gcl p).swapLen)) ∧
    (∀ p d, p < 4 → s.chip.takes m (netK p 0x110) true = true → d.getLsbD 31 = false → d.getLsbD 30 = true →
      Answers (exec (.gclSwap m p d) s) fun t =>
        t.chip.word (netK p 0x110) = (d &&& 0x8000_07FF#32) ∧
        if s.chip.gclWhy p (getBits d 0 11) = 0 then t.chip.bit (netK p 0x104) 28 = true
        else t.chip.fld (netK p 0x104) 24 4 = s.chip.gclWhy p (getBits d 0 11) ∧ t.chip.bit (netK p 0x104) 28 = s.chip.bit (netK p 0x104) 28) ∧
    (∀ e v, m < 16 → e < 8192 → s.chip.takes m (netA 0x108) false = true → s.chip.pageOwner NET (4 + e / 128) = m →
      Answers (exec (.netTxPut m e v) s) fun t => t.chip.resData (txEnt e) = v ∧ t.chip.txFresh e = true ∧ t.chip.resp.status = .done) ∧
    (∀ d, s.chip.takes m (netA 0x100) true = true → s.chip.running = true → s.chip.bit (netA 0x100) 31 = false → s.chip.maintenance = false → d.getLsbD 31 = true →
      s.chip.bit (trgK (getBits d 0 8) 0) 31 = true → s.chip.nat (trgK (getBits d 0 8) 1) = 31250 * 2 ^ getBits d 16 3 →
      s.chip.fld (trgK (getBits d 0 8) 2) 0 16 = 0 → Answers (exec (.cycEnable m d) s) fun t =>
        t.chip.word (netA 0x100) = (d &&& 0x8007_00FF#32) ∧ t.chip.bit (netA 0x110) 31 = true) ∧
    (∀ d, s.chip.takes m (netA 0x120) false = true → s.chip.bit (netA 0x120) 31 = false → d.getLsbD 31 = true →
      Answers (exec (.mdioFrameStart m d) s) fun t =>
        t.chip.bit (netA 0x120) 31 = true ∧ ∃ r, t.chip.outs = s.chip.outs ++ .mdio d (s.chip.fld (netA 0x124) 0 16) :: r) ∧
    (∀ x no, s.chip.acts NET 127 = true → s.chip.bit (netA 0x120) 31 = true → s.chip.net.mdio.getLsbD 30 = false → getBits s.chip.net.mdio 28 2 = 2 →
      Answers (exec (.mdioDone x no) s) fun t =>
        t.chip.bit (netA 0x120) 31 = false ∧ t.chip.fld (netA 0x124) 0 16 = x % 65536 ∧ t.chip.bit (netA 0x120) 27 = no)

/-- On the bus, with REC at most 127, a remote frame and a frame that passes no filter are counted; one that passes object o sets
its NEWDAT and identifier and leaves the first payload word in DATA_0 and in the result word; an error while sending adds 8
to TEC and shows its kind; 11 recessive bits lead to the state of the counters; recovery leads to ACTIVE with counters 0; a
dominant level of 2 µs wakes a sleeping controller that may wake; a result read captures the object. (spec/13_message_bus.md
R400, spec/13_message_bus.md R402, spec/13_message_bus.md R403, spec/13_message_bus.md R407, spec/13_message_bus.md R408) -/
def Obligations.CanReception : Prop :=
  ∀ (s : State) (m n : Nat), n < 4 → s.settled = true →
    (s.chip.pwr.held = none → s.chip.pageOn BUS n = true → s.chip.resetting BUS n = false → s.chip.frozen BUS n = false → s.chip.modState ≤ 3 →
      (∀ f age, s.chip.canOnBus n = true → s.chip.rec' n ≤ 127 →
        (f.rtr = true → Answers (exec (.canFrameRx n f age) s) fun t =>
          t.chip.nat (canK n 0x038) = min (2 ^ 32 - 1) (s.chip.nat (canK n 0x038) + 1)) ∧
        (f.rtr = false → s.chip.canMatch n f = none → Answers (exec (.canFrameRx n f age) s) fun t =>
          t.chip.nat (canK n 0x034) = min (2 ^ 32 - 1) (s.chip.nat (canK n 0x034) + 1)) ∧
        (∀ o, f.rtr = false → s.chip.canMatch n f = some o → 4 ≤ f.bytes.length → Answers (exec (.canFrameRx n f age) s) fun t =>
          t.chip.bit (objK n o 0xC) 31 = true ∧ t.chip.fld (objK n o 0xC) 0 29 = f.id % 2 ^ 29 ∧
          t.chip.nat (objK n o 0x20) = bytesNat (f.bytes.take 4) ∧ t.chip.resData (canResK n o) = t.chip.word (objK n o 0x20))) ∧
      (s.chip.canOnBus n = true → s.chip.canListens n = false → Answers (exec (.canErrorDetected n 1 true false 0) s) fun t =>
        t.chip.tec n = min 511 (s.chip.tec n + 8) ∧ t.chip.fld (canK n 0x108) 24 3 = 1) ∧
      (s.chip.canState n = 4 → s.chip.bit (canK n 0x100) 29 = true → Answers (exec (.busOffRecovery n) s) fun t =>
        t.chip.canState n = 2 ∧ t.chip.tec n = 0 ∧ t.chip.rec' n = 0) ∧
      (s.chip.canState n = 1 → Answers (exec (.canBusIntegrated n) s) fun t =>
        t.chip.canState n = canByCounters (s.chip.tec n) (s.chip.rec' n))) ∧
    (∀ width, s.chip.pwr.held = none → s.chip.modState ≤ 1 → s.chip.canState n = 5 → s.chip.bit (canK n 0x100) 27 = true →
      s.chip.bit (canK n 0x100) 26 = false → 2000 ≤ width → Answers (exec (.canWakeEvent n width none) s) fun t =>
        t.chip.canState n = 1 ∧ t.chip.bit (canK n PG_EVT_RAW) 7 = true) ∧
    (∀ o, o < 128 → s.chip.gives m (canResK n o) = true → Answers (exec (.canResultRead m n o 4 false) s) fun t =>
      t.chip.resp = { status := .done, data := [(s.chip.readWords m (canResK n o)).getD 0 0] } ∧
      tab [] t.chip.can.caps (m * 512 + n * 128 + o) = canCapOffs.map fun r => s.chip.word (objK n o r))

/-- A request of an enabled send object not on the wire, or a write of its DATA_0 with that trigger, holds a snapshot of its
words; an abort cancels what has not started; at bus idle the winner of arbitration takes the wire and its frame leaves; a
success counts, lowers TEC and frees the wire, a lost arbitration keeps the request; SLEEP, WAKE, RECOVER and ABORT_ALL do
what R410 says; an enable without a fault leads to INTEGRATING. (spec/13_message_bus.md R397, spec/13_message_bus.md R401,
spec/13_message_bus.md R404, spec/13_message_bus.md R405, spec/13_message_bus.md R408, spec/13_message_bus.md R410) -/
def Obligations.CanTransmission : Prop :=
  ∀ (s : State) (m n o : Nat), n < 4 → o < 128 → s.settled = true →
    ((s.chip.canObj n o).next = none → (s.chip.canCtl n).wire ≠ some o →
      (s.chip.takes m (objK n o 0x1C) false = true →
        (s.chip.bit (objK n o 0) 31 = true → s.chip.bit (objK n o 0) 30 = true → Answers (exec (.canTxRequest m n o false) s) fun t =>
          (t.chip.canObj n o).cur = some { cfg := s.chip.word (objK n o 0), id := s.chip.word (objK n o 4),
                                           data := (List.range 16).map fun i => s.chip.word (objK n o (0x20 + 4 * i)) } ∧
          t.chip.bit (objK n o 0xC) 30 = true) ∧
        Answers (exec (.canTxAbort m n o) s) fun t => (t.chip.canObj n o).cur = none ∧ t.chip.bit (objK n o 0xC) 30 = false) ∧
      (∀ d, s.chip.takes m (objK n o 0x20) false = true → s.chip.bit (objK n o 0) 31 = true → s.chip.bit (objK n o 0) 30 = true →
        s.chip.fld (objK n o 0) 25 2 = 1 → Answers (exec (.canData0Write m n o [d] false) s) fun t =>
          t.chip.word (objK n o 0x20) = d ∧ (t.chip.canObj n o).cur.map (fun q => q.data.headD 0) = some d)) ∧
    (s.chip.pwr.held = none → s.chip.pageOn BUS n = true → s.chip.resetting BUS n = false → s.chip.frozen BUS n = false → s.chip.modState ≤ 3 →
      (∀ q, (s.chip.canCtl n).wire = none → (s.chip.canCtl n).sleepReq = false → s.chip.canOnBus n = true → s.chip.canListens n = false →
        canWinner (s.chip.canWaiting n) = some (o, q) → Answers (exec (.canTxStart n) s) fun t =>
          (t.chip.canCtl n).wire = some o ∧ t.chip.bit (objK n o 0xC) 29 = true ∧
          t.chip.outs = s.chip.outs ++ [.can n (q.frame (s.chip.canState n = 3))]) ∧
      (∀ q delay, (s.chip.canCtl n).wire = some o → (s.chip.canObj n o).cur = some q →
        (q.cfg.getLsbD 28 = false → Answers (exec (.canTxDone n .success delay) s) fun t =>
          (t.chip.canCtl n).wire = none ∧ (t.chip.canObj n o).cur = (s.chip.canObj n o).next ∧ t.chip.tec n = s.chip.tec n - 1 ∧
          t.chip.fld (objK n o 0x6C) 0 16 = min 65535 (s.chip.fld (objK n o 0x6C) 0 16 + 1)) ∧
        ((s.chip.canObj n o).aborted = false → Answers (exec (.canTxDone n .arbitrationLost delay) s) fun t =>
          (t.chip.canCtl n).wire = none ∧ (t.chip.canObj n o).cur = some q ∧ t.chip.bit (objK n o 0xC) 29 = false))) ∧
    (s.chip.takes m (canK n 0x104) false = true →
      (s.chip.canState n ≠ 0 → s.chip.canState n ≠ 5 → (s.chip.canCtl n).wire = none → Answers (exec (.canSleep m n true) s) fun t =>
        t.chip.canState n = 5 ∧ t.chip.resp.status = .done) ∧
      (s.chip.canState n = 5 → Answers (exec (.canWake m n) s) fun t => t.chip.canState n = 1) ∧
      (s.chip.canState n = 4 → Answers (exec (.canRecover m n) s) fun t => (t.chip.canCtl n).recovering = true) ∧
      Answers (exec (.canAbortAll m n) s) fun t => ∀ i, i < 128 → (s.chip.canCtl n).wire ≠ some i → (t.chip.canObj n i).cur = none) ∧
    (s.chip.takes m (canK n PG_CTL) true = true → s.chip.pageOn BUS n = false → s.chip.canCode n = 0 → s.chip.canState n ≠ 1 →
      Answers (exec (.pageEnable m BUS n 1) s) fun t => t.chip.pageOn BUS n = true ∧ t.chip.canState n = 1 ∧ t.chip.tec n = 0)

/-- While RUN, the oldest sample of a valid signal whose rank has d = 0 joins the queue, scaled and saturated, where the queue is
short enough; while not running it is discarded; a kept sample of a recorded signal leaves LAST and EMPTY = 0, however often
its record is read again; a quiet window counts and clears the accounts; the three commands queue with the partition's
registers and BUSY, and the only one ends with its code; EN = 1 with a directory inside DRAM starts, and the end of clearing
is shown. (spec/14_adit_directory.md R412, spec/14_adit_directory.md R415, spec/14_adit_directory.md R420,
spec/14_adit_directory.md R421, spec/14_adit_directory.md R437, spec/14_adit_directory.md R439) -/
def Obligations.AditRecords : Prop :=
  ∀ s : State, s.settled = true →
    (s.chip.pwr.held = none → s.chip.frozen ADT 0 = false →
      (∀ x r, s.chip.samples = x :: r →
        (s.chip.adtRuns = false → Answers (exec .adtSampleIntake s) fun t => t.chip.samples = r ∧ t.chip.words = s.chip.words) ∧
        (s.chip.adtRuns = true → x.sig ≠ 0 → x.sig ≤ maxSignal → s.chip.bit (dirK x.sig 0) 31 = false →
          s.chip.decOf (s.chip.fld (dirK x.sig 0) 27 2) = 0 → s.chip.adt.queue.length ≤ queueLimit (s.chip.fld (dirK x.sig 0) 27 2) →
          Answers (exec .adtSampleIntake s) fun t =>
            t.chip.adt.queue.map (fun q => (q.sig, q.v)) = s.chip.adt.queue.map (fun q => (q.sig, q.v)) ++
              [(x.sig, satS 32 (roundShift x.value (s.chip.fld (dirK x.sig 0) 20 6)))])) ∧
      (∀ q r, s.chip.adt.queue = q :: r → s.chip.bit (dirK q.sig 0) 31 = false → tab false s.chip.elemPoison (dirK q.sig 0) = false →
        ∀ rr, Answers (exec (.adtRecordUpdate rr) s) fun t =>
          t.chip.adt.queue = r ∧ t.chip.word (dirK q.sig 3) = BitVec.ofInt 32 q.v ∧ t.chip.bit (dirK q.sig 0) 12 = false)) ∧
    (s.chip.acts ADT 0 = true →
      (s.chip.adtRuns = true → (∀ a, a < 4 → (tab {} s.chip.adt.accts a).kept * 10 ≤ acctLimit a * 9) → s.chip.adt.quiet < 999 →
        Answers (exec .adtWindowEnd s) fun t => t.chip.adt.quiet = s.chip.adt.quiet + 1 ∧ t.chip.adt.accts = [] ∧ t.chip.word (adtA 0x110) = s.chip.word (adtA 0x110)) ∧
      (∀ q, s.chip.adt.cmds = [q] → q.p < 16 → Answers (exec .adtCmdDone s) fun t =>
        t.chip.adt.cmds = [] ∧ t.chip.fld (adtStatOf q.p) 24 4 = s.chip.adtCmdCode q ∧ t.chip.bit (adtStatOf q.p) 29 = false) ∧
      (s.chip.bit (adtA 0x104) 30 = true → Answers (exec .dirClearDone s) fun t =>
        t.chip.bit (adtA 0x104) 30 = false ∧ t.chip.bit (adtA PG_EVT_RAW) 5 = true)) ∧
    (∀ m, m < 16 → s.chip.takes m (adtA 0x118) false = true → s.chip.bit (adtStatOf m) 29 = false →
      let queued (op : Nat) (t : State) : Prop := t.chip.bit (adtStatOf m) 29 = true ∧ t.chip.adt.cmds = s.chip.adt.cmds ++
        [{ p := m, op := op, first := s.chip.fld (viewKey m (adtA 0x11C)) 0 25, count := s.chip.fld (viewKey m (adtA 0x120)) 0 26,
           arg := s.chip.fld (viewKey m (adtA 0x124)) 0 16 }]
      Answers (exec (.adtClearStats m) s) (queued 1) ∧ Answers (exec (.adtSetPolicy m) s) (queued 2) ∧
      Answers (exec (.adtSetAndClear m) s) (queued 3)) ∧
    (∀ m d, s.chip.takes m (adtA 0x100) true = true → s.chip.bit (adtA 0x100) 31 = false → d.getLsbD 31 = true →
      s.chip.u64 (adtA 0x108) + 2 ^ 31 ≤ s.chip.dramBytes → Answers (exec (.adtEnable m d) s) fun t =>
        t.chip.bit (adtA 0x100) 31 = true ∧ t.chip.adt.declared = true ∧ t.chip.bit (adtA 0x104) 31 = (s.chip.running && s.chip.pageOn ADT 0))

/-- The flush time-out closes the open block; the oldest closed block is written to its own bytes of DRAM and to no other byte,
and WR follows it; RD moves within RD to WR, and any other value is counted; EN = 1 of a legal ring enables the channel with
RD at WR, EN = 0 closes the open block; a disabled trigger unit takes its configuration and loses its arms; a read of a
fire's result leaves its stamp for the reader. (spec/14_adit_directory.md R425, spec/14_adit_directory.md R428,
spec/14_adit_directory.md R430, spec/14_adit_directory.md R431, spec/14_adit_directory.md R433, spec/14_adit_directory.md
R434) -/
def Obligations.AditStreams : Prop :=
  ∀ (s : State) (m ch : Nat), ch < 2 → s.settled = true →
    (∀ b, s.chip.acts ADT (1 + ch) = true → (s.chip.strm ch).block = some b → Answers (exec (.streamFlushTimeout ch) s) fun t =>
      (t.chip.strm ch).block = none ∧ (t.chip.strm ch).closed = (s.chip.strm ch).closed ++ [b]) ∧
    (∀ b r, s.chip.pwr.held = none → s.chip.frozen ADT (1 + ch) = false → (s.chip.strm ch).closed = b :: r →
      Answers (exec (.streamBlockWritten ch) s) fun t =>
        let bs := b.bytes ch (s.chip.u64 (pageAddr COR 0 0x120))
        (t.chip.strm ch).closed = r ∧ t.chip.u64 (strK ch 0x118) = (b.seq + 1) % 2 ^ 64 ∧
        ∀ a, dramByte t.dram a = if b.addr ≤ a ∧ a < b.addr + bs.length then bs.getD (a - b.addr) 0 else dramByte s.dram a) ∧
    (∀ lo hi, s.chip.takes m (strK ch 0x120) false = true → Answers (exec (.streamRdWrite m ch [lo, hi]) s) fun t =>
      let v := lo.toNat + 2 ^ 32 * hi.toNat
      if s.chip.u64 (strK ch 0x120) ≤ v ∧ v ≤ s.chip.u64 (strK ch 0x118) then t.chip.u64 (strK ch 0x120) = v
      else t.chip.u64 (strK ch 0x120) = s.chip.u64 (strK ch 0x120) ∧
        t.chip.nat (strK ch 0x03C) = min (2 ^ 32 - 1) (s.chip.nat (strK ch 0x03C) + 1)) ∧
    (∀ d, s.chip.takes m (strK ch 0x100) false = true →
      (s.chip.bit (strK ch 0x100) 31 = false → s.chip.strWhy ch = 0 → Answers (exec (.streamEnable m ch d) s) fun t =>
        t.chip.bit (strK ch 0x100) 31 = true ∧ t.chip.fld (strK ch 0x100) 12 4 = 0 ∧ t.chip.u64 (strK ch 0x120) = s.chip.u64 (strK ch 0x118)) ∧
      (s.chip.bit (strK ch 0x100) 31 = true → Answers (exec (.streamDisable m ch d) s) fun t =>
        t.chip.bit (strK ch 0x100) 31 = false ∧ (t.chip.strm ch).block = none)) ∧
    (∀ u d, u < 64 → s.chip.takes m (atrA (0x100 + 16 * u)) false = true → s.chip.bit (atrA (0x100 + 16 * u)) 31 = false →
      (d.getLsbD 31 = true → getBits d 29 2 ≠ 0 ∧ getBits d 0 25 ≠ 0) → Answers (exec (.adtTrgCfgWrite m u d) s) fun t =>
        t.chip.word (atrA (0x100 + 16 * u)) = d ∧ (d.getLsbD 31 = true → t.chip.fld (atrA (0x500 + 4 * u)) 28 3 = 0)) ∧
    (∀ u, u < 64 → s.chip.gives m (atrA (0x800 + 8 * u)) = true → Answers (exec (.adtTrgResultRead m u 4 false) s) fun t =>
      t.chip.resp = { status := .done, data := [(s.chip.readWords m (atrA (0x800 + 8 * u))).getD 0 0] } ∧
      t.chip.stampOf (viewKey m (atrA 0x700)) = tab 0 s.chip.stamps (atrA (0x800 + 8 * u)))

/-- While Tally runs, the oldest event joins a queue that has room, and is lost with QLOSS at a full one; a folded event of an
unlimited enabled code counts on, leaves its value and stamp as the last ones and the two sequence words equal and one
higher; a limited code without tokens counts a suppression alone; a refill adds one token below the burst; a flush that is
done shows its sequence number, and one that failed leaves the other slot, its own slot's header and trailer, and the number.
(spec/15_tally_recorder.md R443, spec/15_tally_recorder.md R444, spec/15_tally_recorder.md R446, spec/15_tally_recorder.md
R447, spec/15_tally_recorder.md R448, spec/15_tally_recorder.md R451, spec/15_tally_recorder.md R454) -/
def Obligations.TallyFolding : Prop :=
  ∀ s : State, s.settled = true →
    (s.chip.acts TLY 0 = true → s.chip.tlyRuns = true →
      (∀ e r, s.chip.tallyIn = e :: r →
        (s.chip.tly.queue.length < 4096 → Answers (exec .tallyEventIntake s) fun t =>
          t.chip.tallyIn = r ∧ t.chip.tly.queue = s.chip.tly.queue ++ [e] ∧ t.chip.words = s.chip.words) ∧
        (4096 ≤ s.chip.tly.queue.length → Answers (exec .tallyEventIntake s) fun t =>
          t.chip.tly.queue = s.chip.tly.queue ∧ t.chip.bit (tlyA 0x104) 28 = true ∧
          t.chip.nat (tlyA 0x034) = min (2 ^ 32 - 1) (s.chip.nat (tlyA 0x034) + 1))) ∧
      (∀ e r, s.chip.tly.queue = e :: r → e.code < 65536 → s.chip.bit (tlyCfgK e.code) 31 = true →
        (s.chip.fld (tlyCfgK e.code) 0 16 = 0 → Answers (exec .tallyEventFold s) fun t =>
          t.chip.tly.queue = r ∧ t.chip.nat (tlyK e.code 2) = min (2 ^ 32 - 1) (s.chip.nat (tlyK e.code 2) + 1) ∧
          t.chip.word (tlyK e.code 12) = word0 e.value ∧ t.chip.stampOf (tlyK e.code 7) = e.stamp ∧
          t.chip.word (tlyK e.code 0) = s.chip.word (tlyK e.code 0) + 1 ∧ t.chip.word (tlyK e.code 16) = t.chip.word (tlyK e.code 0)) ∧
        (s.chip.fld (tlyCfgK e.code) 0 16 ≠ 0 → s.chip.tokensOf e.code = 0 → Answers (exec .tallyEventFold s) fun t =>
          t.chip.tly.queue = r ∧ t.chip.nat (tlyK e.code 3) = min (2 ^ 32 - 1) (s.chip.nat (tlyK e.code 3) + 1) ∧
          t.chip.word (tlyK e.code 2) = s.chip.word (tlyK e.code 2) ∧ t.chip.word (tlyK e.code 0) = s.chip.word (tlyK e.code 0) + 1))) ∧
    (∀ code, s.chip.acts TLY 0 = true → code < 65536 → s.chip.fld (tlyCfgK code) 0 16 ≠ 0 → s.chip.tokensOf code < s.chip.fld (tlyCfgK code) 16 8 →
      Answers (exec (.tallyTokenRefill code) s) fun t => t.chip.tokensOf code = s.chip.tokensOf code + 1) ∧
    (∀ q, s.chip.acts TLY 0 = true → s.chip.tly.cmds = [q] → q.p < 16 → Answers (exec .tallyCmdDone s) fun t =>
      t.chip.tly.cmds = [] ∧ t.chip.fld (tlyStatOf q.p) 24 4 = s.chip.tlyCode q ∧ t.chip.bit (tlyStatOf q.p) 29 = false) ∧
    (∀ f, s.chip.pwr.held = none → s.chip.tly.flush = some f →
      (Answers (exec (.tallyFlushDone true) s) fun t =>
        t.chip.tly.flush = none ∧ t.chip.bit (tlyA 0x104) 30 = false ∧ t.chip.u64 (tlyA 0x120) = f.seq % 2 ^ 64 ∧
        (t.chip.tlyImage f.slot).records = f.records ∧ t.chip.bit (tlyA PG_EVT_RAW) 1 = true) ∧
      Answers (exec (.tallyFlushDone false) s) fun t =>
        t.chip.tly.flush = none ∧ t.chip.u64 (tlyA 0x120) = s.chip.u64 (tlyA 0x120) ∧
        (∀ k, k ≠ f.slot → t.chip.tlyImage k = s.chip.tlyImage k) ∧ (t.chip.tlyImage f.slot).header = (s.chip.tlyImage f.slot).header ∧
        (t.chip.tlyImage f.slot).trailer = (s.chip.tlyImage f.slot).trailer ∧
        t.chip.bit (tlyA PG_EVT_RAW) 2 = true)

/-- A 32-bit post by the owner of an unsigned code and a 64-bit post join the events on their way with the present time, and a
post of another partition's code is counted instead; a clear and a flush join the commands with BUSY, and a flush of an
enabled Tally freezes its records; a code's configuration is written; QLOSS is cleared by a 1. (spec/15_tally_recorder.md
R443, spec/15_tally_recorder.md R445, spec/15_tally_recorder.md R450, spec/15_tally_recorder.md R451,
spec/15_tally_recorder.md R455) -/
def Obligations.TallyPosts : Prop :=
  ∀ (s : State) (m : Nat) (d : Word), m < 16 → s.settled = true →
    (s.chip.takes m (tlyA 0x110) false = true →
      (0x1000 ≤ getBits d 0 16 → s.chip.codeOwner (getBits d 0 16) = m → s.chip.bit (tlyCfgK (getBits d 0 16)) 30 = false →
        Answers (exec (.tlyPost32 m d) s) fun t =>
          t.chip.tallyIn = s.chip.tallyIn ++ [{ code := getBits d 0 16, value := getBits d 16 16, stamp := s.chip.now }] ∧ t.chip.resp.status = .done) ∧
      (getBits d 0 16 < 0x1000 ∨ s.chip.codeOwner (getBits d 0 16) ≠ m → Answers (exec (.tlyPost32 m d) s) fun t =>
        t.chip.nat (tlyA 0x038) = min (2 ^ 32 - 1) (s.chip.nat (tlyA 0x038) + 1))) ∧
    (∀ hi, s.chip.takes m (tlyA 0x108) false = true → 0x1000 ≤ getBits d 0 16 → s.chip.codeOwner (getBits d 0 16) = m →
      Answers (exec (.tlyPost64 m [d, hi]) s) fun t =>
        t.chip.tallyIn = s.chip.tallyIn ++ [{ code := getBits d 0 16, value := hi.toNat, stamp := s.chip.now }]) ∧
    (s.chip.takes m (tlyA 0x114) false = true → s.chip.bit (tlyStatOf m) 29 = false →
      (∀ first, Answers (exec (.tallyClear m first) s) fun t =>
        t.chip.bit (tlyStatOf m) 29 = true ∧
        t.chip.tly.cmds = s.chip.tly.cmds ++ [{ p := m, op := 1, first := first % 65536, count := s.chip.fld (viewKey m (tlyA 0x118)) 0 17 }]) ∧
      (s.chip.tly.flush = none → Answers (exec (.tallyFlush m) s) fun t =>
        t.chip.bit (tlyStatOf m) 29 = true ∧ t.chip.tly.cmds.map (·.op) = s.chip.tly.cmds.map (·.op) ++ [2] ∧
        (s.chip.bit (tlyA 0x100) 31 = true → s.chip.pageOn TLY 0 = true → t.chip.tly.flush.map (fun f => (f.slot, f.seq)) = some (s.chip.flushSlot, s.chip.tly.seq + 1)))) ∧
    (∀ code, code < 65536 → s.chip.takes m (tlyCfgK code) false = true → getBits d 16 8 ≠ 0 → Answers (exec (.tallyCfgWrite m code d) s) fun t =>
      t.chip.word (tlyCfgK code) = (d &&& 0xFEFF_FFFF#32) ∧ t.chip.tokensOf code = getBits d 16 8) ∧
    (s.chip.takes m (tlyA 0x100) false = true → d.getLsbD 28 = true → d.getLsbD 31 = s.chip.bit (tlyA 0x100) 31 →
      Answers (exec (.qlossClear m d) s) fun t => t.chip.bit (tlyA 0x104) 28 = false ∧ t.chip.resp.status = .done)

/-- Start-up with both channels sound leaves NO_SET where no stored set reads back, and CHANNEL_FAULT otherwise; COMMISSION with
every group down enters COMMISSION, VERIFY makes the unit BUSY and its end shows the code of R479, ABORT leaves COMMISSION; a
confirm with the digest of both channels activates the verified set, and one after a failed verify shows its code; the
request registers take their bits; in one configuration a reset enables a group that is ready. (spec/16_safety_unit.md R459,
spec/16_safety_unit.md R479, spec/16_safety_unit.md R480, spec/16_safety_unit.md R484, spec/16_safety_unit.md R487) -/
def Obligations.SafetyCommands : Prop :=
  (let l : List Word := List.replicate 76 0 ++ [0x9000_0000] ++ List.replicate 128 0
   let r := State.ready [(aSafStat, 2 * 2 ^ 28), (sgrK 0, 2 ^ 28)]
   let s := opened { r with chip := { r.chip with saf := { r.chip.saf with active := l } } } 0 (safA 0)
   Answers (exec (.safResetReq 0 1) s) fun t => t.chip.grpState 0 = 2 ∧ t.chip.bit aSafStat 0 = true) ∧
  ∀ (s : State) (m : Nat), s.settled = true →
    (s.chip.pwr.held = none → s.chip.domain SAF 0 < 2 →
      (s.chip.safState = 0 → s.chip.modState < 4 →
        (Answers (exec (.safetyStartupDone true true false false) s) fun t =>
          t.chip.safState = 1 ∧ t.chip.bit aSafStat 27 = true ∧ t.chip.bit aSafStat 26 = true) ∧
        Answers (exec (.safetyStartupDone true false false false) s) fun t =>
          t.chip.safState = 4 ∧ t.chip.bit aSafStat 27 = true ∧ t.chip.bit aSafStat 26 = false) ∧
      (∀ flip, s.chip.bit (safA 0x108) 31 = true → Answers (exec (.safetyVerifyDone flip) s) fun t =>
        ∃ code, t.chip.saf.verdict = some code ∧ t.chip.nat (safA 0x108) = (2 ^ 30 + code * 2 ^ 24) % 2 ^ 32 ∧
          (code = 0 → t.chip.word (safA 0x114) = t.chip.word (safA 0x118)))) ∧
    (s.chip.takes m (safA 0x104) true = true → s.chip.bit (safA 0x108) 31 = false →
      (s.chip.safState = 1 ∨ s.chip.safState = 2 → s.chip.groupsDown = true → Answers (exec (.commission m) s) fun t =>
        t.chip.safState = 3 ∧ t.chip.nat (safA 0x108) = 2 ^ 30 ∧ t.chip.saf.verdict = none) ∧
      (s.chip.safState = 3 → Answers (exec (.verify m) s) fun t => t.chip.nat (safA 0x108) = 2 ^ 31 ∧ t.chip.safState = 3) ∧
      (s.chip.safState = 3 → s.chip.groupsDown = true → Answers (exec (.abort m) s) fun t =>
        t.chip.safState = (if s.chip.saf.active.isEmpty then 1 else 2) ∧ t.chip.nat (safA 0x108) = 2 ^ 30)) ∧
    (∀ d, s.chip.takes m (safA 0x10C) true = true → s.chip.safState = 3 → s.chip.groupsDown = true → s.chip.bit (safA 0x108) 31 = false →
      (s.chip.saf.verdict = some 0 → d = s.chip.word (safA 0x114) → d = s.chip.word (safA 0x118) → Answers (exec (.safConfirm m d) s) fun t =>
        t.chip.saf.active = s.chip.saf.verified ∧ t.chip.saf.stored = s.chip.saf.verified ∧ t.chip.safState = 2 ∧ t.chip.nat (safA 0x108) = 2 ^ 30) ∧
      (∀ r, s.chip.saf.verdict = some r → r ≠ 0 → r < 16 → Answers (exec (.safConfirm m d) s) fun t =>
        t.chip.saf.active = s.chip.saf.active ∧ t.chip.nat (safA 0x108) = 2 ^ 30 + r * 2 ^ 24)) ∧
    (∀ d, (s.chip.takes m (safA 0x124) false = true → Answers (exec (.safSs1Req m d) s) fun t =>
        t.chip.nat (safA 0x124) = getBits d 0 16 ∧ t.chip.resp.status = .done) ∧
      (s.chip.takes m (safA 0x128) false = true → s.chip.maintenance = false → Answers (exec (.safStoReq m d) s) fun t =>
        t.chip.nat (safA 0x128) = getBits d 0 16 ∧ t.chip.resp.status = .done))

/-- A tick with a channel fault leaves CH_FAULT with the channels shown and each group it finds in use off; in one configuration
a tick with an STO request takes a running group to STO with cause 5; an input discrepant for longer than its bound enters
FAULT; a test pulse is sent, and one of an output that differs is a fault of the group; an SS1 that has run out leads to STO
with cause 3, and EDM that did not follow to FAULT with cause 6. (spec/16_safety_unit.md R458, spec/16_safety_unit.md R462,
spec/16_safety_unit.md R463, spec/16_safety_unit.md R466, spec/16_safety_unit.md R470, spec/16_safety_unit.md R471,
spec/16_safety_unit.md R473) -/
def Obligations.SafetyMonitoring : Prop :=
  (let l : List Word := List.replicate 76 0 ++ [2 ^ 31] ++ List.replicate 128 0
   let r := State.ready [(aSafStat, 2 * 2 ^ 28 + 1), (sgrK 0, 2 * 2 ^ 28), (safA 0x128, 1)]
   Answers (exec (.safetyTick {}) { r with chip := { r.chip with saf := { r.chip.saf with active := l } } }) fun t =>
     t.chip.grpState 0 = 1 ∧ t.chip.fld (sgrK 0) 24 4 = 5 ∧ t.chip.bit aSafStat 0 = false) ∧
  ∀ (s : State) (g : Nat), g < 16 → s.settled = true → s.chip.pwr.held = none → s.chip.domain SAF 0 < 2 →
    (∀ smp chans, 1 ≤ s.chip.safState → s.chip.safState ≤ 3 → s.chip.modState < 4 → smp.chFault = some chans →
      Answers (exec (.safetyTick smp) s) fun t =>
        t.chip.safState = 4 ∧ t.chip.bit aSafStat 27 = !natBit chans 0 ∧ t.chip.bit aSafStat 26 = !natBit chans 1 ∧
        (s.chip.grpState g ≠ 0 → t.chip.bit aSafStat g = false)) ∧
    (∀ i, i < 32 → inUsed s.chip.saf.active i = true → s.chip.sin i ≠ .fault → pendLate s.chip.saf.active s.chip.saf.a i = true →
      Answers (exec (.discrepancyTimeout i) s) fun t => t.chip.sin i = .fault ∧ t.chip.bit (safA 0x13C) i = true) ∧
    (∀ p, p < 8 → (setTp s.chip.saf.active p).getLsbD 31 = true → s.chip.drives = true → 1 ≤ s.chip.safState → s.chip.safState ≤ 3 →
      s.chip.modState ≤ 3 → (∀ i, i < 32 → inUsed s.chip.saf.active i = false) → Answers (exec (.testPulseStart p 0 0) s) fun t =>
        t.chip.outs = s.chip.outs ++ [.safePulse p (getBits (setTp s.chip.saf.active p) 0 2 + 1)] ∧ t.chip.words = s.chip.words) ∧
    (∀ ch, ch < 2 → s.chip.bit aSafStat g = true → s.chip.drives = true →
      (Answers (exec (.outputTestPulse g ch false) s) fun t => t.chip.outs = s.chip.outs ++ [.stoPulse g ch (10 * getBits (setGrp s.chip.saf.active g 6) 0 8)] ∧ t.chip.words = s.chip.words) ∧
      Answers (exec (.outputTestPulse g ch true) s) fun t => t.chip.grpState g = 4 ∧ t.chip.fld (sgrK g) 24 4 = 8 ∧ t.chip.bit aSafStat g = false) ∧
    (s.chip.grpState g = 3 → setGrp s.chip.saf.active g 2 ≠ 0 → getBits (setGrp s.chip.saf.active g 3) 16 16 * 4 ≤ (s.chip.sgrp g).ss1Ticks →
      ((s.chip.sgrp g).v0a + (setGrp s.chip.saf.active g 1).toNat - (setGrp s.chip.saf.active g 4).toNat) * 4000 ≤
        (setGrp s.chip.saf.active g 2).toNat * ((s.chip.sgrp g).ss1Ticks - getBits (setGrp s.chip.saf.active g 3) 16 16 * 4) →
      Answers (exec (.ss1Expiry g) s) fun t => t.chip.grpState g = 1 ∧ t.chip.fld (sgrK g) 24 4 = 3 ∧ t.chip.bit aSafStat g = false) ∧
    (s.chip.edmOn g = true → 1 ≤ s.chip.grpState g → s.chip.grpState g ≤ 3 → (s.chip.sgrp g).followed = false →
      getBits (setGrp s.chip.saf.active g 3) 0 16 * 4 ≤ (s.chip.sgrp g).since → Answers (exec (.edmTimeout g) s) fun t =>
        t.chip.grpState g = 4 ∧ t.chip.fld (sgrK g) 24 4 = 6 ∧ t.chip.bit aSafStat g = false)

/-- EN written in OFF enters FORMING and sends HELLO, EN = 0 in ALONE returns to OFF; a HELLO whose PAIR_ID differs leads from
FORMING to ALONE with WHY 1; without a claim on PAIR_ROLE_IN a module that is not preferred claims; without a link it becomes
ALONE; the link comes up with its lanes and goes down, and after the grace a held standby syncs again; a delivered status
block is taken in order and a bad one is asked for again; a lane down is counted and can return; a time exchange at the lead
shows the offset. (spec/17_twin_pair.md R491, spec/17_twin_pair.md R492, spec/17_twin_pair.md R494, spec/17_twin_pair.md
R497, spec/17_twin_pair.md R499) -/
def Obligations.PairForming : Prop :=
  ∀ s : State, s.settled = true →
    (∀ m d, s.chip.takes m aPaiCfg true = true →
      (s.chip.role = 0 → s.chip.maintenance = false → Answers (exec (.pairEnable m d) s) fun t =>
        t.chip.role = 2 ∧ t.chip.bit aPaiCfg 31 = true ∧ t.chip.outs = s.chip.outs ++ [.hello]) ∧
      (s.chip.role = 1 → Answers (exec (.pairDisable m d) s) fun t => t.chip.role = 0 ∧ t.chip.bit aPaiCfg 31 = false ∧ t.chip.pai.latch = false)) ∧
    (s.chip.acts PAI 0 = true →
      (∀ h, s.chip.role = 2 → h.pairId ≠ s.chip.fld aPaiCfg 0 16 → Answers (exec (.pairHelloRx h) s) fun t =>
        t.chip.role = 1 ∧ t.chip.fld (paiA 0x124) 24 8 = 1 ∧ t.chip.pai.latch = !h.holdIn) ∧
      (s.chip.role = 2 → s.chip.bit aPaiCfg 30 = false → s.chip.pai.claim = false → s.chip.pai.hello = none →
        Answers (exec (.roleClaimDelay false) s) fun t => t.chip.pai.claim = true ∧ t.chip.role = 2) ∧
      (∀ hold, s.chip.role = 2 → s.chip.linkUp = false → Answers (exec (.pairLinkTimeout false hold) s) fun t =>
        t.chip.role = 1 ∧ t.chip.pai.latch = !hold) ∧
      (∀ n, s.chip.role ≠ 0 → s.chip.role ≠ 7 → s.chip.linkUp = false → n % 4 ≠ 0 → Answers (exec (.pairLinkUp n) s) fun t =>
        t.chip.linkUp = true ∧ t.chip.fld aPaiStat 25 2 = n % 4 ∧ t.chip.pai.grace = false) ∧
      (s.chip.linkUp = true → Answers (exec .pairLinkDown s) fun t => t.chip.linkUp = false ∧ t.chip.fld aPaiStat 25 2 = 0 ∧ t.chip.pai.lanes = []) ∧
      (s.chip.pai.grace = true → Answers (exec (.linkLostGraceExpiry true) s) fun t =>
        t.chip.role = 4 ∧ t.chip.fld (paiA 0x124) 8 8 = 7 ∧ t.chip.pai.bulk = false) ∧
      (∀ l seq, l < 2 → s.chip.bit aPaiStat (25 + l) = true →
        (∀ r, seq % 65536 = (tab {} s.chip.pai.lanes l).expect → (tab {} s.chip.pai.lanes l).held = [] → s.chip.role ≠ 3 →
          Answers (exec (.pairLinkBlockRx l seq true false (.status r false)) s) fun t =>
            t.chip.pai.peerRole = r ∧ (tab {} t.chip.pai.lanes l).expect = (seq + 1) % 65536) ∧
        (∀ msg, Answers (exec (.pairLinkBlockRx l seq false false msg) s) fun t =>
          t.chip.outs = s.chip.outs ++ [.nak l seq] ∧ t.chip.pai = s.chip.pai) ∧
        (s.chip.bit aPaiStat (26 - l) = true → s.chip.linkUp = true → Answers (exec (.pairLaneDown l) s) fun t =>
          t.chip.bit aPaiStat (25 + l) = false ∧ t.chip.linkUp = true ∧
          t.chip.nat (paiA 0x038) = min (2 ^ 32 - 1) (s.chip.nat (paiA 0x038) + 1))) ∧
      (∀ l, l < 2 → s.chip.bit aPaiStat (25 + l) = false → s.chip.role ≠ 0 → s.chip.linkUp = true →
        Answers (exec (.pairLaneReturn l) s) fun t => t.chip.bit aPaiStat (25 + l) = true) ∧
      (∀ th ep dl, s.chip.role = 3 → Answers (exec (.pairTimeExchange th ep dl) s) fun t =>
        t.chip.nat (paiA 0x120) = unsigned 32 (satS 32 (roundShift th 8)) ∧ t.chip.bit aPaiStat 23 = decide (th.natAbs ≤ 2 * 65536) ∧ t.chip.tim = s.chip.tim))

/-- The latch is refreshed while held and lost after 8 µs without a refresh; a ready standby that sees PAIR_HOLD_IN fall leads
with the latch; a bulk copy puts its word in place; a syncing standby with no reason against it is READY (STANDBY_ONLY when
untested); a self-test passed at the lead ends, one failed at a standby leads to SYNCING with reason 6; a repaired element or
DRAM block takes the twin's copy, alone, and a failed repair is counted. (spec/17_twin_pair.md R495, spec/17_twin_pair.md
R503, spec/17_twin_pair.md R505, spec/17_twin_pair.md R508, spec/17_twin_pair.md R511, spec/17_twin_pair.md R512) -/
def Obligations.PairStandby : Prop :=
  ∀ s : State, s.settled = true →
    (s.chip.pwr.held = none →
      (s.chip.pai.latch = true → s.chip.modState ≤ 3 → Answers (exec .holdLatchRefresh s) fun t =>
        t.chip.pai.refreshed = s.chip.nowNs ∧ t.chip.words = s.chip.words) ∧
      (s.chip.pai.latch = true → s.chip.role = 3 → s.chip.bit aPaiStat 24 = true → s.chip.pai.refreshed + 8000 ≤ s.chip.nowNs →
        Answers (exec .holdWatchdogExpiry s) fun t => t.chip.pai.latch = false ∧ t.chip.role = 7 ∧ t.chip.fld (paiA 0x124) 16 8 = 2) ∧
      (s.chip.takesPins = true → Answers (exec .holdInFall s) fun t => t.chip.role = 3 ∧ t.chip.pai.latch = true ∧ t.chip.holdIn = false)) ∧
    (s.chip.acts PAI 0 = true →
      (∀ k w, s.chip.standby = true → Answers (exec (.bulkCopyDone [(k, w)]) s) fun t =>
        t.chip.word k = w ∧ t.chip.pai.bulk = true ∧ t.chip.pai.mism = []) ∧
      (s.chip.role = 4 → s.chip.pai.failed = false → s.chip.unready 1 true = 0 → Answers (exec .standbyReady s) fun t =>
        t.chip.role = (if s.chip.bit aPaiStat 22 then 6 else 5) ∧ t.chip.fld (paiA 0x124) 8 8 = 0) ∧
      (∀ peer, s.chip.bit aPaiStat 18 = true →
        (s.chip.role = 3 → Answers (exec (.pairSelftestDone true peer) s) fun t => t.chip.bit aPaiStat 18 = false ∧ t.chip.role = 3) ∧
        (s.chip.standby = true → Answers (exec (.pairSelftestDone false peer) s) fun t =>
          t.chip.bit aPaiStat 18 = false ∧ t.chip.role = 4 ∧ t.chip.pai.failed = true ∧ t.chip.fld (paiA 0x124) 8 8 = 6)) ∧
      (∀ k w, 2 ^ 80 ≤ k → tab false s.chip.elemPoison k = true →
        (s.chip.linkUp = true → s.chip.paired = true → Answers (exec (.repairComplete true k [w] true) s) fun t =>
          t.chip.word k = w ∧ tab false t.chip.elemPoison k = false ∧ t.dram = s.dram) ∧
        Answers (exec (.repairComplete true k [w] false) s) fun t =>
          tab false t.chip.elemPoison k = true ∧ t.chip.nat (paiA 0x044) = min (2 ^ 32 - 1) (s.chip.nat (paiA 0x044) + 1)) ∧
      (∀ b ws, tab false s.dramPoison b = true → ws.length = 16 → s.chip.linkUp = true → s.chip.paired = true → s.chip.mirrored (64 * b) = true →
        Answers (exec (.repairComplete false b ws true) s) fun t =>
          tab false t.dramPoison b = false ∧
          ∀ a, dramByte t.dram a = if 64 * b ≤ a ∧ a < 64 * b + 64 then
              BitVec.ofNat 8 ((ws.getD ((a - 64 * b) / 4) 0).toNat / 2 ^ (8 * (a % 4))) else dramByte s.dram a))

/-- HANDOVER of a lead with a ready twin and an enabled trigger proposes a boundary and is BUSY, of any other role it answers
code 1; RESYNC of a standby syncs again, DISSOLVE of a held FORMING or standby returns to OFF, SURRENDER of a lead with a
ready twin surrenders with cause 8; a check that finds the twin not ready aborts with code 6, and one that finds the proposal
not accepted drops it; at the instant the lead becomes READY and the ready standby leads with the latch; a hold line stuck
after it is shown; the end of hold-down asks for the lead back. (spec/17_twin_pair.md R494, spec/17_twin_pair.md R506,
spec/17_twin_pair.md R509, spec/17_twin_pair.md R510, spec/17_twin_pair.md R517) -/
def Obligations.PairHandover : Prop :=
  ∀ s : State, s.settled = true →
    (∀ m, s.chip.takes m (paiA 0x104) true = true →
      (s.chip.role = 3 → s.chip.pai.peerRole ≠ 6 → s.chip.bit aPaiStat 24 = true → s.chip.bit aPaiStat 19 = false → s.chip.pai.proposal = none →
        s.chip.bit (trgK (s.chip.fld aPaiCfg 16 8) 0) 31 = true → Answers (exec (.handover m) s) fun t =>
          let b := s.chip.gridFrom (s.chip.fld aPaiCfg 16 8) (s.chip.t16 + 500000 * 65536) / 65536
          t.chip.nat (paiA 0x110) = 2 ^ 31 ∧ t.chip.pai.proposal = some b ∧ t.chip.outs = s.chip.outs ++ [.pair (.propose b)]) ∧
      (s.chip.role ≠ 3 → Answers (exec (.handover m) s) fun t => t.chip.nat (paiA 0x110) = 2 ^ 30 + 2 ^ 24 ∧ t.chip.pai = s.chip.pai) ∧
      (s.chip.standby = true → Answers (exec (.resync m) s) fun t =>
        t.chip.role = 4 ∧ t.chip.pai.bulk = false ∧ t.chip.nat (paiA 0x110) = 2 ^ 30) ∧
      (s.chip.role = 2 ∨ s.chip.standby = true → s.chip.bit aPaiStat 20 = true → Answers (exec (.dissolve m) s) fun t =>
        t.chip.role = 0 ∧ t.chip.bit aPaiCfg 31 = false ∧ t.chip.nat (paiA 0x110) = 2 ^ 30) ∧
      (s.chip.role = 3 → s.chip.bit aPaiStat 24 = true → Answers (exec (.surrender m) s) fun t =>
        t.chip.role = 7 ∧ t.chip.pai.latch = false ∧ t.chip.fld (paiA 0x124) 16 8 = 8 ∧ t.chip.nat (paiA 0x110) = 2 ^ 30)) ∧
    (s.chip.acts PAI 0 = true →
      (∀ b, s.chip.pai.proposal = some b → s.chip.role = 3 → b ≤ s.chip.nowNs + 20000 → Answers (exec .handoverCheck s) fun t =>
        t.chip.pai.proposal = none ∧ t.chip.nat (paiA 0x110) = 2 ^ 30 + 6 * 2 ^ 24 ∧ t.chip.outs = s.chip.outs) ∧
      (s.chip.pai.proposal = none → s.chip.bit aPaiStat 19 = true → s.chip.role = 3 → s.chip.bit aPaiStat 24 = false → s.chip.u64 (paiA 0x130) ≤ s.chip.nowNs + 20000 →
        Answers (exec .handoverCheck s) fun t =>
          t.chip.bit aPaiStat 19 = false ∧ t.chip.nat (paiA 0x110) = 2 ^ 30 + 6 * 2 ^ 24 ∧ t.chip.outs = s.chip.outs ++ [.pair .abortHandover]) ∧
      (s.chip.bit aPaiStat 19 = true → s.chip.u64 (paiA 0x130) ≤ s.chip.nowNs →
        (s.chip.role = 3 → Answers (exec .handoverInstant s) fun t =>
          t.chip.role = 5 ∧ t.chip.pai.latch = false ∧ t.chip.bit aPaiStat 19 = false ∧ t.chip.nat (paiA 0x110) = 2 ^ 30) ∧
        (s.chip.role = 5 → Answers (exec .handoverInstant s) fun t =>
          t.chip.role = 3 ∧ t.chip.pai.latch = true ∧ t.chip.bit aPaiStat 19 = false)) ∧
      (∀ hold, s.chip.role = 3 → s.chip.pai.planned = true → s.chip.u64 (paiA 0x130) + 100 ≤ s.chip.nowNs →
        Answers (exec (.holdStuckCheck hold) s) fun t =>
          t.chip.pai.planned = false ∧ t.chip.bit aPaiStat 17 = (s.chip.bit aPaiStat 17 || hold)) ∧
      (∀ t0, s.chip.pai.hdStart = some t0 → s.chip.reverts = true → t0 + s.chip.fld (paiA 0x10C) 16 16 * 1000000000 ≤ s.chip.nowNs →
        Answers (exec .holdDownExpiry s) fun t => t.chip.pai.hdStart = none ∧ t.chip.outs = s.chip.outs ++ [.pair .askHandover]))

/-- In TRICKLE or FLOW, with no command in progress and outside the service of R536, a keyed COR_CMD is BUSY: STAGE_CHECK holds
the first failing check of the staged image as its code; a refused WRITE_SLOT or KEY_ORDER likewise, an accepted WRITE_SLOT
empties the slot that is not ACTIVE, an accepted order holds its slot and hash; CONFIRM of a trial makes its slot ACTIVE;
RESTART begins a reset of cause 4 that leaves the slots. At the end of a command RESP shows check and code, and a written
slot holds its image, pending with three tries. (spec/18_boot_images_security.md R528, spec/18_boot_images_security.md R530,
spec/18_boot_images_security.md R531, spec/18_boot_images_security.md R533, spec/18_boot_images_security.md R541,
spec/19_power_reset.md R550) -/
def Obligations.ImageCommands : Prop :=
  ∀ s : State, s.settled = true →
    (∀ m, s.chip.takes m (corA 0x104) true = true → s.chip.cor.cmd = none → s.chip.ownService = false → s.chip.running = true →
      let i := s.chip.stagedImage (dramLoad s.dram)
      let len := some (s.chip.nat (corA 0x148))
      let body := dramLoad s.dram (s.chip.u64 (corA 0x140) + 0x2000) 72
      (∀ bad, Answers (exec (.stageCheck m bad) s) fun t =>
        let why := s.chip.verifyWhy i [1, 2, 3] len bad
        t.chip.nat (corA 0x108) = 2 ^ 31 ∧ t.chip.cor.cmd = some { op := 1, code := why, why := why } ∧ t.dram = s.dram ∧
        t.chip.cor.slots = s.chip.cor.slots) ∧
      (∀ bad, s.chip.verifyWhy i [1, 2] len bad ≠ 0 → Answers (exec (.writeSlot m bad) s) fun t =>
        let why := s.chip.verifyWhy i [1, 2] len bad
        t.chip.nat (corA 0x108) = 2 ^ 31 ∧ t.chip.cor.cmd = some { op := 2, code := why, why := why } ∧ t.chip.cor.slots = s.chip.cor.slots) ∧
      (∀ bad, s.chip.verifyWhy i [1, 2] len bad = 0 → s.chip.onTrial (i.kind - 1) = false → Answers (exec (.writeSlot m bad) s) fun t =>
        let k := i.kind - 1
        let slot := 2 * k + (1 - (s.chip.bootRec k).active)
        t.chip.nat (corA 0x108) = 2 ^ 31 ∧ t.chip.cor.cmd = some { op := 2, code := 0, write := some (slot, { i with body := dramLoad s.dram (s.chip.u64 (corA 0x140) + 0x2000) i.bodyLen }) } ∧ tab none t.chip.cor.slots slot = none) ∧
      (∀ run, let k := s.chip.fld (corA 0x14C) 0 1
        s.chip.runImage k = some run → s.chip.onTrial k = true → (s.chip.bootRec k).pending = some (s.chip.imgSlot k) →
        Answers (exec (.confirm m) s) fun t =>
          t.chip.bootRec k = { active := s.chip.imgSlot k } ∧ t.chip.onTrial k = false ∧ t.chip.imgSlot k = s.chip.imgSlot k ∧
          t.chip.secOf k = max (s.chip.secOf k) (min run.secVer 64) % 256 ∧ t.chip.cor.cmd = some { op := 3, code := 0 }) ∧
      (∀ bad, s.chip.verifyWhy i [3] len bad ≠ 0 → Answers (exec (.keyOrder m bad) s) fun t =>
        let why := s.chip.verifyWhy i [3] len bad
        t.chip.cor.cmd = some { op := 4, code := why, why := why } ∧ t.chip.cor.keyStat = s.chip.cor.keyStat) ∧
      (∀ bad, s.chip.verifyWhy i [3] len bad = 0 → hdrNat body 0 4 = 1 ∨ hdrNat body 0 4 = 2 →
        Answers (exec (.keyOrder m bad) s) fun t =>
          let code := s.chip.orderCode i.keySlot (hdrNat body 0 4) (hdrNat body 4 4) (hdrNat body 8 32)
          t.chip.cor.cmd = some (if code = 0 then { op := 4, code := 0, order := some (hdrNat body 0 4, hdrNat body 4 4, hdrNat body 40 32) }
            else { op := 4, code := code }) ∧ t.chip.cor.keyStat = s.chip.cor.keyStat) ∧
      Answers (exec (.restart m) s) fun t =>
        t.chip.pwr.held = some 4 ∧ t.chip.nat (pwrA 0x118) = 4 ∧ t.chip.cor.boots = s.chip.cor.boots + 1 ∧
        t.chip.cor.slots = s.chip.cor.slots ∧ t.chip.cor.recs = s.chip.cor.recs) ∧
    (∀ x, s.chip.acts COR 0 = true → s.chip.cor.cmd = some x → Answers (exec .corCmdDone s) fun t =>
      t.chip.cor.cmd = none ∧ t.chip.nat (corA 0x108) = 2 ^ 30 + x.why % 16 * 2 ^ 24 + x.code % 256 ∧
      ∀ k i, k < 4 → x.write = some (k, i) → x.order = none → tab none t.chip.cor.slots k = some i ∧
        (t.chip.bootRec (k / 2)).pending = some (k % 2) ∧ (t.chip.bootRec (k / 2)).tries = 3)

/-- Before any boot, without a base image the module stands in state 3 with its cores held; in one configuration a base and a
recipe that list each other run and release the cores, and with no recipe the boot ends in MAINTENANCE with code 6 and the
cores released. A report whose place is outside is answered with code 1, one asked for outside TRICKLE and FLOW with 2, any
other is BUSY; at its end DONE shows, and the report's signed part stands at its place and no other byte has changed.
(spec/18_boot_images_security.md R529, spec/18_boot_images_security.md R532, spec/18_boot_images_security.md R534,
spec/18_boot_images_security.md R536, spec/18_boot_images_security.md R538, spec/18_boot_images_security.md R539) -/
def Obligations.BootAndAttestation : Prop :=
  (let b : Image := { formOk := true, kind := 1, keySlot := 0, ver := 5, secVer := 0, epoch := 1, part := 0xFFFF, expSafety := 0, bodyLen := 0, digest := 0, partners := [{ kind := 1, epoch := 0, lo := 0, hi := 9 }] }
   let r : Image := { formOk := true, kind := 2, keySlot := 0, ver := 8, secVer := 0, epoch := 1, part := 0xFFFF, expSafety := 0, bodyLen := 0, digest := 0, partners := [{ kind := 2, epoch := 1, lo := 5, hi := 5 }] }
   let w (l : Tab (Option Image)) : State := { State.reset with chip := State.reset.chip.setCor fun x => { x with slots := l } }
   (Answers (exec (.bootComplete []) (w [(0, some b), (2, some r)])) fun t => t.chip.fld aCorState 28 4 = 1 ∧ t.chip.cor.halted = 0 ∧
     t.chip.cor.base = some b ∧ t.chip.cor.recipe = some r ∧ t.chip.nat (corA 0x160) = 5) ∧
   Answers (exec (.bootComplete []) (w [(1, some b)])) fun t => t.chip.fld aCorState 28 4 = 2 ∧ t.chip.fld aCorState 8 8 = 6 ∧
     t.chip.cor.halted = 0 ∧ t.chip.imgSlot 0 = 1) ∧
  (∀ (s : State) bad, s.chip.pwr.held = none → s.chip.fld aCorState 28 4 = 0 → s.chip.cor.base = none →
    tab none s.chip.cor.slots 0 = none → tab none s.chip.cor.slots 1 = none → (s.chip.bootRec 0).active < 2 →
    (s.chip.bootRec 0).pending = none → Answers (exec (.bootComplete bad) s) fun t =>
      t.chip.fld aCorState 28 4 = 3 ∧ t.chip.cor.halted = s.chip.cor.halted ∧ t.chip.fld aCorState 0 8 = 1 ∧ t.chip.cor.base = none) ∧
  (∀ (s : State) (m p : Nat) (d : Word), p < 16 → d.getLsbD 31 = true → s.chip.takes m (attA p 0x128) false = true → s.chip.cor.att.contains p = false →
    (s.chip.attOutside p (s.chip.u64 (attA p 0x120)) = true → Answers (exec (.attestGo m p d) s) fun t =>
      t.chip.nat (attA p 0x12C) = 1 ∧ t.chip.cor = s.chip.cor) ∧
    (s.chip.attOutside p (s.chip.u64 (attA p 0x120)) = false → Answers (exec (.attestGo m p d) s) fun t =>
      t.chip.nat (attA p 0x12C) = (if s.chip.running then 2 ^ 31 else 2) ∧
      t.chip.cor.att = if s.chip.running then s.chip.cor.att ++ [p] else s.chip.cor.att)) ∧
  ∀ (s : State) (p : Nat) (r : List Nat), s.settled = true → s.chip.acts COR 0 = true → s.chip.cor.att = p :: r → p < 16 →
    Answers (exec .attestDone s) fun t =>
      t.chip.cor.att = r ∧ t.chip.nat (attA p 0x12C) = 2 ^ 30 ∧
      let a := s.chip.u64 (attA p 0x120)
      (∀ j < 288, dramByte t.dram (a + j) = (s.chip.attBody p).getD j 0) ∧
      ∀ b, b < a ∨ a + 3597 ≤ b → dramByte t.dram b = dramByte s.dram b

/-- A keyed request with none in progress is answered (one that keeps a port the part has not is refused) with its code and
counted, or is BUSY with its target; the rung from FLOW to TRICKLE and back changes the state, ends the request where it
arrives and leaves DRAM; the rung from SUMP to CISTERN loses DRAM; an enabled wake event sets the goal of PWR_WAKE_CFG and
shows its cause, and from CISTERN and CAPPED it begins a reset of cause 5; an RTC alarm brings the clock to the alarm
instant. (spec/19_power_reset.md R544, spec/19_power_reset.md R547, spec/19_power_reset.md R548, spec/19_power_reset.md R549,
spec/19_power_reset.md R552) -/
def Obligations.PowerLadder : Prop :=
  ∀ s : State, s.settled = true →
    (∀ m d, s.chip.takes m (pwrA 0x100) true = true → s.chip.bit (pwrA 0x104) 31 = false → Answers (exec (.powerRequest m d) s) fun t =>
      let code := if pageExists s.chip.part NET (getBits d 4 2) then s.chip.reqCode (getBits d 0 3) else 1
      (code ≠ 0 → t.chip.nat (pwrA 0x104) = 2 ^ 30 + code ∧ t.chip.pwr = s.chip.pwr ∧
        t.chip.nat (pwrA 0x03C) = min (2 ^ 32 - 1) (s.chip.nat (pwrA 0x03C) + 1)) ∧
      (code = 0 → t.chip.nat (pwrA 0x104) = 2 ^ 31 ∧ t.chip.pwr.target = some (getBits d 0 3) ∧ t.chip.word (pwrA 0x100) = d &&& 0x77#32)) ∧
    (∀ goal, s.chip.pwr.target = some goal → s.chip.pwr.wake = none →
      (s.chip.modState = 0 → 1 ≤ goal → Answers (exec .powerRungEntered s) fun t =>
        t.chip.modState = 1 ∧ t.dram = s.dram ∧ (1 < goal → t.chip.pwr = s.chip.pwr) ∧
        (goal = 1 → t.chip.pwr.target = none ∧ (s.chip.pwr.asked = true → t.chip.nat (pwrA 0x104) = 2 ^ 30))) ∧
      (s.chip.modState = 1 → goal = 0 → Answers (exec .powerRungEntered s) fun t =>
        t.chip.modState = 0 ∧ t.dram = s.dram ∧ t.chip.pwr.target = none ∧ (s.chip.pwr.asked = true → t.chip.nat (pwrA 0x104) = 2 ^ 30)) ∧
      (s.chip.modState = 4 → goal = 5 → s.chip.tly.flush = none → Answers (exec .powerRungEntered s) fun t =>
        t.chip.modState = 5 ∧ t.dram = [] ∧ t.dramPoison = [] ∧ t.chip.pwr.lost = true ∧ t.chip.pwr.target = none ∧
        t.chip.cor.slots = s.chip.cor.slots ∧ t.chip.pwr.island = s.chip.pwr.island)) ∧
    (∀ e, s.chip.pwr.held = none → s.chip.flushing = false → e < 7 → s.chip.wakeOk e = true → s.chip.bit (pwrA 0x110) e = true →
      s.chip.pwr.afterFlush = false → s.chip.pwr.target = none →
      let goal := if s.chip.bit (pwrA 0x110) 31 then 0 else 1
      (goal < s.chip.modState → s.chip.modState < 4 ∨ (s.chip.modState = 4 ∧ s.chip.supply 5 = true) → Answers (exec (.wakeEvent e) s) fun t =>
        t.chip.pwr.target = some goal ∧ t.chip.nat (pwrA 0x114) = 2 ^ e ∧ t.dram = s.dram) ∧
      (s.chip.modState = 5 ∨ s.chip.modState = 6 → Answers (exec (.wakeEvent e) s) fun t =>
        t.chip.pwr.held = some 5 ∧ t.chip.nat (pwrA 0x114) = 2 ^ e ∧ t.chip.nat (pwrA 0x118) = 5 ∧ t.chip.cor.boots = s.chip.cor.boots + 1)) ∧
    (∀ b, s.chip.tim.backup = some b → s.chip.u64 (pwrA 0x128) ≠ 0 → Answers (exec .rtcAlarm s) fun t =>
      t.chip.tim.backup = some (max b (s.chip.u64 (pwrA 0x128))))

/-- RESET_N low for 1 µs resets with cause 3, a shorter pulse below 0.5 µs changes nothing; a release with the supplies good ends
the reset; VHOLD and VBAT show, without VAON and VBAT the backup domain is lost; a power failure sets PFAIL and the flush,
whose end resets with VIN and loses the state without it; a tamper latches and a keyed write clears it; a temperature sample
shows its value and flags, 125 °C resets with cause 6, 115 °C for 10 ms gives up control. (spec/19_power_reset.md R542,
spec/19_power_reset.md R545, spec/19_power_reset.md R550, spec/19_power_reset.md R551, spec/19_power_reset.md R552,
spec/19_power_reset.md R554, spec/19_power_reset.md R557, spec/19_power_reset.md R558) -/
def Obligations.ResetAndSupplies : Prop :=
  ∀ s : State, s.settled = true →
    (∀ width,
      (1000 ≤ width → Answers (exec (.resetPin width) s) fun t =>
        t.chip.pwr.held = some 3 ∧ t.chip.nat (pwrA 0x118) = 3 ∧ t.chip.cor.boots = s.chip.cor.boots + 1 ∧ t.chip.cor.slots = s.chip.cor.slots ∧
        t.chip.modState = 0 ∧ t.dram = s.dram) ∧
      (width < 500 → Answers (exec (.resetPin width) s) fun t => t.chip = s.chip)) ∧
    (∀ cause, s.chip.pwr.held = some cause →
      (s.chip.pwr.hot = false → s.chip.supply 5 = true → s.chip.supply 4 = true → s.chip.supply 3 = true → s.chip.supply 2 = true →
        Answers (exec (.resetRelease true) s) fun t =>
          t.chip.pwr.held = none ∧ t.chip.pwr.lost = false ∧ t.chip.tim.backup = s.chip.tim.backup ∧
          (s.chip.pwr.lost = true → t.chip.bit (pageAddr PRF 0 0x100) 31 = true)) ∧
      Answers (exec (.resetRelease false) s) fun t => t.chip = s.chip) ∧
    (∀ i good, i < 2 → s.chip.supply i ≠ good → s.chip.supply 4 = true → s.chip.modState < 4 → Answers (exec (.supplyChange i good) s) fun t =>
      t.chip.pwr.supplies = setNatBit s.chip.pwr.supplies i good ∧ t.chip.bit aPwrStat i = good ∧
      (good = false → t.chip.bit (pageAddr PWR 0 PG_EVT_RAW) 6 = true)) ∧
    (s.chip.supply 4 = true → s.chip.supply 0 = false → s.chip.modState < 4 → Answers (exec (.supplyChange 4 false) s) fun t =>
      t.chip.tim.backup = none ∧ t.chip.cor.boots = 0 ∧ t.chip.pwr.tamper = false ∧ t.chip.pwr.empty = true) ∧
    (s.chip.modState < 4 → s.chip.flushing = false → s.chip.pwr.held = none → Answers (exec .powerFailDetect s) fun t =>
      t.chip.bit aPwrStat 28 = true ∧ t.chip.flushing = true ∧ t.chip.pwr.target = none ∧ t.chip.supply 5 = false ∧
      t.chip.nat (pwrA 0x034) = min (2 ^ 32 - 1) (s.chip.nat (pwrA 0x034) + 1)) ∧
    (s.chip.flushing = true →
      (s.chip.supply 5 = true → Answers (exec .powerfailFlushDone s) fun t => t.chip.pwr.held = some (if s.chip.pwr.testReset then 7 else 2)) ∧
      (s.chip.supply 5 = false → Answers (exec .powerfailFlushDone s) fun t =>
        t.chip.modState = (if s.chip.supply 4 then 6 else 7) ∧ t.chip.pwr.afterFlush = true ∧ t.chip.flushing = false ∧ t.dram = [])) ∧
    (Answers (exec .tamper s) fun t => t.chip.pwr.tamper = true ∧ t.chip.bit aPwrStat 23 = true) ∧
    (∀ m (d : Word) keyed, s.chip.takes m (pwrA 0x10C) keyed = true → Answers (exec (.pwrStatClear m d) s) fun t =>
      t.chip.pwr.tamper = (s.chip.pwr.tamper && !(d.getLsbD 31 && keyed)) ∧ t.chip.pwr.noSupply = (s.chip.pwr.noSupply && !d.getLsbD 30)) ∧
    (∀ (tj : Int) sensor, s.chip.pwr.held = none →
      let flag (i lim : Nat) : Bool := if s.chip.bit aPwrStat i then !decide (tj < (lim : Int) - 500) else decide (tj ≥ lim)
      (tj < 12500 → Answers (exec (.thermalSample tj sensor) s) fun t =>
        t.chip.word (pwrA 0x804) = BitVec.ofInt 32 (satS 32 tj) ∧ t.chip.bit aPwrStat 26 = flag 26 (s.chip.fld (pwrA 0x11C) 16 16) ∧
        t.chip.bit aPwrStat 25 = flag 25 (s.chip.fld (pwrA 0x11C) 0 16) ∧
        t.chip.pwr.critSince = if tj ≥ 11500 then some (s.chip.pwr.critSince.getD s.chip.nowNs) else none) ∧
      (tj ≥ 12500 → Answers (exec (.thermalSample tj sensor) s) fun t => t.chip.pwr.held = some 6 ∧ t.chip.pwr.hot = true)) ∧
    ∀ t0, s.chip.pwr.critSince = some t0 → t0 + 10000000 ≤ s.chip.nowNs → s.chip.pwr.held = none → s.chip.bit aPwrStat 24 = false →
      Answers (exec .thermalCritExpiry s) fun t =>
        t.chip.bit aPwrStat 24 = true ∧ (s.chip.role = 3 → s.chip.bit aPaiStat 24 = true → t.chip.role = 7 ∧ t.chip.pai.latch = false)

/-- A scan of the boundary chain of 1,400 cells answers what the cells captured and loads what TDI brought, and EXTEST_PULSE and
EXTEST_TRAIN send from the transmit cells; where no test instruction is left and no hold latch stands, an instruction changes
the test access port alone (IDCODE also answers the identification register); an instruction that drives the balls clears a
hold latch; FREEZE asserts the freeze and raises its cause; MOD_RESET, and leaving a test instruction, reset with cause 7; an
update of REG_ACCESS makes one access as master 23 and keeps its outcome, which a capture answers, and a capture where the
instruction does not act answers 0, with VAON good. (spec/20_pins_electrical_test.md R577, spec/20_pins_electrical_test.md
R578, spec/20_pins_electrical_test.md R579, spec/20_pins_electrical_test.md R580, spec/20_pins_electrical_test.md R582,
spec/20_pins_electrical_test.md R583, spec/20_pins_electrical_test.md R584, spec/20_pins_electrical_test.md R585) -/
def Obligations.TestAccessPort : Prop :=
  ∀ s : State, s.settled = true → s.chip.modState < 5 →
    (s.chip.supply 4 = true → (tapTest s.chip.tap.ir && s.chip.tap.acts) = false →
      let holds (o : Host.Outcome State Fault Refusal) (op : Nat) : Prop :=
        Answers o fun t => t.chip = { s.chip with tap := { s.chip.tap with ir := op, acts := s.chip.tapActs op } } ∧ t.dram = s.dram
      let loaded (op : Nat) : Chip := { s.chip with tap := { s.chip.tap with ir := op, acts := s.chip.tapActs op } }
      let scans (o : Host.Outcome State Fault Refusal) (op : Nat) (pins tdi : List Bool) (sent : List Out) : Prop :=
        s.chip.tapActs op = true → tdi.length = scanLength → Answers o fun t =>
          t.chip.tap = { s.chip.tap with ir := op, acts := true, captured := (loaded op).scanCapture pins, cells := tdi } ∧
          t.chip.resp = { status := .done, data := bitWords ((loaded op).scanCapture pins) } ∧ t.chip.outs = s.chip.outs ++ sent ∧ t.dram = s.dram
      let sentCells (tdi : List Bool) : List Bool := ((tdi.drop (scanFirst 5)).zipIdx.filter fun e => Config.sendCell e.2).map (·.1)
      holds (exec .tapReset s) 2 ∧ holds (exec (.samplePreload [] []) s) 1 ∧ holds (exec .highz s) 3 ∧ holds (exec .regAccess s) 0x20 ∧
      (∀ pins tdi, scans (exec (.samplePreload pins tdi) s) 1 pins tdi [] ∧ (s.chip.pai.latch = false →
        scans (exec (.extest pins tdi) s) 0 pins tdi [] ∧ scans (exec (.extestPulse pins tdi) s) 5 pins tdi [.hssTest false (sentCells tdi)] ∧
        scans (exec (.extestTrain pins tdi) s) 6 pins tdi [.hssTest true (sentCells tdi)])) ∧
      (Answers (exec .idcode s) fun t =>
        t.chip = { s.chip with tap := { s.chip.tap with ir := 2, acts := s.chip.tapActs 2 }, resp := { status := .done, data := [s.chip.idcode] } }) ∧
      (∀ op, holds (exec (.bypass op) s) (if op % 256 ∈ [0, 1, 2, 3, 4, 5, 6, 0x20, 0x21, 0x22] then 0xFF else op % 256)) ∧
      (s.chip.pai.latch = false → holds (exec (.extest [] []) s) 0 ∧ holds (exec .clamp s) 4 ∧ holds (exec (.extestPulse [] []) s) 5 ∧ holds (exec (.extestTrain [] []) s) 6) ∧
      (s.chip.pai.latch = true → s.chip.tapActs 0 = true → Answers (exec (.extest [] []) s) fun t => t.chip.tap.ir = 0 ∧ t.chip.pai.latch = false) ∧
      (s.chip.tapActs 0x22 = true → s.chip.freezing = false → Answers (exec .freeze s) fun t =>
        t.chip.freezing = true ∧ t.chip.bit (pageAddr TST 0 PG_EVT_RAW) 1 = true) ∧
      (s.chip.tapActs 0x21 = true → s.chip.flushing = false → Answers (exec .modReset s) fun t =>
        t.chip.pwr.held = some 7 ∧ t.chip.nat (pwrA 0x118) = 7 ∧ t.chip.tap.ir = 0x21)) ∧
    (∀ op, s.chip.supply 4 = true → tapTest s.chip.tap.ir = true → s.chip.tap.acts = true → op % 256 ≠ s.chip.tap.ir → s.chip.flushing = false →
      Answers (exec (.tapTestExit op) s) fun t => t.chip.pwr.held = some 7 ∧ t.chip.tap.ir = op % 256) ∧
    (s.chip.tapAccess = true →
      (s.chip.supply 4 = true → Answers (exec .regAccessCapture s) fun t => t.chip.resp = { status := .done, data := s.chip.tapCapture } ∧ t.chip.words = s.chip.words) ∧
      ∀ addr d, s.chip.pwr.held = none →
        let a := addr % 2 ^ 25 / 4 * 4
        let c := s.chip.cause TST 0 0
        (c.gives 23 a = true → Answers (exec (.regAccessUpdate false addr d) s) fun t =>
          t.chip.tap = { s.chip.tap with done := true, offset := a, cause := 0, data := (c.readWords 23 a).getD 0 0 }) ∧
        (∀ key, c.takes 23 a key = true → Answers (exec (.regAccessUpdate true addr d) s) fun t =>
          t.chip.tap.done = true ∧ t.chip.tap.offset = a ∧ t.chip.tap.cause = 0 ∧ t.chip.tap.data = d)) ∧
    (s.chip.supply 4 = true → s.chip.tapAccess = false → Answers (exec .regAccessCapture s) fun t => t.chip.resp = { status := .done, data := [0] })
end

