-- ==== Sys2Proof/Laws/State.lean ====
section
/-! SUPPORT. What each basic update of the module's state leaves: one lemma per field and update, each true by rfl. -/

namespace Sys2Proof.Machine

variable (c : Chip)

/-! ### setWord -/

@[simp] theorem Chip.setWord_part (k : Nat) (w : Word) : (c.setWord k w).part = c.part := rfl
@[simp] theorem Chip.setWord_laneFloor (k : Nat) (w : Word) : (c.setWord k w).laneFloor = c.laneFloor := rfl
@[simp] theorem Chip.setWord_fresh (k : Nat) (w : Word) : (c.setWord k w).fresh = c.fresh := rfl
@[simp] theorem Chip.setWord_stamps (k : Nat) (w : Word) : (c.setWord k w).stamps = c.stamps := rfl
@[simp] theorem Chip.setWord_caps (k : Nat) (w : Word) : (c.setWord k w).caps = c.caps := rfl
@[simp] theorem Chip.setWord_keys (k : Nat) (w : Word) : (c.setWord k w).keys = c.keys := rfl
@[simp] theorem Chip.setWord_notices (k : Nat) (w : Word) : (c.setWord k w).notices = c.notices := rfl
@[simp] theorem Chip.setWord_iwin (k : Nat) (w : Word) : (c.setWord k w).iwin = c.iwin := rfl
@[simp] theorem Chip.setWord_posts (k : Nat) (w : Word) : (c.setWord k w).posts = c.posts := rfl
@[simp] theorem Chip.setWord_samples (k : Nat) (w : Word) : (c.setWord k w).samples = c.samples := rfl
@[simp] theorem Chip.setWord_tallyIn (k : Nat) (w : Word) : (c.setWord k w).tallyIn = c.tallyIn := rfl
@[simp] theorem Chip.setWord_hst (k : Nat) (w : Word) : (c.setWord k w).hst = c.hst := rfl
@[simp] theorem Chip.setWord_bells (k : Nat) (w : Word) : (c.setWord k w).bells = c.bells := rfl
@[simp] theorem Chip.setWord_rings (k : Nat) (w : Word) : (c.setWord k w).rings = c.rings := rfl
@[simp] theorem Chip.setWord_hoi (k : Nat) (w : Word) : (c.setWord k w).hoi = c.hoi := rfl
@[simp] theorem Chip.setWord_elemPoison (k : Nat) (w : Word) : (c.setWord k w).elemPoison = c.elemPoison := rfl
@[simp] theorem Chip.setWord_loop (k : Nat) (w : Word) : (c.setWord k w).loop = c.loop := rfl
@[simp] theorem Chip.setWord_prf (k : Nat) (w : Word) : (c.setWord k w).prf = c.prf := rfl
@[simp] theorem Chip.setWord_pwm (k : Nat) (w : Word) : (c.setWord k w).pwm = c.pwm := rfl
@[simp] theorem Chip.setWord_fbk (k : Nat) (w : Word) : (c.setWord k w).fbk = c.fbk := rfl
@[simp] theorem Chip.setWord_cnv (k : Nat) (w : Word) : (c.setWord k w).cnv = c.cnv := rfl
@[simp] theorem Chip.setWord_net (k : Nat) (w : Word) : (c.setWord k w).net = c.net := rfl
@[simp] theorem Chip.setWord_can (k : Nat) (w : Word) : (c.setWord k w).can = c.can := rfl
@[simp] theorem Chip.setWord_adt (k : Nat) (w : Word) : (c.setWord k w).adt = c.adt := rfl
@[simp] theorem Chip.setWord_tly (k : Nat) (w : Word) : (c.setWord k w).tly = c.tly := rfl
@[simp] theorem Chip.setWord_saf (k : Nat) (w : Word) : (c.setWord k w).saf = c.saf := rfl
@[simp] theorem Chip.setWord_pai (k : Nat) (w : Word) : (c.setWord k w).pai = c.pai := rfl
@[simp] theorem Chip.setWord_cor (k : Nat) (w : Word) : (c.setWord k w).cor = c.cor := rfl
@[simp] theorem Chip.setWord_pwr (k : Nat) (w : Word) : (c.setWord k w).pwr = c.pwr := rfl
@[simp] theorem Chip.setWord_tap (k : Nat) (w : Word) : (c.setWord k w).tap = c.tap := rfl
@[simp] theorem Chip.setWord_strobes (k : Nat) (w : Word) : (c.setWord k w).strobes = c.strobes := rfl
@[simp] theorem Chip.setWord_outQ (k : Nat) (w : Word) : (c.setWord k w).outQ = c.outQ := rfl
@[simp] theorem Chip.setWord_dramQ (k : Nat) (w : Word) : (c.setWord k w).dramQ = c.dramQ := rfl
@[simp] theorem Chip.setWord_dip (k : Nat) (w : Word) : (c.setWord k w).dip = c.dip := rfl
@[simp] theorem Chip.setWord_tim (k : Nat) (w : Word) : (c.setWord k w).tim = c.tim := rfl
@[simp] theorem Chip.setWord_logAs (k : Nat) (w : Word) : (c.setWord k w).logAs = c.logAs := rfl
@[simp] theorem Chip.setWord_logged (k : Nat) (w : Word) : (c.setWord k w).logged = c.logged := rfl
@[simp] theorem Chip.setWord_resp (k : Nat) (w : Word) : (c.setWord k w).resp = c.resp := rfl
@[simp] theorem Chip.setWord_outs (k : Nat) (w : Word) : (c.setWord k w).outs = c.outs := rfl
@[simp] theorem Chip.setWord_freeCount (k : Nat) (w : Word) : (c.setWord k w).freeCount = c.freeCount := rfl

/-! ### post -/

@[simp] theorem Chip.post_part (h : Nat) (x : Stamp) : (c.post h x).part = c.part := rfl
@[simp] theorem Chip.post_laneFloor (h : Nat) (x : Stamp) : (c.post h x).laneFloor = c.laneFloor := rfl
@[simp] theorem Chip.post_words (h : Nat) (x : Stamp) : (c.post h x).words = c.words := rfl
@[simp] theorem Chip.post_fresh (h : Nat) (x : Stamp) : (c.post h x).fresh = c.fresh := rfl
@[simp] theorem Chip.post_stamps (h : Nat) (x : Stamp) : (c.post h x).stamps = c.stamps := rfl
@[simp] theorem Chip.post_caps (h : Nat) (x : Stamp) : (c.post h x).caps = c.caps := rfl
@[simp] theorem Chip.post_keys (h : Nat) (x : Stamp) : (c.post h x).keys = c.keys := rfl
@[simp] theorem Chip.post_notices (h : Nat) (x : Stamp) : (c.post h x).notices = c.notices := rfl
@[simp] theorem Chip.post_iwin (h : Nat) (x : Stamp) : (c.post h x).iwin = c.iwin := rfl
@[simp] theorem Chip.post_samples (h : Nat) (x : Stamp) : (c.post h x).samples = c.samples := rfl
@[simp] theorem Chip.post_tallyIn (h : Nat) (x : Stamp) : (c.post h x).tallyIn = c.tallyIn := rfl
@[simp] theorem Chip.post_hst (h : Nat) (x : Stamp) : (c.post h x).hst = c.hst := rfl
@[simp] theorem Chip.post_bells (h : Nat) (x : Stamp) : (c.post h x).bells = c.bells := rfl
@[simp] theorem Chip.post_rings (h : Nat) (x : Stamp) : (c.post h x).rings = c.rings := rfl
@[simp] theorem Chip.post_hoi (h : Nat) (x : Stamp) : (c.post h x).hoi = c.hoi := rfl
@[simp] theorem Chip.post_elemPoison (h : Nat) (x : Stamp) : (c.post h x).elemPoison = c.elemPoison := rfl
@[simp] theorem Chip.post_loop (h : Nat) (x : Stamp) : (c.post h x).loop = c.loop := rfl
@[simp] theorem Chip.post_prf (h : Nat) (x : Stamp) : (c.post h x).prf = c.prf := rfl
@[simp] theorem Chip.post_pwm (h : Nat) (x : Stamp) : (c.post h x).pwm = c.pwm := rfl
@[simp] theorem Chip.post_fbk (h : Nat) (x : Stamp) : (c.post h x).fbk = c.fbk := rfl
@[simp] theorem Chip.post_cnv (h : Nat) (x : Stamp) : (c.post h x).cnv = c.cnv := rfl
@[simp] theorem Chip.post_net (h : Nat) (x : Stamp) : (c.post h x).net = c.net := rfl
@[simp] theorem Chip.post_can (h : Nat) (x : Stamp) : (c.post h x).can = c.can := rfl
@[simp] theorem Chip.post_adt (h : Nat) (x : Stamp) : (c.post h x).adt = c.adt := rfl
@[simp] theorem Chip.post_tly (h : Nat) (x : Stamp) : (c.post h x).tly = c.tly := rfl
@[simp] theorem Chip.post_saf (h : Nat) (x : Stamp) : (c.post h x).saf = c.saf := rfl
@[simp] theorem Chip.post_pai (h : Nat) (x : Stamp) : (c.post h x).pai = c.pai := rfl
@[simp] theorem Chip.post_cor (h : Nat) (x : Stamp) : (c.post h x).cor = c.cor := rfl
@[simp] theorem Chip.post_pwr (h : Nat) (x : Stamp) : (c.post h x).pwr = c.pwr := rfl
@[simp] theorem Chip.post_tap (h : Nat) (x : Stamp) : (c.post h x).tap = c.tap := rfl
@[simp] theorem Chip.post_strobes (h : Nat) (x : Stamp) : (c.post h x).strobes = c.strobes := rfl
@[simp] theorem Chip.post_outQ (h : Nat) (x : Stamp) : (c.post h x).outQ = c.outQ := rfl
@[simp] theorem Chip.post_dramQ (h : Nat) (x : Stamp) : (c.post h x).dramQ = c.dramQ := rfl
@[simp] theorem Chip.post_dip (h : Nat) (x : Stamp) : (c.post h x).dip = c.dip := rfl
@[simp] theorem Chip.post_tim (h : Nat) (x : Stamp) : (c.post h x).tim = c.tim := rfl
@[simp] theorem Chip.post_logAs (h : Nat) (x : Stamp) : (c.post h x).logAs = c.logAs := rfl
@[simp] theorem Chip.post_logged (h : Nat) (x : Stamp) : (c.post h x).logged = c.logged := rfl
@[simp] theorem Chip.post_resp (h : Nat) (x : Stamp) : (c.post h x).resp = c.resp := rfl
@[simp] theorem Chip.post_outs (h : Nat) (x : Stamp) : (c.post h x).outs = c.outs := rfl
@[simp] theorem Chip.post_freeCount (h : Nat) (x : Stamp) : (c.post h x).freeCount = c.freeCount := rfl

/-! ### sample -/

@[simp] theorem Chip.sample_part (g : Nat) (v : Int) (x : Stamp) : (c.sample g v x).part = c.part := rfl
@[simp] theorem Chip.sample_laneFloor (g : Nat) (v : Int) (x : Stamp) : (c.sample g v x).laneFloor = c.laneFloor := rfl
@[simp] theorem Chip.sample_words (g : Nat) (v : Int) (x : Stamp) : (c.sample g v x).words = c.words := rfl
@[simp] theorem Chip.sample_fresh (g : Nat) (v : Int) (x : Stamp) : (c.sample g v x).fresh = c.fresh := rfl
@[simp] theorem Chip.sample_stamps (g : Nat) (v : Int) (x : Stamp) : (c.sample g v x).stamps = c.stamps := rfl
@[simp] theorem Chip.sample_caps (g : Nat) (v : Int) (x : Stamp) : (c.sample g v x).caps = c.caps := rfl
@[simp] theorem Chip.sample_keys (g : Nat) (v : Int) (x : Stamp) : (c.sample g v x).keys = c.keys := rfl
@[simp] theorem Chip.sample_notices (g : Nat) (v : Int) (x : Stamp) : (c.sample g v x).notices = c.notices := rfl
@[simp] theorem Chip.sample_iwin (g : Nat) (v : Int) (x : Stamp) : (c.sample g v x).iwin = c.iwin := rfl
@[simp] theorem Chip.sample_posts (g : Nat) (v : Int) (x : Stamp) : (c.sample g v x).posts = c.posts := rfl
@[simp] theorem Chip.sample_tallyIn (g : Nat) (v : Int) (x : Stamp) : (c.sample g v x).tallyIn = c.tallyIn := rfl
@[simp] theorem Chip.sample_hst (g : Nat) (v : Int) (x : Stamp) : (c.sample g v x).hst = c.hst := rfl
@[simp] theorem Chip.sample_bells (g : Nat) (v : Int) (x : Stamp) : (c.sample g v x).bells = c.bells := rfl
@[simp] theorem Chip.sample_rings (g : Nat) (v : Int) (x : Stamp) : (c.sample g v x).rings = c.rings := rfl
@[simp] theorem Chip.sample_hoi (g : Nat) (v : Int) (x : Stamp) : (c.sample g v x).hoi = c.hoi := rfl
@[simp] theorem Chip.sample_elemPoison (g : Nat) (v : Int) (x : Stamp) : (c.sample g v x).elemPoison = c.elemPoison := rfl
@[simp] theorem Chip.sample_loop (g : Nat) (v : Int) (x : Stamp) : (c.sample g v x).loop = c.loop := rfl
@[simp] theorem Chip.sample_prf (g : Nat) (v : Int) (x : Stamp) : (c.sample g v x).prf = c.prf := rfl
@[simp] theorem Chip.sample_pwm (g : Nat) (v : Int) (x : Stamp) : (c.sample g v x).pwm = c.pwm := rfl
@[simp] theorem Chip.sample_fbk (g : Nat) (v : Int) (x : Stamp) : (c.sample g v x).fbk = c.fbk := rfl
@[simp] theorem Chip.sample_cnv (g : Nat) (v : Int) (x : Stamp) : (c.sample g v x).cnv = c.cnv := rfl
@[simp] theorem Chip.sample_net (g : Nat) (v : Int) (x : Stamp) : (c.sample g v x).net = c.net := rfl
@[simp] theorem Chip.sample_can (g : Nat) (v : Int) (x : Stamp) : (c.sample g v x).can = c.can := rfl
@[simp] theorem Chip.sample_adt (g : Nat) (v : Int) (x : Stamp) : (c.sample g v x).adt = c.adt := rfl
@[simp] theorem Chip.sample_tly (g : Nat) (v : Int) (x : Stamp) : (c.sample g v x).tly = c.tly := rfl
@[simp] theorem Chip.sample_saf (g : Nat) (v : Int) (x : Stamp) : (c.sample g v x).saf = c.saf := rfl
@[simp] theorem Chip.sample_pai (g : Nat) (v : Int) (x : Stamp) : (c.sample g v x).pai = c.pai := rfl
@[simp] theorem Chip.sample_cor (g : Nat) (v : Int) (x : Stamp) : (c.sample g v x).cor = c.cor := rfl
@[simp] theorem Chip.sample_pwr (g : Nat) (v : Int) (x : Stamp) : (c.sample g v x).pwr = c.pwr := rfl
@[simp] theorem Chip.sample_tap (g : Nat) (v : Int) (x : Stamp) : (c.sample g v x).tap = c.tap := rfl
@[simp] theorem Chip.sample_strobes (g : Nat) (v : Int) (x : Stamp) : (c.sample g v x).strobes = c.strobes := rfl
@[simp] theorem Chip.sample_outQ (g : Nat) (v : Int) (x : Stamp) : (c.sample g v x).outQ = c.outQ := rfl
@[simp] theorem Chip.sample_dramQ (g : Nat) (v : Int) (x : Stamp) : (c.sample g v x).dramQ = c.dramQ := rfl
@[simp] theorem Chip.sample_dip (g : Nat) (v : Int) (x : Stamp) : (c.sample g v x).dip = c.dip := rfl
@[simp] theorem Chip.sample_tim (g : Nat) (v : Int) (x : Stamp) : (c.sample g v x).tim = c.tim := rfl
@[simp] theorem Chip.sample_logAs (g : Nat) (v : Int) (x : Stamp) : (c.sample g v x).logAs = c.logAs := rfl
@[simp] theorem Chip.sample_logged (g : Nat) (v : Int) (x : Stamp) : (c.sample g v x).logged = c.logged := rfl
@[simp] theorem Chip.sample_resp (g : Nat) (v : Int) (x : Stamp) : (c.sample g v x).resp = c.resp := rfl
@[simp] theorem Chip.sample_outs (g : Nat) (v : Int) (x : Stamp) : (c.sample g v x).outs = c.outs := rfl
@[simp] theorem Chip.sample_freeCount (g : Nat) (v : Int) (x : Stamp) : (c.sample g v x).freeCount = c.freeCount := rfl

/-! ### tally -/

@[simp] theorem Chip.tally_part (k v : Nat) : (c.tally k v).part = c.part := rfl
@[simp] theorem Chip.tally_laneFloor (k v : Nat) : (c.tally k v).laneFloor = c.laneFloor := rfl
@[simp] theorem Chip.tally_words (k v : Nat) : (c.tally k v).words = c.words := rfl
@[simp] theorem Chip.tally_fresh (k v : Nat) : (c.tally k v).fresh = c.fresh := rfl
@[simp] theorem Chip.tally_stamps (k v : Nat) : (c.tally k v).stamps = c.stamps := rfl
@[simp] theorem Chip.tally_caps (k v : Nat) : (c.tally k v).caps = c.caps := rfl
@[simp] theorem Chip.tally_keys (k v : Nat) : (c.tally k v).keys = c.keys := rfl
@[simp] theorem Chip.tally_notices (k v : Nat) : (c.tally k v).notices = c.notices := rfl
@[simp] theorem Chip.tally_iwin (k v : Nat) : (c.tally k v).iwin = c.iwin := rfl
@[simp] theorem Chip.tally_posts (k v : Nat) : (c.tally k v).posts = c.posts := rfl
@[simp] theorem Chip.tally_samples (k v : Nat) : (c.tally k v).samples = c.samples := rfl
@[simp] theorem Chip.tally_hst (k v : Nat) : (c.tally k v).hst = c.hst := rfl
@[simp] theorem Chip.tally_bells (k v : Nat) : (c.tally k v).bells = c.bells := rfl
@[simp] theorem Chip.tally_rings (k v : Nat) : (c.tally k v).rings = c.rings := rfl
@[simp] theorem Chip.tally_hoi (k v : Nat) : (c.tally k v).hoi = c.hoi := rfl
@[simp] theorem Chip.tally_elemPoison (k v : Nat) : (c.tally k v).elemPoison = c.elemPoison := rfl
@[simp] theorem Chip.tally_loop (k v : Nat) : (c.tally k v).loop = c.loop := rfl
@[simp] theorem Chip.tally_prf (k v : Nat) : (c.tally k v).prf = c.prf := rfl
@[simp] theorem Chip.tally_pwm (k v : Nat) : (c.tally k v).pwm = c.pwm := rfl
@[simp] theorem Chip.tally_fbk (k v : Nat) : (c.tally k v).fbk = c.fbk := rfl
@[simp] theorem Chip.tally_cnv (k v : Nat) : (c.tally k v).cnv = c.cnv := rfl
@[simp] theorem Chip.tally_net (k v : Nat) : (c.tally k v).net = c.net := rfl
@[simp] theorem Chip.tally_can (k v : Nat) : (c.tally k v).can = c.can := rfl
@[simp] theorem Chip.tally_adt (k v : Nat) : (c.tally k v).adt = c.adt := rfl
@[simp] theorem Chip.tally_tly (k v : Nat) : (c.tally k v).tly = c.tly := rfl
@[simp] theorem Chip.tally_saf (k v : Nat) : (c.tally k v).saf = c.saf := rfl
@[simp] theorem Chip.tally_pai (k v : Nat) : (c.tally k v).pai = c.pai := rfl
@[simp] theorem Chip.tally_cor (k v : Nat) : (c.tally k v).cor = c.cor := rfl
@[simp] theorem Chip.tally_pwr (k v : Nat) : (c.tally k v).pwr = c.pwr := rfl
@[simp] theorem Chip.tally_tap (k v : Nat) : (c.tally k v).tap = c.tap := rfl
@[simp] theorem Chip.tally_strobes (k v : Nat) : (c.tally k v).strobes = c.strobes := rfl
@[simp] theorem Chip.tally_outQ (k v : Nat) : (c.tally k v).outQ = c.outQ := rfl
@[simp] theorem Chip.tally_dramQ (k v : Nat) : (c.tally k v).dramQ = c.dramQ := rfl
@[simp] theorem Chip.tally_dip (k v : Nat) : (c.tally k v).dip = c.dip := rfl
@[simp] theorem Chip.tally_tim (k v : Nat) : (c.tally k v).tim = c.tim := rfl
@[simp] theorem Chip.tally_logAs (k v : Nat) : (c.tally k v).logAs = c.logAs := rfl
@[simp] theorem Chip.tally_logged (k v : Nat) : (c.tally k v).logged = c.logged := rfl
@[simp] theorem Chip.tally_resp (k v : Nat) : (c.tally k v).resp = c.resp := rfl
@[simp] theorem Chip.tally_outs (k v : Nat) : (c.tally k v).outs = c.outs := rfl
@[simp] theorem Chip.tally_freeCount (k v : Nat) : (c.tally k v).freeCount = c.freeCount := rfl

/-! ### out -/

@[simp] theorem Chip.out_part (o : Out) : (c.out o).part = c.part := rfl
@[simp] theorem Chip.out_laneFloor (o : Out) : (c.out o).laneFloor = c.laneFloor := rfl
@[simp] theorem Chip.out_words (o : Out) : (c.out o).words = c.words := rfl
@[simp] theorem Chip.out_fresh (o : Out) : (c.out o).fresh = c.fresh := rfl
@[simp] theorem Chip.out_stamps (o : Out) : (c.out o).stamps = c.stamps := rfl
@[simp] theorem Chip.out_caps (o : Out) : (c.out o).caps = c.caps := rfl
@[simp] theorem Chip.out_keys (o : Out) : (c.out o).keys = c.keys := rfl
@[simp] theorem Chip.out_notices (o : Out) : (c.out o).notices = c.notices := rfl
@[simp] theorem Chip.out_iwin (o : Out) : (c.out o).iwin = c.iwin := rfl
@[simp] theorem Chip.out_posts (o : Out) : (c.out o).posts = c.posts := rfl
@[simp] theorem Chip.out_samples (o : Out) : (c.out o).samples = c.samples := rfl
@[simp] theorem Chip.out_tallyIn (o : Out) : (c.out o).tallyIn = c.tallyIn := rfl
@[simp] theorem Chip.out_hst (o : Out) : (c.out o).hst = c.hst := rfl
@[simp] theorem Chip.out_bells (o : Out) : (c.out o).bells = c.bells := rfl
@[simp] theorem Chip.out_rings (o : Out) : (c.out o).rings = c.rings := rfl
@[simp] theorem Chip.out_hoi (o : Out) : (c.out o).hoi = c.hoi := rfl
@[simp] theorem Chip.out_elemPoison (o : Out) : (c.out o).elemPoison = c.elemPoison := rfl
@[simp] theorem Chip.out_loop (o : Out) : (c.out o).loop = c.loop := rfl
@[simp] theorem Chip.out_prf (o : Out) : (c.out o).prf = c.prf := rfl
@[simp] theorem Chip.out_pwm (o : Out) : (c.out o).pwm = c.pwm := rfl
@[simp] theorem Chip.out_fbk (o : Out) : (c.out o).fbk = c.fbk := rfl
@[simp] theorem Chip.out_cnv (o : Out) : (c.out o).cnv = c.cnv := rfl
@[simp] theorem Chip.out_net (o : Out) : (c.out o).net = c.net := rfl
@[simp] theorem Chip.out_can (o : Out) : (c.out o).can = c.can := rfl
@[simp] theorem Chip.out_adt (o : Out) : (c.out o).adt = c.adt := rfl
@[simp] theorem Chip.out_tly (o : Out) : (c.out o).tly = c.tly := rfl
@[simp] theorem Chip.out_saf (o : Out) : (c.out o).saf = c.saf := rfl
@[simp] theorem Chip.out_pai (o : Out) : (c.out o).pai = c.pai := rfl
@[simp] theorem Chip.out_cor (o : Out) : (c.out o).cor = c.cor := rfl
@[simp] theorem Chip.out_pwr (o : Out) : (c.out o).pwr = c.pwr := rfl
@[simp] theorem Chip.out_tap (o : Out) : (c.out o).tap = c.tap := rfl
@[simp] theorem Chip.out_strobes (o : Out) : (c.out o).strobes = c.strobes := rfl
@[simp] theorem Chip.out_outQ (o : Out) : (c.out o).outQ = c.outQ := rfl
@[simp] theorem Chip.out_dramQ (o : Out) : (c.out o).dramQ = c.dramQ := rfl
@[simp] theorem Chip.out_dip (o : Out) : (c.out o).dip = c.dip := rfl
@[simp] theorem Chip.out_tim (o : Out) : (c.out o).tim = c.tim := rfl
@[simp] theorem Chip.out_logAs (o : Out) : (c.out o).logAs = c.logAs := rfl
@[simp] theorem Chip.out_logged (o : Out) : (c.out o).logged = c.logged := rfl
@[simp] theorem Chip.out_resp (o : Out) : (c.out o).resp = c.resp := rfl
@[simp] theorem Chip.out_freeCount (o : Out) : (c.out o).freeCount = c.freeCount := rfl

/-! ### answer -/

@[simp] theorem Chip.answer_part (r : RespStatus) (d : List Word) : (c.answer r d).part = c.part := rfl
@[simp] theorem Chip.answer_laneFloor (r : RespStatus) (d : List Word) : (c.answer r d).laneFloor = c.laneFloor := rfl
@[simp] theorem Chip.answer_words (r : RespStatus) (d : List Word) : (c.answer r d).words = c.words := rfl
@[simp] theorem Chip.answer_fresh (r : RespStatus) (d : List Word) : (c.answer r d).fresh = c.fresh := rfl
@[simp] theorem Chip.answer_stamps (r : RespStatus) (d : List Word) : (c.answer r d).stamps = c.stamps := rfl
@[simp] theorem Chip.answer_caps (r : RespStatus) (d : List Word) : (c.answer r d).caps = c.caps := rfl
@[simp] theorem Chip.answer_keys (r : RespStatus) (d : List Word) : (c.answer r d).keys = c.keys := rfl
@[simp] theorem Chip.answer_notices (r : RespStatus) (d : List Word) : (c.answer r d).notices = c.notices := rfl
@[simp] theorem Chip.answer_iwin (r : RespStatus) (d : List Word) : (c.answer r d).iwin = c.iwin := rfl
@[simp] theorem Chip.answer_posts (r : RespStatus) (d : List Word) : (c.answer r d).posts = c.posts := rfl
@[simp] theorem Chip.answer_samples (r : RespStatus) (d : List Word) : (c.answer r d).samples = c.samples := rfl
@[simp] theorem Chip.answer_tallyIn (r : RespStatus) (d : List Word) : (c.answer r d).tallyIn = c.tallyIn := rfl
@[simp] theorem Chip.answer_hst (r : RespStatus) (d : List Word) : (c.answer r d).hst = c.hst := rfl
@[simp] theorem Chip.answer_bells (r : RespStatus) (d : List Word) : (c.answer r d).bells = c.bells := rfl
@[simp] theorem Chip.answer_rings (r : RespStatus) (d : List Word) : (c.answer r d).rings = c.rings := rfl
@[simp] theorem Chip.answer_hoi (r : RespStatus) (d : List Word) : (c.answer r d).hoi = c.hoi := rfl
@[simp] theorem Chip.answer_elemPoison (r : RespStatus) (d : List Word) : (c.answer r d).elemPoison = c.elemPoison := rfl
@[simp] theorem Chip.answer_loop (r : RespStatus) (d : List Word) : (c.answer r d).loop = c.loop := rfl
@[simp] theorem Chip.answer_prf (r : RespStatus) (d : List Word) : (c.answer r d).prf = c.prf := rfl
@[simp] theorem Chip.answer_pwm (r : RespStatus) (d : List Word) : (c.answer r d).pwm = c.pwm := rfl
@[simp] theorem Chip.answer_fbk (r : RespStatus) (d : List Word) : (c.answer r d).fbk = c.fbk := rfl
@[simp] theorem Chip.answer_cnv (r : RespStatus) (d : List Word) : (c.answer r d).cnv = c.cnv := rfl
@[simp] theorem Chip.answer_net (r : RespStatus) (d : List Word) : (c.answer r d).net = c.net := rfl
@[simp] theorem Chip.answer_can (r : RespStatus) (d : List Word) : (c.answer r d).can = c.can := rfl
@[simp] theorem Chip.answer_adt (r : RespStatus) (d : List Word) : (c.answer r d).adt = c.adt := rfl
@[simp] theorem Chip.answer_tly (r : RespStatus) (d : List Word) : (c.answer r d).tly = c.tly := rfl
@[simp] theorem Chip.answer_saf (r : RespStatus) (d : List Word) : (c.answer r d).saf = c.saf := rfl
@[simp] theorem Chip.answer_pai (r : RespStatus) (d : List Word) : (c.answer r d).pai = c.pai := rfl
@[simp] theorem Chip.answer_cor (r : RespStatus) (d : List Word) : (c.answer r d).cor = c.cor := rfl
@[simp] theorem Chip.answer_pwr (r : RespStatus) (d : List Word) : (c.answer r d).pwr = c.pwr := rfl
@[simp] theorem Chip.answer_tap (r : RespStatus) (d : List Word) : (c.answer r d).tap = c.tap := rfl
@[simp] theorem Chip.answer_strobes (r : RespStatus) (d : List Word) : (c.answer r d).strobes = c.strobes := rfl
@[simp] theorem Chip.answer_outQ (r : RespStatus) (d : List Word) : (c.answer r d).outQ = c.outQ := rfl
@[simp] theorem Chip.answer_dramQ (r : RespStatus) (d : List Word) : (c.answer r d).dramQ = c.dramQ := rfl
@[simp] theorem Chip.answer_dip (r : RespStatus) (d : List Word) : (c.answer r d).dip = c.dip := rfl
@[simp] theorem Chip.answer_tim (r : RespStatus) (d : List Word) : (c.answer r d).tim = c.tim := rfl
@[simp] theorem Chip.answer_logAs (r : RespStatus) (d : List Word) : (c.answer r d).logAs = c.logAs := rfl
@[simp] theorem Chip.answer_logged (r : RespStatus) (d : List Word) : (c.answer r d).logged = c.logged := rfl
@[simp] theorem Chip.answer_outs (r : RespStatus) (d : List Word) : (c.answer r d).outs = c.outs := rfl
@[simp] theorem Chip.answer_freeCount (r : RespStatus) (d : List Word) : (c.answer r d).freeCount = c.freeCount := rfl

/-! ### freeWord -/

@[simp] theorem Chip.freeWord_part : c.freeWord.2.part = c.part := rfl
@[simp] theorem Chip.freeWord_laneFloor : c.freeWord.2.laneFloor = c.laneFloor := rfl
@[simp] theorem Chip.freeWord_words : c.freeWord.2.words = c.words := rfl
@[simp] theorem Chip.freeWord_fresh : c.freeWord.2.fresh = c.fresh := rfl
@[simp] theorem Chip.freeWord_stamps : c.freeWord.2.stamps = c.stamps := rfl
@[simp] theorem Chip.freeWord_caps : c.freeWord.2.caps = c.caps := rfl
@[simp] theorem Chip.freeWord_keys : c.freeWord.2.keys = c.keys := rfl
@[simp] theorem Chip.freeWord_notices : c.freeWord.2.notices = c.notices := rfl
@[simp] theorem Chip.freeWord_iwin : c.freeWord.2.iwin = c.iwin := rfl
@[simp] theorem Chip.freeWord_posts : c.freeWord.2.posts = c.posts := rfl
@[simp] theorem Chip.freeWord_samples : c.freeWord.2.samples = c.samples := rfl
@[simp] theorem Chip.freeWord_tallyIn : c.freeWord.2.tallyIn = c.tallyIn := rfl
@[simp] theorem Chip.freeWord_hst : c.freeWord.2.hst = c.hst := rfl
@[simp] theorem Chip.freeWord_bells : c.freeWord.2.bells = c.bells := rfl
@[simp] theorem Chip.freeWord_rings : c.freeWord.2.rings = c.rings := rfl
@[simp] theorem Chip.freeWord_hoi : c.freeWord.2.hoi = c.hoi := rfl
@[simp] theorem Chip.freeWord_elemPoison : c.freeWord.2.elemPoison = c.elemPoison := rfl
@[simp] theorem Chip.freeWord_loop : c.freeWord.2.loop = c.loop := rfl
@[simp] theorem Chip.freeWord_prf : c.freeWord.2.prf = c.prf := rfl
@[simp] theorem Chip.freeWord_pwm : c.freeWord.2.pwm = c.pwm := rfl
@[simp] theorem Chip.freeWord_fbk : c.freeWord.2.fbk = c.fbk := rfl
@[simp] theorem Chip.freeWord_cnv : c.freeWord.2.cnv = c.cnv := rfl
@[simp] theorem Chip.freeWord_net : c.freeWord.2.net = c.net := rfl
@[simp] theorem Chip.freeWord_can : c.freeWord.2.can = c.can := rfl
@[simp] theorem Chip.freeWord_adt : c.freeWord.2.adt = c.adt := rfl
@[simp] theorem Chip.freeWord_tly : c.freeWord.2.tly = c.tly := rfl
@[simp] theorem Chip.freeWord_saf : c.freeWord.2.saf = c.saf := rfl
@[simp] theorem Chip.freeWord_pai : c.freeWord.2.pai = c.pai := rfl
@[simp] theorem Chip.freeWord_cor : c.freeWord.2.cor = c.cor := rfl
@[simp] theorem Chip.freeWord_pwr : c.freeWord.2.pwr = c.pwr := rfl
@[simp] theorem Chip.freeWord_tap : c.freeWord.2.tap = c.tap := rfl
@[simp] theorem Chip.freeWord_strobes : c.freeWord.2.strobes = c.strobes := rfl
@[simp] theorem Chip.freeWord_outQ : c.freeWord.2.outQ = c.outQ := rfl
@[simp] theorem Chip.freeWord_dramQ : c.freeWord.2.dramQ = c.dramQ := rfl
@[simp] theorem Chip.freeWord_dip : c.freeWord.2.dip = c.dip := rfl
@[simp] theorem Chip.freeWord_tim : c.freeWord.2.tim = c.tim := rfl
@[simp] theorem Chip.freeWord_logAs : c.freeWord.2.logAs = c.logAs := rfl
@[simp] theorem Chip.freeWord_logged : c.freeWord.2.logged = c.logged := rfl
@[simp] theorem Chip.freeWord_resp : c.freeWord.2.resp = c.resp := rfl
@[simp] theorem Chip.freeWord_outs : c.freeWord.2.outs = c.outs := rfl

/-! ### freeNat -/

@[simp] theorem Chip.freeNat_part : c.freeNat.2.part = c.part := rfl
@[simp] theorem Chip.freeNat_laneFloor : c.freeNat.2.laneFloor = c.laneFloor := rfl
@[simp] theorem Chip.freeNat_words : c.freeNat.2.words = c.words := rfl
@[simp] theorem Chip.freeNat_fresh : c.freeNat.2.fresh = c.fresh := rfl
@[simp] theorem Chip.freeNat_stamps : c.freeNat.2.stamps = c.stamps := rfl
@[simp] theorem Chip.freeNat_caps : c.freeNat.2.caps = c.caps := rfl
@[simp] theorem Chip.freeNat_keys : c.freeNat.2.keys = c.keys := rfl
@[simp] theorem Chip.freeNat_notices : c.freeNat.2.notices = c.notices := rfl
@[simp] theorem Chip.freeNat_iwin : c.freeNat.2.iwin = c.iwin := rfl
@[simp] theorem Chip.freeNat_posts : c.freeNat.2.posts = c.posts := rfl
@[simp] theorem Chip.freeNat_samples : c.freeNat.2.samples = c.samples := rfl
@[simp] theorem Chip.freeNat_tallyIn : c.freeNat.2.tallyIn = c.tallyIn := rfl
@[simp] theorem Chip.freeNat_hst : c.freeNat.2.hst = c.hst := rfl
@[simp] theorem Chip.freeNat_bells : c.freeNat.2.bells = c.bells := rfl
@[simp] theorem Chip.freeNat_rings : c.freeNat.2.rings = c.rings := rfl
@[simp] theorem Chip.freeNat_hoi : c.freeNat.2.hoi = c.hoi := rfl
@[simp] theorem Chip.freeNat_elemPoison : c.freeNat.2.elemPoison = c.elemPoison := rfl
@[simp] theorem Chip.freeNat_loop : c.freeNat.2.loop = c.loop := rfl
@[simp] theorem Chip.freeNat_prf : c.freeNat.2.prf = c.prf := rfl
@[simp] theorem Chip.freeNat_pwm : c.freeNat.2.pwm = c.pwm := rfl
@[simp] theorem Chip.freeNat_fbk : c.freeNat.2.fbk = c.fbk := rfl
@[simp] theorem Chip.freeNat_cnv : c.freeNat.2.cnv = c.cnv := rfl
@[simp] theorem Chip.freeNat_net : c.freeNat.2.net = c.net := rfl
@[simp] theorem Chip.freeNat_can : c.freeNat.2.can = c.can := rfl
@[simp] theorem Chip.freeNat_adt : c.freeNat.2.adt = c.adt := rfl
@[simp] theorem Chip.freeNat_tly : c.freeNat.2.tly = c.tly := rfl
@[simp] theorem Chip.freeNat_saf : c.freeNat.2.saf = c.saf := rfl
@[simp] theorem Chip.freeNat_pai : c.freeNat.2.pai = c.pai := rfl
@[simp] theorem Chip.freeNat_cor : c.freeNat.2.cor = c.cor := rfl
@[simp] theorem Chip.freeNat_pwr : c.freeNat.2.pwr = c.pwr := rfl
@[simp] theorem Chip.freeNat_tap : c.freeNat.2.tap = c.tap := rfl
@[simp] theorem Chip.freeNat_strobes : c.freeNat.2.strobes = c.strobes := rfl
@[simp] theorem Chip.freeNat_outQ : c.freeNat.2.outQ = c.outQ := rfl
@[simp] theorem Chip.freeNat_dramQ : c.freeNat.2.dramQ = c.dramQ := rfl
@[simp] theorem Chip.freeNat_dip : c.freeNat.2.dip = c.dip := rfl
@[simp] theorem Chip.freeNat_tim : c.freeNat.2.tim = c.tim := rfl
@[simp] theorem Chip.freeNat_logAs : c.freeNat.2.logAs = c.logAs := rfl
@[simp] theorem Chip.freeNat_logged : c.freeNat.2.logged = c.logged := rfl
@[simp] theorem Chip.freeNat_resp : c.freeNat.2.resp = c.resp := rfl
@[simp] theorem Chip.freeNat_outs : c.freeNat.2.outs = c.outs := rfl

/-! ### freeBool -/

@[simp] theorem Chip.freeBool_part : c.freeBool.2.part = c.part := rfl
@[simp] theorem Chip.freeBool_laneFloor : c.freeBool.2.laneFloor = c.laneFloor := rfl
@[simp] theorem Chip.freeBool_words : c.freeBool.2.words = c.words := rfl
@[simp] theorem Chip.freeBool_fresh : c.freeBool.2.fresh = c.fresh := rfl
@[simp] theorem Chip.freeBool_stamps : c.freeBool.2.stamps = c.stamps := rfl
@[simp] theorem Chip.freeBool_caps : c.freeBool.2.caps = c.caps := rfl
@[simp] theorem Chip.freeBool_keys : c.freeBool.2.keys = c.keys := rfl
@[simp] theorem Chip.freeBool_notices : c.freeBool.2.notices = c.notices := rfl
@[simp] theorem Chip.freeBool_iwin : c.freeBool.2.iwin = c.iwin := rfl
@[simp] theorem Chip.freeBool_posts : c.freeBool.2.posts = c.posts := rfl
@[simp] theorem Chip.freeBool_samples : c.freeBool.2.samples = c.samples := rfl
@[simp] theorem Chip.freeBool_tallyIn : c.freeBool.2.tallyIn = c.tallyIn := rfl
@[simp] theorem Chip.freeBool_hst : c.freeBool.2.hst = c.hst := rfl
@[simp] theorem Chip.freeBool_bells : c.freeBool.2.bells = c.bells := rfl
@[simp] theorem Chip.freeBool_rings : c.freeBool.2.rings = c.rings := rfl
@[simp] theorem Chip.freeBool_hoi : c.freeBool.2.hoi = c.hoi := rfl
@[simp] theorem Chip.freeBool_elemPoison : c.freeBool.2.elemPoison = c.elemPoison := rfl
@[simp] theorem Chip.freeBool_loop : c.freeBool.2.loop = c.loop := rfl
@[simp] theorem Chip.freeBool_prf : c.freeBool.2.prf = c.prf := rfl
@[simp] theorem Chip.freeBool_pwm : c.freeBool.2.pwm = c.pwm := rfl
@[simp] theorem Chip.freeBool_fbk : c.freeBool.2.fbk = c.fbk := rfl
@[simp] theorem Chip.freeBool_cnv : c.freeBool.2.cnv = c.cnv := rfl
@[simp] theorem Chip.freeBool_net : c.freeBool.2.net = c.net := rfl
@[simp] theorem Chip.freeBool_can : c.freeBool.2.can = c.can := rfl
@[simp] theorem Chip.freeBool_adt : c.freeBool.2.adt = c.adt := rfl
@[simp] theorem Chip.freeBool_tly : c.freeBool.2.tly = c.tly := rfl
@[simp] theorem Chip.freeBool_saf : c.freeBool.2.saf = c.saf := rfl
@[simp] theorem Chip.freeBool_pai : c.freeBool.2.pai = c.pai := rfl
@[simp] theorem Chip.freeBool_cor : c.freeBool.2.cor = c.cor := rfl
@[simp] theorem Chip.freeBool_pwr : c.freeBool.2.pwr = c.pwr := rfl
@[simp] theorem Chip.freeBool_tap : c.freeBool.2.tap = c.tap := rfl
@[simp] theorem Chip.freeBool_strobes : c.freeBool.2.strobes = c.strobes := rfl
@[simp] theorem Chip.freeBool_outQ : c.freeBool.2.outQ = c.outQ := rfl
@[simp] theorem Chip.freeBool_dramQ : c.freeBool.2.dramQ = c.dramQ := rfl
@[simp] theorem Chip.freeBool_dip : c.freeBool.2.dip = c.dip := rfl
@[simp] theorem Chip.freeBool_tim : c.freeBool.2.tim = c.tim := rfl
@[simp] theorem Chip.freeBool_logAs : c.freeBool.2.logAs = c.logAs := rfl
@[simp] theorem Chip.freeBool_logged : c.freeBool.2.logged = c.logged := rfl
@[simp] theorem Chip.freeBool_resp : c.freeBool.2.resp = c.resp := rfl
@[simp] theorem Chip.freeBool_outs : c.freeBool.2.outs = c.outs := rfl

/-! ### freeInt -/

@[simp] theorem Chip.freeInt_part : c.freeInt.2.part = c.part := rfl
@[simp] theorem Chip.freeInt_laneFloor : c.freeInt.2.laneFloor = c.laneFloor := rfl
@[simp] theorem Chip.freeInt_words : c.freeInt.2.words = c.words := rfl
@[simp] theorem Chip.freeInt_fresh : c.freeInt.2.fresh = c.fresh := rfl
@[simp] theorem Chip.freeInt_stamps : c.freeInt.2.stamps = c.stamps := rfl
@[simp] theorem Chip.freeInt_caps : c.freeInt.2.caps = c.caps := rfl
@[simp] theorem Chip.freeInt_keys : c.freeInt.2.keys = c.keys := rfl
@[simp] theorem Chip.freeInt_notices : c.freeInt.2.notices = c.notices := rfl
@[simp] theorem Chip.freeInt_iwin : c.freeInt.2.iwin = c.iwin := rfl
@[simp] theorem Chip.freeInt_posts : c.freeInt.2.posts = c.posts := rfl
@[simp] theorem Chip.freeInt_samples : c.freeInt.2.samples = c.samples := rfl
@[simp] theorem Chip.freeInt_tallyIn : c.freeInt.2.tallyIn = c.tallyIn := rfl
@[simp] theorem Chip.freeInt_hst : c.freeInt.2.hst = c.hst := rfl
@[simp] theorem Chip.freeInt_bells : c.freeInt.2.bells = c.bells := rfl
@[simp] theorem Chip.freeInt_rings : c.freeInt.2.rings = c.rings := rfl
@[simp] theorem Chip.freeInt_hoi : c.freeInt.2.hoi = c.hoi := rfl
@[simp] theorem Chip.freeInt_elemPoison : c.freeInt.2.elemPoison = c.elemPoison := rfl
@[simp] theorem Chip.freeInt_loop : c.freeInt.2.loop = c.loop := rfl
@[simp] theorem Chip.freeInt_prf : c.freeInt.2.prf = c.prf := rfl
@[simp] theorem Chip.freeInt_pwm : c.freeInt.2.pwm = c.pwm := rfl
@[simp] theorem Chip.freeInt_fbk : c.freeInt.2.fbk = c.fbk := rfl
@[simp] theorem Chip.freeInt_cnv : c.freeInt.2.cnv = c.cnv := rfl
@[simp] theorem Chip.freeInt_net : c.freeInt.2.net = c.net := rfl
@[simp] theorem Chip.freeInt_can : c.freeInt.2.can = c.can := rfl
@[simp] theorem Chip.freeInt_adt : c.freeInt.2.adt = c.adt := rfl
@[simp] theorem Chip.freeInt_tly : c.freeInt.2.tly = c.tly := rfl
@[simp] theorem Chip.freeInt_saf : c.freeInt.2.saf = c.saf := rfl
@[simp] theorem Chip.freeInt_pai : c.freeInt.2.pai = c.pai := rfl
@[simp] theorem Chip.freeInt_cor : c.freeInt.2.cor = c.cor := rfl
@[simp] theorem Chip.freeInt_pwr : c.freeInt.2.pwr = c.pwr := rfl
@[simp] theorem Chip.freeInt_tap : c.freeInt.2.tap = c.tap := rfl
@[simp] theorem Chip.freeInt_strobes : c.freeInt.2.strobes = c.strobes := rfl
@[simp] theorem Chip.freeInt_outQ : c.freeInt.2.outQ = c.outQ := rfl
@[simp] theorem Chip.freeInt_dramQ : c.freeInt.2.dramQ = c.dramQ := rfl
@[simp] theorem Chip.freeInt_dip : c.freeInt.2.dip = c.dip := rfl
@[simp] theorem Chip.freeInt_tim : c.freeInt.2.tim = c.tim := rfl
@[simp] theorem Chip.freeInt_logAs : c.freeInt.2.logAs = c.logAs := rfl
@[simp] theorem Chip.freeInt_logged : c.freeInt.2.logged = c.logged := rfl
@[simp] theorem Chip.freeInt_resp : c.freeInt.2.resp = c.resp := rfl
@[simp] theorem Chip.freeInt_outs : c.freeInt.2.outs = c.outs := rfl

/-! ### What an update sets -/

@[simp] theorem Chip.post_posts (h : Nat) (x : Stamp) : (c.post h x).posts = c.posts ++ [{ head := h, stamp := x }] := rfl
@[simp] theorem Chip.out_outs (o : Out) : (c.out o).outs = c.outs ++ [o] := rfl
@[simp] theorem Chip.answer_resp (r : RespStatus) (d : List Word) : (c.answer r d).resp = { status := r, data := d } := rfl
@[simp] theorem Chip.sample_samples (g : Nat) (v : Int) (x : Stamp) :
    (c.sample g v x).samples = c.samples ++ [{ sig := g, value := v, stamp := x }] := rfl
@[simp] theorem Chip.tally_tallyIn (k v : Nat) :
    (c.tally k v).tallyIn = c.tallyIn ++ [{ code := k, value := v, stamp := c.now }] := rfl

end Sys2Proof.Machine
end

