-- ==== Sys2Proof/Laws/Tab.lean ====
section
/-! SUPPORT. Laws of the sparse tables: read after write, and the canonical form that every operation keeps. -/

namespace Sys2Proof.Machine

variable {α : Type}

theorem tabGet_erase_ne (d : Nat → α) (t : Tab α) {k k' : Nat} (h : k' ≠ k) :
    tabGet d (tabErase t k) k' = tabGet d t k' := by
  induction t with
  | nil => rfl
  | cons e r ih =>
    obtain ⟨x, v⟩ := e
    by_cases hx : x = k
    · subst hx; simp [tabErase, tabGet, Ne.symm h] at ih ⊢; exact ih
    · simp only [tabErase, tabGet, List.filter_cons] at ih ⊢; simp [hx, tabGet, ih]

theorem tabGet_erase_same (d : Nat → α) (t : Tab α) (k : Nat) : tabGet d (tabErase t k) k = d k := by
  induction t with
  | nil => rfl
  | cons e r ih =>
    obtain ⟨x, v⟩ := e
    by_cases hx : x = k
    · simpa [tabErase, hx] using ih
    · simp only [tabErase, List.filter_cons] at ih ⊢; simp [hx, tabGet, ih]

theorem tabGet_insert_ne (d : Nat → α) (t : Tab α) {k k' : Nat} (v : α) (h : k' ≠ k) :
    tabGet d (tabInsert k v t) k' = tabGet d t k' := by
  induction t with
  | nil => simp [tabInsert, tabGet, Ne.symm h]
  | cons e r ih =>
    obtain ⟨x, w⟩ := e
    simp only [tabInsert]; split <;> simp [tabGet, Ne.symm h, ih]

theorem tabGet_insert_same (d : Nat → α) (t : Tab α) (k : Nat) (v : α) (h : ∀ e ∈ t, e.1 ≠ k) :
    tabGet d (tabInsert k v t) k = v := by
  induction t with
  | nil => simp [tabInsert, tabGet]
  | cons e r ih =>
    obtain ⟨x, w⟩ := e
    have hx : x ≠ k := h (x, w) (by simp)
    simp only [tabInsert]; split
    · simp [tabGet]
    · simp [tabGet, hx, ih fun e he => h e (by simp [he])]

/-- Read after write at the same key. -/
@[simp] theorem tabGet_tabSet_same [DecidableEq α] (d : Nat → α) (t : Tab α) (k : Nat) (v : α) :
    tabGet d (tabSet d t k v) k = v := by
  unfold tabSet; split
  · rename_i h; rw [tabGet_erase_same, h]
  · exact tabGet_insert_same _ _ _ _ (by simp [tabErase])

/-- A write leaves every other key alone. -/
theorem tabGet_tabSet_ne [DecidableEq α] (d : Nat → α) (t : Tab α) {k k' : Nat} (v : α) (h : k' ≠ k) :
    tabGet d (tabSet d t k v) k' = tabGet d t k' := by
  unfold tabSet; split
  · exact tabGet_erase_ne d t h
  · rw [tabGet_insert_ne d _ v h, tabGet_erase_ne d t h]

theorem tabGet_tabSet [DecidableEq α] (d : Nat → α) (t : Tab α) (k k' : Nat) (v : α) :
    tabGet d (tabSet d t k v) k' = if k' = k then v else tabGet d t k' := by
  split
  · next h => subst h; simp
  · next h => exact tabGet_tabSet_ne d t v h

@[simp] theorem tab_tabPut_same [DecidableEq α] (d : α) (t : Tab α) (k : Nat) (v : α) : tab d (tabPut d t k v) k = v :=
  tabGet_tabSet_same ..

theorem tab_tabPut_ne [DecidableEq α] (d : α) (t : Tab α) {k k' : Nat} (v : α) (h : k' ≠ k) :
    tab d (tabPut d t k v) k' = tab d t k' := tabGet_tabSet_ne _ _ _ h

theorem tab_tabPut [DecidableEq α] (d : α) (t : Tab α) (k k' : Nat) (v : α) :
    tab d (tabPut d t k v) k' = if k' = k then v else tab d t k' := tabGet_tabSet ..

@[simp] theorem tab_nil (d : α) (k : Nat) : tab d [] k = d := rfl

/-! ### The canonical form -/

/-- The keys rise strictly, as Lean's own relation on lists. -/
theorem tabSorted_iff (t : Tab α) : tabSorted t = true ↔ (t.map (·.1)).Pairwise (· < ·) := by
  induction t with
  | nil => simp [tabSorted]
  | cons e r ih =>
    obtain ⟨k, v⟩ := e
    cases r with
    | nil => simp [tabSorted]
    | cons e' r' =>
      obtain ⟨k', v'⟩ := e'
      simp only [tabSorted, Bool.and_eq_true, decide_eq_true_eq, ih, List.map_cons, List.pairwise_cons]
      constructor
      · rintro ⟨h, h1, h2⟩
        refine ⟨fun x hx => ?_, h1, h2⟩
        rcases List.mem_cons.1 hx with rfl | hx
        · exact h
        · exact Nat.lt_trans h (h1 x hx)
      · rintro ⟨h, h1, h2⟩
        exact ⟨h k' (by simp), h1, h2⟩

theorem tabWf_iff [DecidableEq α] (d : Nat → α) (t : Tab α) :
    tabWf d t = true ↔ (t.map (·.1)).Pairwise (· < ·) ∧ ∀ e ∈ t, e.2 ≠ d e.1 := by
  simp [tabWf, tabSorted_iff]

theorem tabInsert_mem (k : Nat) (v : α) (t : Tab α) (e : Nat × α) : e ∈ tabInsert k v t ↔ e = (k, v) ∨ e ∈ t := by
  induction t with
  | nil => simp [tabInsert]
  | cons e' r ih => simp only [tabInsert]; split <;> simp [ih, or_left_comm]

theorem tabWf_filter [DecidableEq α] (d : Nat → α) (t : Tab α) (p : Nat × α → Bool) (h : tabWf d t = true) :
    tabWf d (t.filter p) = true := by
  rw [tabWf_iff] at h ⊢
  exact ⟨h.1.sublist (List.filter_sublist.map _), fun e he => h.2 e (List.mem_filter.1 he).1⟩

theorem tabInsert_sorted (k : Nat) (v : α) (t : Tab α) (h : (t.map (·.1)).Pairwise (· < ·)) (hk : ∀ e ∈ t, e.1 ≠ k) :
    ((tabInsert k v t).map (·.1)).Pairwise (· < ·) := by
  induction t with
  | nil => simp [tabInsert]
  | cons e r ih =>
    obtain ⟨x, w⟩ := e
    simp only [List.map_cons, List.pairwise_cons] at h
    simp only [tabInsert]; split
    · next hx =>
      simp only [List.map_cons, List.pairwise_cons]
      refine ⟨fun y hy => ?_, h⟩
      rcases List.mem_cons.1 hy with rfl | hy
      · exact hx
      · exact Nat.lt_trans hx (h.1 y hy)
    · next hx =>
      have hxk : x < k := by
        have := hk (x, w) (by simp); simp only at this; omega
      simp only [List.map_cons, List.pairwise_cons]
      refine ⟨fun y hy => ?_, ih h.2 fun e he => hk e (by simp [he])⟩
      obtain ⟨e, he, rfl⟩ := List.mem_map.1 hy
      rcases (tabInsert_mem k v r e).1 he with rfl | he
      · exact hxk
      · exact h.1 _ (List.mem_map.2 ⟨e, he, rfl⟩)

/-- A write keeps the canonical form. -/
theorem tabWf_tabSet [DecidableEq α] (d : Nat → α) (t : Tab α) (k : Nat) (v : α) (h : tabWf d t = true) :
    tabWf d (tabSet d t k v) = true := by
  unfold tabSet; split
  · exact tabWf_filter d t _ h
  · next hv =>
    have h' := tabWf_filter d t (fun e => !(e.1 == k)) h
    rw [tabWf_iff] at h' ⊢
    refine ⟨tabInsert_sorted k v _ h'.1 (by simp [tabErase]), fun e he => ?_⟩
    rcases (tabInsert_mem k v _ e).1 he with rfl | he
    · exact hv
    · exact h'.2 e he

theorem tabWf_tabPut [DecidableEq α] (d : α) (t : Tab α) (k : Nat) (v : α) (h : tabWf (fun _ => d) t = true) :
    tabWf (fun _ => d) (tabPut d t k v) = true := tabWf_tabSet _ _ _ _ h

end Sys2Proof.Machine
end

