-- ==== Sys2Proof/Laws/Words.lean ====
section
/-! SUPPORT. Words and their fields: what reads as what after a write of a word, a field or a bit; each derived update keeps
every part of the state that is no word. -/

namespace Sys2Proof.Machine

/-! ### Fields of a word -/

theorem getBits_lt (w : Word) (lo n : Nat) : getBits w lo n < 2 ^ n := Nat.mod_lt _ (Nat.two_pow_pos n)

theorem testBit_getBits (w : Word) (lo n i : Nat) : (getBits w lo n).testBit i = (decide (i < n) && w.getLsbD (lo + i)) := by
  simp [getBits, Nat.testBit_mod_two_pow, Nat.testBit_shiftRight, BitVec.testBit_toNat]

theorem getLsbD_fieldMask (lo n j : Nat) :
    (fieldMask lo n).getLsbD j = (decide (j < 32) && (decide (lo ≤ j) && decide (j - lo < n))) := by
  simp [fieldMask, BitVec.getLsbD_ofNat, Nat.testBit_shiftLeft, Nat.testBit_two_pow_sub_one]

theorem getLsbD_putBits (w : Word) (lo n v j : Nat) :
    (putBits w lo n v).getLsbD j =
      if lo ≤ j ∧ j - lo < n ∧ j < 32 then v.testBit (j - lo) else w.getLsbD j := by
  simp only [putBits, BitVec.getLsbD_or, BitVec.getLsbD_and, BitVec.getLsbD_not, getLsbD_fieldMask, BitVec.getLsbD_ofNat,
    Nat.testBit_shiftLeft]
  by_cases h32 : j < 32
  · by_cases hl : lo ≤ j <;> by_cases hn : j - lo < n <;> simp [h32, hl, hn]
  · have : w.getLsbD j = false := BitVec.getLsbD_of_ge w j (by omega)
    simp [this, h32]

theorem getBits_putBits_same (w : Word) (lo n v : Nat) (h : lo + n ≤ 32) : getBits (putBits w lo n v) lo n = v % 2 ^ n := by
  apply Nat.eq_of_testBit_eq; intro i
  rw [testBit_getBits, getLsbD_putBits, Nat.testBit_mod_two_pow]
  by_cases hi : i < n
  · simp [hi]; intro h'; omega
  · simp [hi]

theorem getBits_putBits_ne (w : Word) (lo n v lo' n' : Nat) (h : lo' + n' ≤ lo ∨ lo + n ≤ lo') :
    getBits (putBits w lo n v) lo' n' = getBits w lo' n' := by
  apply Nat.eq_of_testBit_eq; intro i
  rw [testBit_getBits, testBit_getBits, getLsbD_putBits]
  by_cases hi : i < n'
  · have : ¬(lo ≤ lo' + i ∧ lo' + i - lo < n ∧ lo' + i < 32) := by omega
    simp [hi, this]
  · simp [hi]

@[simp] theorem b2n_mod (b : Bool) : b2n b % 2 = b2n b := by cases b <;> rfl
@[simp] theorem b2n_testBit (b : Bool) : (b2n b).testBit 0 = b := by cases b <;> rfl

/-! ### Reads after writes of the module's words -/

@[simp] theorem Chip.word_setWord_same (c : Chip) (k : Nat) (w : Word) : (c.setWord k w).word k = w :=
  tabGet_tabSet_same ..

theorem Chip.word_setWord_ne (c : Chip) {k k' : Nat} (w : Word) (h : k' ≠ k) : (c.setWord k w).word k' = c.word k' :=
  tabGet_tabSet_ne _ _ _ h

theorem Chip.word_setWord (c : Chip) (k k' : Nat) (w : Word) :
    (c.setWord k w).word k' = if k' = k then w else c.word k' := tabGet_tabSet ..

theorem Chip.word_setFld (c : Chip) (k lo n v k' : Nat) :
    (c.setFld k lo n v).word k' = if k' = k then putBits (c.word k) lo n v else c.word k' := word_setWord ..

theorem Chip.fld_setFld_same (c : Chip) (k lo n v : Nat) (h : lo + n ≤ 32) : (c.setFld k lo n v).fld k lo n = v % 2 ^ n := by
  simp [Chip.fld, Chip.word_setFld, getBits_putBits_same _ _ _ _ h]

theorem Chip.fld_setFld_field (c : Chip) (k lo n v lo' n' : Nat) (h : lo' + n' ≤ lo ∨ lo + n ≤ lo') :
    (c.setFld k lo n v).fld k lo' n' = c.fld k lo' n' := by
  simp [Chip.fld, Chip.word_setFld, getBits_putBits_ne _ _ _ _ _ _ h]

theorem Chip.fld_setFld_ne (c : Chip) {k k' : Nat} (lo n v lo' n' : Nat) (h : k' ≠ k) :
    (c.setFld k lo n v).fld k' lo' n' = c.fld k' lo' n' := by
  simp [Chip.fld, Chip.word_setFld, h]

theorem Chip.fld_setWord_ne (c : Chip) {k k' : Nat} (w : Word) (lo n : Nat) (h : k' ≠ k) :
    (c.setWord k w).fld k' lo n = c.fld k' lo n := by
  simp [Chip.fld, Chip.word_setWord, h]

theorem Chip.bit_setFld (c : Chip) (k lo n v k' i : Nat) :
    (c.setFld k lo n v).bit k' i =
      if k' = k ∧ lo ≤ i ∧ i - lo < n ∧ i < 32 then v.testBit (i - lo) else c.bit k' i := by
  by_cases hk : k' = k
  · subst hk; simp [Chip.bit, Chip.word_setFld, getLsbD_putBits]
  · simp [Chip.bit, Chip.word_setFld, hk]

theorem Chip.bit_setBit (c : Chip) (k i : Nat) (b : Bool) (k' j : Nat) (h : i < 32) :
    (c.setBit k i b).bit k' j = if k' = k ∧ j = i then b else c.bit k' j := by
  rw [Chip.setBit, Chip.bit_setFld]
  by_cases hk : k' = k <;> by_cases hj : j = i
  · subst hk; subst hj; simp only [h, Nat.sub_self]; cases b <;> simp [b2n]
  · have : ¬(i ≤ j ∧ j < 1 + i ∧ j < 32) := by omega
    simp [hk, hj]; intro h1 h2 h3; omega
  · simp [hk]
  · simp [hk]

@[simp] theorem Chip.bit_setBit_same (c : Chip) (k i : Nat) (b : Bool) (h : i < 32) : (c.setBit k i b).bit k i = b := by
  simp [Chip.bit_setBit, h]

theorem Chip.word_setBit_ne (c : Chip) {k k' : Nat} (i : Nat) (b : Bool) (h : k' ≠ k) : (c.setBit k i b).word k' = c.word k' := by
  simp [Chip.setBit, Chip.word_setFld, h]

theorem Chip.word_setNat (c : Chip) (k v k' : Nat) :
    (c.setNat k v).word k' = if k' = k then BitVec.ofNat 32 v else c.word k' := word_setWord ..

theorem Chip.nat_setNat_same (c : Chip) (k v : Nat) (h : v < 2 ^ 32) : (c.setNat k v).nat k = v := by
  simp only [Chip.nat, Chip.word_setNat, if_true, BitVec.toNat_ofNat]; exact Nat.mod_eq_of_lt h

/-- A counter advances by one and stays at its end (R9). -/
theorem Chip.nat_count_same (c : Chip) (k : Nat) : (c.count k).nat k = min (2 ^ 32 - 1) (c.nat k + 1) := by
  rw [Chip.count, Chip.nat_setNat_same]
  · rfl
  · simp only [satAdd]; omega

end Sys2Proof.Machine
end

