-- ==== Sys2Proof/Laws/Command.lean ====
section
/-! SUPPORT. What the shared operations of the commands can do: an event and an access end in a next state, nothing stays on its
way, DRAM keeps its canonical form; and how an accepted write and read come out. -/

namespace Sys2Proof.Machine

/-! ### DRAM keeps its canonical form -/

theorem dramStore_wf (m : List Host.Cell) (a : Nat) (l : List Byte) (h : Memory.wf m = true) :
    Memory.wf (dramStore m a l) = true := by
  induction l generalizing m a with
  | nil => exact h
  | cons b r ih => exact ih _ _ (tabWf_tabPut _ _ _ _ h)

theorem unpoison_wf (t : Tab Bool) (a n : Nat) (h : tabWf (fun _ => false) t = true) :
    tabWf (fun _ => false) (unpoison t a n) = true := by
  unfold unpoison
  generalize (blocksOf a n).filter _ = l
  induction l generalizing t with
  | nil => exact h
  | cons b r ih => exact ih _ (tabWf_tabPut _ _ _ _ h)

theorem flushDram_wf (s : State) (h : Memory.wf s.dram = true) : Memory.wf s.flushDram.dram = true := by
  simp only [State.flushDram]
  generalize s.chip.dramQ = l
  revert h
  generalize s.dram = m
  intro h
  induction l generalizing m with
  | nil => exact h
  | cons w r ih => exact ih _ (dramStore_wf _ _ _ h)

theorem flushDram_poison_wf (s : State) (h : tabWf (fun _ => false) s.dramPoison = true) :
    tabWf (fun _ => false) s.flushDram.dramPoison = true := by
  simp only [State.flushDram]
  generalize s.chip.dramQ = l
  revert h
  generalize s.dramPoison = t
  intro h
  induction l generalizing t with
  | nil => exact h
  | cons w r ih => exact ih _ (unpoison_wf _ _ _ h)

/-! ### Bytes of DRAM -/

theorem dramByte_store_out (m : List Host.Cell) (a : Nat) (l : List Byte) (x : Nat) (h : x < a ∨ a + l.length ≤ x) :
    dramByte (dramStore m a l) x = dramByte m x := by
  induction l generalizing m a with
  | nil => rfl
  | cons b r ih =>
    simp only [dramStore, List.length_cons] at h ⊢
    rw [ih _ _ (by omega)]
    exact tab_tabPut_ne _ _ _ (by omega)

theorem dramByte_store_in (m : List Host.Cell) (a : Nat) (l : List Byte) (i : Nat) (h : i < l.length) :
    dramByte (dramStore m a l) (a + i) = l[i] := by
  induction l generalizing m a i with
  | nil => simp at h
  | cons b r ih =>
    cases i with
    | zero =>
      simp only [dramStore, Nat.add_zero, List.getElem_cons_zero]
      rw [dramByte_store_out _ _ _ _ (by omega)]
      exact tab_tabPut_same ..
    | succ i =>
      simp only [dramStore, List.getElem_cons_succ]
      rw [show a + (i + 1) = (a + 1) + i by omega]
      exact ih _ _ _ (by simpa using h)

/-! ### What a command leaves -/

theorem deliverRounds_outQ (n : Nat) (c : Chip) : (Chip.deliverRounds n c).outQ = [] := by
  induction n generalizing c with
  | zero => unfold Chip.deliverRounds; split <;> simp_all
  | succ n ih => unfold Chip.deliverRounds; split <;> simp_all

@[simp] theorem deliverOuts_outQ (c : Chip) : c.deliverOuts.outQ = [] := deliverRounds_outQ _ _

/-- With no output on its way there is nothing to deliver. -/
theorem deliverOuts_of_nil (c : Chip) (h : c.outQ = []) : c.deliverOuts = c := by
  unfold Chip.deliverOuts Chip.deliverRounds; split <;> simp_all

/-! A settled machine keeps all that `f` made of the module but its two queues. -/

@[simp] theorem settle_part (s : State) (f : Chip → Chip) : (s.settle f).chip.part = (f s.chip).part := rfl
@[simp] theorem settle_laneFloor (s : State) (f : Chip → Chip) : (s.settle f).chip.laneFloor = (f s.chip).laneFloor := rfl
@[simp] theorem settle_words (s : State) (f : Chip → Chip) : (s.settle f).chip.words = (f s.chip).words := rfl
@[simp] theorem settle_fresh (s : State) (f : Chip → Chip) : (s.settle f).chip.fresh = (f s.chip).fresh := rfl
@[simp] theorem settle_stamps (s : State) (f : Chip → Chip) : (s.settle f).chip.stamps = (f s.chip).stamps := rfl
@[simp] theorem settle_caps (s : State) (f : Chip → Chip) : (s.settle f).chip.caps = (f s.chip).caps := rfl
@[simp] theorem settle_keys (s : State) (f : Chip → Chip) : (s.settle f).chip.keys = (f s.chip).keys := rfl
@[simp] theorem settle_notices (s : State) (f : Chip → Chip) : (s.settle f).chip.notices = (f s.chip).notices := rfl
@[simp] theorem settle_iwin (s : State) (f : Chip → Chip) : (s.settle f).chip.iwin = (f s.chip).iwin := rfl
@[simp] theorem settle_posts (s : State) (f : Chip → Chip) : (s.settle f).chip.posts = (f s.chip).posts := rfl
@[simp] theorem settle_samples (s : State) (f : Chip → Chip) : (s.settle f).chip.samples = (f s.chip).samples := rfl
@[simp] theorem settle_tallyIn (s : State) (f : Chip → Chip) : (s.settle f).chip.tallyIn = (f s.chip).tallyIn := rfl
@[simp] theorem settle_hst (s : State) (f : Chip → Chip) : (s.settle f).chip.hst = (f s.chip).hst := rfl
@[simp] theorem settle_bells (s : State) (f : Chip → Chip) : (s.settle f).chip.bells = (f s.chip).bells := rfl
@[simp] theorem settle_rings (s : State) (f : Chip → Chip) : (s.settle f).chip.rings = (f s.chip).rings := rfl
@[simp] theorem settle_hoi (s : State) (f : Chip → Chip) : (s.settle f).chip.hoi = (f s.chip).hoi := rfl
@[simp] theorem settle_elemPoison (s : State) (f : Chip → Chip) : (s.settle f).chip.elemPoison = (f s.chip).elemPoison := rfl
@[simp] theorem settle_loop (s : State) (f : Chip → Chip) : (s.settle f).chip.loop = (f s.chip).loop := rfl
@[simp] theorem settle_prf (s : State) (f : Chip → Chip) : (s.settle f).chip.prf = (f s.chip).prf := rfl
@[simp] theorem settle_pwm (s : State) (f : Chip → Chip) : (s.settle f).chip.pwm = (f s.chip).pwm := rfl
@[simp] theorem settle_fbk (s : State) (f : Chip → Chip) : (s.settle f).chip.fbk = (f s.chip).fbk := rfl
@[simp] theorem settle_cnv (s : State) (f : Chip → Chip) : (s.settle f).chip.cnv = (f s.chip).cnv := rfl
@[simp] theorem settle_net (s : State) (f : Chip → Chip) : (s.settle f).chip.net = (f s.chip).net := rfl
@[simp] theorem settle_can (s : State) (f : Chip → Chip) : (s.settle f).chip.can = (f s.chip).can := rfl
@[simp] theorem settle_adt (s : State) (f : Chip → Chip) : (s.settle f).chip.adt = (f s.chip).adt := rfl
@[simp] theorem settle_tly (s : State) (f : Chip → Chip) : (s.settle f).chip.tly = (f s.chip).tly := rfl
@[simp] theorem settle_saf (s : State) (f : Chip → Chip) : (s.settle f).chip.saf = (f s.chip).saf := rfl
@[simp] theorem settle_pai (s : State) (f : Chip → Chip) : (s.settle f).chip.pai = (f s.chip).pai := rfl
@[simp] theorem settle_cor (s : State) (f : Chip → Chip) : (s.settle f).chip.cor = (f s.chip).cor := rfl
@[simp] theorem settle_pwr (s : State) (f : Chip → Chip) : (s.settle f).chip.pwr = (f s.chip).pwr := rfl
@[simp] theorem settle_tap (s : State) (f : Chip → Chip) : (s.settle f).chip.tap = (f s.chip).tap := rfl
@[simp] theorem settle_strobes (s : State) (f : Chip → Chip) : (s.settle f).chip.strobes = (f s.chip).strobes := rfl
@[simp] theorem settle_logAs (s : State) (f : Chip → Chip) : (s.settle f).chip.logAs = (f s.chip).logAs := rfl
@[simp] theorem settle_logged (s : State) (f : Chip → Chip) : (s.settle f).chip.logged = (f s.chip).logged := rfl
@[simp] theorem settle_dip (s : State) (f : Chip → Chip) : (s.settle f).chip.dip = (f s.chip).dip := rfl
@[simp] theorem settle_tim (s : State) (f : Chip → Chip) : (s.settle f).chip.tim = (f s.chip).tim := rfl
@[simp] theorem settle_resp (s : State) (f : Chip → Chip) : (s.settle f).chip.resp = (f s.chip).resp := rfl
@[simp] theorem settle_outs (s : State) (f : Chip → Chip) : (s.settle f).chip.outs = (f s.chip).outs := rfl
@[simp] theorem settle_freeCount (s : State) (f : Chip → Chip) : (s.settle f).chip.freeCount = (f s.chip).freeCount := rfl
@[simp] theorem settle_word (s : State) (f : Chip → Chip) (k : Nat) : (s.settle f).chip.word k = (f s.chip).word k := rfl
@[simp] theorem settle_fld (s : State) (f : Chip → Chip) (k lo n : Nat) :
    (s.settle f).chip.fld k lo n = (f s.chip).fld k lo n := rfl
@[simp] theorem settle_bit (s : State) (f : Chip → Chip) (k i : Nat) : (s.settle f).chip.bit k i = (f s.chip).bit k i := rfl
@[simp] theorem settle_nat (s : State) (f : Chip → Chip) (k : Nat) : (s.settle f).chip.nat k = (f s.chip).nat k := rfl
@[simp] theorem settle_outQ (s : State) (f : Chip → Chip) : (s.settle f).chip.outQ = s.chip.outQ := rfl
@[simp] theorem settle_dramQ (s : State) (f : Chip → Chip) : (s.settle f).chip.dramQ = [] := rfl
@[simp] theorem settle_pending (s : State) (f : Chip → Chip) : (s.settle f).pending = s.pending := rfl
@[simp] theorem settleOut_outQ (s : State) (f : Chip → Chip) : (s.settleOut f).chip.outQ = [] := deliverOuts_outQ _
@[simp] theorem settleOut_dramQ (s : State) (f : Chip → Chip) : (s.settleOut f).chip.dramQ = [] := rfl
@[simp] theorem settleOut_pending (s : State) (f : Chip → Chip) : (s.settleOut f).pending = s.pending := rfl

theorem settle_dram_wf (s : State) (f : Chip → Chip) (h : Memory.wf s.dram = true) : Memory.wf (s.settle f).dram = true :=
  flushDram_wf _ h

theorem settle_poison_wf (s : State) (f : Chip → Chip) (h : tabWf (fun _ => false) s.dramPoison = true) :
    tabWf (fun _ => false) (s.settle f).dramPoison = true := flushDram_poison_wf _ h

theorem settleOut_dram_wf (s : State) (f : Chip → Chip) (h : Memory.wf s.dram = true) :
    Memory.wf (s.settleOut f).dram = true := flushDram_wf _ h

theorem settleOut_poison_wf (s : State) (f : Chip → Chip) (h : tabWf (fun _ => false) s.dramPoison = true) :
    tabWf (fun _ => false) (s.settleOut f).dramPoison = true := flushDram_poison_wf _ h

/-- Where `f` sends nothing to DRAM, DRAM stands. -/
theorem settle_dram (s : State) (f : Chip → Chip) (h : (f s.chip).dramQ = []) : (s.settle f).dram = s.dram := by
  simp [State.settle, State.flushDram, h]

/-- Where `f` releases no output, delivering changes nothing. -/
theorem settleOut_of_nil (s : State) (f : Chip → Chip) (h : (f s.chip).outQ = []) :
    s.settleOut f = { s with chip := f s.chip }.flushDram := by
  unfold State.settleOut; rw [deliverOuts_of_nil _ h]

/-! ### Lifters -/

theorem event_acts (s : State) (b i : Nat) (f : Chip → Chip) (h : s.chip.acts b i = true) :
    s.event b i f = .next (s.settle f) := by simp [State.event, State.actIf, State.act, h]

theorem event_idle (s : State) (b i : Nat) (f : Chip → Chip) (h : s.chip.acts b i = false) : s.event b i f = .next s := by
  simp [State.event, State.actIf, h]

theorem eventOut_acts (s : State) (b i : Nat) (f : Chip → Chip) (h : s.chip.acts b i = true) :
    s.eventOut b i f = .next (s.settleOut f) := by simp [State.eventOut, h]

theorem enabledEvent_acts (s : State) (b i : Nat) (f : Chip → Chip) (h : s.chip.acts b i = true)
    (h' : s.chip.pageOn b i = true) : s.enabledEvent b i f = .next (s.settle f) := by
  simp [State.enabledEvent, State.actIf, State.act, h, h']

theorem anytime_acts (s : State) (f : Chip → Chip) (h : s.chip.pwr.held = none) : s.anytime f = .next (s.settle f) := by
  simp [State.anytime, State.actIf, State.act, h]

/-- A command that acts where a condition stands answers a next state: the settled one, or the state itself. -/
theorem actIf_cases (s : State) (p : Bool) (f : Chip → Chip) :
    (p = true ∧ s.actIf p f = .next (s.settle f)) ∨ (p = false ∧ s.actIf p f = .next s) := by
  cases p <;> simp [State.actIf, State.act]

/-! ### Accepted accesses -/

/-- A condition decides. -/
@[simp] theorem when_true (c : Chip) (f : Chip → Chip) : c.when true f = f c := rfl
@[simp] theorem when_false (c : Chip) (f : Chip → Chip) : c.when false f = c := rfl

/-- What crosses the fabric at once is neither sent again nor poisoned (R24). -/
@[simp] theorem hopFails_zero : hopFails 0 = false := rfl
@[simp] theorem hopSends_zero (c : Chip) : c.hopSends 0 = c := rfl

/-- A write of one word that meets no refusal acts, and its master receives a completion. -/
theorem writeBy_accepted (c : Chip) (x : Meets) (m a : Nat) (d : Word) (hs : c.sends m = true) (ha : a < 2 ^ 25)
    (h4 : a % 4 = 0) (hi : implemented c.part a = true) (he : c.accessCause m a true = 0) (hl : isLock a = false) (hk : x.keyed = false)
    (hf : x.fwd = false) :
    c.writeBy x m a 4 [d] =
      (let q := if isTw a then (c, false) else c.keyStep m a d
       (q.1.actWrite x m a [d] q.2).answer .done []) := by
  have h25 : a % 2 ^ 25 = a := Nat.mod_eq_of_lt ha
  have hws : (([d] : List Word) ++ List.replicate 16 0).take (4 / 4) = [d] := rfl
  simp only [Chip.writeBy, hs, h25, Chip.busWrite, h4, hws, Chip.writeOne, Chip.writeCause, hi, he, hk, hf, hl, Reply.answer,
    hopFails_zero, hopSends_zero]
  cases htw : isTw a <;> simp [hi]

/-- A key sequence that stands open takes the next write as the keyed one and closes (R73). -/
theorem keyStep_opened (c : Chip) (m a : Nat) (d : Word) (h : c.keySt (pageOf a) m = .opened) :
    c.keyStep m a d = (c.setKeySt (pageOf a) m .closed, true) := by
  simp [Chip.keyStep, h]

/-- With no sequence under way a write other than the first key word leaves it so (R73). -/
theorem keyStep_closed (c : Chip) (m a : Nat) (d : Word) (h : c.keySt (pageOf a) m = .closed) (hk : offOf a ≠ PG_KEY) :
    c.keyStep m a d = (c, false) := by
  simp [Chip.keyStep, h, hk]

/-- A read of one implemented word that meets no refusal, where the word begins a value. -/
theorem readBy_accepted (c : Chip) (m a : Nat) (hs : c.sends m = true) (ha : a < 2 ^ 25) (h4 : a % 4 = 0)
    (hi : implemented c.part a = true) (he : c.accessCause m a false = 0) (hb : valueBase c.part a = a) :
    c.readBy m a 4 =
      (let ws := c.readWords m a
       let n := c.readEffect m a
       let n := if 2 ≤ ws.length then { n with caps := tabPut [] n.caps (capKey m a) (ws.drop 1) } else n
       n.answer .done [ws.getD 0 0]) := by
  have h25 : a % 2 ^ 25 = a := Nat.mod_eq_of_lt ha
  simp only [Chip.readBy, hs, if_true, Chip.busRead, h25, h4, Chip.readOne, hi, he, Reply.answer, hb]
  simp only [bne_self_eq_false, Bool.not_true, Bool.false_eq_true, if_false, decide_true, Bool.and_self, if_true]

end Sys2Proof.Machine
end

