-- ==== Sys2Proof/Laws/Accepted.lean ====
section
/-! SUPPORT. The parts of an address (R56), and what an access does once the register window takes it. -/

namespace Sys2Proof.Machine

/-! ### Addresses -/

theorem blockOf_pageAddr (b i o : Nat) (hb : b < 32) (hi : i < 128) (ho : o < 4096) : blockOf (pageAddr b i o) = b := by
  simp only [blockOf, pageAddr]; omega
theorem instOf_pageAddr (b i o : Nat) (hi : i < 128) (ho : o < 4096) : instOf (pageAddr b i o) = i := by
  simp only [instOf, pageAddr]; omega
theorem offOf_pageAddr (b i o : Nat) (ho : o < 4096) : offOf (pageAddr b i o) = o := by
  simp only [offOf, pageAddr]; omega
theorem isTw_pageAddr (b i o : Nat) (hi : i < 128) (ho : o < 4096) : isTw (pageAddr b i o) = false := by
  have : (b * 0x10_0000 + i * 0x1000 + o) / 0x8_0000 % 2 = 0 := by omega
  simp [isTw, pageAddr, this]
theorem pageOf_pageAddr (b i o : Nat) (ho : o < 4096) : pageOf (pageAddr b i o) = pageAddr b i 0 := by
  simp only [pageOf, pageAddr]; omega
theorem blockOf_twAddr (b o : Nat) (hb : b < 32) (ho : o < 0x8_0000) : blockOf (twAddr b o) = b := by
  simp only [blockOf, twAddr]; omega
theorem isTw_twAddr (b o : Nat) (ho : o < 0x8_0000) : isTw (twAddr b o) = true := by
  have : (b * 0x10_0000 + 0x8_0000 + o) / 0x8_0000 % 2 = 1 := by omega
  simp [isTw, twAddr, this]
theorem twOf_twAddr (b o : Nat) (ho : o < 0x8_0000) : twOf (twAddr b o) = o := by
  simp only [twOf, twAddr]; omega

/-! ### Writes -/

/-- The key sequence after an accepted write: the keyed write ends it (R73). -/
def Chip.afterKey (c : Chip) (m a : Nat) (key : Bool) : Chip :=
  if isTw a || !key then c else c.setKeySt (pageOf a) m .closed

@[simp] theorem afterKey_word (c : Chip) (m a : Nat) (key : Bool) (k : Nat) : (c.afterKey m a key).word k = c.word k := by
  unfold Chip.afterKey; split <;> rfl

/-- An accepted write acts with or without the key, its forwarding at a lead is sent, and its master sees it done. -/
theorem writeBy_taken (c : Chip) (x : Meets) (m a : Nat) (d : Word) (key : Bool) (h : c.takes m a key = true)
    (hx : x.keyed = false) (hf : x.fwd = false) (ho : key = true ∨ isTw a = true ∨ offOf a ≠ PG_KEY) :
    c.writeBy x m a 4 [d] =
      (let c := c.afterKey m a key
       let n := c.applyWrite x m a [d] (key && !isTw a)
       (if decide (8 ≤ m) && decide (m < 16) && pairBlock (blockOf a) && c.role = 3 && c.linkUp then
          n.out (.pair (.hostWrite m a [d] (key && !isTw a))) else n).answer .done []) := by
  simp only [Chip.takes, Bool.and_eq_true, Bool.or_eq_true, decide_eq_true_eq, Bool.not_eq_true', beq_iff_eq] at h
  obtain ⟨⟨⟨⟨⟨⟨⟨hs, ha⟩, h4⟩, hi⟩, he⟩, hl⟩, hk⟩, hp⟩ := h
  rw [writeBy_accepted c x m a d hs ha h4 hi he hl hx hf]
  have hq : (if isTw a then (c, false) else c.keyStep m a d) = (c.afterKey m a key, key && !isTw a) := by
    cases htw : isTw a
    · have hk' := hk.resolve_left (by simp [htw])
      cases key
      · simp only [Bool.false_eq_true, if_false] at hk'
        simp [keyStep_closed c m a d hk' (by simpa [htw] using ho), Chip.afterKey]
      · simp only [if_true] at hk'
        simp [keyStep_opened c m a d hk', Chip.afterKey, htw]
    · simp [Chip.afterKey, htw]
  rw [hq]
  have hsb : (c.afterKey m a key).standby = c.standby := by unfold Chip.afterKey; split <;> rfl
  simp only [Chip.actWrite, hsb, hf]
  have : (decide (8 ≤ m) && decide (m < 16) && pairBlock (blockOf a) && c.standby) = false := by simpa using hp
  simp only [this, Bool.false_and, Bool.false_eq_true, if_false]

/-- An accepted write of one word, not to Hoist. -/
theorem put_taken (s : State) (x : Meets) (m a : Nat) (d : Word) (key : Bool) (h : s.chip.takes m a key = true)
    (hx : x.keyed = false) (hf : x.fwd = false) (ho : key = true ∨ isTw a = true ∨ offOf a ≠ PG_KEY) (hb : blockOf a ≠ HOI) :
    s.put m a d x = .next (s.settle fun c => c.writeBy (s.meets x) m a 4 [d]) := by
  have ha : a % 2 ^ 25 = a := by
    simp only [Chip.takes, Bool.and_eq_true, decide_eq_true_eq] at h
    exact Nat.mod_eq_of_lt (by omega)
  simp only [State.put, State.write, ha, hb, if_false]

/-- The same to any block, where the machine is settled and the write releases no output. -/
theorem put_settled (s : State) (x : Meets) (m a : Nat) (d : Word) (key : Bool) (h : s.chip.takes m a key = true)
    (hs : s.settled = true) (hq : (s.chip.writeBy (s.meets x) m a 4 [d]).outQ = []) :
    s.put m a d x = .next (s.settle fun c => c.writeBy (s.meets x) m a 4 [d]) := by
  have ha : a % 2 ^ 25 = a := by
    simp only [Chip.takes, Bool.and_eq_true, decide_eq_true_eq] at h
    exact Nat.mod_eq_of_lt (by omega)
  have h0 : s.chip.outQ = [] := by simp only [State.settled, Bool.and_eq_true, List.isEmpty_iff] at hs; exact hs.1
  simp only [State.put, State.write, ha]
  split
  · have e := settleOut_of_nil s (fun c => c.writeBy (s.meets x) m a 4 [d]) hq
    rw [e, State.settle, h0, ← hq]
  · rfl

/-- A read of one word that the register window takes. -/
theorem readBy_given (c : Chip) (m a : Nat) (h : c.gives m a = true) :
    c.readBy m a 4 =
      (let ws := c.readWords m a
       let n := c.readEffect m a
       let n := if 2 ≤ ws.length then { n with caps := tabPut [] n.caps (capKey m a) (ws.drop 1) } else n
       n.answer .done [ws.getD 0 0]) := by
  simp only [Chip.gives, Bool.and_eq_true, decide_eq_true_eq] at h
  obtain ⟨⟨⟨⟨⟨hs, ha⟩, h4⟩, hi⟩, he⟩, hb⟩ := h
  exact readBy_accepted c m a hs ha h4 hi he hb

end Sys2Proof.Machine
end

