-- ==== Sys2Proof/WellFormed.lean ====
section
/-! DEFINITION. Which commands are well formed: every operand lies in the range that its field or its instance number has. The
meanings are total; this says what a sender can send. -/

namespace Sys2Proof

/-- A number below a bound: an instance, an index, or a value of a field. -/
def below (bound x : Nat) : Bool := x < bound
/-- A master that exists (R12). -/
def okMaster (m : Nat) : Bool := m < 24
/-- A host partition (R12). -/
def okHost (p : Nat) : Bool := 8 ≤ p && p < 16
/-- An address of the register window (R56). -/
def okAddr (a : Nat) : Bool := a < 2 ^ 25
/-- A size of an access in bytes: up to a burst of 16 words (R59). -/
def okSize (n : Nat) : Bool := 1 ≤ n && n ≤ 64
/-- The words of a write: up to 16 (R59). -/
def okData (l : List Word) : Bool := !l.isEmpty && l.length ≤ 16
/-- The bits of a scan: one for each cell of the boundary chain, or no scan (R580). -/
def okScan (l : List Bool) : Bool := l.isEmpty || l.length == 1400
/-- How often a block is asked for again: after the third time it is delivered poisoned (R24, R47). -/
def okResends (n : Nat) : Bool := n ≤ 4
/-- The bytes of a frame, a response or a burst to DRAM. -/
def okBytes (l : List Byte) : Bool := l.length ≤ 16384
/-- As many items as the hardware has. -/
def okCount (n k : Nat) : Bool := n == k
/-- The offset of a shadow register of a PWM pair (R263). -/
def okShadow (o : Nat) : Bool := 0x110 ≤ o && o < 0x138 && o % 4 == 0
/-- The fields of HELLO fit their fields (R491). -/
def okHello (h : Hello) : Bool := h.part < 2 ^ 16 && h.safCrc < 2 ^ 32 && h.epoch < 2 ^ 16

/-- Is the command well formed? -/
def Instr.wellFormed (i : Instr) : Bool :=
  match i with
  | .wideValueLowWordRead m addr => okMaster m && okAddr addr
  | .resultAliasRead m addr size _ => okMaster m && okAddr addr && okSize size
  | .dipstickWindowEnd paces => okCount 16 paces.length
  | .floorTimerExpiry => true
  | .paceRecoveryExpiry => true
  | .dipTargetWrite m _ => okMaster m
  | .memUseIntervalEnd draws => okCount 9 draws.length
  | .registerWrite m addr size data hops => okMaster m && okAddr addr && okSize size && okData data && okResends hops
  | .unimplementedAccess m addr _ => okMaster m && okAddr addr
  | .rcRegisterRead m addr size => okMaster m && okAddr addr && okSize size
  | .iwinRead m blk inst sel => okMaster m && below 32 blk && below 128 inst && below 256 sel
  | .iwinWrite m blk inst sel => okMaster m && below 32 blk && below 128 inst && below 256 sel
  | .iwinDone p blk inst rr => below 16 p && below 32 blk && below 128 inst && okResends rr
  | .pageEnable m blk inst _ => okMaster m && below 32 blk && below 128 inst
  | .pageSoftReset m blk inst _ => okMaster m && below 32 blk && below 128 inst
  | .softResetComplete blk inst => below 32 blk && below 128 inst
  | .debugFreezeWrite m blk inst _ => okMaster m && below 32 blk && below 128 inst
  | .pgOwnerWrite m blk inst _ => okMaster m && below 32 blk && below 128 inst
  | .pgKeyWrite m blk inst _ => okMaster m && below 32 blk && below 128 inst
  | .keyTimeout m blk inst => okMaster m && below 32 blk && below 128 inst
  | .evtPendClear m blk inst _ => okMaster m && below 32 blk && below 128 inst
  | .eventNoticeDelivery line => below 1024 line
  | .routeWrite m n _ => okMaster m && below 1024 n
  | .vecPendClear m p off data => okMaster m && below 8 p && below 8 off && okData data
  | .msixUnmask m p v _ => okMaster m && okHost p && below 64 v
  | .msixHeldSend p v => okHost p && below 64 v
  | .pcieLinkChange e _ speed width => below 2 e && below 8 speed && below 16 width
  | .functionLevelReset e f => below 2 e && below 4 f
  | .perstAssert e => below 2 e
  | .perstRelease e => below 2 e
  | .shmEntryWrite m k off data => okMaster m && below 8 k && below 16 off && okData data
  | .bar2Read p _ _ rr hops => okHost p && rr.all okResends && okResends hops
  | .bar2Write p _ data hops => okHost p && okBytes data && okResends hops
  | .bindingWrite m k _ => okMaster m && below 96 k
  | .bellSend m ch _ => okMaster m && below 64 ch
  | .bellTake m ch size _ => okMaster m && below 64 ch && okSize size
  | .bellInRead m ch _ => okMaster m && below 64 ch
  | .crossTimeExpiry ch => below 64 ch
  | .bucketPost m r _ => okMaster m && below 32 r
  | .bucketPostCommit r => below 32 r
  | .bucketTake m r _ => okMaster m && below 32 r
  | .lockRead m n => okMaster m && below 128 n
  | .lockRelease m n _ => okMaster m && below 128 n
  | .lockForceRelease m n _ => okMaster m && below 128 n
  | .completionPost => true
  | .hoiSubmit m _ => okMaster m
  | .taskDispatch pool _ poison bad => below 7 pool && below 512 poison && bad.all (below 262144)
  | .taskRelease desc => below 65536 desc
  | .heldEntryGrant => true
  | .coreNextRead m n size => okMaster m && below 8 n && okSize size
  | .coreDone m n _ => okMaster m && below 8 n
  | .coreSuspend m n _ => okMaster m && below 8 n
  | .preemptTimeout n => below 8 n
  | .admitTasks m first => okMaster m && below 65536 first
  | .retire m first => okMaster m && below 65536 first
  | .query m first => okMaster m && below 65536 first
  | .admissionDone => true
  | .beMaxCostWrite m _ => okMaster m
  | .beEntriesWrite m _ => okMaster m
  | .corePoolWrite m _ => okMaster m
  | .flowCfgWrite m n _ => okMaster m && below 4096 n
  | .trackArm m t => okMaster m && below 64 t
  | .trackPause m t => okMaster m && below 64 t
  | .trackResume m t => okMaster m && below 64 t
  | .trackAbort m t => okMaster m && below 64 t
  | .trackContinue m t => okMaster m && below 64 t
  | .stepPrefetch t idx rr => below 64 t && below 65536 idx && okResends rr
  | .recipeStepSet t => below 64 t
  | .recipeStepPost t => below 64 t
  | .recipeStepWait t => below 64 t
  | .recipeStepJump t => below 64 t
  | .recipeStepEnd t => below 64 t
  | .waitLimitExpiry t => below 64 t
  | .slotEnable m slot => okMaster m && below 4096 slot
  | .slotDisable m slot => okMaster m && below 4096 slot
  | .slotResetState m slot => okMaster m && below 4096 slot
  | .slotClearStat m slot => okMaster m && below 4096 slot
  | .slotCmdDone => true
  | .slotCtlWrite m slot _ => okMaster m && below 4096 slot
  | .hoGroupWrite m g k _ => okMaster m && below 256 g && below 4 k
  | .learnClear m slot _ => okMaster m && below 4096 slot
  | .learnClearDone slot => below 4096 slot
  | .learnGainWrite m slot _ _ => okMaster m && below 4096 slot
  | .axisTick rr => okResends rr
  | .axisEnable m a => okMaster m && below 1152 a
  | .axisDisable m a => okMaster m && below 1152 a
  | .moveAbs m a => okMaster m && below 1152 a
  | .moveRel m a => okMaster m && below 1152 a
  | .velocity m a => okMaster m && below 1152 a
  | .gearIn m a _ => okMaster m && below 1152 a
  | .camIn m a => okMaster m && below 1152 a
  | .supMove m a => okMaster m && below 1152 a
  | .stop m a => okMaster m && below 1152 a
  | .qstop m a => okMaster m && below 1152 a
  | .loadLimits m a => okMaster m && below 1152 a
  | .axisSetPos m a => okMaster m && below 1152 a
  | .resetFault m a => okMaster m && below 1152 a
  | .stateLostClear m _ => okMaster m
  | .pwmPeriodBoundary p sub => below 96 p && below 32 sub
  | .pwmHalfBoundary p => below 96 p
  | .shadowWrite m p off data hops => okMaster m && below 96 p && okShadow off && okData data && okResends hops
  | .shadowWriteArm m p off data hops => okMaster m && below 96 p && okShadow off && okData data && okResends hops
  | .pwmArm m k _ hops => okMaster m && below 3 k && okResends hops
  | .pwmCompareMatch p n => below 96 p && below 4 n
  | .tripInputActive high low sub => below 281474976710656 high && below 281474976710656 low && below 32 sub
  | .blankWindowClose i sub => below 48 i && below 32 sub
  | .tripClear m p _ => okMaster m && below 96 p
  | .tripSelfTest i _ => below 48 i
  | .testStaleExpiry i => below 48 i
  | .tripCfgWrite m i w _ => okMaster m && below 48 i && below 4 w
  | .cfgMismatchExpiry i copy => below 48 i && okCount 4 copy.length
  | .encoderCount ch _ _ => below 32 ch
  | .hallChange ch h => below 32 ch && below 8 h
  | .ssiFrameDone ch v _ _ => below 32 ch && below 18446744073709551616 v
  | .rs485Response ch bytes _ => below 32 ch && okBytes bytes
  | .rs485RespTimeout ch => below 32 ch
  | .indexPulse ch _ => below 32 ch
  | .referenceEdge ch input _ => below 32 ch && below 67 input
  | .fbkSetPos m ch => okMaster m && below 32 ch
  | .refArm m ch _ => okMaster m && below 32 ch
  | .latchCaptureRead m ch l size => okMaster m && below 32 ch && below 3 l && okSize size
  | .gpioInputEdge n _ => below 64 n
  | .gpioOutWrite m off data => okMaster m && below 8 off && okData data
  | .gpioSet m off data => okMaster m && below 8 off && okData data
  | .gpioClr m off data => okMaster m && below 8 off && okData data
  | .cnvSequenceTrigger => true
  | .cnvSoftTrigger m i _ => okMaster m && below 4 i
  | .cnvAbort m i _ => okMaster m && below 4 i
  | .conversionDone i _ => below 4 i
  | .filterRoundStart i => below 4 i
  | .cnvModeWrite m i _ => okMaster m && below 4 i
  | .cnvEntryWrite m i e _ => okMaster m && below 4 i && below 32 e
  | .cnvSeqCfgWrite m i seq _ => okMaster m && below 4 i && below 4 seq
  | .cnvResultRead m i e size _ => okMaster m && below 4 i && below 32 e && okSize size
  | .plausPartnerTimeout k => below 16 k
  | .plausClear m _ => okMaster m
  | .plausCfgWrite m k w _ => okMaster m && below 16 k && below 3 w
  | .trefLoss => true
  | .trefReturn => true
  | .ptpSyncRx p _ _ _ _ _ => below 4 p
  | .ptpFollowUpRx p _ _ => below 4 p
  | .followUpTimeout p => below 4 p
  | .ptpSyncTx p => below 4 p
  | .pdelayReqTx p => below 4 p
  | .pdelayReqRx p _ _ => below 4 p
  | .pdelayRespRx p _ _ => below 4 p
  | .syncTimeout => true
  | .timeStepApply => true
  | .timStepGo m => okMaster m
  | .timReacq m => okMaster m
  | .backupClockWrite => true
  | .triggerOccurrence n => below 256 n
  | .triggerEnable m n _ => okMaster m && below 256 n
  | .triggerDisable m n _ => okMaster m && below 256 n
  | .pulseAtWrite m n off data => okMaster m && below 16 n && below 8 off && okData data
  | .pulseAtReached n => below 16 n
  | .captureEdge n _ => below 16 n
  | .capturePop m n size => okMaster m && below 16 n && okSize size
  | .ptpCfgWrite m p _ => okMaster m && below 4 p
  | .ethFrameRx p bytes _ rr => below 4 p && okBytes bytes && rr.all okResends
  | .cyclicFrameRx hops => okResends hops
  | .rxDeadline d => below 4096 d
  | .cyclicFrameTx d _ => below 4096 d
  | .txFrameDrop d => below 4096 d
  | .gateDrop p q rr => below 4 p && below 8 q && rr.all okResends
  | .gclEntryExpiry p => below 4 p
  | .gclSwap m p _ => okMaster m && below 4 p
  | .gclSwapEffect p => below 4 p
  | .netTxPut m e _ => okMaster m && below 8192 e
  | .cycEnable m _ => okMaster m
  | .txRingTailWrite m p q _ => okMaster m && below 4 p && below 8 q
  | .rxRingTailWrite m p _ => okMaster m && below 4 p
  | .hostFrameTxDone p q rr => below 4 p && below 8 q && rr.all okResends
  | .netLinkChange p _ _ => below 4 p
  | .mdioFrameStart m _ => okMaster m
  | .mdioDone data _ => below 65536 data
  | .canFrameRx ch _ _ => below 4 ch
  | .canTxRequest m ch o _ => okMaster m && below 4 ch && below 128 o
  | .canData0Write m ch o data _ => okMaster m && below 4 ch && below 128 o && okData data
  | .canTxAbort m ch o => okMaster m && below 4 ch && below 128 o
  | .canTxStart ch => below 4 ch
  | .canTxDone ch _ _ => below 4 ch
  | .canErrorDetected ch lec _ _ _ => below 4 ch && below 8 lec
  | .busOffRecovery ch => below 4 ch
  | .canSleep m ch _ => okMaster m && below 4 ch
  | .canWake m ch => okMaster m && below 4 ch
  | .canRecover m ch => okMaster m && below 4 ch
  | .canAbortAll m ch => okMaster m && below 4 ch
  | .canWakeEvent ch _ _ => below 4 ch
  | .canResultRead m ch o size _ => okMaster m && below 4 ch && below 128 o && okSize size
  | .adtSampleIntake => true
  | .adtRecordUpdate rr => okResends rr
  | .adtWindowEnd => true
  | .streamFlushTimeout ch => below 2 ch
  | .streamBlockWritten ch => below 2 ch
  | .streamRdWrite m ch data => okMaster m && below 2 ch && okData data
  | .streamEnable m ch _ => okMaster m && below 2 ch
  | .streamDisable m ch _ => okMaster m && below 2 ch
  | .adtClearStats m => okMaster m
  | .adtSetPolicy m => okMaster m
  | .adtSetAndClear m => okMaster m
  | .adtCmdDone => true
  | .adtEnable m _ => okMaster m
  | .dirClearDone => true
  | .adtTrgCfgWrite m u _ => okMaster m && below 64 u
  | .adtTrgResultRead m u size _ => okMaster m && below 64 u && okSize size
  | .tallyEventIntake => true
  | .tallyEventFold => true
  | .tallyTokenRefill code => below 65536 code
  | .tlyPost32 m _ => okMaster m
  | .tlyPost64 m data => okMaster m && okData data
  | .tallyClear m first => okMaster m && below 65536 first
  | .tallyFlush m => okMaster m
  | .tallyCmdDone => true
  | .tallyFlushDone _ => true
  | .tallyCfgWrite m code _ => okMaster m && below 65536 code
  | .qlossClear m _ => okMaster m
  | .safetyTick _ => true
  | .discrepancyTimeout i => below 32 i
  | .testPulseStart p actA actB => below 8 p && below 4294967296 actA && below 4294967296 actB
  | .outputTestPulse g ch _ => below 16 g && below 2 ch
  | .ss1Expiry g => below 16 g
  | .edmTimeout g => below 16 g
  | .safetyStartupDone _ _ _ _ => true
  | .commission m => okMaster m
  | .verify m => okMaster m
  | .safetyVerifyDone _ => true
  | .abort m => okMaster m
  | .safConfirm m _ => okMaster m
  | .safSs1Req m _ => okMaster m
  | .safStoReq m _ => okMaster m
  | .safResetReq m _ => okMaster m
  | .pairEnable m _ => okMaster m
  | .pairDisable m _ => okMaster m
  | .pairHelloRx h => okHello h
  | .roleClaimDelay _ => true
  | .pairLinkTimeout _ _ => true
  | .pairLinkUp lanes => below 4 lanes
  | .pairLinkDown => true
  | .linkLostGraceExpiry _ => true
  | .pairLinkBlockRx lane _ _ _ _ => below 2 lane
  | .pairLaneDown lane => below 2 lane
  | .pairLaneReturn lane => below 2 lane
  | .pairTimeExchange _ epoch _ => below 256 epoch
  | .holdLatchRefresh => true
  | .holdWatchdogExpiry => true
  | .holdInFall => true
  | .bulkCopyDone _ => true
  | .standbyReady => true
  | .pairSelftestDone _ _ => true
  | .handover m => okMaster m
  | .resync m => okMaster m
  | .dissolve m => okMaster m
  | .surrender m => okMaster m
  | .handoverCheck => true
  | .handoverInstant => true
  | .holdStuckCheck _ => true
  | .holdDownExpiry => true
  | .repairComplete _ _ data _ => okData data
  | .bootComplete _ => true
  | .stageCheck m bad => okMaster m && below 16 bad
  | .writeSlot m bad => okMaster m && below 16 bad
  | .confirm m => okMaster m
  | .keyOrder m bad => okMaster m && below 16 bad
  | .restart m => okMaster m
  | .corCmdDone => true
  | .attestGo m p _ => okMaster m && below 16 p
  | .attestDone => true
  | .powerRequest m _ => okMaster m
  | .powerRungEntered => true
  | .wakeEvent e => below 7 e
  | .rtcAlarm => true
  | .resetPin _ => true
  | .resetRelease _ => true
  | .supplyChange i _ => below 6 i
  | .powerFailDetect => true
  | .powerfailFlushDone => true
  | .tamper => true
  | .pwrStatClear m _ => okMaster m
  | .thermalSample _ sensor => below 4 sensor
  | .thermalCritExpiry => true
  | .tapReset => true
  | .extest pins tdi => okScan pins && okScan tdi
  | .samplePreload pins tdi => okScan pins && okScan tdi
  | .idcode => true
  | .highz => true
  | .clamp => true
  | .extestPulse pins tdi => okScan pins && okScan tdi
  | .extestTrain pins tdi => okScan pins && okScan tdi
  | .regAccess => true
  | .modReset => true
  | .freeze => true
  | .bypass op => below 256 op
  | .tapTestExit op => below 256 op
  | .regAccessUpdate _ addr _ => okAddr addr
  | .regAccessCapture => true
  | .pcieConfigWrite p _ _ _ _ => okHost p
  | .pdelayRespTimeout p => below 4 p
  | .canBusIntegrated ch => below 4 ch
  | .coreDramAccess m _ _ addr len data rr hops => below 8 m && below 17179869184 addr && below 4097 len && okBytes data && rr.all okResends && okResends hops

end Sys2Proof
end

