-- ==== Sys2Proof/Tests/Slice0.lean ====
section
/-! SUPPORT. Tests: ill-formed commands are refused by the check, single commands do what the spec's words say, and every statement
with hypotheses has a state that meets them. -/

namespace Sys2Proof.Tests

open Sys2Proof Sys2Proof.Machine

set_option Elab.async false

/-- A machine that runs. -/
abbrev up : State := State.ready []
/-- The same with words set. -/
abbrev upWith (l : List (Nat × Nat)) : State := State.ready l

/-- Does a command end in a next state of which `p` holds? -/
def comes (o : Host.Outcome State Fault Refusal) (p : State → Bool) : Bool :=
  match o with
  | .next s => p s
  | .fault _ => false
  | .refused _ => false

/-! ### The check of well-formedness refuses an ill-formed command for each of its parts -/

theorem test_below_refused : (Instr.eventNoticeDelivery 1024).wellFormed = false := by decide
theorem test_master_refused : (Instr.dipTargetWrite 24 0).wellFormed = false := by decide
theorem test_host_refused : (Instr.bar2Read 7 0 4 [] 0).wellFormed = false := by decide
theorem test_addr_refused : (Instr.unimplementedAccess 0 (2 ^ 25) false).wellFormed = false := by decide
theorem test_size_refused : (Instr.rcRegisterRead 0 0 65).wellFormed = false := by decide
theorem test_data_refused : (Instr.registerWrite 0 0 4 [] 0).wellFormed = false := by decide
theorem test_bytes_refused : (Instr.bar2Write 8 0 (List.replicate 16385 0) 0).wellFormed = false := by decide +kernel
theorem test_count_refused : (Instr.dipstickWindowEnd [1, 2, 3]).wellFormed = false := by decide
theorem test_shadow_refused : (Instr.shadowWrite 0 0 0x138 [0] 0).wellFormed = false := by decide
theorem test_hello_refused : (Instr.pairHelloRx { pairId := 7, part := 2 ^ 16, safCrc := 0, recipe := 0, epoch := 0, identity := 0, pref := false, claim := false, leads := false, tested := false, holdIn := true, roleIn := false }).wellFormed = false := by decide
theorem test_wellFormed_accepted : (Instr.shadowWrite 0 95 0x134 [7] 0).wellFormed = true := by decide

/-! ### The spec's worked examples -/

/-- 00_scope, example of the stamp: 1,000,000,123.5 ns, epoch 3, locked and aligned. -/
theorem test_stamp_words :
    let s := mkStamp 1000000123 0x8000 3 9
    [wordN s.toNat 0, wordN s.toNat 1, wordN s.toNat 2] = [0x8000_0309#32, 0x3B9A_CA7B#32, 0#32] := by decide +kernel

/-- 00_scope, example of the result word: GEN 0x41 read plain, at the alias, and plain again. -/
theorem test_result_word_reads :
    let a := pageAddr CNV 0 0x828
    let s : State := { up with chip := ((up.chip.setNat a (0x40 * 2 ^ 24)).newResult a 0 0 0) }
    (s.chip.resultLow 9 a == 0x4180_0000 &&
      comes (exec (.resultAliasRead 0 (pageAddr CNV 0 0xC28) 4 false) s) fun t =>
        t.chip.resp.data == [0x4180_0000] && t.chip.resultLow 0 a == 0x4100_0000 && t.chip.resultLow 9 a == 0x4180_0000) = true := by
  decide +kernel

/-- 02_register_pages, example of the event router: a write of entry 0x2C0 by partition 12 is logged as 0x84C8_0B00. -/
theorem test_route_not_owner :
    let s := upWith [(epK 0, 2 ^ 31), (epK 1, 2 ^ 31)]
    comes (exec (.routeWrite 12 0x2C0 0x8000_0905) s) (fun t => t.chip.word (pageAddr HST 0 PG_ERRINFO) == 0x84C8_0B00) = true := by
  decide +kernel

/-- 05_loop_array, worked example: slot 301 costs 58, and 50 up to its output. -/
theorem test_slot_cost :
    let c := (upWith [(hdrK 301 0, 2 ^ 31 + 2 ^ 30 + 5 * 2 ^ 22 + 2 ^ 18 + 2 ^ 14 + 2 ^ 13 + 2 ^ 12 + 2 ^ 4),
      (hdrK 301 3, 0x2500), (slotK 301 2 3, 32 * 2 ^ 25), (slotK 301 2 2, 2 ^ 30), (outK 301 0 3, 2 * 2 ^ 30)]).chip
    (c.slotCost 301, c.costOut0 301) = (58, 50) := by decide +kernel

/-- 06_repetitive_learning, worked example: the bins 593 and 594 after one execution, and its position. -/
theorem test_learning_step :
    let c := (upWith [(lrnK 1200 0, 0xA401_4000), (lrnK 1200 1, 0x0620_07FF), (lrnK 1200 2, 0x2000_4000), (lrnK 1200 3, 655 * 65536),
      (lrnK 1200 9, 0x2000), (lrnK 1200 10, 0x7FE0)]).chip
    let f := c.firstSample 1200
    let c := (((c.setSample (f + 592) 1210).setSample (f + 593) 1240).setSample (f + 594) 1262).setSample (f + 595) 1280
    let c := c.setSlotRun 1200 { c.slotRun 1200 with phiPrev := 18976, noPrev := false, pos := 592 * 65536 }
    let r := c.learnPath 1200 { stamp := 0, err := 393, errStale := false, aw := 0, blending := false, angle := 19004, fresh := false } []
    (r.bin 1200 593, r.bin 1200 594, r.nat (lrnK 1200 12)) = (1250, 1335, 593 * 65536 + 57344) := by decide +kernel

/-- 09_feedback, worked example: the CYC latch of channel 5. -/
theorem test_cyc_latch :
    let c := (upWith [(fbkK 5 0x100, 2 ^ 17), (fbkK 5 0x104, 10000), (fbkK 5 0x118, 0xFFFF)]).chip.putPos 5 412460
    let c := c.setChan 5 { c.chan 5 with pa := 412445, ta := 5000000012, pb := 412460, tb := 5000031246, edged := true }
    let l := { c with tim := { c.tim with ns := 5000031266 } : Chip }.cycLatch 5 (mkStamp 5000031266 0 0 0)
    (l.u64 (latchK 5 0 0), l.u64 (latchK 5 0 8), l.u64 (latchK 5 0 0x24), l.nat (latchK 5 0 0x2C)) =
      (0x0000_0029_0000_099C, 0x0000_0029_3EF9_DB22, 5000031254, 8) := by decide +kernel

/-- 11_timebase, worked example: the second offset of an acquisition, its step, and the first offset in TRACK. -/
theorem test_servo :
    let a := (up.chip.offset (3740618 * 65536 + 32768) 0).offset (3742118 * 65536 + 32768) (125000000 * 65536)
    let b := { a with tim := { a.tim with ns := 125250000 } : Chip }.stepApply
    (a.rate, a.u64 (timA 0x120), b.nowNs, b.fld aTimStat 16 8, b.servo, (b.offset 170394 0).rate) =
      (-412317, 0x7_FFF9_B563, 121507878, 2, 2, -412717) := by decide +kernel
/-- The hypotheses of StepTakesFront are met. -/
theorem witness_StepTakesFront : ({ up with pending := [.trefLoss, .tamper] } : State).pending = .trefLoss :: [.tamper] := by decide

/-- The hypotheses of StepIdles are met. -/
theorem witness_StepIdles : up.pending = [] ∧ up.chip.pwr.held = none ∧ up.chip.modState = 0 := by decide +kernel

/-- The hypotheses of MemoryKept are met. -/
theorem witness_MemoryKept : ({ up with dram := [(5, 7), (64, 1)], pending := [.bar2Write 8 0 [1, 0, 2] 0] } : State).memoryKept = true := by
  decide +kernel

/-- The hypotheses of PoisonKept are met. -/
theorem witness_PoisonKept : ({ up with dramPoison := [(3, true)] } : State).poisonKept = true := by decide +kernel

/-- The hypotheses of SettledKept are met. -/
theorem witness_SettledKept : up.settled = true := by decide +kernel

/-- The hypotheses of HeaderWrites are met. -/
theorem witness_HeaderWrites :
    let o := opened up 0 (pageAddr LOOP 0 8)
    (o.settled = true ∧ o.chip.takes 0 (pageAddr LOOP 0 PG_CTL) true = true ∧
      comes (exec (.pageEnable 0 LOOP 0 1) o) (fun t => t.chip.pageOn LOOP 0 && t.chip.resp.status == .done)) ∧
    (let w : State := opened up 0 (pageAddr PWM 96 8)
     let b : State := opened (upWith [(canK 3 0x110, 2 * 2 ^ 23 + 60 * 2 ^ 15 + 20 * 2 ^ 8 + 20)]) 0 (pageAddr BUS 3 8)
     let f : State := opened (upWith [(fbkK 31 0x104, 1000), (fbkK 31 0x110, 3 * 2 ^ 24)]) 0 (pageAddr FBK 31 8)
     w.chip.takes 0 (pageAddr PWM 96 PG_CTL) true = true ∧ w.chip.fld (pwmK 95 0x100) 29 2 ≠ 3 ∧
       b.chip.takes 0 (pageAddr BUS 3 PG_CTL) true = true ∧ b.chip.canCode 3 = 0 ∧
       f.chip.takes 0 (pageAddr FBK 31 PG_CTL) true = true ∧ f.chip.fbkCode 31 = 0 ∧
       (comes (exec (.pageEnable 0 PWM 96 1) w) fun t => t.chip.pageOn PWM 96) ∧
       (comes (exec (.pageEnable 0 BUS 3 1) b) fun t => t.chip.pageOn BUS 3) ∧
       comes (exec (.pageEnable 0 FBK 31 1) f) fun t => t.chip.pageOn FBK 31) ∧
    ((0 : Word).getLsbD 0 = o.chip.pageOn LOOP 0 ∧ o.chip.resetting LOOP 0 = false ∧ resetKey LOOP 0 (pageAddr LOOP 0 0x7FC) = true ∧
      comes (exec (.pageSoftReset 0 LOOP 0 0) o) (fun t => t.chip.resetting LOOP 0)) ∧
    (up.chip.pwr.held = none ∧ pageExists up.chip.part TST 0 = true ∧
      comes (exec (.softResetComplete TST 0) (upWith [(pageAddr TST 0 8, 2)])) fun t => !t.chip.resetting TST 0) ∧
    (up.chip.takes 0 (pageAddr NET 127 PG_CTL) false = true ∧
      comes (exec (.debugFreezeWrite 0 NET 127 4) up) fun t => t.chip.bit (pageAddr NET 127 PG_CTL) 2) ∧
    (up.chip.takes 0 (pageAddr HST 0 PG_OWNER) false = true ∧ up.chip.bit (pageAddr HST 0 PG_OWNER) 31 = false ∧
      comes (exec (.pgOwnerWrite 0 HST 0 0xFFFF_FFFF) up) fun t => t.chip.nat (pageAddr HST 0 PG_OWNER) == 0x800F_FFFF) ∧
    (up.chip.takes 0 (pageAddr HST 0 PG_EVT_PEND) false = true ∧
      comes (exec (.evtPendClear 0 HST 0 1) (upWith [(pageAddr HST 0 0x18, 3)])) fun t => t.chip.nat (pageAddr HST 0 0x18) == 2) ∧
    (let v := upWith [(aBind 63, 0x8000_0000 + 3 * 256 + 2), (viewKey 1 (mbxA 63 0x18), 3)]
     v.chip.takes 3 (mbxA 63 PG_EVT_PEND) false = true ∧ v.chip.sideOf 63 3 = some 1 ∧
      comes (exec (.evtPendClear 3 MBX 64 1) v) fun t => t.chip.nat (viewKey 1 (mbxA 63 0x18)) == 2) := by
  decide +kernel

/-- The hypotheses of KeySequence are met. -/
theorem witness_KeySequence :
    let h := { up with chip := up.chip.setKeySt (pageAddr DIP 0 0) 3 .half }
    (up.settled = true ∧ up.chip.takes 3 (pageAddr DIP 0 PG_KEY) false = true ∧
      comes (exec (.pgKeyWrite 3 DIP 0 0x5EA1) up) fun t => t.chip.keySt (pageAddr DIP 0 0) 3 == .half) ∧
    (comes (exec (.pgKeyWrite 3 DIP 0 0xC0DE) h) fun t => t.chip.keySt (pageAddr DIP 0 0) 3 == .opened) ∧
    (h.chip.pwr.held = none ∧ h.chip.keySt (pageAddr DIP 0 0) 3 = .half ∧
      comes (exec (.keyTimeout 3 DIP 0) h) fun t => t.chip.keySt (pageAddr DIP 0 0) 3 == .closed) ∧
    ((opened up 0 (pageAddr PWR 0 8)).chip.takes 0 (pageAddr PWR 0 PG_CTL) true = true ∧
      comes (exec (.debugFreezeWrite 0 PWR 0 0) (opened up 0 (pageAddr PWR 0 8))) fun t =>
        t.chip.keySt (pageAddr PWR 0 0) 0 == .closed) := by decide +kernel

/-- The hypotheses of PlainWrites are met. -/
theorem witness_PlainWrites :
    let a := twAddr LOOP (0x1_0004 + 16 * 4095 + 8)
    (up.chip.takes 0 a false = true ∧ (comes (exec (.registerWrite 0 a 4 [0xFFFF_8001] 3) up) fun t => t.chip.nat a == 0x8001) ∧
      comes (exec (.registerWrite 0 a 4 [5] 4) up) fun t => t.chip.nat a == 0 && t.chip.nat (pageAddr DIP 0 0x11C) == 1) ∧
    (up.chip.takes 0 (routeK 1023) false = true ∧ up.chip.bit (routeK 1023) 30 = false ∧
      comes (exec (.routeWrite 0 1023 0xFFFF_FFFF) up) fun t => t.chip.nat (routeK 1023) == 0xC000_0F3F) ∧
    (up.chip.takes 7 (partA 7 0x104) false = true ∧
      comes (exec (.vecPendClear 7 7 4 [5]) (upWith [(partA 7 0x104, 7)])) fun t => t.chip.nat (partA 7 0x104) == 2) ∧
    (up.chip.bit (shmK 15 + 0xC) 31 = false ∧ up.chip.takes 0 (shmK 15) false = true ∧ up.chip.takes 0 (shmK 8 + 8) false = true ∧
      (comes (exec (.shmEntryWrite 0 7 0 [0xFFFF_FFFF]) up) fun t => t.chip.nat (shmK 15) == 0xFFE0_0000) ∧
      comes (exec (.shmEntryWrite 0 0 8 [0xFFFF_FFFF]) up) fun t => t.chip.nat (shmK 8 + 8) == 0x1FFF) := by
  decide +kernel

/-- The hypotheses of AccessErrors are met. -/
theorem witness_AccessErrors :
    (up.chip.sends 7 = true ∧ up.settled = true ∧ implemented up.chip.part (pageAddr HST 0 0x7FC) = false ∧
      (comes (exec (.unimplementedAccess 7 (pageAddr HST 0 0x7FC) false) up) fun t =>
        t.chip.nat (pageAddr HST 0 0x034) == 1 && t.chip.resp == { status := .done, data := [0] }) ∧
      comes (exec (.unimplementedAccess 7 (pageAddr HST 0 0x7FC) true) up) fun t => t.chip.resp == { status := .done, data := [] }) ∧
    (implemented up.chip.part (twAddr LOOP 0x1_0004) = true ∧ up.chip.accessCause 1 (twAddr LOOP 0x1_0004) true ≠ 0 ∧
      comes (exec (.registerWrite 1 (twAddr LOOP 0x1_0004) 4 [1] 0) up) fun t =>
        t.chip.nat (twAddr LOOP 0x1_0004) == 0 && t.chip.resp.status == .busError) ∧
    (up.chip.gives 0 (pageAddr TST 0 PG_ERR_CNT) = true ∧ up.chip.gives 1 (pageAddr TST 0 PG_ERR_CNT) = true ∧
      (comes (exec (.rcRegisterRead 0 (pageAddr TST 0 PG_ERR_CNT) 4) (upWith [(pageAddr TST 0 PG_ERR_CNT, 9)])) fun t =>
        t.chip.nat (pageAddr TST 0 PG_ERR_CNT) == 0 && t.chip.resp.data == [9]) ∧
      comes (exec (.rcRegisterRead 1 (pageAddr TST 0 PG_ERR_CNT) 4) (upWith [(pageAddr TST 0 PG_ERR_CNT, 9)])) fun t =>
        t.chip.nat (pageAddr TST 0 PG_ERR_CNT) == 9 && t.chip.resp.data == [9]) := by decide +kernel

/-- The hypotheses of WideAndResultReads are met. -/
theorem witness_WideAndResultReads :
    (up.chip.gives 0 (timA 0x128) = true ∧ 2 ≤ (up.chip.readWords 0 (timA 0x128)).length ∧
      comes (exec (.wideValueLowWordRead 0 (timA 0x128)) up) fun t =>
        t.chip.resp.data == [0] && tab [] t.chip.caps (capKey 0 (timA 0x128)) == [8]) ∧
    (up.chip.gives 0 (pageAddr DIP 0 0xC00) = true ∧
      resultAt up.chip.part (pageAddr DIP 0 0xC00) = some { base := pageAddr DIP 0 0x800, consuming := true, word := 0 } ∧
      comes (exec (.resultAliasRead 0 (pageAddr DIP 0 0xC00) 4 false)
          { up with chip := up.chip.newResult (pageAddr DIP 0 0x800) 3 0 0 }) fun t =>
        t.chip.resp.data == [0x0180_0000] && tab 0 t.chip.fresh (pageAddr DIP 0 0x800) == 0xFFFE) := by decide +kernel

/-- The hypotheses of IndirectWindows are met. -/
theorem witness_IndirectWindows :
    (up.settled = true ∧ ∀ w ∈ windowPages, up.chip.takes 0 (pageAddr w.1 w.2 0x208) false = true ∧
      up.chip.bit (winK w.1 w.2 0 0xC) 31 = false ∧ (up.chip.iwin.find? fun e => e.1 = iwinKey w.1 w.2 0) = none ∧
      (comes (exec (.iwinRead 0 w.1 w.2 255) up) fun t => t.chip.nat (winK w.1 w.2 0 0xC) == 2 ^ 31 &&
        (t.chip.iwin.map fun e => (e.1, e.2.op, e.2.sel)) == [(iwinKey w.1 w.2 0, 1, 255)]) ∧
      comes (exec (.iwinWrite 0 w.1 w.2 255) up) fun t => t.chip.nat (winK w.1 w.2 0 0xC) == 2 ^ 31 &&
        (t.chip.iwin.map fun e => (e.1, e.2.op, e.2.sel)) == [(iwinKey w.1 w.2 0, 2, 255)]) ∧
    (let q : IwinOp := { op := 1, sel := 1, addr := 5, data := [], live := true }
     let s : State := { up with chip := { up.chip with iwin := [(iwinKey HOI 0 3, q)] } }
     let w : IwinOp := { op := 2, sel := 2, addr := 8191, data := List.replicate 16 0xFFFF_FFFF, live := true }
     let u : State := { up with chip := { up.chip with iwin := [(iwinKey HOI 0 0, w)] } }
     s.chip.pwr.held = none ∧ s.chip.iwinFirst HOI 0 = some (iwinKey HOI 0 3, q) ∧
      (comes (exec (.iwinDone 3 HOI 0 0) s) fun t => t.chip.fld (winK HOI 0 3 0xC) 30 2 == 1 && !t.chip.bit (winK HOI 0 3 8) 31) ∧
      u.chip.iwinFirst HOI 0 = some (iwinKey HOI 0 0, w) ∧ u.chip.pageOwner HOI 0 = 0 ∧ u.chip.domain HOI 0 = 0 ∧
      comes (exec (.iwinDone 0 HOI 0 0) u) fun t =>
        t.chip.nat (winK HOI 0 0 0xC) == 2 ^ 30 && t.chip.nat (elemKey (storeOf HOI 2) 8191 15) == 0x8000_FFFF) := by
  decide +kernel

/-- The hypotheses of PartReported are met. -/
theorem witness_PartReported :
    let f : State := { up with chip := { up.chip with part := .fvk8620 } }
    up.chip.gives 0 (pageAddr HST 0 PG_CAPS) = true ∧ f.chip.gives 7 (pageAddr HST 0 PG_CAPS) = true ∧
      (comes (exec (.rcRegisterRead 0 (pageAddr HST 0 PG_CAPS) 4) up) fun t => t.chip.resp.data == [0x8640_0000]) ∧
      comes (exec (.rcRegisterRead 7 (pageAddr HST 0 PG_CAPS) 4) f) fun t => t.chip.resp.data == [0x8620_0000] := by decide +kernel

/-- The hypotheses of RegisterFrames are met. -/
theorem witness_RegisterFrames :
    let k := twAddr LOOP (0x1_0004 + 16 * 4095 + 4 * 2)
    let l : State := { up with chip := up.chip.setPai fun x => { x with latch := true } }
    let same (a : Nat) (t : State) : Bool :=
      t.chip == { up.chip with words := t.chip.words, resp := { status := .done, data := [] } } && t.chip.word (a + 4) == up.chip.word (a + 4)
    up.settled = true ∧ up.chip.takes 0 k false = true ∧ comes (exec (.registerWrite 0 k 4 [5] 0) up) (same k) = true ∧
      up.chip.bit (routeK 1023) 30 = false ∧ up.chip.takes 0 (routeK 1023) false = true ∧ comes (exec (.routeWrite 0 1023 5) up) (same (routeK 1023)) = true ∧
      up.chip.bit (shmK (8 + 7) + 0xC) 31 = false ∧ up.chip.takes 0 (shmK (8 + 7) + 8) false = true ∧
      comes (exec (.shmEntryWrite 0 7 8 [5]) up) (same (shmK (8 + 7) + 8)) = true ∧ up.chip.takes 0 (shmK (8 + 7)) false = true ∧
      up.chip.takes 0 (axK 1151 0x3C) false = true ∧ comes (exec (.registerWrite 0 (axK 1151 0x3C) 4 [5] 0) up) (same (axK 1151 0x3C)) = true ∧
      l.settled = true ∧ l.chip.pwr.held = none ∧ l.chip.pai.latch = true ∧ l.chip.modState ≤ 3 := by decide +kernel

/-- The hypotheses of DipTargetClamped are met. -/
theorem witness_DipTargetClamped :
    let o := opened up 0 (dipA 0x104)
    let p : State := { o with chip := { o.chip with laneFloor := 1900 } }
    (o.chip.takes 0 (dipA 0x104) true = true ∧ o.chip.laneFloor < 30000 ∧
      (comes (exec (.dipTargetWrite 0 989) o) fun t => t.chip.fld (dipA 0x104) 0 16 == 990) ∧
      (comes (exec (.dipTargetWrite 0 990) o) fun t => t.chip.fld (dipA 0x104) 0 16 == 990) ∧
      (comes (exec (.dipTargetWrite 0 2000) o) fun t => t.chip.fld (dipA 0x104) 0 16 == 2000) ∧
      comes (exec (.dipTargetWrite 0 2001) o) fun t => t.chip.fld (dipA 0x104) 0 16 == 2000) ∧
    (p.chip.takes 0 (dipA 0x104) true = true ∧
      comes (exec (.dipTargetWrite 0 1000) p) fun t => t.chip.fld (dipA 0x104) 0 16 == 2090) := by decide +kernel

/-- The hypotheses of PaceAndMemoryWindows are met. -/
theorem witness_PaceAndMemoryWindows :
    let st (w : Nat) : State := upWith [(aDipStat, w)]
    let g : State := { st 6 with chip := { (st 6).chip with dip := { up.chip.dip with good := 9 } } }
    let r : State := upWith [(aPaiStat, 5 * 2 ^ 28)]
    let e (w : Nat) : State := { (upWith [(aPaiStat, w)]) with chip := { (upWith [(aPaiStat, w)]).chip with dip := { up.chip.dip with expired := true } } }
    (up.chip.acts DIP 0 = true ∧ up.chip.role ≠ 5 ∧ up.chip.role ≠ 6 ∧ up.chip.laneFloor = 900 ∧ up.chip.bit aDipStat 1 = false ∧
      (comes (exec (.dipstickWindowEnd (List.replicate 15 1100 ++ [1080])) up) fun t =>
        t.chip.nat (dipA 0x804) == 1080 && t.chip.fld aDipStat 8 4 == 15 && t.chip.nat (dipA 0x884) == 1080 && !t.chip.bit aDipStat 0) ∧
      (comes (exec (.dipstickWindowEnd (List.replicate 16 900)) up) fun t => !t.chip.bit aDipStat 1 && t.chip.bit aDipStat 0) ∧
      (comes (exec (.dipstickWindowEnd (List.replicate 16 899)) up) fun t =>
        t.chip.bit aDipStat 1 && t.chip.bit aDipStat 2 && t.chip.nat (dipA 0x114) == 1)) ∧
    ((st 6).chip.bit aDipStat 1 = true ∧ g.chip.dip.good = 9 ∧
      (comes (exec (.dipstickWindowEnd (List.replicate 16 0)) (st 6)) fun t => t.chip.fld aDipStat 16 6 == 1) ∧
      comes (exec (.dipstickWindowEnd (List.replicate 16 900)) g) fun t => t.chip.fld aDipStat 1 2 == 0) ∧
    (r.chip.acts DIP 0 = true ∧ r.chip.role = 5 ∧ comes (exec (.dipstickWindowEnd (List.replicate 16 899)) r) fun t => t.chip.role == 4) ∧
    ((e 0).chip.acts DIP 0 = true ∧ (e 0).chip.role ≤ 2 ∧ (e 0).chip.bit (pwmK 95 0x100) 24 = false ∧
      (comes (exec .floorTimerExpiry (e 0)) fun t => t.chip.bit aDipStat 4 && t.chip.bit (pwmK 95 0x104) 0) ∧
      (e (4 * 2 ^ 28)).chip.role = 4 ∧ comes (exec .floorTimerExpiry (e (4 * 2 ^ 28))) fun t => !t.chip.dip.expired) ∧
    (comes (exec .paceRecoveryExpiry up) fun t => t.chip.dip.recovered) ∧
    (up.chip.acts MEM 0 = true ∧
      (comes (exec (.memUseIntervalEnd [400]) up) fun t => t.chip.nat (memA 0x140) == 400 && t.chip.nat (memA 0x03C) == 0) ∧
      comes (exec (.memUseIntervalEnd [401, 2, 3, 4, 5, 6, 7, 8, 9]) up) fun t =>
        t.chip.nat (memA 0x140) == 401 && t.chip.nat (memA 0x160) == 9 && t.chip.nat (memA 0x03C) == 1) := by decide +kernel

/-- The hypotheses of NoticesAndMessages are met. -/
theorem witness_NoticesAndMessages :
    (let s : State := { (upWith [(routeK 5, 0x8000_0000 + 7 * 256 + 63)]) with
        chip := { (upWith [(routeK 5, 0x8000_0000 + 7 * 256 + 63)]).chip with notices := [{ line := 5, value := 1 }] } }
     s.chip.acts HST 0 = true ∧ (s.chip.notices.find? (·.line == 5)) = some { line := 5, value := 1 } ∧ s.chip.bit (routeK 5) 31 = true ∧
      s.chip.fld (routeK 5) 8 4 < 8 ∧
      comes (exec (.eventNoticeDelivery 5) s) fun t => t.chip.notices.isEmpty && t.chip.bit (partA 7 0x104) 31) ∧
    (let f (l : List (Nat × Nat)) : State := { (upWith ((routeK 1023, 0x8000_0000 + 15 * 256 + 63) :: l)) with
        chip := { (upWith ((routeK 1023, 0x8000_0000 + 15 * 256 + 63) :: l)).chip with notices := [{ line := 1023, value := 1 }] } }
     let o := f [(epK 1, 0x8000_0000 + 8 * 256 + 8 * 16), (msixK 15 63 2, 7), (msixK 15 63 3, 0)]
     (f []).chip.bit (vecK (partA 15 0x380) 63) (63 % 32) = false ∧ (f []).chip.canMessage 15 = false ∧
      (comes (exec (.eventNoticeDelivery 1023) (f [])) fun t => t.chip.bit (partA 15 0x384) 31) ∧
      o.chip.canMessage 15 = true ∧ o.chip.unmasked 15 63 = true ∧
      comes (exec (.eventNoticeDelivery 1023) o) fun t => t.chip.outs == [.msix 15 0 0 7]) ∧
    (let s := upWith [(epK 1, 0x8000_0000 + 8 * 256 + 8 * 16), (partA 15 0x384, 2 ^ 31), (msixK 15 63 2, 7)]
     s.chip.bit (vecK (partA 15 0x380) 63) (63 % 32) = true ∧ s.chip.canMessage 15 = true ∧ natBit s.chip.hst.fnMask 7 = false ∧
      s.chip.takes 15 (msixK 15 63 3) false = true ∧
      (comes (exec (.msixUnmask 15 15 63 0) s) fun t => t.chip.outs == [.msix 15 0 0 7] && !t.chip.bit (partA 15 0x384) 31) ∧
      let u := upWith [(epK 1, 0x8000_0000 + 8 * 256 + 8 * 16), (partA 15 0x384, 2 ^ 31), (msixK 15 63 2, 7), (msixK 15 63 3, 0)]
      u.chip.acts HST 16 = true ∧ u.chip.bit (msixK 15 63 3) 0 = false ∧
      comes (exec (.msixHeldSend 15 63) u) fun t => t.chip.outs == [.msix 15 0 0 7] && !t.chip.bit (partA 15 0x384) 31) := by decide +kernel

/-- The hypotheses of EndpointEvents are met. -/
theorem witness_EndpointEvents :
    let l := upWith [(epK 0, 0x8000_0FFF), (epK 1, 0x8000_0FFF)]
    (up.chip.acts HST 0 = true ∧ up.chip.bit (epK 1) 30 = false ∧
      comes (exec (.pcieLinkChange 1 true 4 8) up) fun t => t.chip.bit (epK 1) 31 && t.chip.fld (epK 1) 27 3 == 4 && t.chip.fld (epK 1) 23 4 == 8) ∧
    (comes (exec (.functionLevelReset 0 3) l) fun t => t.chip.fld (epK 0) 0 12 == 0x777 && t.chip.nat (hstA 0x038) == 1 &&
      t.chip.bit (hstA PG_EVT_RAW) 3) ∧
    (l.chip.bit (epK 1) 30 = false ∧ comes (exec (.perstAssert 1) l) fun t => t.chip.bit (epK 1) 30 && !t.chip.bit (epK 1) 31 &&
      t.chip.fld (epK 1) 0 12 == 0 && t.chip.nat (hstA 0x03C) == 1) ∧
    (let p := upWith [(epK 0, 0x4000_0000)]
     p.chip.bit (epK 0) 30 = true ∧ comes (exec (.perstRelease 0) p) fun t => !t.chip.bit (epK 0) 30 && t.chip.outs == [.linkTraining 0]) ∧
    (comes (exec (.pcieConfigWrite 15 true false true true) l) fun t => t.chip.fld (epK 1) 0 12 == 0xF7F && natBit t.chip.hst.fnMask 7) := by
  decide +kernel

/-- The hypotheses of HostMemory are met. -/
theorem witness_HostMemory :
    let s : State := { (upWith [(epK 0, 0x8000_0000), (shmK 8, 0x20_0000), (shmK 8 + 8, 1), (shmK 8 + 0xC, 3)]) with dram := [(0x20_0010, 9)] }
    (s.chip.pwr.held = none ∧ s.settled = true ∧ s.chip.masterDown 8 = false ∧ s.chip.shmWhy 8 0x1F_FFFE 2 true = 0 ∧
      s.partPoison (s.chip.u64 (shmK 8) + 0x1F_FFFE) 2 = false ∧
      comes (exec (.bar2Write 8 0x1F_FFFE [3, 4] 3) s) fun t => t.dram == [(0x20_0010, 9), (0x3F_FFFE, 3), (0x3F_FFFF, 4)]) ∧
    (s.chip.shmWhy 8 16 4 false = 0 ∧ s.meetsPoison (s.chip.u64 (shmK 8) + 16) 4 = false ∧
      comes (exec (.bar2Read 8 16 4 [3] 3) s) fun t => t.chip.resp == { status := .done, data := [9] }) ∧
    (s.chip.shmWhy 8 0x1F_FFFF 2 true = 1 ∧ s.chip.shmWhy 8 0x1F_FFFF 2 false = 1 ∧
      (comes (exec (.bar2Write 8 0x1F_FFFF [3, 4] 0) s) fun t => t.chip.resp.status == .discarded && t.dram == s.dram) ∧
      comes (exec (.bar2Read 8 0x1F_FFFF 2 [] 0) s) fun t => t.chip.resp.status == .completerAbort) ∧
    (natBit s.chip.cor.halted 7 = false ∧ natBit s.chip.hst.coreGated 7 = false ∧ s.chip.running = true ∧
      16 * 2 ^ 30 - 1 + 1 ≤ s.chip.dramBytes ∧ s.partPoison (16 * 2 ^ 30 - 1) 1 = false ∧
      (comes (exec (.coreDramAccess 7 false true (16 * 2 ^ 30 - 1) 0 [5] [] 3) s) fun t => t.dram == [(0x20_0010, 9), (16 * 2 ^ 30 - 1, 5)]) ∧
      (comes (exec (.coreDramAccess 7 false false 0x20_0010 1 [] [3] 3) s) fun t => t.chip.resp.data == [9]) ∧
      (comes (exec (.coreDramAccess 7 true true (4 * 2 ^ 20 - 1) 0 [5] [] 3) s) fun t => t.chip.pwr.island == [(4 * 2 ^ 20 - 1, 5)]) ∧
      comes (exec (.coreDramAccess 7 true false 0 4 [] [] 0) s) fun t => t.chip.resp == { status := .done, data := [0] }) := by decide +kernel

/-- The hypotheses of BellChannels are met. -/
theorem witness_BellChannels :
    let s := upWith [(aBind 63, 0x8000_0000 + 3 * 256 + 2), (mbxA 63 8, 1)]
    let f (a b : Bool) : State := { s with chip := s.chip.setBell 63 { d0 := { word := 7, full := a }, d1 := { word := 9, full := b } } }
    (s.chip.sideOf 63 2 = some 0 ∧ s.chip.channelOn 63 = true ∧ s.chip.takes 2 (mbxA 63 0x100) false = true ∧
      comes (exec (.bellSend 2 63 5) s) fun t => (t.chip.bell 63).d0 == { word := 5, full := true, collided := false, rxseq := 1 }) ∧
    (s.chip.gives 2 (mbxA 63 0x108) = true ∧
      (comes (exec (.bellTake 2 63 4 true) (f false true)) fun t => !(t.chip.bell 63).d1.full && t.chip.resp.data == [0x80_0000]) ∧
      comes (exec (.bellTake 2 63 4 false) (f false true)) fun t => (t.chip.bell 63).d1.full && t.chip.resp.status == .busError) ∧
    (s.chip.gives 2 (mbxA 63 0x104) = true ∧ comes (exec (.bellInRead 2 63 true) (f false true)) fun t =>
      t.chip.resp.data == [9] && (t.chip.bell 63).d1.full) ∧
    ((f true true).chip.acts MBX 64 = true ∧ comes (exec (.crossTimeExpiry 63) (f true true)) fun t => (t.chip.bell 63).cross &&
      t.chip.bit (viewKey 1 (mbxA 63 PG_EVT_RAW)) 3) := by decide +kernel

/-- The hypotheses of BucketRings are met. -/
theorem witness_BucketRings :
    let s := upWith [(aBind 95, 0x8000_0000 + 3 * 256 + 2), (mbxA 95 8, 1), (mbxA 95 0x108, 64), (mbxA 95 0x10C, 5)]
    let f (c : Nat) : State := { s with chip := s.chip.setRing 31 { (s.chip.ring 31) with
      staged := [{ ptr := 0, len := 64, tag := 5 }], count := c, tail := 250 } }
    (s.chip.channelOn 95 = true ∧ s.chip.takes 2 (mbxA 95 0x110) false = true ∧
      comes (exec (.bucketPost 2 31 0) s) fun t => (t.chip.ring 31).staged == [{ ptr := 0, len := 64, tag := 5 }]) ∧
    ((f 10).chip.acts MBX 96 = true ∧ (comes (exec (.bucketPostCommit 31) (f 10)) fun t =>
        (t.chip.ring 31).count == 11 && t.chip.nat (ringEntK 31 4 2) == 64) ∧
      comes (exec (.bucketPostCommit 31) (f 256)) fun t => (t.chip.ring 31).count == 256 && (t.chip.ring 31).why == 1) ∧
    (s.chip.takes 3 (mbxA 95 0x114) false = true ∧ comes (exec (.bucketTake 3 31 10) (f 10)) fun t =>
      (t.chip.ring 31).count == 0 && (t.chip.ring 31).tail == 4) := by decide +kernel

/-- The hypotheses of LocksAndBindings are met. -/
theorem witness_LocksAndBindings :
    let h := upWith [(lockK 127, 6), (pageAddr MBX 97 PG_OWNER, 0xFFFF)]
    (up.chip.gives 0 (lockK 127) = true ∧ (comes (exec (.lockRead 0 127) up) fun t => t.chip.nat (lockK 127) == 1 && t.chip.resp.data == [0]) ∧
      comes (exec (.lockRead 0 127) h) fun t => t.chip.nat (lockK 127) == 6 && t.chip.resp.data == [6]) ∧
    (h.chip.sends 5 = true ∧ h.chip.accessCause 5 (lockK 127) true = 0 ∧ h.chip.keySt (pageAddr MBX 97 0) 5 = .closed ∧
      h.chip.accessCause 4 (lockK 127) true = 0 ∧
      (comes (exec (.lockRelease 4 127 0) h) fun t => t.chip.nat (lockK 127) == 6 && t.chip.resp.status == .busError) ∧ comes (exec (.lockRelease 5 127 0) h) fun t => t.chip.nat (lockK 127) == 0) ∧
    (let o := opened h 0 (lockK 127)
     o.chip.sends 0 = true ∧ o.chip.accessCause 0 (lockK 127) true = 0 ∧ o.chip.keySt (pageAddr MBX 97 0) 0 = .opened ∧ o.chip.owner (pageAddr MBX 97 0) = 0 ∧
      comes (exec (.lockForceRelease 0 127 0x80) o) fun t => t.chip.nat (lockK 127) == 0 && t.chip.nat (pageAddr MBX 97 0x034) == 1) ∧
    (up.chip.takes 0 (aBind 95) false = true ∧ up.chip.bit (pageAddr MBX 0 0x100) 31 = false ∧ up.chip.bindWhy 0 0x8000_0302 = 0 ∧
      (comes (exec (.bindingWrite 0 0 0x8000_0302) up) fun t => t.chip.nat (aBind 0) == 0x8000_0302) ∧
      up.chip.bindWhy 95 0x8000_0303 = 1 ∧
      comes (exec (.bindingWrite 0 95 0x8000_0303) up) fun t => t.chip.nat (aBind 95) == 0 && t.chip.fld (pageAddr MBX 0 0x104) 0 4 == 1) := by
  decide +kernel

/-- The hypotheses of HoistPosts are met. -/
theorem witness_HoistPosts :
    let w := upWith [(pageAddr HOI 0 8, 1), (succK 131071, 0x8000_0000 + 65535), (dK 65535 0, 2 ^ 31), (dK 65535 1, 2)]
    let s : State := { w with chip := { w.chip with posts := [{ head := 131071, stamp := 0 }] } }
    (s.settled = true ∧ s.chip.acts HOI 0 = true ∧ s.chip.bit (succK (131071 % 2 ^ 17)) 31 = true ∧
      s.chip.stateCode 65535 (s.chip.inst 65535) = 2 ∧ s.chip.fld (dK 65535 1) 0 16 = 2 ∧
      comes (exec .completionPost s) fun t => t.chip.posts.isEmpty && t.chip.fld (dK 65535 1) 0 16 == 1) ∧
    (w.chip.takes 0 (hoiA 0x10C) false = true ∧ w.chip.descOwner 65535 = 0 ∧
      comes (exec (.hoiSubmit 0 65535) w) fun t => t.chip.fld (dK 65535 1) 0 16 == 1) ∧
    (let v := upWith [(pageAddr HOI 0 8, 1), (succK 131071, 0x8000_0000 + 65535), (dK 65535 0, 2 ^ 31), (dK 65535 1, 1), (dK 65535 10, 9)]
     let s : State := { v with chip := { v.chip with posts := [{ head := 131071, stamp := 5 }], hoi := { v.chip.hoi with admitted := [65535] } } }
     s.chip.acts HOI 0 = true ∧ s.chip.stateCode 65535 (s.chip.inst 65535) = 2 ∧ s.chip.fld (dK 65535 1) 0 16 = 1 ∧ s.chip.reqBound 65535 ≠ 0 ∧
      comes (exec .completionPost s) fun t => (t.chip.inst 65535).phase == .ready && (t.chip.inst 65535).trig == 5) ∧
    (let h : State := { w with chip := { w.chip with hoi := { w.chip.hoi with inst := [(7, { phase := .held }), (8, { phase := .held, trig := 2 ^ 40 })] } } }
     h.chip.acts HOI 0 = true ∧ (h.chip.inst 7).phase = .held ∧ (∀ e ∈ h.chip.hoi.inst, e.1 ≠ 7 →
        (e.2.phase = .held → (h.chip.inst 7).trig.fine < e.2.trig.fine) ∧
        (e.2.queued = true → e.2.qHeld = true → (h.chip.inst 7).trig.fine < e.2.qTrig.fine)) ∧ h.chip.beFree = true ∧ comes (exec .heldEntryGrant h) fun t => (t.chip.inst 7).phase == .ready) := by
  decide +kernel

/-- The hypotheses of HoistDispatch are met. -/
theorem witness_HoistDispatch :
    let w := upWith [(pageAddr HOI 0 8, 1), (dK 7 0, 2 ^ 31), (dK 7 1, 1), (dK 7 8, 0x8000_0005)]
    let s : State := { w with chip := { w.chip with hoi := { w.chip.hoi with inst := [(7, { phase := .ready })] } } }
    (s.settled = true ∧ s.chip.acts HOI 0 = true ∧ s.chip.dispatches = true ∧ s.chip.pick 1 = some 7 ∧ s.chip.freeLanes 1 ≠ [] ∧
      (s.chip.slotHdr (s.chip.fld (dK 7 2) 0 12)).enabled = false ∧
      comes (exec (.taskDispatch 1 3 1 [0]) s) fun t => (t.chip.inst 7).phase == .running && t.chip.hoi.lanes.map (·.2) == [8]) ∧
    (let v := upWith [(pageAddr HOI 0 8, 1), (dK 7 0, 0xA000_0000), (dK 7 1, 1), (dK 7 8, 0x8000_0005)]
     let u : State := { v with chip := { v.chip with hoi := { v.chip.hoi with inst := [(7, { phase := .ready })] } } }
     u.chip.dispatches = true ∧ u.chip.pick 6 = some 7 ∧ (u.chip.inst 7).flow = none ∧
      comes (exec (.taskDispatch 6 0 0 []) u) fun t => (t.chip.inst 7).phase == .idle && t.chip.posts.length == 1) ∧
    (let v := upWith [(pageAddr HOI 0 8, 1), (dK 7 0, 0x8000_0000 + 1 * 2 ^ 28), (dK 7 1, 1)]
     let u : State := { v with chip := { v.chip with hoi := { v.chip.hoi with inst := [(7, { phase := .ready })] } } }
     u.chip.pick 2 = some 7 ∧ natBit u.chip.hoi.poolOut 0 = false ∧
      ((u.chip.poolCores 0).find? fun n => (u.chip.port n).current.isNone && (u.chip.port n).next.isNone) = some 0 ∧
      comes (exec (.taskDispatch 2 0 0 []) u) fun t => (t.chip.port 0).next == some 7) ∧
    (let u : State := { w with chip := { w.chip with hoi := { w.chip.hoi with inst := [(7, { phase := .running })], lanes := [(63, 8)] } } }
     (u.chip.hoi.lanes.find? (·.2 == 7 + 1)) = some (63, 7 + 1) ∧ (u.chip.inst 7).flow = none ∧
      comes (exec (.taskRelease 7) u) fun t => t.chip.hoi.lanes.isEmpty && t.chip.posts.length == 1) ∧
    (let v := upWith [(pageAddr HOI 0 8, 1), (dK 7 0, 0x8008_0000), (flowK 0, 0x8000_0000)]
     let u : State := { v with chip := { v.chip with hoi := { v.chip.hoi with inst := [(7, { phase := .running, flow := some 0 })], lanes := [(63, 8)], flows := [(0, [6, 7])] } } }
     (u.chip.inst 7).flow = some 0 ∧ (u.chip.flowOrder 0).head? ≠ some 7 ∧
      comes (exec (.taskRelease 7) u) fun t => (t.chip.inst 7).phase == .waitOrder) := by decide +kernel

/-- The hypotheses of CorePorts are met. -/
theorem witness_CorePorts :
    let w := upWith [(pageAddr HOI 0 8, 1), (dK 9 0, 0x8008_0000 + 2 ^ 28), (flowK 0, 0x8000_0000), (portA 7 0x110, 2 ^ 31), (hoiA 0x108, 0xC000)]
    let f (x : CorePort) : State := { w with chip := { w.chip with hoi := { w.chip.hoi with inst := [(9, { phase := .running, flow := some 0 })], ports := [(7, x)], flows := [(0, [6, 9])] } } }
    (w.settled = true ∧ (f { current := none, next := some 9 }).chip.gives 0 (portA 7 0x100) = true ∧
      comes (exec (.coreNextRead 0 7 4) (f { current := none, next := some 9 })) fun t => t.chip.port 7 == { current := some 9, next := none }) ∧
    (let s := f { current := some 9, next := none }
     s.chip.takes 0 (portA 7 0x108) false = true ∧ (s.chip.inst 9).flow = some 0 ∧ (s.chip.flowOrder 0).head? ≠ some 9 ∧
      (comes (exec (.coreDone 0 7 9) s) fun t => (t.chip.port 7).current == none && (t.chip.inst 9).phase == .waitOrder) ∧
      (let u : State := { s with chip := { s.chip with hoi := { s.chip.hoi with inst := [(9, { phase := .running })] } } }
       (u.chip.inst 9).flow = none ∧ comes (exec (.coreDone 0 7 9) u) fun t => (t.chip.port 7).current == none && (t.chip.inst 9).phase == .idle) ∧
      s.chip.takes 0 (portA 7 0x10C) false = true ∧ s.chip.bit (portA 7 0x110) 31 = true ∧
      (comes (exec (.coreSuspend 0 7 9) s) fun t => (t.chip.port 7).current == none && (t.chip.inst 9).phase == .ready) ∧
      s.chip.acts HOI 0 = true ∧ s.chip.role ≠ 3 ∧ s.chip.corePool 0 ≠ s.chip.corePool 7 ∧
      comes (exec (.preemptTimeout 7) s) fun t => t.chip.bit (portA 7 0x110) 29 && natBit t.chip.hoi.poolOut 3 && natBit t.chip.cor.halted 7) := by
  decide +kernel

/-- The hypotheses of HoistAdmission are met. -/
theorem witness_HoistAdmission :
    let q : AdmitReq := { p := 15, op := 2, first := 65535, count := 1, code := 9, culprit := 65535 }
    let w := upWith [(pageAddr HOI 0 8, 1)]
    let s : State := { w with chip := { w.chip with hoi := { w.chip.hoi with requests := [q] } } }
    (s.settled = true ∧ s.chip.takes 0 (hoiA 0x100) false = true ∧ s.chip.bit (admStatK 0) 31 = false ∧
      (comes (exec (.admitTasks 0 65535) up) fun t => t.chip.hoi.requests == [{ p := 0, op := 1, first := 65535, count := 1 }]) ∧
      (comes (exec (.query 0 65535) up) fun t => t.chip.hoi.requests == [{ p := 0, op := 3, first := 65535, count := 1 }]) ∧
      s.chip.hoi.requests ≠ [] ∧ comes (exec (.retire 0 0) s) fun t => t.chip.hoi.requests == [q, { p := 0, op := 2, first := 0, count := 1 }]) ∧
    (let v := upWith [(dK 65535 0, 2 ^ 31 + 2 * 2 ^ 28), (dK 65535 10, 500)]
     let r : State := { v with chip := { v.chip with hoi := { v.chip.hoi with admitted := [65535] } } }
     r.chip.fld (viewKey 0 (hoiA 0x104)) 0 17 = 1 ∧ r.chip.descOwner 65535 = 0 ∧ r.chip.hoi.admitted.contains 65535 = true ∧
      (r.chip.inst 65535).phase = .idle ∧ comes (exec (.retire 0 65535) r) fun t => t.chip.hoi.admitted.isEmpty) ∧
    (let v := upWith [(pageAddr HOI 0 8, 1), (dK 65535 0, 2 ^ 31 + 2 * 2 ^ 28 + 2 ^ 20), (dK 65535 1, 2 ^ 16), (dK 65535 10, 50)]
     let a : AdmitReq := { p := 0, op := 1, first := 65535, count := 1 }
     let r : State := { v with chip := { v.chip with hoi := { v.chip.hoi with requests := [a] } } }
     s.chip.acts HOI 0 = true ∧ (comes (exec .admissionDone s) fun t => t.chip.hoi.requests.isEmpty && t.chip.nat (admStatK 15) == 0x4900_FFFF) ∧
      (r.chip.decideRequest a).1.code = 0 ∧
      comes (exec .admissionDone r) fun t => t.chip.hoi.admitted == [65535] && t.chip.nat (admStatK 0) == 0x4000_FFFF) ∧
    (let o := opened up 0 (hoiA 0)
     o.chip.takes 0 (hoiA 0x11C) true = true ∧ (comes (exec (.beMaxCostWrite 0 1000) o) fun t => t.chip.nat (hoiA 0x11C) == 1000) ∧
      o.chip.takes 0 (hoiA 0x118) true = true ∧ (comes (exec (.beEntriesWrite 0 16384) o) fun t => t.chip.nat (hoiA 0x118) == 16384) ∧
      o.chip.takes 0 (hoiA 0x108) true = true ∧ comes (exec (.corePoolWrite 0 0xFFFF_FFFF) o) fun t => t.chip.nat (hoiA 0x108) == 0xFFFF) ∧
    (up.chip.takes 0 (flowK 4095) false = true ∧ comes (exec (.flowCfgWrite 0 4095 0xFFFF_FFFF) up) fun t => t.chip.nat (flowK 4095) == 0x8000_00F0) := by
  decide +kernel

/-- The hypotheses of TrackCommands are met. -/
theorem witness_TrackCommands :
    let f (st : Nat) : State := upWith [(trkA 63 0x114, st * 2 ^ 28 + 9), (trkA 63 0x110, 5)]
    ((f 0).settled = true ∧ (f 0).chip.takes 0 (trkA 63 0x104) false = true ∧ (f 0).chip.trkTakes 63 1 = true ∧
      comes (exec (.trackArm 0 63) (f 0)) fun t => t.chip.trkState 63 == 1 && t.chip.trkPos 63 == 5) ∧
    ((f 2).chip.takes 0 (trkA 63 0x104) false = true ∧ (f 2).chip.trkTakes 63 2 = true ∧
      comes (exec (.trackPause 0 63) (f 2)) fun t => t.chip.trkState 63 == 4) ∧
    ((f 4).chip.trkTakes 63 3 = true ∧ comes (exec (.trackResume 0 63) (f 4)) fun t => t.chip.trkState 63 == 2) ∧
    ((f 5).chip.trkTakes 63 4 = true ∧ comes (exec (.trackAbort 0 63) (f 5)) fun t => t.chip.trkState 63 == 0) ∧
    ((f 3).chip.trkTakes 63 5 = true ∧ comes (exec (.trackContinue 0 63) (f 3)) fun t => t.chip.trkState 63 == 2) := by decide +kernel

/-- The hypotheses of TrackSteps are met. -/
theorem witness_TrackSteps :
    let f (st op : Nat) : State :=
      let w := upWith [(pageAddr HOI 79 8, 1), (trkA 63 0x114, st * 2 ^ 28 + 9)]
      { w with chip := (w.chip.setTrack 63 { buf := [{ idx := 9, data := [0, BitVec.ofNat 32 (op * 256), 0, 5], code := 0 }], waitLimit := 1, waitIdx := 8 }) }
    ((f 3 1).settled = true ∧ (f 3 1).chip.acts HOI 79 = true ∧ (f 3 1).chip.nextFetch 63 = 10 ∧
      (f 3 1).chip.running = true ∧ comes (exec (.stepPrefetch 63 10 0) (f 3 1)) fun t => (t.chip.track 63).buf.length == 2) ∧
    (let d := [0, 0x1_0100, 0, 0, BitVec.ofNat 32 (twAddr LOOP 0x1_0054), 77]
     let r := State.ready [(pageAddr HOI 16 8, 1), (trkA 0 0x114, 2 * 2 ^ 28), (twAddr LOOP 0x1_0054, 1)]
     comes (exec (.recipeStepSet 0) { r with chip := r.chip.setTrack 0 { buf := [{ idx := 0, data := d, code := 0 }] } }) fun t =>
       t.chip.nat (twAddr LOOP 0x1_0054) == 77 && t.chip.trkPos 0 == 1) ∧
    (∀ op ∈ [1, 2, 3, 4, 0xF], (f 2 op).chip.dueStep 63 op = .applies { idx := 9, data := [0, BitVec.ofNat 32 (op * 256), 0, 5], code := 0 }) ∧
    (comes (exec (.recipeStepSet 63) (f 2 1)) fun t => t.chip.trkPos 63 == 10) ∧
    (comes (exec (.recipeStepPost 63) (f 2 2)) fun t => t.chip.posts.map (·.head) == [5]) ∧
    (comes (exec (.recipeStepWait 63) (f 2 3)) fun t => t.chip.trkState 63 == 3 && (t.chip.track 63).waitLimit == 5000) ∧
    (comes (exec (.recipeStepJump 63) (f 2 4)) fun t => t.chip.trkPos 63 == 5) ∧
    (comes (exec (.recipeStepEnd 63) (f 2 0xF)) fun t => t.chip.trkState 63 == 6) ∧
    (let w := f 3 1
     let u : State := { w with chip := { w.chip with tim := { w.chip.tim with ns := 1 } } }
     u.chip.trkState 63 = 3 ∧ comes (exec (.waitLimitExpiry 63) u) fun t => t.chip.trkState 63 == 5 && t.chip.nat (trkA 63 0x120) == 0x6000_0008) := by
  decide +kernel

/-- The hypotheses of SlotCommands are met. -/
theorem witness_SlotCommands :
    let w := upWith [(pageAddr LOOP 0 8, 1), (hdrK 7 0, 2 ^ 31), (hdrK 7 6, 0x1FF), (hdrK 7 7, 3), (slotK 7 0x08 15, 9)]
    let e := upWith [(hdrK 7 0, 2 ^ 13), (hdrK 7 1, 1000), (hdrK 7 2, 1)]
    (w.settled = true ∧ w.chip.takes 0 (loopA 0x100) false = true ∧ w.chip.bit (slotRespK 0) 31 = false ∧ w.chip.loop.cmds = [] ∧
      w.chip.plainCode 0 7 true = 0 ∧ w.chip.plainCode 0 7 false = 0 ∧
      (comes (exec (.slotDisable 0 7) w) fun t => !(t.chip.slotHdr 7).enabled && t.chip.nat (slotRespK 0) == 0x8000_0007) ∧
      (comes (exec (.slotResetState 0 7) w) fun t => t.chip.nat (slotK 7 0x08 15) == 0) ∧
      comes (exec (.slotClearStat 0 7) w) fun t => t.chip.nat (hdrK 7 6) == 0 && t.chip.nat (hdrK 7 7) == 0) ∧
    (e.chip.takes 0 (loopA 0x100) false = true ∧ e.chip.enableCode 0 7 = 0 ∧ comes (exec (.slotEnable 0 7) e) fun t => (t.chip.slotHdr 7).enabled) ∧
    (let s : State := { w with chip := { w.chip with loop := { w.chip.loop with cmds := [{ p := 15, cmd := 1, slot := 4095, code := 10 }] } } }
     s.chip.acts LOOP 0 = true ∧ comes (exec .slotCmdDone s) fun t => t.chip.loop.cmds.isEmpty && t.chip.nat (slotRespK 15) == 0x4A00_0FFF) := by
  decide +kernel

/-- The hypotheses of LoopControl are met. -/
theorem witness_LoopControl :
    let w := upWith [(lrnK 4095 1, 5 * 2 ^ 16 + 1), (lrnK 4095 11, 2 ^ 24), (grpK 255 1, 9 * 2 ^ 24)]
    let b : State := { w with chip := (w.chip.setSample (w.chip.firstSample 4095) 77).setSample (w.chip.firstSample 4095 + 1) 78 }
    let g := upWith [(hdrK 4095 0, 2 ^ 31 + 2 ^ 30 + 255 * 2 ^ 22), (lrnK 4095 1, 5 * 2 ^ 16)]
    let e := upWith [(hdrK 4095 0, 2 ^ 31), (lrnK 4095 1, 5 * 2 ^ 16)]
    w.settled = true ∧ w.chip.takes 0 (ctlK 4095) false = true ∧
      (comes (exec (.slotCtlWrite 0 4095 0xFFFF_FFFF) w) fun t => t.chip.nat (ctlK 4095) == 0xE000_0000 && t.chip.fld (lrnK 4095 11) 0 8 == 5) ∧
      w.chip.takes 0 (grpK 255 1) false = true ∧
      (comes (exec (.hoGroupWrite 0 255 1 0xFFFF_FFFF) w) fun t => t.chip.nat (grpK 255 1) == 0x09FF_FFFF) ∧
      w.chip.takes 0 (lrnK 4095 8) false = true ∧ (comes (exec (.learnClear 0 4095 0x4000_0000) w) fun t => t.chip.bit (lrnK 4095 11) 24) ∧
      (let b : State := { b with chip := b.chip.setNat (pageAddr LOOP 0 8) 1 }
       b.chip.acts LOOP 0 = true ∧ b.chip.nbins 4095 = 2 ∧ b.chip.lrnSample (b.chip.firstSample 4095 + 1) = 78 ∧
       comes (exec (.learnClearDone 4095) b) fun t => !t.chip.bit (lrnK 4095 11) 24 && t.chip.lrnSample (b.chip.firstSample 4095) == 0 &&
         t.chip.lrnSample (b.chip.firstSample 4095 + 1) == 0) ∧
      (w.chip.slotHdr 4095).enabled = false ∧ w.chip.takes 0 (lrnK 4095 9) false = true ∧
      (comes (exec (.learnGainWrite 0 4095 true 7) w) fun t => t.chip.nat (lrnK 4095 10) == 7) ∧
      e.chip.takes 0 (lrnK 4095 10) false = true ∧ (e.chip.slotHdr 4095).enabled = true ∧ 1 / 2 ≤ coefRat 0x7FE0 ∧ coefRat 0x7FE0 ≤ 1 ∧ ¬(1 / 2 ≤ coefRat 0) ∧
      (comes (exec (.learnGainWrite 0 4095 true 0x7FE0) e) fun t => t.chip.nat (lrnK 4095 10) == 0x7FE0 && t.chip.fld (lrnK 4095 11) 0 8 == 5) ∧
      (comes (exec (.learnGainWrite 0 4095 true 0) e) fun t => t.chip.word (lrnK 4095 10) == e.chip.word (lrnK 4095 10)) ∧
      g.chip.memberOf 255 4095 = true ∧ g.chip.takes 0 (grpK 255 0) false = true ∧
      comes (exec (.hoGroupWrite 0 255 0 0xFFFF_FFFF) g) fun t => t.chip.nat (grpK 255 0) == 0x80FF_FFFF := by decide +kernel

/-- The hypotheses of AxisCommands are met. -/
theorem witness_AxisCommands :
    (let one (l : List Nat) : List (Nat × Nat) := l.map fun o => (axK 1091 o, 1)
    let w := upWith ([(axK 1091 0, 2 ^ 31), (axK 1091 8, 2 ^ 28), (axK 1091 0xC, 1090), (axK 1090 0, 2 ^ 31), (camK 0 0, 2 ^ 31)] ++
      one [0x20, 0x28, 0x30, 0x38, 0x50, 0x58, 0x68, 0x70, 0x78, 0x40, 0x44])
    let f (st : Nat) := upWith [(axK 1091 0, 2 ^ 31), (axK 1091 8, st * 2 ^ 28 + 3)]
    let d := upWith [(twAddr TIM 4, 10000), (axK 1091 0xE0, 5)]
    (w.settled = true ∧ w.chip.takes 0 (axCmdK 1091) false = true ∧ (∀ k ∈ [2, 3, 4, 5, 6, 7, 8, 9, 10, 11, 12], w.chip.axisCode 0 1091 k = 0) ∧
      (comes (exec (.moveAbs 0 1091) w) fun t => (t.chip.axis 1091).pending == some (w.chip.staged 1091 3 false)) ∧
      (comes (exec (.axisDisable 0 1091) w) fun t => (t.chip.axis 1091).pending.any (·.code == 2)) ∧
      comes (exec (.gearIn 0 1091 true) w) fun t => (t.chip.axis 1091).pending == some (w.chip.staged 1091 6 true)) ∧
    ((f 8).chip.takes 0 (axCmdK 1091) false = true ∧ (f 8).chip.axisCode 0 1091 13 = 0 ∧
      comes (exec (.resetFault 0 1091) (f 8)) fun t => (t.chip.axis 1091).pending.any (·.code == 13)) ∧
    (d.chip.takes 0 (axCmdK 1091) false = true ∧ d.chip.axisCode 0 1091 1 = 0 ∧
      comes (exec (.axisEnable 0 1091) d) fun t => (t.chip.axis 1091).pending.any (·.code == 1))) ∧
    (let w := upWith [(pageAddr PRF 0 8, 1), (pageAddr PRF 0 0x100, 2 ^ 31), (axK 3 0, 2 ^ 31), (axK 3 8, 2 ^ 28)]
    let q : AxisCmd := { code := 2, lim := {}, target := 0, num := 0, den := 0, master := 0, cam := 0, engageAt := 0 }
    let s (a : Nat) : State := { w with chip := ({ w.chip with prf := { w.chip.prf with due := [{ axis := a, stamp := 0 }], enabled := [3] } } : Chip).setAxis 3 { pending := some q } }
    ((s 1151).settled = true ∧ (s 1151).chip.acts PRF 0 = true ∧ (s 1151).chip.axTicks 1151 = false ∧
      (comes (exec (.axisTick 0) (s 1151)) fun t => t.chip.prf.due.isEmpty) ∧
      (s 3).chip.axisOn 3 = true ∧ (s 3).chip.modState = 0 ∧ (s 3).chip.axState 3 = 1 ∧ ((s 3).chip.axis 3).pending = some q ∧
      comes (exec (.axisTick 0) (s 3)) fun t => !t.chip.axisOn 3 && t.chip.axState 3 == 0 && (t.chip.axis 3).pending.isNone) ∧
    (w.chip.takes 0 (pageAddr PRF 0 0x104) false = true ∧
      comes (exec (.stateLostClear 0 0x8000_0000) w) fun t => !t.chip.bit (pageAddr PRF 0 0x100) 31)) ∧
    (let ticks (l : List (Nat × Nat)) (q : AxisCmd) (p : Chip → Bool) : Bool :=
       let w := State.ready ([(pageAddr PRF 0 8, 1), (twAddr TIM 4, 1000000)] ++ l)
       let c : Chip := { w.chip with prf := { w.chip.prf with enabled := [0], due := [{ axis := 0, stamp := 0 }] } }
       comes (exec (.axisTick 0) { w with chip := c.setAxis 0 { pending := some q } }) fun t =>
         p t.chip && (t.chip.axis 0).pending == none && t.chip.prf.due == []
     let q (code : Nat) : AxisCmd := { code := code, lim := { v := 2 ^ 32, a := 2 ^ 32, d := 2 ^ 32, j := 2 ^ 40 }, target := 5 * 2 ^ 32, num := 0, den := 0, master := 0, cam := 0, engageAt := 0 }
     let on (st : Nat) : List (Nat × Nat) := [(axK 0 0, 2 ^ 31), (axK 0 8, st * 2 ^ 28)]
     ticks (on 1) (q 12) (fun c => c.s64 (axK 0 0x90) == 5 * 2 ^ 32 && c.axState 0 == 1) = true ∧
       ticks (on 1) (q 3) (fun c => c.axState 0 == 2 && decide (0 < c.s64 (axK 0 0x98)) && decide (0 < c.s64 (axK 0 0xA0))) = true ∧
       ticks (on 8) (q 13) (fun c => c.axState 0 == 1 && c.fld (axK 0 8) 0 4 == 0) = true ∧
       ticks [] (q 1) (fun c => c.axisOn 0 && c.axState 0 == 1) = true) := by decide +kernel

/-- The hypotheses of PwmShadows are met. -/
theorem witness_PwmShadows :
    let w := upWith [(pageAddr PWM 96 8, 1), (pwmK 95 0x100, 0xD000_0000), (pwmK 95 0x128, 77), (pwmK 95 0x110, 80000), (pwmK 95 0x180, 80000), (pwmK 95 0x1A4, 2 ^ 31 + 9999)]
    let n := upWith [(pageAddr PWM 96 8, 1), (pwmK 95 0x100, 0x5000_0000), (pwmK 95 0x128, 77), (pwmK 95 0x180, 80000)]
    let g := upWith [(pageAddr PWM 96 8, 1), (pwmK 95 0x100, 0xD000_0000)]
    let o := opened up 0 (pageAddr PWM 96 8)
    (w.settled = true ∧ w.chip.takes 0 (pwmK 95 0x134) false = true ∧ w.chip.takes 0 (pwmK 95 0x234) false = true ∧
      w.chip.takes 0 (pwmK 95 0x110) false = true ∧ w.chip.takes 0 (pwmK 95 0x114) false = true ∧
      w.chip.inGuard 95 = false ∧ g.chip.inGuard 95 = true ∧ periodBad 400 = false ∧ (w.chip.pair 95).late = [] ∧
      periodBad (getBits 0xFFFF_FFF8 0 3 * 2 ^ 32 + w.chip.nat (pwmK 95 0x110)) = false ∧
      (comes (exec (.shadowWrite 0 95 0x134 [5] 0) w) fun t => t.chip.nat (pwmK 95 0x134) == 5) ∧
      (comes (exec (.shadowWrite 0 95 0x110 [400] 0) w) fun t => t.chip.nat (pwmK 95 0x110) == 400) ∧
      (comes (exec (.shadowWrite 0 95 0x114 [0xFFFF_FFF8] 0) w) fun t => t.chip.nat (pwmK 95 0x114) == 0) ∧
      (comes (exec (.shadowWrite 0 95 0x120 [0xFFFF_FFFF] 0) w) fun t => t.chip.nat (pwmK 95 0x120) == 0x0FFF_0FFF) ∧
      (comes (exec (.shadowWrite 0 95 0x134 [5] 0) g) fun t => (t.chip.pair 95).late.length == 1 && t.chip.nat (pwmK 95 0x034) == 1) ∧
      comes (exec (.shadowWriteArm 0 95 0x134 [5] 3) w) fun t => t.chip.bit (pwmK 95 0x108) 20 && t.chip.nat (pwmK 95 0x134) == 5) ∧
    (w.chip.takes 0 (pwmA 0x508) false = true ∧ (∀ j, j < 32 → w.chip.pageOwner PWM (1 + (32 * 2 + j)) = 0 ∧ w.chip.inGuard (32 * 2 + j) = false) ∧
      comes (exec (.pwmArm 0 2 0x8000_0000 1) w) fun t => t.chip.bit (pwmK 95 0x108) 20 && !t.chip.bit (pwmK 94 0x108) 20) ∧
    (w.chip.acts PWM 96 = true ∧ w.chip.pairRuns 95 = true ∧ w.chip.transfers 95 = true ∧ n.chip.acts PWM 96 = true ∧ n.chip.pairRuns 95 = true ∧
      (n.chip.pair 95).late = [] ∧ n.chip.transfers 95 = false ∧
      (comes (exec (.pwmPeriodBoundary 95 31) w) fun t => t.chip.nat (pwmK 95 0x198) == 77 && !t.chip.bit (pwmK 95 0x108) 20 && (t.chip.pair 95).bAt == 31) ∧
      (comes (exec (.pwmPeriodBoundary 95 0) n) fun t => t.chip.nat (pwmK 95 0x198) == 0) ∧
      w.chip.bit (pwmK 95 0x100) 28 = true ∧ w.chip.fld (pwmK 95 0x100) 29 2 = 2 ∧
      (comes (exec (.pwmHalfBoundary 95) w) fun t => t.chip.nat (pwmK 95 0x198) == 77) ∧
      w.chip.bit (pwmK 95 (0x198 + 4 * 3)) 31 = true ∧ w.chip.fld (pwmK 95 (0x198 + 4 * 3)) 0 31 * 8 < w.chip.u64 (pwmK 95 0x180) ∧
      comes (exec (.pwmCompareMatch 95 3) w) fun t => natBit (t.chip.pair 95).fired 3 && t.chip.strobes.length == 1) ∧
    (o.chip.takes 0 (pageAddr PWM (1 + 95) PG_CTL) true = true ∧ o.chip.fld (pwmK 95 0x100) 29 2 ≠ 3 ∧ o.chip.pageOn PWM (1 + 95) = false ∧
      comes (exec (.pageEnable 0 PWM (1 + 95) 1) o) fun t => t.chip.bit (pwmK 95 0x108) 17) := by decide +kernel

/-- The hypotheses of TripPath are met. -/
theorem witness_TripPath :
    let w := upWith [(pwmA (0x100 + 16 * 47), 0xE000_03FF), (pwmA (0x10C + 16 * 47), 2 ^ 31)]
    let h := upWith [(pwmA (0x100 + 16 * 47), 0x807F_0000), (pwmA (0x10C + 16 * 47), 2 ^ 31), (pwmA (0x400 + 4 * 47), 2 * 2 ^ 16), (pwmK 95 0x108, 2 ^ 21)]
    let b := upWith [(pwmA (0x100 + 16 * 47), 0x805F_0001), (pwmA (0x10C + 16 * 47), 2 ^ 31)]
    let f := upWith [(pwmA (0x100 + 16 * 47), 0xE000_03FF), (pwmA (0x400 + 4 * 47), 2 * 2 ^ 16)]
    let t := upWith [(pwmK 95 0x108, 2 ^ 21)]
    let c : State := { w with chip := w.chip.setPair 95 { srcs := 2 ^ 47 } }
    let o := opened up 0 (pwmA 0)
    ((comes (exec (.tripInputActive (2 ^ 47) 0 0) b) fun t => t.chip.bit (pwmK 95 0x108) 21 && t.chip.fld (pwmK 95 0x108) 22 6 == 47) ∧
      comes (exec (.tripInputActive (2 ^ 47) 0 0) { b with chip := b.chip.setPair 95 { past := [0] } }) fun t =>
        !t.chip.bit (pwmK 95 0x108) 21 && t.chip.pwm.balls == 2 ^ 47) ∧
    (h.chip.running = true ∧ natBit h.chip.pwm.balls 47 = false ∧ (h.chip.tripCopy false 47 0).getLsbD 31 = true ∧
      (h.chip.tripCopy false 47 0).getLsbD 30 = false ∧ 96 ≤ getBits (h.chip.tripCopy false 47 0) 16 7 ∧ 95 ∈ h.chip.tripPairs false 47 ∧
      comes (exec (.tripInputActive (2 ^ 47) 0 8191) h) fun t => t.chip.bit (pwmK 95 0x108) 21 && natBit t.chip.pwm.balls 47) ∧
    (w.settled = true ∧ w.chip.pwr.held = none ∧ w.chip.running = true ∧ w.chip.tripSeen false 47 = true ∧ 95 ∈ w.chip.tripPairs false 47 ∧
      w.chip.blanked false 47 (w.chip.now250 + 0 : Nat) = false ∧
      comes (exec (.blankWindowClose 47 0) w) fun t => t.chip.bit (pwmK 95 0x108) 21) ∧
    (t.chip.takes 0 (pwmK 95 0x104) false = true ∧ t.chip.clearable 95 = true ∧
      (comes (exec (.tripClear 0 95 0xFFFF_FFFF) t) fun t => !t.chip.bit (pwmK 95 0x108) 21 && t.chip.nat (pwmK 95 0x104) == 0x8000_0001) ∧
      c.chip.takes 0 (pwmK 95 0x104) false = true ∧ c.chip.clearable 95 = false ∧
      comes (exec (.tripClear 0 95 2) c) fun t => t.chip.bit (pwmK 95 0x108) 18) ∧
    (o.chip.takes 0 (pwmA (0x100 + 16 * 47 + 4 * 3)) true = true ∧
      (comes (exec (.tripCfgWrite 0 47 3 5) o) fun t => t.chip.nat (pwmA (0x10C + 16 * 47)) == 5) ∧
      (comes (exec (.tripCfgWrite 0 47 0 0xFFFF_FFFF) o) fun t => t.chip.nat (pwmA (0x100 + 16 * 47)) == 0xE07F_03FF) ∧
      (comes (exec (.tripCfgWrite 0 47 0 (95 * 65536)) o) fun t => t.chip.nat (pwmA (0x100 + 16 * 47)) == 0x5F_0000) ∧
      comes (exec (.tripCfgWrite 0 47 0 (96 * 65536)) o) fun t => t.chip.words == o.chip.words) ∧
    (([0, 0, 0, 1] : List Word).getD 3 0 ≠ w.chip.tripCopy false 47 3 ∧
      comes (exec (.cfgMismatchExpiry 47 [0, 0, 0, 1]) w) fun t => t.chip.bit (pwmA (0x400 + 4 * 47)) 26) ∧
    (w.chip.acts PWM 0 = true ∧ w.chip.testable 47 = true ∧ w.chip.fld (pwmA (0x400 + 4 * 47)) 16 8 = 0 ∧
      (comes (exec (.tripSelfTest 47 true) w) fun t => t.chip.fld (pwmA (0x400 + 4 * 47)) 0 16 == 1) ∧
      (comes (exec (.tripSelfTest 47 false) w) fun t => t.chip.fld (pwmA (0x400 + 4 * 47)) 16 8 == 1) ∧
      f.chip.testable 47 = true ∧ f.chip.fld (pwmA (0x400 + 4 * 47)) 16 8 = 2 ∧
      (comes (exec (.tripSelfTest 47 false) f) fun t => t.chip.bit (pwmA (0x400 + 4 * 47)) 29) ∧
      w.chip.bit (pwmA (0x100 + 16 * 47)) 31 = true ∧ w.chip.bit (pwmA (0x100 + 16 * 47)) 29 = true ∧
      comes (exec (.testStaleExpiry 47) w) fun t => t.chip.bit (pwmA (0x400 + 4 * 47)) 27) := by decide +kernel

/-- The hypotheses of FeedbackCounting are met. -/
theorem witness_FeedbackCounting :
    let w (cfg : Nat) := upWith [(fbkK 31 8, 1), (fbkK 31 0x100, cfg), (fbkK 31 0x104, 1000), (fbkK 31 0x158, 999), (fbkK 31 0x11C, 0x9000_0000), (fbkK 31 0x138, 77)]
    let bad := upWith [(fbkK 31 0x104, 50), (fbkK 31 0x138, 77)]
    let o := opened bad 0 (fbkK 31 0)
    let h := w 0x2001_0000
    let far := upWith [(fbkK 31 8, 1), (fbkK 31 0x100, 0x2201_0000), (fbkK 31 0x104, 1000), (fbkK 31 0x11C, 0xDBA9_8800)]
    ((w 0).settled = true ∧ (w 0).chip.cpr 31 ≠ 0 ∧ (w 0).chip.pwr.held = none ∧ (w 0).chip.resetting FBK 31 = false ∧
      (w 0).chip.frozen FBK 31 = false ∧ (w 0).chip.pageOn FBK 31 = true ∧ (w 0).chip.counting = true ∧ (w 0).chip.fbkSrc 31 = 0 ∧
      quadrature ((w 0).chip.fld (fbkK 31 0x100) 26 3) ((w 0).chip.chan 31).a ((w 0).chip.chan 31).b true false = some 1 ∧
      (comes (exec (.encoderCount 31 true false) (w 0)) fun t => t.chip.nat (fbkK 31 0x158) == 0 && t.chip.nat (fbkK 31 0x15C) == 1) ∧
      quadrature ((w 0).chip.fld (fbkK 31 0x100) 26 3) ((w 0).chip.chan 31).a ((w 0).chip.chan 31).b true true = none ∧
      comes (exec (.encoderCount 31 true true) (w 0)) fun t => t.chip.nat (fbkK 31 0x158) == 999 && t.chip.nat (fbkK 31 0x034) == 1) ∧
    (h.chip.bit (fbkK 31 0x100) 16 = true ∧ 8 ≤ h.chip.fld (fbkK 31 0x11C) (4 * 7) 4 ∧ h.chip.fbkSrc 31 = 1 ∧
      h.chip.fld (fbkK 31 0x11C) (4 * 7) 4 % 8 ≤ 5 ∧
      (h.chip.fld (fbkK 31 0x11C) (4 * 7) 4 % 8 + 6 - h.chip.fld (fbkK 31 0x150) 0 3) % 6 = 1 ∧
      (comes (exec (.hallChange 31 7) h) fun t => t.chip.nat (fbkK 31 0x158) == 0 && t.chip.fld (fbkK 31 0x150) 0 3 == 1) ∧
      h.chip.fld (fbkK 31 0x11C) (4 * 0) 4 < 8 ∧ (comes (exec (.hallChange 31 0) h) fun t => t.chip.bit (fbkK 31 0x150) 18) ∧
      (far.chip.fld (fbkK 31 0x11C) (4 * 7) 4 % 8 + 6 - far.chip.fld (fbkK 31 0x150) 0 3) % 6 = 5 ∧
      (comes (exec (.hallChange 31 7) far) fun t => t.chip.nat (fbkK 31 0x158) == 1 && t.chip.fld (fbkK 31 0x150) 0 3 == 5) ∧
      (far.chip.fld (fbkK 31 0x11C) (4 * 5) 4 % 8 + 6 - far.chip.fld (fbkK 31 0x150) 0 3) % 6 ∈ [2, 3, 4] ∧
      comes (exec (.hallChange 31 5) far) fun t => t.chip.bit (fbkK 31 0x150) 18 && t.chip.nat (fbkK 31 0x158) == 0) ∧
    ((w 0).chip.takes 0 (fbkK 31 0x140) false = true ∧ (w 0).chip.nat (fbkK 31 0x138) < (w 0).chip.cpr 31 ∧
      (comes (exec (.fbkSetPos 0 31) (w 0)) fun t => t.chip.nat (fbkK 31 0x158) == 77) ∧
      bad.chip.takes 0 (fbkK 31 0x140) false = true ∧ bad.chip.cpr 31 ≤ bad.chip.nat (fbkK 31 0x138) ∧
      comes (exec (.fbkSetPos 0 31) bad) fun t => t.chip.bit (fbkK 31 0x150) 16) ∧
    (o.chip.takes 0 (pageAddr FBK 31 PG_CTL) true = true ∧ o.chip.pageOn FBK 31 = false ∧ o.chip.fbkCode 31 = 0 ∧
      comes (exec (.pageEnable 0 FBK 31 1) o) fun t => t.chip.pageOn FBK 31) := by decide +kernel

/-- The hypotheses of FeedbackFrames are met. -/
theorem witness_FeedbackFrames :
    let w (src : Nat) := upWith [(fbkK 31 8, 1), (fbkK 31 0x100, src * 2 ^ 29), (fbkK 31 0x120, 8 * 2 ^ 26)]
    let run (x : State) : State := { x with chip := x.chip.setChan 31 { frame := some { t0 := 0, frac := 0 } } }
    ((run (w 2)).chip.acts FBK 31 = true ∧ (run (w 2)).chip.pageOn FBK 31 = true ∧ ((run (w 2)).chip.chan 31).frame.isSome = true ∧
      (run (w 2)).chip.fbkSrc 31 = 2 ∧ (comes (exec (.ssiFrameDone 31 0 false true) (run (w 2))) fun t => t.chip.fld (fbkK 31 0x150) 25 3 == 1) ∧
      comes (exec (.ssiFrameDone 31 0 true false) (run (w 2))) fun t => t.chip.fld (fbkK 31 0x150) 25 3 == 2) ∧
    ((run (w 3)).chip.fbkSrc 31 = 3 ∧ ([] : List Byte).length ≠ 4 + ceilDiv ((run (w 3)).chip.fld (fbkK 31 0x120) 26 6) 8 ∧
      (comes (exec (.rs485Response 31 [] false) (run (w 3))) fun t => t.chip.fld (fbkK 31 0x150) 25 3 == 4) ∧
      (comes (exec (.rs485RespTimeout 31) (run (w 3))) fun t => t.chip.nat (fbkK 31 0x03C) == 1) ∧
      (let good : List Byte := [0xA0, 0x00, 0x55]
       let other : List Byte := [0xA1, 0x00, 0x55]
       let hi (b : List Byte) : Byte := BitVec.ofNat 8 (crc16 b / 256)
       let lo (b : List Byte) : Byte := BitVec.ofNat 8 (crc16 b)
       good.length = 2 + ceilDiv ((run (w 3)).chip.fld (fbkK 31 0x120) 26 6) 8 ∧
       crc16 good ≠ (hi other).toNat * 256 + (lo other).toNat ∧ crc16 good = (hi good).toNat * 256 + (lo good).toNat ∧
       crc16 other = (hi other).toNat * 256 + (lo other).toNat ∧
       (other.getD 0 0).toNat ≠ 0xA0 + (run (w 3)).chip.fld (fbkK 31 0x12C) 12 4 ∧
       (good.getD 0 0).toNat = 0xA0 + (run (w 3)).chip.fld (fbkK 31 0x12C) 12 4 ∧
       (comes (exec (.rs485Response 31 (good ++ [hi other, lo other]) false) (run (w 3))) fun t => t.chip.fld (fbkK 31 0x150) 25 3 == 5) ∧
       (comes (exec (.rs485Response 31 (other ++ [hi other, lo other]) false) (run (w 3))) fun t => t.chip.fld (fbkK 31 0x150) 25 3 == 6) ∧
       comes (exec (.rs485Response 31 (good ++ [hi good, lo good]) true) (run (w 3))) fun t => t.chip.fld (fbkK 31 0x150) 25 3 == 7)) := by decide +kernel

/-- The hypotheses of LatchesAndGpio are met. -/
theorem witness_LatchesAndGpio :
    let w := upWith [(fbkK 31 8, 1), (fbkK 31 0x104, 100), (fbkK 31 0x108, 0x4000_0000), (fbkK 31 0x110, 0xC800_0000), (gpioK (0x200 + 4 * 63), 2 ^ 30),
      (gpioK 0x10C, 6), (gpioK 8, 1)]
    let r := upWith [(fbkK 31 8, 1), (fbkK 31 0x104, 100), (fbkK 31 0x110, 0xC800_0000), (fbkK 31 0x150, 2 ^ 15)]
    (w.settled = true ∧ w.chip.pwr.held = none ∧ w.chip.resetting FBK 31 = false ∧ w.chip.frozen FBK 31 = false ∧ w.chip.indexQualified 31 = true ∧
      w.chip.fld (fbkK 31 0x108) 30 2 = 1 ∧ w.chip.bit (fbkK 31 0x150) 14 = false ∧
      w.chip.bit (fbkK 31 0x108) 25 = false ∧ (comes (exec (.indexPulse 31 false) w) fun t => t.chip.fld (latchK 31 1 0x30) 0 16 == 0) ∧
      comes (exec (.indexPulse 31 true) w) fun t => t.chip.fld (latchK 31 1 0x30) 0 16 == 1 && t.chip.bit (fbkK 31 PG_EVT_RAW) 1) ∧
    (r.chip.chanOn 31 = true ∧ r.chip.running = true ∧ r.chip.bit (fbkK 31 0x110) 31 = true ∧ r.chip.bit (fbkK 31 0x110) 27 = true ∧
      r.chip.bit (fbkK 31 0x110) 30 = true ∧ r.chip.bit (fbkK 31 0x150) 15 = true ∧ r.chip.bit (fbkK 31 0x110) 26 = false ∧
      r.chip.refFrom 31 0 = true ∧ comes (exec (.referenceEdge 31 0 true) r) fun t => t.chip.fld (latchK 31 2 0x30) 0 16 == 1 && !t.chip.bit (fbkK 31 0x150) 15) ∧
    (w.chip.takes 0 (fbkK 31 0x110) false = true ∧ (comes (exec (.refArm 0 31 0x2000_0000) w) fun t => t.chip.bit (fbkK 31 0x150) 15) ∧
      w.chip.gives 0 (fbkK 31 (0x200 + 0x40 * 2)) = true ∧
      comes (exec (.latchCaptureRead 0 31 2 4) w) fun t => (tab [] t.chip.caps (capKey 0 (fbkK 31 0x280))).length == 12) ∧
    (w.chip.acts FBK 32 = true ∧ comes (exec (.gpioInputEdge 63 false) w) fun t => t.chip.nat (gpioK 0x104) == 2 ^ 31) ∧
    (w.chip.takes 0 (gpioK (0x108 + 4)) false = true ∧ w.chip.takes 0 (gpioK (0x110 + 4)) false = true ∧ w.chip.takes 0 (gpioK (0x118 + 4)) false = true ∧
      (comes (exec (.gpioOutWrite 0 4 [9]) w) fun t => t.chip.nat (gpioK 0x10C) == 9) ∧
      (comes (exec (.gpioSet 0 4 [9]) w) fun t => t.chip.nat (gpioK 0x10C) == 15) ∧
      comes (exec (.gpioClr 0 4 [2]) w) fun t => t.chip.nat (gpioK 0x10C) == 4) := by decide +kernel

/-- The hypotheses of ConverterSequences are met. -/
theorem witness_ConverterSequences :
    let w := upWith [(cnvK 3 8, 1), (cnvK 3 (0x120 + 8 * 3), 2 ^ 31), (cnvK 3 0x114, 2 ^ 16)]
    let f := upWith [(cnvK 3 8, 1), (cnvK 3 0x108, 5), (cnvK 3 0x114, 2 ^ 27), (cnvK 3 (0x180 + 4 * 30), 2 ^ 31 + 9), (cnvK 3 (0x180 + 4 * 31), 2 ^ 31 + 9)]
    let run (x : State) : State := { x with chip := x.chip.setCv 3 { cur := some { entry := 31, ent := 0, seq := none, mark := 0 } } }
    (w.settled = true ∧ w.chip.takes 0 (cnvK 3 0x110) false = true ∧ w.chip.pageOn CNV 3 = true ∧ w.chip.running = true ∧ w.chip.filtering 3 = false ∧
      w.chip.bit (cnvK 3 (0x120 + 8 * 3)) 31 = true ∧ (comes (exec (.cnvSoftTrigger 0 3 8) w) fun t => t.chip.seqActive 3 3) ∧
      comes (exec (.cnvAbort 0 3 0x8000_0000) w) fun t => !t.chip.seqActive 3 0) ∧
    ((run w).chip.acts CNV 3 = true ∧ (run w).chip.pageOn CNV 3 = true ∧ (run w).chip.filtering 3 = false ∧ (run w).chip.standby = false ∧
      comes (exec (.conversionDone 3 1250000000) (run w)) fun t => t.chip.nat (cnvK 3 (0x804 + 8 * 31)) == 0) ∧
    ((run f).chip.acts CNV 3 = true ∧ (run f).chip.filtering 3 = true ∧ (comes (exec (.filterRoundStart 3) (run f)) fun t => (t.chip.cv 3).again) ∧
      (f.chip.cv 3).cur = none ∧ (f.chip.cv 3).round = [] ∧ f.chip.paceShort 3 = true ∧
      comes (exec (.filterRoundStart 3) f) fun t => t.chip.bit (cnvK 3 0x114) 26 && (t.chip.cv 3).round == [31] && t.chip.fld (cnvK 3 0x114) 0 5 == 30) ∧
    (w.chip.takes 0 (cnvK 3 0x100) false = true ∧ (comes (exec (.cnvModeWrite 0 3 0xFFFF_FFFF) w) fun t => t.chip.nat (cnvK 3 0x100) == 2 ^ 31) ∧
      w.chip.takes 0 (cnvK 3 (0x180 + 4 * 31)) false = true ∧
      (comes (exec (.cnvEntryWrite 0 3 31 0xE04C_0004) w) fun t => t.chip.nat (cnvK 3 (0x180 + 4 * 31)) == 0xA04C_0004) ∧
      w.chip.takes 0 (cnvK 3 (0x120 + 8 * 2)) false = true ∧ w.chip.bit (cnvK 3 (0x120 + 8 * 2)) 31 = false ∧
      seqCode ((0xF7F0_001F : Word) &&& 0xFFF0_7C1F#32) = 2 ∧ seqCode ((0x8000_001F : Word) &&& 0xFFF0_7C1F#32) = 0 ∧
      (comes (exec (.cnvSeqCfgWrite 0 3 2 0x8000_001F) w) fun t => t.chip.nat (cnvK 3 (0x120 + 8 * 2)) == 0x8000_001F) ∧
      w.chip.gives 0 (cnvK 3 (0x800 + 8 * 31)) = true ∧
      comes (exec (.cnvResultRead 0 3 31 4 false) w) fun t => t.chip.resp.data.length == 1) := by decide +kernel

/-- The hypotheses of Plausibility are met. -/
theorem witness_Plausibility :
    let w := upWith [(cnvK 4 8, 1), (plK 15 0xC, 0x8005_0000)]
    let s : State := { w with chip := { w.chip.setPlWait 15 [{ isX := true, value := 3, stamp := 0 }] with tim := { w.chip.tim with ns := 210 } } }
    (s.settled = true ∧ s.chip.acts CNV 4 = true ∧ s.chip.pageOn CNV 4 = true ∧
      (s.chip.fld (plK 15 4) 0 16 + 200) * 2 ^ 16 ≤ s.chip.now.fine ∧
      comes (exec (.plausPartnerTimeout 15) s) fun t => t.chip.plWait 15 == [] && t.chip.fld (plK 15 0xC) 16 8 == 6) ∧
    (w.chip.takes 0 (cnvK 4 0x200) false = true ∧ w.chip.bit (plK 15 0xC) 30 = false ∧
      comes (exec (.plausClear 0 0x8000) w) fun t => t.chip.nat (plK 15 0xC) == 0) ∧
    (w.chip.bit (plK 15 0) 31 = false ∧ w.chip.takes 0 (plK 15 4) false = true ∧ w.chip.takes 0 (plK 15 8) false = true ∧
      (comes (exec (.plausCfgWrite 0 15 1 0xFFFF_FFFF) w) fun t => t.chip.nat (plK 15 4) == 0xFF00_FFFF) ∧
      comes (exec (.plausCfgWrite 0 15 2 0xFFFF_FFFF) w) fun t => t.chip.nat (plK 15 8) == 0x1_FFFF) := by decide +kernel

/-- The hypotheses of TimebaseServo are met. -/
theorem witness_TimebaseServo :
    let f (v : Nat) := upWith [(aTimStat, v * 2 ^ 29), (timA 0x130, 2 ^ 29)]
    let o (v : Nat) := opened (f v) 0 (timA 0)
    ((f 3).settled = true ∧ (f 3).chip.acts TIM 0 = true ∧ (f 3).chip.bit aTimStat 28 = false ∧ (f 3).chip.servo = 3 ∧
      (comes (exec .trefLoss (f 3)) fun t => t.chip.servo == 4 && t.chip.bit aTimStat 28) ∧
      (comes (exec .trefReturn (f 3)) fun t => !t.chip.bit aTimStat 28) ∧ (comes (exec .syncTimeout (f 1)) fun t => t.chip.servo == 0) ∧
      comes (exec .backupClockWrite (f 3)) fun t => t.chip.tim.backup == some 0) ∧
    (let s : State := { f 1 with chip := { (f 1).chip with tim := { (f 1).chip.tim with stepDue := some { theta := -65536, nu := 0, tb := 0 } } } }
     s.chip.acts TIM 0 = true ∧ comes (exec .timeStepApply s) fun t => t.chip.servo == 2 && t.chip.fld aTimStat 16 8 == 1 && t.chip.tim.ns == 1) ∧
    ((o 1).chip.takes 0 (timA 0x130) true = true ∧ (o 1).chip.bit (timA 0x130) 31 = false ∧ (o 1).chip.softServo = true ∧ (o 1).chip.servo = 1 ∧
      (comes (exec (.timStepGo 0) (o 1)) fun t => t.chip.tim.stepDue.map (·.theta) == some 0) ∧
      (o 2).chip.servo ≠ 1 ∧ (comes (exec (.timStepGo 0) (o 2)) fun t => t.chip.bit aTimStat 5) ∧
      (o 4).chip.bit (timA 0x130) 30 = false ∧ comes (exec (.timReacq 0) (o 4)) fun t => t.chip.servo == 1) := by decide +kernel

/-- The hypotheses of PtpPorts are met. -/
theorem witness_PtpPorts :
    let w := upWith [(pageAddr TIM 4 8, 1), (netK 3 8, 1), (netK 3 0x100, 0x80C0_0000), (netK 3 0x104, 2 ^ 31), (ptpK 3 0x100, 0xA005_0000), (timA 0x130, 1 * 2 ^ 26), (ptpK 3 0x10C, 2 ^ 31)]
    let g (x : PtpPort) : State := { w with chip := w.chip.setPtp 3 x }
    (w.settled = true ∧ w.chip.acts TIM (1 + 3) = true ∧ w.chip.portUp 3 = true ∧ w.chip.bit (netK 3 0x100) 31 = true ∧
      w.chip.canLeave 3 (w.chip.fld (netK 3 0x100) 21 3) 90 = true ∧ w.chip.modState ≤ 1 ∧ w.chip.ptpHas 3 = true ∧ w.chip.bit (ptpK 3 0x100) 31 = true ∧
      w.chip.ptpRole 3 = 1 ∧ 5 = w.chip.fld (ptpK 3 0x100) 16 7 ∧ w.chip.timSrc = 1 ∧
      (comes (exec (.ptpSyncRx 3 5 0 7 true false) w) fun t => (t.chip.ptp 3).sync == some { t2 := 0, corr := 7 }) ∧
      (comes (exec (.ptpSyncRx 3 9 0 7 true true) w) fun t => t.chip.nat (ptpK 3 0x044) == 1) ∧
      (comes (exec (.ptpSyncTx 3) w) fun t => t.chip.outs == [.ptpSync 3 0 0 0 0]) ∧
      (comes (exec (.pdelayReqTx 3) w) fun t => t.chip.outs == [.pdelayReq 3]) ∧
      comes (exec (.pdelayReqRx 3 1 false) w) fun t => t.chip.outs == [.pdelayResp 3 65536]) ∧
    (let s := g { sync := some { t2 := 0, corr := 0 }, pdT1 := some 0 }
     s.chip.acts TIM (1 + 3) = true ∧ (s.chip.ptp 3).sync.isSome = true ∧ (s.chip.ptp 3).pdT1 = some 0 ∧
      (comes (exec (.ptpFollowUpRx 3 1 0) s) fun t => t.chip.stampOf (ptpK 3 0x120) == s.chip.stamp16 65536) ∧
      (comes (exec (.followUpTimeout 3) s) fun t => t.chip.nat (ptpK 3 0x040) == 1) ∧
      (comes (exec (.pdelayRespRx 3 (-20) none) s) fun t => t.chip.u64 (ptpK 3 0x110) == 10) ∧
      comes (exec (.pdelayRespTimeout 3) s) fun t => !t.chip.bit (ptpK 3 0x10C) 31) ∧
    (w.chip.takes 0 (ptpK 3 0x100) false = true ∧
      comes (exec (.ptpCfgWrite 0 3 0xBFFF_FFFF) w) fun t => t.chip.nat (ptpK 3 0x100) == 0xA07F_FFFF) := by decide +kernel

/-- The hypotheses of TriggersAndCaptures are met. -/
theorem witness_TriggersAndCaptures :
    let w := upWith [(pageAddr TIM 5 8, 1), (trgK 255 1, 1000), (plsA (0x100 + 32 * 15), 2 ^ 30), (plsA (0x104 + 32 * 15), 4), (plsA (0x400 + 16 * 15), 0xE000_0000)]
    let e := upWith [(trgK 255 0, 2 ^ 31), (trgK 255 7, 2 ^ 31)]
    let x : CapEntry := { rising := true, ovf := false, seq := 3, stamp := 0 }
    let q : State := { w with chip := { w.chip.setCapIn 15 { fifo := List.replicate 16 x } with tim := { (w.chip.setCapIn 15 { fifo := List.replicate 16 x }).tim with plsArmed := 2 ^ 15 } } }
    (w.settled = true ∧ w.chip.takes 0 (trgK 255 0) false = true ∧ w.chip.bit (trgK 255 0) 31 = false ∧ w.chip.trigPBad 255 = false ∧
      (comes (exec (.triggerEnable 0 255 0) w) fun t => (t.chip.trig 255).next == 2000 * 65536) ∧
      e.chip.takes 0 (trgK 255 0) false = true ∧ e.chip.bit (trgK 255 0) 31 = true ∧
      comes (exec (.triggerDisable 0 255 0xFFFF_FFFF) e) fun t => t.chip.nat (trgK 255 0) == 0x6001_FFFF && !t.chip.bit (trgK 255 7) 31) ∧
    (w.chip.takes 0 (plsA (0x108 + 32 * 15 + 4)) false = true ∧ w.chip.fld (plsA (0x100 + 32 * 15)) 30 2 = 1 ∧
      (comes (exec (.pulseAtWrite 0 15 4 [1]) w) fun t => natBit t.chip.tim.plsArmed 15) ∧
      q.chip.acts TIM 5 = true ∧ natBit q.chip.tim.plsArmed 15 = true ∧ q.chip.u64 (plsA (0x108 + 32 * 15)) ≤ q.chip.tim.ns ∧
      2 ≤ q.chip.nat (plsA (0x104 + 32 * 15)) ∧ comes (exec (.pulseAtReached 15) q) fun t => t.chip.bit (plsA (0x110 + 32 * 15)) 31) ∧
    (w.chip.acts TIM 5 = true ∧ w.chip.running = true ∧ w.chip.bit (plsA (0x400 + 16 * 15)) 31 = true ∧ w.chip.bit (plsA (0x400 + 16 * 15)) 29 = true ∧
      (comes (exec (.captureEdge 15 true) w) fun t => (t.chip.capIn 15).fifo.map (·.rising) == [true]) ∧
      (comes (exec (.captureEdge 15 false) q) fun t => (t.chip.capIn 15).lost) ∧
      q.chip.gives 0 (plsA (0x500 + 16 * 15)) = true ∧
      comes (exec (.capturePop 0 15 4) q) fun t => (t.chip.capIn 15).fifo.length == 15 && t.chip.resp.data == [0xC000_0003]) := by decide +kernel

/-- The hypotheses of PlantFrames are met. -/
theorem witness_PlantFrames :
    let w := upWith [(netK 3 8, 1), (netA 8, 1), (netK 3 0x100, 0x8100_0000), (netK 3 0x104, 2 ^ 31), (netA 0x100, 2 ^ 31), (netA 0x104, 0x8944), (ringK 3 (some 7) 8, 16), (ringK 3 (some 7) 0xC, 15 * 2 ^ 16),
      (ndK 4095 0, 2 ^ 31), (ndK 4095 9, 1), (nsK 4095 0, 2 * 2 ^ 28 + 254), (ndK 4095 15, 255 * 2 ^ 24)]
    let b : List Byte := List.replicate 12 0 ++ [0x89, 0x44, 0x20]
    (w.settled = true ∧ w.chip.portUp 3 = true ∧ w.chip.modState ≤ 1 ∧
      pageExists w.chip.part NET 3 = true ∧ w.chip.bit (netK 3 0x100) 31 = true ∧ b.length + 4 ≤ 1536 ∧
      (comes (exec (.ethFrameRx 3 b false []) w) fun t => t.chip.nat (netK 3 0x034) == 1) ∧
      beNat (b.take 6) = w.chip.mac 3 ∧ (afterType b).1 = w.chip.nat (netA 0x104) ∧ (afterType b).1 ≠ 0x8808 ∧ w.chip.bit (netK 3 0x100) 24 = true ∧
      w.chip.cycRuns = true ∧ (comes (exec (.ethFrameRx 3 b true []) w) fun t => t.chip.net.rxq == [{ port := 3, bytes := b, stamp := w.chip.now }]) ∧
      comes (exec (.netLinkChange 3 true true) w) fun t => t.chip.bit (netK 3 0x104) 31) ∧
    (16 ≤ w.chip.fld (ringK 3 (some 7) 8) 0 13 ∧ w.chip.fld (ringK 3 (some 7) 0xC) 16 16 ≠ w.chip.fld (ringK 3 (some 7) 0xC) 0 16 ∧
      w.chip.canLeave 3 7 (w.ringNext 3 7) = true ∧ (comes (exec (.hostFrameTxDone 3 7 []) w) fun t => t.chip.nat (ringK 3 (some 7) 0xC) == 0) ∧
      w.chip.takes 0 (ringK 3 (some 7) 0xC) false = true ∧ w.chip.takes 0 (ringK 3 none 0xC) false = true ∧
      (comes (exec (.txRingTailWrite 0 3 7 0xFFFF_FFFF) w) fun t => t.chip.nat (ringK 3 (some 7) 0xC) == 0xF_FFFF) ∧
      comes (exec (.rxRingTailWrite 0 3 0xFFFF_FFFF) w) fun t => t.chip.nat (ringK 3 none 0xC) == 0xFFFF) ∧
    (let e : State := { w with chip := { w.chip.setNdesc 4095 { begun := true } with tim := { w.chip.tim with ns := 5 } } }
     let u : State := { w with chip := { w.chip.setNdesc 4095 { begun := true } with net := { (w.chip.setNdesc 4095 { begun := true }).net with rxq := [{ port := 3, bytes := b, stamp := 0 }] }, tim := { w.chip.tim with ns := 5 } } }
     u.chip.acts NET 127 = true ∧ u.chip.cycRuns = true ∧ beNat ((afterType b).2.take 1) / 16 ≠ 1 ∧
      (comes (exec (.cyclicFrameRx 3) u) fun t => t.chip.net.rxq.isEmpty && t.chip.nat (netA 0x03C) == 1) ∧
      e.chip.net.rxq = [] ∧ e.chip.nvalid 4095 = true ∧ 2 ≤ e.chip.nstate 4095 ∧ e.chip.fld (ndK 4095 9) 0 29 ≠ 0 ∧
      (e.chip.ndesc 4095).start + e.chip.fld (ndK 4095 9) 0 29 ≤ e.chip.nowNs ∧ e.chip.acts NET 127 = true ∧ e.chip.cycRuns = true ∧
      comes (exec (.rxDeadline 4095) e) fun t => t.chip.fld (nsK 4095 0) 0 8 == 255) := by decide +kernel

/-- The hypotheses of PlantSending are met. -/
theorem witness_PlantSending :
    let f : EgFrame := { port := 3, queue := 7, desc := 4095, bytes := [] }
    let w := upWith [(netK 3 8, 1), (netA 8, 1), (netA 0x100, 2 ^ 31), (ndK 4095 0, 0xB000_0000), (netK 3 0x100, 2 ^ 24), (netK 3 0x110, 2 ^ 31), (netK 3 0x104, 2 ^ 28), (netK 3 0x120, 62500)]
    let g (x : Chip) : State := { w with chip := x }
    let s := g (w.chip.setNdesc 4095 { begun := true })
    let u := g { w.chip with net := { w.chip.net with egress := [f] } }
    (s.settled = true ∧ s.chip.acts NET 127 = true ∧ s.chip.nvalid 4095 = true ∧ s.chip.cycRuns = true ∧ s.chip.sendsCyclic = true ∧
      s.chip.bit (netK (s.chip.fld (ndK 4095 0) 28 2) 0x100) 24 = true ∧ s.chip.sendDue 4095 = true ∧
      (comes (exec (.cyclicFrameTx 4095 []) s) fun t => (t.chip.ndesc 4095).sent) ∧
      (u.chip.net.egress.any fun f => f.desc = 4095) = true ∧ (u.chip.ndesc 4095).start + u.chip.partnerLen 4095 ≤ u.chip.nowNs ∧ comes (exec (.txFrameDrop 4095) u) fun t => t.chip.net.egress.isEmpty && t.chip.fld (nsK 4095 9) 0 16 == 1) ∧
    (u.chip.portUp 3 = true ∧
      (u.chip.net.egress.find? fun f => f.port = 3 && f.queue = 7) = some f ∧
      (comes (exec (.gateDrop 3 7 []) u) fun t => t.chip.net.egress.isEmpty && t.chip.nat (netK 3 0x040) == 1) ∧
      u.chip.bit (netK 3 0x110) 31 = true ∧ (comes (exec (.gclEntryExpiry 3) (g (u.chip.setGcl 3 { idx := 5, len := 3 }))) fun t => (t.chip.gcl 3).idx == 0) ∧
      (let l := upWith [(netK 3 8, 1), (netK 3 0x110, 2 ^ 31), (netK 3 0x124, 31250), (twAddr NET 0x6000, 0x8000_4A38), (twAddr NET 0x6004, 0x7F00_2FDA)]
       let at' (n : Nat) : State := { l with chip := { l.chip.setGcl 3 { len := 2 } with tim := { l.chip.tim with ns := n } } }
       (comes (exec (.gclEntryExpiry 3) (at' 18999)) fun t => t.chip.gates 3 == 0x80) ∧
       (comes (exec (.gclEntryExpiry 3) (at' 19000)) fun t => t.chip.gates 3 == 0x7F) ∧
       comes (exec (.gclEntryExpiry 3) (at' 31250)) fun t => t.chip.gates 3 == 0x80) ∧
      u.chip.bit (netK 3 0x104) 28 = true ∧ (u.chip.gcl 3).swapAt ≤ u.chip.nowNs ∧
      comes (exec (.gclSwapEffect 3) u) fun t => t.chip.bit (netK 3 0x104) 29 && !t.chip.bit (netK 3 0x104) 28) ∧
    (let n := upWith [(netK 3 0x120, 62500)]
     let o := opened n 0 (netK 3 0)
     o.chip.takes 0 (netK 3 0x110) true = true ∧ o.chip.gclWhy 3 (getBits 0x4000_0001#32 0 11) = 0 ∧ o.chip.gclWhy 3 (getBits 0x4000_0000#32 0 11) = 2 ∧
      (comes (exec (.gclSwap 0 3 0x4000_0001) o) fun t => t.chip.bit (netK 3 0x104) 28) ∧
      comes (exec (.gclSwap 0 3 0x4000_0000) o) fun t => t.chip.fld (netK 3 0x104) 24 4 == 2) ∧
    (w.chip.takes 0 (netA 0x108) false = true ∧ w.chip.pageOwner NET (4 + 8191 / 128) = 0 ∧
      comes (exec (.netTxPut 0 8191 77) w) fun t => t.chip.resData (txEnt 8191) == 77) ∧
    (let n0 := upWith [(netA 8, 1), (trgK 255 0, 2 ^ 31), (trgK 255 1, 31250), (netA 0x120, 2 ^ 31)]
     let n : State := { n0 with chip := { n0.chip with net := { n0.chip.net with mdio := 0xA000_0000 } } }
     let o := opened n 0 (netA 0)
     o.chip.takes 0 (netA 0x100) true = true ∧ o.chip.running = true ∧ o.chip.bit (netA 0x100) 31 = false ∧ o.chip.maintenance = false ∧
      o.chip.bit (trgK (getBits 0x8000_00FF#32 0 8) 0) 31 = true ∧ (comes (exec (.cycEnable 0 0x8000_00FF) o) fun t => t.chip.bit (netA 0x110) 31) ∧
      w.chip.takes 0 (netA 0x120) false = true ∧ w.chip.bit (netA 0x120) 31 = false ∧
      (comes (exec (.mdioFrameStart 0 0x8000_0000) w) fun t => t.chip.bit (netA 0x120) 31 && t.chip.outs == [.mdio 0x8000_0000 0]) ∧
      n.chip.acts NET 127 = true ∧ n.chip.bit (netA 0x120) 31 = true ∧ n.chip.net.mdio.getLsbD 30 = false ∧ getBits n.chip.net.mdio 28 2 = 2 ∧
      comes (exec (.mdioDone 0x1FFFF true) n) fun t => t.chip.nat (netA 0x124) == 0xFFFF && t.chip.bit (netA 0x120) 27) := by decide +kernel

/-- The hypotheses of CanReception are met. -/
theorem witness_CanReception :
    let f (r : Bool) (i : Nat) : CanFrame := { id := i, ide := false, fdf := false, brs := false, esi := false, dlc := 4, bytes := [1, 2, 3, 4], rtr := r }
    let w := upWith [(canK 3 8, 1), (canK 3 0x108, 2 * 2 ^ 29), (canK 3 0x10C, 127), (objK 3 127 0, 2 ^ 31), (objK 3 127 4, 5), (objK 3 127 8, 0x7FF)]
    let z (v : Nat) := upWith [(canK 3 8, 1), (canK 3 0x108, v * 2 ^ 29), (canK 3 0x100, 0x2800_0000), (canK 3 0x10C, 0x80 * 2 ^ 16)]
    (w.settled = true ∧ w.chip.pwr.held = none ∧ w.chip.pageOn BUS 3 = true ∧ w.chip.resetting BUS 3 = false ∧ w.chip.frozen BUS 3 = false ∧
      w.chip.modState ≤ 1 ∧ w.chip.canOnBus 3 = true ∧ w.chip.rec' 3 ≤ 127 ∧ w.chip.canMatch 3 (f false 6) = none ∧ w.chip.canMatch 3 (f false 5) = some 127 ∧
      (comes (exec (.canFrameRx 3 (f true 5) 0) w) fun t => t.chip.nat (canK 3 0x038) == 1) ∧
      (comes (exec (.canFrameRx 3 (f false 6) 0) w) fun t => t.chip.nat (canK 3 0x034) == 1) ∧
      (comes (exec (.canFrameRx 3 (f false 5) 0) w) fun t => t.chip.nat (objK 3 127 0xC) == 2 ^ 31 + 5 && t.chip.resData (canResK 3 127) == 0x0403_0201) ∧
      w.chip.canListens 3 = false ∧ comes (exec (.canErrorDetected 3 1 true false 0) w) fun t => t.chip.tec 3 == 8) ∧
    ((z 4).chip.canState 3 = 4 ∧ (z 4).chip.bit (canK 3 0x100) 29 = true ∧ (comes (exec (.busOffRecovery 3) (z 4)) fun t => t.chip.canState 3 == 2 && t.chip.tec 3 == 0) ∧
      (z 1).chip.canState 3 = 1 ∧ (comes (exec (.canBusIntegrated 3) (z 1)) fun t => t.chip.canState 3 == 3) ∧
      (z 5).chip.canState 3 = 5 ∧ (z 5).chip.bit (canK 3 0x100) 27 = true ∧ (z 5).chip.bit (canK 3 0x100) 26 = false ∧
      (comes (exec (.canWakeEvent 3 2000 none) (z 5)) fun t => t.chip.canState 3 == 1) ∧
      w.chip.gives 0 (canResK 3 127) = true ∧ comes (exec (.canResultRead 0 3 127 4 false) w) fun t => (tab [] t.chip.can.caps (0 * 512 + 3 * 128 + 127)).length == 21) := by
  decide +kernel

/-- The hypotheses of CanTransmission are met. -/
theorem witness_CanTransmission :
    let w := upWith [(canK 3 8, 1), (canK 3 0x108, 2 * 2 ^ 29), (canK 3 0x10C, 9 * 2 ^ 16), (objK 3 127 0, 0xC200_0000), (objK 3 127 0xC, 2 ^ 30)]
    let q : CanReq := { cfg := 0xC200_0000, id := 0, data := List.replicate 16 0 }
    let g (wire : Option Nat) : State := { w with chip := { w.chip with can := { w.chip.can with ctls := [(3, { wire := wire })], objs := [(3 * 128 + 127, { cur := some q })] } } }
    (w.settled = true ∧ (w.chip.canObj 3 127).next = none ∧ (w.chip.canCtl 3).wire ≠ some 127 ∧ w.chip.takes 0 (objK 3 127 0x1C) false = true ∧
      w.chip.bit (objK 3 127 0) 31 = true ∧ w.chip.bit (objK 3 127 0) 30 = true ∧ w.chip.fld (objK 3 127 0) 25 2 = 1 ∧
      (comes (exec (.canTxRequest 0 3 127 false) w) fun t => (t.chip.canObj 3 127).cur == some q) ∧
      (comes (exec (.canTxAbort 0 3 127) w) fun t => (t.chip.canObj 3 127).cur == none) ∧ w.chip.takes 0 (objK 3 127 0x20) false = true ∧
      comes (exec (.canData0Write 0 3 127 [7] false) w) fun t => (t.chip.canObj 3 127).cur.map (fun q => q.data.headD 0) == some 7) ∧
    (w.chip.pwr.held = none ∧ w.chip.pageOn BUS 3 = true ∧ w.chip.resetting BUS 3 = false ∧ w.chip.frozen BUS 3 = false ∧ w.chip.modState ≤ 3 ∧
      ((g none).chip.canCtl 3).wire = none ∧ ((g none).chip.canCtl 3).sleepReq = false ∧ (g none).chip.canOnBus 3 = true ∧ (g none).chip.canListens 3 = false ∧
      canWinner ((g none).chip.canWaiting 3) = some (127, q) ∧ (comes (exec (.canTxStart 3) (g none)) fun t => (t.chip.canCtl 3).wire == some 127) ∧
      ((g (some 127)).chip.canCtl 3).wire = some 127 ∧ ((g (some 127)).chip.canObj 3 127).cur = some q ∧ q.cfg.getLsbD 28 = false ∧
      ((g (some 127)).chip.canObj 3 127).aborted = false ∧
      (comes (exec (.canTxDone 3 .success 0) (g (some 127))) fun t => (t.chip.canObj 3 127).cur == none && t.chip.tec 3 == 8) ∧
      comes (exec (.canTxDone 3 .arbitrationLost 0) (g (some 127))) fun t => (t.chip.canObj 3 127).cur == some q && (t.chip.canCtl 3).wire == none) ∧
    (let z (v : Nat) := upWith [(canK 3 8, 1), (canK 3 0x108, v * 2 ^ 29)]
     (z 2).chip.takes 0 (canK 3 0x104) false = true ∧ (z 2).chip.canState 3 ≠ 0 ∧ (z 2).chip.canState 3 ≠ 5 ∧ ((z 2).chip.canCtl 3).wire = none ∧
      (comes (exec (.canSleep 0 3 true) (z 2)) fun t => t.chip.canState 3 == 5) ∧ (z 5).chip.canState 3 = 5 ∧
      (comes (exec (.canWake 0 3) (z 5)) fun t => t.chip.canState 3 == 1) ∧ (z 4).chip.canState 3 = 4 ∧
      (comes (exec (.canRecover 0 3) (z 4)) fun t => (t.chip.canCtl 3).recovering) ∧
      comes (exec (.canAbortAll 0 3) (g none)) fun t => (t.chip.canObj 3 127).cur == none) ∧
    (let o := opened (upWith [(canK 3 0x110, 0x0001_8000 + 32 * 2 ^ 15 + 32 * 2 ^ 8 + 2 * 2 ^ 23)]) 0 (canK 3 0)
     o.chip.takes 0 (canK 3 PG_CTL) true = true ∧ o.chip.pageOn BUS 3 = false ∧ o.chip.canCode 3 = 0 ∧ o.chip.canState 3 ≠ 1 ∧
      comes (exec (.pageEnable 0 BUS 3 1) o) fun t => t.chip.canState 3 == 1) := by decide +kernel

/-- The hypotheses of AditRecords are met. -/
theorem witness_AditRecords :
    let w := upWith [(adtA 8, 1), (adtA 0x100, 2 ^ 31)]
    let x : Sample := { sig := maxSignal, value := -5, stamp := 0 }
    let q : AdtSample := { sig := maxSignal, v := -5, clip := false, stamp := 0, rank := 0, d := 0 }
    let off : State := { up with chip := { up.chip with samples := [x] } }
    let on : State := { w with chip := { w.chip with samples := [x] } }
    let k : State := { w with chip := { w.chip with adt := { w.chip.adt with queue := [q] } } }
    (w.settled = true ∧ w.chip.pwr.held = none ∧ w.chip.frozen ADT 0 = false ∧ off.chip.adtRuns = false ∧
      (comes (exec .adtSampleIntake off) fun t => t.chip.samples.isEmpty) ∧ on.chip.adtRuns = true ∧ x.sig ≠ 0 ∧ x.sig ≤ maxSignal ∧
      on.chip.bit (dirK x.sig 0) 31 = false ∧ on.chip.decOf (on.chip.fld (dirK x.sig 0) 27 2) = 0 ∧
      on.chip.adt.queue.length ≤ queueLimit (on.chip.fld (dirK x.sig 0) 27 2) ∧ k.chip.bit (dirK q.sig 0) 31 = false ∧
      tab false k.chip.elemPoison (dirK q.sig 0) = false ∧ comes (exec (.adtRecordUpdate 4) k) fun t => t.chip.nat (dirK maxSignal 3) == 0xFFFF_FFFB) ∧
    (w.chip.acts ADT 0 = true ∧ (∀ a, a < 4 → (tab {} w.chip.adt.accts a).kept * 10 ≤ acctLimit a * 9) ∧ w.chip.adt.quiet < 999 ∧
      (comes (exec .adtWindowEnd w) fun t => t.chip.adt.quiet == 1) ∧
      (let c : State := { w with chip := { w.chip with adt := { w.chip.adt with cmds := [{ p := 15, op := 1, first := 0, count := 0, arg := 0 }] } } }
       c.chip.acts ADT 0 = true ∧ comes (exec .adtCmdDone c) fun t => t.chip.adt.cmds.isEmpty && t.chip.fld (adtStatOf 15) 24 4 == 1) ∧
      (upWith [(adtA 8, 1), (adtA 0x104, 2 ^ 30)]).chip.acts ADT 0 = true ∧ comes (exec .dirClearDone (upWith [(adtA 8, 1), (adtA 0x104, 2 ^ 30)])) fun t => t.chip.nat (adtA 0x104) == 0) ∧
    (w.chip.takes 0 (adtA 0x118) false = true ∧ w.chip.bit (adtStatOf 0) 29 = false ∧
      (comes (exec (.adtClearStats 0) w) fun t => t.chip.adt.cmds.map (·.op) == [1]) ∧
      (comes (exec (.adtSetPolicy 0) w) fun t => t.chip.adt.cmds.map (·.op) == [2]) ∧
      comes (exec (.adtSetAndClear 0) w) fun t => t.chip.adt.cmds.map (·.op) == [3]) ∧
    (let o := opened (upWith [(adtA 8, 1)]) 0 (adtA 0)
     o.chip.takes 0 (adtA 0x100) true = true ∧ o.chip.bit (adtA 0x100) 31 = false ∧ o.chip.u64 (adtA 0x108) + 2 ^ 31 ≤ o.chip.dramBytes ∧
      comes (exec (.adtEnable 0 0xFFFF_FFFF) o) fun t => t.chip.adt.declared && t.chip.bit (adtA 0x104) 31) := by decide +kernel

/-- The hypotheses of AditStreams are met. -/
theorem witness_AditStreams :
    let b : StrBlock := { addr := 4096, seq := 6, baseNs := 0, opened := 0, pair := 0 }
    let w := upWith [(adtA 8, 1), (strK 1 8, 1), (adtA 0x100, 2 ^ 31), (strK 1 0x100, 2 ^ 31), (strK 1 0x118, 9), (strK 1 0x120, 4), (strK 1 0x110, 1)]
    let f := upWith [(strK 1 0x118, 9), (strK 1 0x110, 1), (adtA 0x108, 2 ^ 31)]
    let g (x : StrChan) : State := { w with chip := w.chip.setStrm 1 x }
    (w.settled = true ∧ (g { block := some b }).chip.acts ADT 2 = true ∧ ((g { block := some b }).chip.strm 1).block = some b ∧
      (comes (exec (.streamFlushTimeout 1) (g { block := some b })) fun t => (t.chip.strm 1).closed == [b]) ∧
      (g { closed := [b] }).chip.frozen ADT 2 = false ∧
      comes (exec (.streamBlockWritten 1) (g { closed := [b] })) fun t => t.chip.u64 (strK 1 0x118) == 7) ∧
    (w.chip.takes 0 (strK 1 0x120) false = true ∧ (comes (exec (.streamRdWrite 0 1 [9, 0]) w) fun t => t.chip.u64 (strK 1 0x120) == 9) ∧
      (comes (exec (.streamRdWrite 0 1 [10, 0]) w) fun t => t.chip.u64 (strK 1 0x120) == 4 && t.chip.nat (strK 1 0x03C) == 1)) ∧
    (w.chip.takes 0 (strK 1 0x100) false = true ∧ w.chip.bit (strK 1 0x100) 31 = true ∧
      (comes (exec (.streamDisable 0 1 0) w) fun t => !t.chip.bit (strK 1 0x100) 31) ∧ f.chip.takes 0 (strK 1 0x100) false = true ∧
      f.chip.bit (strK 1 0x100) 31 = false ∧ f.chip.strWhy 1 = 0 ∧ comes (exec (.streamEnable 0 1 0) f) fun t => t.chip.u64 (strK 1 0x120) == 9) ∧
    (w.chip.takes 0 (atrA (0x100 + 16 * 63)) false = true ∧ w.chip.bit (atrA (0x100 + 16 * 63)) 31 = false ∧
      (comes (exec (.adtTrgCfgWrite 0 63 0xA000_0001) w) fun t => t.chip.nat (atrA (0x100 + 16 * 63)) == 0xA000_0001) ∧
      w.chip.gives 0 (atrA (0x800 + 8 * 63)) = true ∧ comes (exec (.adtTrgResultRead 0 63 4 false) w) fun t => t.chip.resp.data.length == 1) := by
  decide +kernel

/-- The hypotheses of TallyFolding are met. -/
theorem witness_TallyFolding :
    let w := upWith [(tlyA 8, 1), (tlyA 0x100, 2 ^ 31), (tlyCfgK 65535, 2 ^ 31), (tlyCfgK 0, 2 ^ 31 + 2 ^ 16 + 1), (tlyK 65535 0, 8)]
    let e (code : Nat) : TallyEvent := { code := code, value := 5, stamp := 9 }
    let g (x : Tly) : State := { w with chip := { w.chip with tly := x } }
    let i (x : Tly) : State := { g x with chip := { (g x).chip with tallyIn := [e 1] } }
    (w.settled = true ∧ w.chip.acts TLY 0 = true ∧ w.chip.tlyRuns = true ∧ (i w.chip.tly).chip.tly.queue.length < 4096 ∧
      (comes (exec .tallyEventIntake (i w.chip.tly)) fun t => t.chip.tly.queue == [e 1] && t.chip.tallyIn.isEmpty) ∧
      (i { w.chip.tly with queue := List.replicate 4096 (e 0) }).chip.tlyRuns = true ∧
      4096 ≤ (i { w.chip.tly with queue := List.replicate 4096 (e 0) }).chip.tly.queue.length) ∧
    ((g { w.chip.tly with queue := [e 65535] }).chip.tlyRuns = true ∧ w.chip.bit (tlyCfgK 65535) 31 = true ∧ w.chip.fld (tlyCfgK 65535) 0 16 = 0 ∧
      (comes (exec .tallyEventFold (g { w.chip.tly with queue := [e 65535] })) fun t =>
        t.chip.nat (tlyK 65535 2) == 1 && t.chip.nat (tlyK 65535 12) == 5 && t.chip.nat (tlyK 65535 16) == 9) ∧
      w.chip.bit (tlyCfgK 0) 31 = true ∧ w.chip.fld (tlyCfgK 0) 0 16 ≠ 0 ∧ w.chip.tokensOf 0 = 0 ∧
      (comes (exec .tallyEventFold (g { w.chip.tly with queue := [e 0] })) fun t => t.chip.nat (tlyK 0 3) == 1) ∧
      w.chip.tokensOf 0 < w.chip.fld (tlyCfgK 0) 16 8 ∧ comes (exec (.tallyTokenRefill 0) w) fun t => t.chip.tokensOf 0 == 1) ∧
    (comes (exec .tallyCmdDone (g { w.chip.tly with cmds := [{ p := 15, op := 1, first := 0, count := 0 }] })) fun t => t.chip.fld (tlyStatOf 15) 24 4 == 1) ∧
    (let f := g { w.chip.tly with flush := some { slot := 1, seq := 7, records := [] } }
     f.chip.pwr.held = none ∧ (comes (exec (.tallyFlushDone true) f) fun t => t.chip.u64 (tlyA 0x120) == 7) ∧
      comes (exec (.tallyFlushDone false) f) fun t => t.chip.u64 (tlyA 0x120) == 0 && t.chip.bit (tlyA PG_EVT_RAW) 2) := by decide +kernel

/-- The hypotheses of TallyPosts are met. -/
theorem witness_TallyPosts :
    let w := upWith [(tlyA 8, 1), (tlyA 0x100, 2 ^ 31), (tlyA 0x104, 2 ^ 28)]
    w.settled = true ∧ w.chip.takes 0 (tlyA 0x110) false = true ∧ w.chip.codeOwner 0xFFFF = 0 ∧ w.chip.bit (tlyCfgK 0xFFFF) 30 = false ∧
      (comes (exec (.tlyPost32 0 0xFFFF_FFFF) w) fun t => t.chip.tallyIn.map (fun e => (e.code, e.value)) == [(65535, 65535)]) ∧
      (comes (exec (.tlyPost32 0 0xFFF) w) fun t => t.chip.nat (tlyA 0x038) == 1) ∧ w.chip.takes 0 (tlyA 0x108) false = true ∧
      (comes (exec (.tlyPost64 0 [0x1000, 0xFFFF_FFFF]) w) fun t => t.chip.tallyIn.map (fun e => (e.code, e.value)) == [(4096, 0xFFFF_FFFF)]) ∧
      w.chip.takes 0 (tlyA 0x114) false = true ∧ w.chip.bit (tlyStatOf 0) 29 = false ∧
      (comes (exec (.tallyClear 0 65535) w) fun t => t.chip.tly.cmds.map (·.first) == [65535]) ∧ w.chip.tly.flush = none ∧ w.chip.pageOn TLY 0 = true ∧
      (comes (exec (.tallyFlush 0) w) fun t => t.chip.tly.flush.map (fun f => (f.slot, f.seq)) == some (0, 1)) ∧
      w.chip.takes 0 (tlyCfgK 65535) false = true ∧ (comes (exec (.tallyCfgWrite 0 65535 0xFFFF_FFFF) w) fun t => t.chip.nat (tlyCfgK 65535) == 0xFEFF_FFFF) ∧
      w.chip.takes 0 (tlyA 0x100) false = true ∧ comes (exec (.qlossClear 0 0x9000_0000) w) fun t => t.chip.nat (tlyA 0x104) == 0 := by decide +kernel

/-- The hypotheses of SafetyCommands are met. -/
theorem witness_SafetyCommands :
    let f (v : Nat) := upWith [(aSafStat, v * 2 ^ 28), (safA 0x114, 7), (safA 0x118, 7)]
    let o (v : Nat) := opened (f v) 0 (safA 0)
    let v (r : Option Nat) : State := { o 3 with chip := { (o 3).chip with saf := { (o 3).chip.saf with verdict := r, verified := [1] } } }
    ((f 0).settled = true ∧ (f 0).chip.pwr.held = none ∧ (f 0).chip.domain SAF 0 < 2 ∧ (f 0).chip.safState = 0 ∧ (f 0).chip.modState < 4 ∧
      (comes (exec (.safetyStartupDone true true false false) (f 0)) fun t => t.chip.safState == 1) ∧
      (upWith [(safA 0x108, 2 ^ 31)]).chip.bit (safA 0x108) 31 = true) ∧
    ((o 2).chip.takes 0 (safA 0x104) true = true ∧ (o 2).chip.bit (safA 0x108) 31 = false ∧ (o 2).chip.safState = 2 ∧ (o 2).chip.groupsDown = true ∧
      (comes (exec (.commission 0) (o 2)) fun t => t.chip.safState == 3) ∧ (o 3).chip.safState = 3 ∧
      (comes (exec (.verify 0) (o 3)) fun t => t.chip.nat (safA 0x108) == 2 ^ 31) ∧
      comes (exec (.abort 0) (o 3)) fun t => t.chip.safState == 1) ∧
    ((v (some 0)).chip.takes 0 (safA 0x10C) true = true ∧ (v (some 0)).chip.saf.verdict = some 0 ∧ 7 = (v (some 0)).chip.word (safA 0x114) ∧
      7 = (v (some 0)).chip.word (safA 0x118) ∧ (comes (exec (.safConfirm 0 7) (v (some 0))) fun t => t.chip.saf.active == [1] && t.chip.safState == 2) ∧
      comes (exec (.safConfirm 0 7) (v (some 15))) fun t => t.chip.nat (safA 0x108) == 0x4F00_0000) ∧
    (up.chip.takes 0 (safA 0x124) false = true ∧ up.chip.takes 0 (safA 0x128) false = true ∧ up.chip.maintenance = false ∧
      (comes (exec (.safSs1Req 0 0xFFFF_FFFF) up) fun t => t.chip.nat (safA 0x124) == 0xFFFF) ∧
      comes (exec (.safStoReq 0 0xFFFF_FFFF) up) fun t => t.chip.nat (safA 0x128) == 0xFFFF) := by decide +kernel

/-- The hypotheses of SafetyMonitoring are met. -/
theorem witness_SafetyMonitoring :
    let l : List Word := List.replicate 11 0 ++ [2 ^ 31] ++ List.replicate 184 0 ++ [0x8080_0000, 0, 1] ++ List.replicate 6 0
    let w := upWith [(aSafStat, 2 * 2 ^ 28 + 2 ^ 15), (sgrK 15, 3 * 2 ^ 28)]
    let s : State := { w with chip := { w.chip with saf := { w.chip.saf with active := l } } }
    (s.settled = true ∧ s.chip.pwr.held = none ∧ s.chip.domain SAF 0 < 2 ∧ 1 ≤ s.chip.safState ∧ s.chip.safState ≤ 3 ∧ s.chip.modState < 4 ∧
      s.chip.grpState 15 ≠ 0 ∧ (setTp s.chip.saf.active 7).getLsbD 31 = true ∧ s.chip.drives = true ∧
      (∀ i, i < 32 → inUsed s.chip.saf.active i = false) ∧ (comes (exec (.testPulseStart 7 0 0) s) fun t => t.chip.outs == [.safePulse 7 1]) ∧
      s.chip.bit aSafStat 15 = true ∧ (comes (exec (.outputTestPulse 15 1 false) s) fun t => t.chip.outs == [.stoPulse 15 1 0])) ∧
    (s.chip.grpState 15 = 3 ∧ setGrp s.chip.saf.active 15 2 ≠ 0 ∧ getBits (setGrp s.chip.saf.active 15 3) 16 16 * 4 ≤ (s.chip.sgrp 15).ss1Ticks ∧
      ((s.chip.sgrp 15).v0a + (setGrp s.chip.saf.active 15 1).toNat - (setGrp s.chip.saf.active 15 4).toNat) * 4000 ≤
        (setGrp s.chip.saf.active 15 2).toNat * ((s.chip.sgrp 15).ss1Ticks - getBits (setGrp s.chip.saf.active 15 3) 16 16 * 4) ∧
      (comes (exec (.ss1Expiry 15) s) fun t => t.chip.grpState 15 == 1) ∧ s.chip.edmOn 15 = true ∧ (s.chip.sgrp 15).followed = false ∧
      getBits (setGrp s.chip.saf.active 15 3) 0 16 * 4 ≤ (s.chip.sgrp 15).since) ∧
    (let l2 : List Word := List.replicate 74 0 ++ [2 ^ 31] ++ List.replicate 130 0
     let u : State := { w with chip := { w.chip with saf := { w.chip.saf with active := l2, a := { w.chip.saf.a with pend := [(31, some { active := true, lineA := true, ticks := 1 })] } } } }
     inUsed u.chip.saf.active 31 = true ∧ u.chip.sin 31 ≠ .fault ∧ pendLate u.chip.saf.active u.chip.saf.a 31 = true) := by decide +kernel

/-- The hypotheses of PairForming are met. -/
theorem witness_PairForming :
    let f (role st : Nat) := upWith [(paiA 8, 1), (aPaiStat, role * 2 ^ 28 + st)]
    let o (role : Nat) := opened (f role 0) 0 (paiA 0)
    let h : Hello := { pairId := 7, part := 0, safCrc := 0, recipe := 0, epoch := 0, identity := 0, pref := false, claim := false, leads := false, tested := false, holdIn := true, roleIn := false }
    let g : State := { f 5 0 with chip := (f 5 0).chip.setPai fun x => { x with grace := true } }
    ((o 0).settled = true ∧ (o 0).chip.takes 0 aPaiCfg true = true ∧ (o 0).chip.role = 0 ∧ (o 0).chip.maintenance = false ∧
      (comes (exec (.pairEnable 0 7) (o 0)) fun t => t.chip.role == 2 && t.chip.outs == [.hello]) ∧ (o 1).chip.role = 1 ∧
      comes (exec (.pairDisable 0 7) (o 1)) fun t => t.chip.role == 0) ∧
    ((f 2 0).chip.acts PAI 0 = true ∧ (f 2 0).chip.role = 2 ∧ h.pairId ≠ (f 2 0).chip.fld aPaiCfg 0 16 ∧
      (comes (exec (.pairHelloRx h) (f 2 0)) fun t => t.chip.role == 1 && t.chip.fld (paiA 0x124) 24 8 == 1) ∧
      (f 2 0).chip.bit aPaiCfg 30 = false ∧ (f 2 0).chip.pai.claim = false ∧ (f 2 0).chip.pai.hello = none ∧
      (comes (exec (.roleClaimDelay false) (f 2 0)) fun t => t.chip.pai.claim) ∧ (f 2 0).chip.linkUp = false ∧
      (comes (exec (.pairLinkTimeout false true) (f 2 0)) fun t => t.chip.role == 1 && !t.chip.pai.latch) ∧
      comes (exec (.pairLinkUp 3) (f 2 0)) fun t => t.chip.linkUp && t.chip.fld aPaiStat 25 2 == 3) ∧
    ((f 5 (7 * 2 ^ 25)).chip.linkUp = true ∧ (f 5 (7 * 2 ^ 25)).chip.acts PAI 0 = true ∧ (f 5 (7 * 2 ^ 25)).chip.role ≠ 3 ∧
      (comes (exec .pairLinkDown (f 5 (7 * 2 ^ 25))) fun t => !t.chip.linkUp) ∧
      (comes (exec (.linkLostGraceExpiry true) g) fun t => t.chip.role == 4 && t.chip.fld (paiA 0x124) 8 8 == 7) ∧
      (f 5 (7 * 2 ^ 25)).chip.bit aPaiStat (25 + 1) = true ∧ 65536 % 65536 = (tab {} (f 5 (7 * 2 ^ 25)).chip.pai.lanes 1).expect ∧
      (comes (exec (.pairLinkBlockRx 1 65536 true false (.status 3 false)) (f 5 (7 * 2 ^ 25))) fun t => t.chip.pai.peerRole == 3) ∧
      (comes (exec (.pairLinkBlockRx 1 9 false false (.status 3 false)) (f 5 (7 * 2 ^ 25))) fun t => t.chip.outs == [.nak 1 9]) ∧
      (comes (exec (.pairLaneDown 1) (f 5 (7 * 2 ^ 25))) fun t => t.chip.linkUp && t.chip.nat (paiA 0x038) == 1) ∧
      (f 5 (5 * 2 ^ 25)).chip.bit aPaiStat (25 + 1) = false ∧ (f 5 (5 * 2 ^ 25)).chip.linkUp = true ∧
      comes (exec (.pairLaneReturn 1) (f 5 (5 * 2 ^ 25))) fun t => t.chip.bit aPaiStat 26) ∧
    ((f 3 0).chip.role = 3 ∧ (f 3 0).chip.acts PAI 0 = true ∧
      comes (exec (.pairTimeExchange (-256) 0 none) (f 3 0)) fun t => t.chip.nat (paiA 0x120) == 0xFFFF_FFFF && t.chip.bit aPaiStat 23) := by decide +kernel

/-- The hypotheses of PairStandby are met. -/
theorem witness_PairStandby :
    let f (role st : Nat) := upWith [(paiA 8, 1), (aPaiStat, role * 2 ^ 28 + st), (twAddr PAI 0, 2 ^ 31), (twAddr PAI 4, 1), (twAddr PAI 8, 640)]
    let p (r : State) (x : Pai) : State := { r with chip := { r.chip with pai := x } }
    let w : State := { f 3 (2 ^ 24) with chip := { (f 3 (2 ^ 24)).chip with pai := { (f 3 (2 ^ 24)).chip.pai with latch := true }, tim := { (f 3 (2 ^ 24)).chip.tim with ns := 8000 } } }
    (w.settled = true ∧ w.chip.pwr.held = none ∧ w.chip.pai.latch = true ∧ w.chip.modState ≤ 3 ∧ w.chip.role = 3 ∧ w.chip.bit aPaiStat 24 = true ∧
      w.chip.pai.refreshed + 8000 ≤ w.chip.nowNs ∧ (comes (exec .holdLatchRefresh w) fun t => t.chip.pai.refreshed == 8000) ∧
      (comes (exec .holdWatchdogExpiry w) fun t => t.chip.role == 7 && !t.chip.pai.latch) ∧
      (f 5 (2 ^ 27)).chip.takesPins = true ∧ comes (exec .holdInFall (f 5 (2 ^ 27))) fun t => t.chip.role == 3 && t.chip.pai.latch) ∧
    ((f 4 0).chip.acts PAI 0 = true ∧ (f 4 0).chip.standby = true ∧ (comes (exec (.bulkCopyDone [(9, 5)]) (f 4 0)) fun t => t.chip.nat 9 == 5) ∧
      (let s := p (f 4 (2 ^ 27 + 2 ^ 23)) { (f 4 0).chip.pai with bulk := true, agreed := 16 }
       let z : State := { s with chip := { s.chip with dip := { s.chip.dip with recovered := true } } }
       z.chip.role = 4 ∧ z.chip.pai.failed = false ∧ z.chip.unready 1 true = 0 ∧ comes (exec .standbyReady z) fun t => t.chip.role == 5) ∧
      (f 3 (2 ^ 18)).chip.bit aPaiStat 18 = true ∧ (comes (exec (.pairSelftestDone true true) (f 3 (2 ^ 18))) fun t => !t.chip.bit aPaiStat 18) ∧
      (f 5 (2 ^ 18)).chip.standby = true ∧ comes (exec (.pairSelftestDone false true) (f 5 (2 ^ 18))) fun t => t.chip.role == 4) ∧
    (let q := f 3 (2 ^ 27)
     let e : State := { q with chip := { q.chip with elemPoison := [(slotK 0 1 0, true)] }, dramPoison := [(10, true)] }
     e.chip.acts PAI 0 = true ∧ 2 ^ 80 ≤ slotK 0 1 0 ∧ tab false e.chip.elemPoison (slotK 0 1 0) = true ∧ e.chip.linkUp = true ∧ e.chip.paired = true ∧
      (comes (exec (.repairComplete true (slotK 0 1 0) [5] true) e) fun t => t.chip.nat (slotK 0 1 0) == 5) ∧
      (comes (exec (.repairComplete true (slotK 0 1 0) [5] false) e) fun t => t.chip.nat (paiA 0x044) == 1) ∧
      tab false e.dramPoison 10 = true ∧ (List.replicate 16 (0x0403_0201 : Word)).length = 16 ∧ e.chip.mirrored (64 * 10) = true ∧
      comes (exec (.repairComplete false 10 (List.replicate 16 0x0403_0201) true) e) fun t =>
        (List.range 66).map (fun i => dramByte t.dram (639 + i)) == [0] ++ (List.replicate 16 [1, 2, 3, 4]).flatten ++ [0]) := by decide +kernel

/-- The hypotheses of PairHandover are met. -/
theorem witness_PairHandover :
    let f (role st : Nat) := upWith [(paiA 8, 1), (aPaiStat, role * 2 ^ 28 + st), (trgK 0 0, 2 ^ 31), (trgK 0 1, 1000), (aPaiCfg, 3 * 2 ^ 29), (paiA 0x10C, 0)]
    let o (role st : Nat) := opened (f role st) 0 (paiA 0)
    let h : Hello := { pairId := 7, part := 0, safCrc := 0, recipe := 0, epoch := 0, identity := 0, pref := false, claim := false, leads := false, tested := false, holdIn := true, roleIn := false }
    let pr : State := { f 3 0 with chip := { (f 3 0).chip with pai := { (f 3 0).chip.pai with proposal := some 20000 } } }
    let g (x : State) : State := { x with chip := { x.chip with pai := { x.chip.pai with planned := true, hello := some h, hdStart := some 0 }, tim := { x.chip.tim with ns := 100 } } }
    ((o 3 (2 ^ 24)).settled = true ∧ (o 3 (2 ^ 24)).chip.takes 0 (paiA 0x104) true = true ∧ (o 3 (2 ^ 24)).chip.role = 3 ∧ (o 3 (2 ^ 24)).chip.pai.peerRole ≠ 6 ∧
      (o 3 (2 ^ 24)).chip.bit aPaiStat 24 = true ∧ (o 3 (2 ^ 24)).chip.bit aPaiStat 19 = false ∧ (o 3 (2 ^ 24)).chip.pai.proposal = none ∧
      (o 3 (2 ^ 24)).chip.bit (trgK ((o 3 (2 ^ 24)).chip.fld aPaiCfg 16 8) 0) 31 = true ∧
      (comes (exec (.handover 0) (o 3 (2 ^ 24))) fun t => t.chip.pai.proposal == some 500000) ∧ (o 5 (2 ^ 20)).chip.role ≠ 3 ∧
      (comes (exec (.handover 0) (o 5 (2 ^ 20))) fun t => t.chip.nat (paiA 0x110) == 0x4100_0000) ∧ (o 5 (2 ^ 20)).chip.standby = true ∧
      (comes (exec (.resync 0) (o 5 (2 ^ 20))) fun t => t.chip.role == 4) ∧ (o 5 (2 ^ 20)).chip.bit aPaiStat 20 = true ∧
      (comes (exec (.dissolve 0) (o 5 (2 ^ 20))) fun t => t.chip.role == 0) ∧
      comes (exec (.surrender 0) (o 3 (2 ^ 24))) fun t => t.chip.role == 7 && t.chip.fld (paiA 0x124) 16 8 == 8) ∧
    (pr.chip.acts PAI 0 = true ∧ pr.chip.role = 3 ∧ 20000 ≤ pr.chip.nowNs + 20000 ∧
      (comes (exec .handoverCheck pr) fun t => t.chip.pai.proposal == none && t.chip.nat (paiA 0x110) == 0x4600_0000) ∧
      (f 3 (2 ^ 19)).chip.pai.proposal = none ∧ (f 3 (2 ^ 19)).chip.acts PAI 0 = true ∧ (f 3 (2 ^ 19)).chip.bit aPaiStat 19 = true ∧ (f 3 (2 ^ 19)).chip.bit aPaiStat 24 = false ∧
      (f 3 (2 ^ 19)).chip.u64 (paiA 0x130) ≤ (f 3 (2 ^ 19)).chip.nowNs ∧
      (comes (exec .handoverCheck (f 3 (2 ^ 19))) fun t => t.chip.nat (paiA 0x110) == 0x4600_0000) ∧
      (comes (exec .handoverInstant (f 3 (2 ^ 19))) fun t => t.chip.role == 5) ∧ (f 5 (2 ^ 19)).chip.role = 5 ∧
      (comes (exec .handoverInstant (f 5 (2 ^ 19))) fun t => t.chip.role == 3 && t.chip.pai.latch)) ∧
    ((g (f 3 0)).chip.acts PAI 0 = true ∧ (g (f 3 0)).chip.role = 3 ∧ (g (f 3 0)).chip.u64 (paiA 0x130) + 100 ≤ (g (f 3 0)).chip.nowNs ∧
      (comes (exec (.holdStuckCheck true) (g (f 3 0))) fun t => t.chip.bit aPaiStat 17 && !t.chip.pai.planned) ∧
      (g (f 5 0)).chip.reverts = true ∧ 0 + (g (f 5 0)).chip.fld (paiA 0x10C) 16 16 * 1000000000 ≤ (g (f 5 0)).chip.nowNs ∧
      comes (exec .holdDownExpiry (g (f 5 0))) fun t => t.chip.pai.hdStart == none && t.chip.outs == [.pair .askHandover]) := by decide +kernel

/-- The hypotheses of ImageCommands are met. -/
theorem witness_ImageCommands :
    let o := opened up 0 (corA 0)
    let img : Image := { formOk := true, kind := 1, keySlot := 0, ver := 5, secVer := 7, epoch := 1, part := 0xFFFF, expSafety := 0, bodyLen := 0, digest := 0, partners := [] }
    let w := opened (upWith [(aCorState, 2 ^ 28 + 2 ^ 27 + 2 ^ 26 + 2 ^ 24)]) 0 (corA 0)
    let y : State := { w with chip := w.chip.setCor fun x => { x with base := some img, recs := [(0, { pending := some 1, tries := 1 })] } }
    let z : State := { up with chip := up.chip.setCor fun x => { x with cmd := some { op := 2, code := 0, write := some (3, img) } } }
    (o.settled = true ∧ o.chip.takes 0 (corA 0x104) true = true ∧ o.chip.cor.cmd = none ∧ o.chip.ownService = false ∧ o.chip.running = true ∧
      (comes (exec (.restart 0) o) fun t => t.chip.pwr.held == some 4 && t.chip.nat (pwrA 0x118) == 4)) ∧
    (y.chip.takes 0 (corA 0x104) true = true ∧ y.chip.runImage 0 = some img ∧ y.chip.onTrial 0 = true ∧
      (y.chip.bootRec 0).pending = some (y.chip.imgSlot 0) ∧
      comes (exec (.confirm 0) y) fun t => (t.chip.bootRec 0).active == 1 && !t.chip.onTrial 0 && t.chip.secOf 0 == 7) ∧
    (up.chip.verifyWhy { img with keySlot := 3 } [1, 2] none 0 = 2 ∧ up.chip.verifyWhy img [1, 2] (some 0x2000) 0 = 0 ∧
      up.chip.onTrial (img.kind - 1) = false ∧ up.chip.verifyWhy { img with kind := 3, bodyLen := 72 } [3] (some 0x2048) 0 = 0) ∧
    (z.chip.acts COR 0 = true ∧ comes (exec .corCmdDone z) fun t =>
      t.chip.nat (corA 0x108) == 2 ^ 30 && (t.chip.bootRec 1).pending == some 1 && tab none t.chip.cor.slots 3 == some img) := by decide +kernel

/-- The hypotheses of BootAndAttestation are met. -/
theorem witness_BootAndAttestation :
    let g : State := { up with chip := up.chip.setCor fun x => { x with att := [15, 0] } }
    let f := upWith [(attA 7 0x120, 1), (aPwrStat, 2 ^ 27)]
    (State.reset.chip.pwr.held = none ∧ State.reset.chip.fld aCorState 28 4 = 0 ∧ State.reset.chip.cor.base = none ∧
      tab none State.reset.chip.cor.slots 0 = none ∧ tab none State.reset.chip.cor.slots 1 = none ∧ (State.reset.chip.bootRec 0).active < 2 ∧
      (State.reset.chip.bootRec 0).pending = none ∧
      comes (exec (.bootComplete []) State.reset) fun t => t.chip.fld aCorState 28 4 == 3 && t.chip.cor.halted == 0xFF) ∧
    ((0x8000_0000 : Word).getLsbD 31 = true ∧ f.chip.takes 7 (attA 7 0x128) false = true ∧ f.chip.cor.att.contains 7 = false ∧
      f.chip.attOutside 7 (f.chip.u64 (attA 7 0x120)) = true ∧ (comes (exec (.attestGo 7 7 0x8000_0000) f) fun t => t.chip.nat (attA 7 0x12C) == 1) ∧
      up.chip.takes 0 (attA 0 0x128) false = true ∧ up.chip.attOutside 0 (up.chip.u64 (attA 0 0x120)) = false ∧ up.chip.running = true ∧
      comes (exec (.attestGo 0 0 0x8000_0000) up) fun t => t.chip.nat (attA 0 0x12C) == 2 ^ 31 && t.chip.cor.att == [0]) ∧
    (g.settled = true ∧ g.chip.acts COR 0 = true ∧ g.chip.cor.att = 15 :: [0]) := by decide +kernel

/-- The hypotheses of PowerLadder are met. -/
theorem witness_PowerLadder :
    let f (st : Nat) := upWith [(aPwrStat, st * 2 ^ 29), (pwrA 0x110, 0xFF), (pwrA 0x128, 5)]
    let o := opened (f 0) 0 (pwrA 0)
    let p (st goal : Nat) : State := { f st with chip := (f st).chip.setPwr fun x => { x with target := some goal, asked := true } }
    let b : State := { f 6 with chip := { (f 6).chip with tim := { (f 6).chip.tim with backup := some 3 } } }
    (o.settled = true ∧ o.chip.takes 0 (pwrA 0x100) true = true ∧ o.chip.bit (pwrA 0x104) 31 = false ∧ o.chip.reqCode 0 = 1 ∧
      (comes (exec (.powerRequest 0 0) o) fun t => t.chip.nat (pwrA 0x104) == 0x4000_0001) ∧ o.chip.reqCode 1 = 0 ∧ (pageExists o.chip.part NET 0 ∧ pageExists .fvk8620 NET 2 = false) ∧
      comes (exec (.powerRequest 0 1) o) fun t => t.chip.nat (pwrA 0x104) == 0x8000_0000 && t.chip.pwr.target == some 1) ∧
    ((p 0 1).chip.pwr.target = some 1 ∧ (p 0 1).chip.pwr.wake = none ∧ (p 0 1).chip.modState = 0 ∧
      (comes (exec .powerRungEntered (p 0 1)) fun t => t.chip.modState == 1 && t.chip.nat (pwrA 0x104) == 2 ^ 30) ∧
      (comes (exec .powerRungEntered (p 0 2)) fun t => t.chip.modState == 1 && t.chip.pwr.target == some 2) ∧ (p 1 0).chip.modState = 1 ∧
      (comes (exec .powerRungEntered (p 1 0)) fun t => t.chip.modState == 0) ∧ (p 4 5).chip.modState = 4 ∧ (p 4 5).chip.tly.flush = none ∧
      comes (exec .powerRungEntered (p 4 5)) fun t => t.chip.modState == 5 && t.chip.pwr.lost) ∧
    ((f 2).chip.pwr.held = none ∧ (f 2).chip.flushing = false ∧ (f 2).chip.wakeOk 4 = true ∧ (f 2).chip.bit (pwrA 0x110) 4 = true ∧
      (f 2).chip.pwr.afterFlush = false ∧ (f 2).chip.pwr.target = none ∧ 1 < (f 2).chip.modState ∧
      (comes (exec (.wakeEvent 4) (f 2)) fun t => t.chip.pwr.target == some 1 && t.chip.nat (pwrA 0x114) == 16) ∧
      (f 4).chip.modState = 4 ∧ (f 4).chip.supply 5 = true ∧ (f 4).chip.wakeOk 6 = true ∧ (f 6).chip.modState = 6 ∧ (f 6).chip.wakeOk 6 = true ∧
      comes (exec (.wakeEvent 6) (f 6)) fun t => t.chip.pwr.held == some 5 && t.chip.nat (pwrA 0x114) == 64) ∧
    (b.chip.tim.backup = some 3 ∧ b.chip.u64 (pwrA 0x128) ≠ 0 ∧
      comes (exec .rtcAlarm b) fun t => t.chip.tim.backup == some 5 && t.chip.pwr.held == some 5) := by decide +kernel

/-- The hypotheses of ResetAndSupplies are met. -/
theorem witness_ResetAndSupplies :
    let f (v : Nat) := upWith [(aPwrStat, v)]
    let p (r : State) (x : Pwr) : State := { r with chip := { r.chip with pwr := x } }
    let q := opened up 0 (pwrA 0)
    let z : State := { upWith [(aPaiStat, 3 * 2 ^ 28 + 2 ^ 24)] with chip := { (upWith [(aPaiStat, 3 * 2 ^ 28 + 2 ^ 24)]).chip with pwr := { critSince := some 0 }, tim := { ns := 10000000 } } }
    (up.settled = true ∧ (comes (exec (.resetPin 1000) up) fun t => t.chip.pwr.held == some 3 && t.chip.nat (pwrA 0x118) == 3) ∧
      comes (exec (.resetPin 499) up) fun t => t.chip == up.chip) ∧
    ((p up { held := some 5, lost := true }).chip.pwr.held = some 5 ∧ (p up { held := some 5, lost := true }).chip.supply 5 = true ∧
      comes (exec (.resetRelease true) (p up { held := some 5 })) fun t => t.chip.pwr.held.isNone && !t.chip.pwr.lost) ∧
    (up.chip.supply 1 ≠ true ∧ up.chip.supply 4 = true ∧ up.chip.supply 0 = false ∧ up.chip.modState < 4 ∧
      (comes (exec (.supplyChange 1 true) up) fun t => t.chip.bit aPwrStat 1) ∧
      (comes (exec (.supplyChange 0 false) (p up { supplies := 0x3F })) fun t => !t.chip.bit aPwrStat 0 && t.chip.bit (pageAddr PWR 0 PG_EVT_RAW) 6) ∧
      comes (exec (.supplyChange 4 false) (p up { tamper := true })) fun t => t.chip.tim.backup.isNone && !t.chip.pwr.tamper) ∧
    ((f (3 * 2 ^ 29)).chip.modState < 4 ∧ up.chip.flushing = false ∧ (f (2 ^ 27)).chip.flushing = true ∧ up.chip.supply 5 = true ∧
      (comes (exec .powerfailFlushDone (f (2 ^ 27))) fun t => t.chip.pwr.held == some 2) ∧
      comes (exec .powerfailFlushDone (p (f (2 ^ 27)) { supplies := 0 })) fun t => t.chip.modState == 7 && t.chip.pwr.afterFlush) ∧
    ((comes (exec .tamper up) fun t => t.chip.bit aPwrStat 23) ∧ (p q { tamper := true }).chip.takes 0 (pwrA 0x10C) true = true ∧
      (comes (exec (.pwrStatClear 0 0x8000_0000) (p q { tamper := true })) fun t => !t.chip.pwr.tamper) ∧
      up.chip.takes 0 (pwrA 0x10C) false = true ∧
      (comes (exec (.pwrStatClear 0 0x8000_0000) (p up { tamper := true })) fun t => t.chip.pwr.tamper) ∧
      (comes (exec (.thermalSample (-4000) 0) up) fun t => t.chip.word (pwrA 0x804) == 0xFFFF_F060 && t.chip.pwr.critSince.isNone) ∧
      (comes (exec (.thermalSample 10500 0) up) fun t => t.chip.bit aPwrStat 25 && t.chip.bit aPwrStat 26) ∧
      comes (exec (.thermalSample 12500 0) up) fun t => t.chip.pwr.held == some 6) ∧
    (z.chip.pwr.critSince = some 0 ∧ 0 + 10000000 ≤ z.chip.nowNs ∧ z.chip.pwr.held = none ∧ z.chip.bit aPwrStat 24 = false ∧ z.chip.role = 3 ∧
      z.chip.bit aPaiStat 24 = true) := by decide +kernel

/-- The hypotheses of TestAccessPort are met. -/
theorem witness_TestAccessPort :
    let p (r : State) (x : Tap) : State := { r with chip := { r.chip with tap := x } }
    let l : State := { up with chip := up.chip.setPai fun x => { x with latch := true } }
    let a := p up { ir := 0x20 }
    let c := a.chip.cause TST 0 0
    (up.settled = true ∧ up.chip.modState < 5 ∧ up.chip.supply 4 = true ∧ (tapTest up.chip.tap.ir && up.chip.tap.acts) = false ∧
      (comes (exec .idcode up) fun t => t.chip.resp.data == [0x0864_0BCF]) ∧
      (comes (exec (.bypass 0x130) up) fun t => t.chip.tap.ir == 0x30 && !t.chip.tap.acts) ∧ up.chip.pai.latch = false ∧
      (comes (exec (.extest [] []) up) fun t => t.chip.tap.ir == 0 && t.chip.tap.acts) ∧
      l.chip.pai.latch = true ∧ l.settled = true ∧ (comes (exec (.extest [] []) l) fun t => !t.chip.pai.latch) ∧
      up.chip.tapActs 0x22 = true ∧ up.chip.freezing = false ∧ (comes (exec .freeze up) fun t => t.chip.freezing) ∧ up.chip.tapActs 0x21 = true ∧
      (comes (exec .modReset up) fun t => t.chip.pwr.held == some 7) ∧ up.chip.tapActs 5 = true ∧
      comes (exec (.extestTrain [] (List.replicate scanLength true)) up) fun t => t.chip.outs.length == 1 && t.chip.tap.cells.length == 1400) ∧
    (tapTest 6 = true ∧ 258 % 256 ≠ 6 ∧ up.chip.flushing = false ∧
      comes (exec (.tapTestExit 258) (p up { ir := 6 })) fun t => t.chip.pwr.held == some 7 && t.chip.tap.ir == 2) ∧
    (a.chip.supply 4 = true ∧ a.chip.tapAccess = true ∧ a.chip.pwr.held = none ∧ c.gives 23 (pageAddr HST 0 PG_CAPS) = true ∧ c.takes 23 (pageAddr TST 0 PG_EVT_EN) false = true ∧
      (comes (exec (.regAccessUpdate false (pageAddr HST 0 PG_CAPS) 0) a) fun t => t.chip.tap.done && t.chip.tap.data == 0x8640_0000) ∧
      (comes (exec (.regAccessUpdate true (pageAddr TST 0 PG_EVT_EN) 3) a) fun t => t.chip.tap.data == 3 && t.chip.nat (pageAddr TST 0 PG_EVT_EN) == 3) ∧
      up.chip.tapAccess = false ∧ comes (exec .regAccessCapture up) fun t => t.chip.resp.data == [0]) := by decide +kernel

end Sys2Proof.Tests
end

section
/-! PROOFS. Reads of the register window: the answer, the captured words and the FRESH bits after an accepted read (R11, R16, R19),
and the part that page 0 of HST reports (R2). -/

namespace Sys2Proof.Machine

/-! ### An accepted read of one word -/

/-- The master receives the lowest word of the value. -/
theorem readBy_given_resp (c : Chip) (m a : Nat) (h : c.gives m a = true) :
    (c.readBy m a 4).resp = { status := .done, data := [(c.readWords m a).getD 0 0] } := by
  rw [readBy_given c m a h]; rfl

/-- The words above the lowest one are kept for the master. -/
theorem readBy_given_caps (c : Chip) (m a : Nat) (h : c.gives m a = true) (hw : 2 ≤ (c.readWords m a).length) :
    tab [] (c.readBy m a 4).caps (capKey m a) = (c.readWords m a).drop 1 := by
  simp only [readBy_given c m a h, hw, if_true, Chip.answer, tab_tabPut_same]

/-- Only the side effects of the read move FRESH bits; what is captured and answered does not. -/
theorem readBy_given_fresh (c : Chip) (m a : Nat) (h : c.gives m a = true) :
    (c.readBy m a 4).fresh = (c.readEffect m a).fresh := by
  simp only [readBy_given c m a h, Chip.answer]
  split <;> rfl

/-- A value that no lock and no capture FIFO gives reads its words as they stand. -/
theorem readWords_live (c : Chip) (m a : Nat) (hl : isLock a = false)
    (ht : ¬(blockOf a = TIM ∧ isTw a = false ∧ instOf a = 5 ∧ 0x500 ≤ offOf a ∧ offOf a < 0x600)) :
    c.readWords m a = c.liveWords m a := by
  unfold Chip.readWords
  rw [if_neg (by simp [hl]), if_neg]
  simpa only [Bool.and_eq_true, decide_eq_true_eq, Bool.not_eq_true', and_assoc] using ht

/-- The lowest of the words as they stand. -/
theorem liveWords_getD_zero (c : Chip) (m a : Nat) (h : 0 < valueWords c.part a) :
    (c.liveWords m a).getD 0 0 = c.liveWord m a := by
  simp [Chip.liveWords, List.getD, h]

/-! ### Result words and their consuming addresses -/

/-- The address that consumes a result lies at offset 0xC00 or above of its page (R17). -/
theorem offOf_of_consuming {part : Part} {a : Nat} {r : ResultHit} (h : resultAt part a = some r) (hc : r.consuming = true) :
    0xC00 ≤ offOf a := by
  simp only [resultAt, Option.ite_none_left_eq_some, Option.ite_none_right_eq_some, Option.some.injEq] at h
  obtain ⟨-, -, -, rfl⟩ := h
  simpa using hc

/-- A read at the lower word of a consuming address gives the result's lower word. -/
theorem readWords_getD_zero_of_consuming (c : Chip) (m a : Nat) {r : ResultHit} (h : resultAt c.part a = some r)
    (hc : r.consuming = true) (hw : r.word = 0) : (c.readWords m a).getD 0 0 = c.resultLow m r.base := by
  have ho := offOf_of_consuming h hc
  have hlock : isLock a = false := by
    have : ¬ offOf a < 0x300 := by omega
    simp [isLock, this]
  rw [readWords_live c m a hlock (by omega), liveWords_getD_zero c m a (by simp [valueWords, h])]
  simp [Chip.liveWord, h, hw]

@[simp] theorem setWide_fresh (c : Chip) (k n v : Nat) : (c.setWide k n v).fresh = c.fresh := by
  induction n generalizing c k v with
  | zero => rfl
  | succ n ih => exact ih ..

@[simp] theorem cnvCapture_fresh (c : Chip) (m i e : Nat) : (c.cnvCapture m i e).fresh = c.fresh := setWide_fresh ..
@[simp] theorem atrCapture_fresh (c : Chip) (m u : Nat) : (c.atrCapture m u).fresh = c.fresh := setWide_fresh ..
@[simp] theorem canCapture_fresh (c : Chip) (m n o : Nat) (b : Bool) : (c.canCapture m n o b).fresh = c.fresh := by
  rw [Chip.canCapture, apply_ite Chip.fresh]
  exact ite_self _

/-- The reader's FRESH bit is cleared, that of every other partition stands (R19). -/
theorem consume_fresh (c : Chip) (m a p : Nat) (hm : m < 16) :
    (tab 0 (c.consume m a).fresh a).getLsbD p = (decide (p ≠ m) && (tab 0 c.fresh a).getLsbD p) := by
  have hbit : (BitVec.ofNat 16 (1 <<< m)).getLsbD p = decide (p = m) := by
    rw [BitVec.getLsbD_ofNat, Nat.one_shiftLeft, Nat.testBit_two_pow]
    by_cases hp : p = m
    · simp [hp, hm]
    · simp [hp, Ne.symm hp]
  simp only [Chip.consume, hm, if_true, tab_tabPut_same, BitVec.getLsbD_and, BitVec.getLsbD_not, hbit]
  by_cases hp : p < 16
  · simp [hp, Bool.and_comm]
  · simp [BitVec.getLsbD_of_ge _ p (by omega : 16 ≤ p)]

/-- The words that a block captures with a result leave the FRESH bits to the reader's own (R19, R322, R400, R428). -/
theorem resultRead_fresh (c : Chip) (m p : Nat) (r : ResultHit) (hm : m < 16) (hc : r.consuming = true) :
    (tab 0 (c.resultRead m r).fresh r.base).getLsbD p = (decide (p ≠ m) && (tab 0 c.fresh r.base).getLsbD p) := by
  simp only [Chip.resultRead, hc, when_true, consume_fresh _ m r.base p hm]
  split
  · simp
  · split
    · simp
    · split <;> simp

/-- FRESH after an accepted read at a consuming address. -/
theorem readBy_consuming_fresh (c : Chip) (m a p : Nat) {r : ResultHit} (h : c.gives m a = true)
    (hr : resultAt c.part a = some r) (hc : r.consuming = true) (hm : m < 16) :
    (tab 0 (c.readBy m a 4).fresh r.base).getLsbD p = (decide (p ≠ m) && (tab 0 c.fresh r.base).getLsbD p) := by
  rw [readBy_given_fresh c m a h, Chip.readEffect, hr]
  exact resultRead_fresh c m p r hm hc

/-- Settles O12: the answer and the captured words are those of an accepted read, and a read at
the consuming address clears the reader's FRESH alone. -/
theorem wideAndResultReads : Obligations.WideAndResultReads := by
  unfold Obligations.WideAndResultReads
  intro s m a h
  refine ⟨fun hw => ⟨_, rfl, ?_, ?_⟩, fun r hr hc h0 hm => ⟨_, rfl, ?_, ?_, fun p hp => ?_⟩⟩
  · exact readBy_given_resp s.chip m a h
  · exact readBy_given_caps s.chip m a h hw
  · exact (readBy_given_resp s.chip m a h).trans (by rw [readWords_getD_zero_of_consuming s.chip m a hr hc h0])
  · exact (readBy_consuming_fresh s.chip m a m h hr hc hm).trans (by simp)
  · exact (readBy_consuming_fresh s.chip m a p h hr hc hm).trans (by simp [hp])

/-! ### The part (R2) -/

/-- PG_CAPS of page 0 of HST holds the part number in its upper half. -/
theorem liveWord_hst_caps (c : Chip) (m : Nat) :
    c.liveWord m (pageAddr HST 0 PG_CAPS) = BitVec.ofNat 32 (c.partNo * 2 ^ 16) := by
  have hres : resultAt c.part (pageAddr HST 0 PG_CAPS) = none := by cases c.part <;> decide
  have hrow : rowAt c.part (pageAddr HST 0 PG_CAPS) = some ⟨ro PG_CAPS, 0, 0⟩ := by cases c.part <;> decide
  simp only [Chip.liveWord, hres, hrow]
  rfl

/-- A read of PG_CAPS of page 0 of HST gives that word. -/
theorem readWords_hst_caps (c : Chip) (m : Nat) :
    (c.readWords m (pageAddr HST 0 PG_CAPS)).getD 0 0 = BitVec.ofNat 32 (c.partNo * 2 ^ 16) := by
  have hone : valueWords c.part (pageAddr HST 0 PG_CAPS) = 1 := by cases c.part <;> decide
  rw [readWords_live c m _ (by decide) (by decide), liveWords_getD_zero c m _ (by omega), liveWord_hst_caps]

/-- Settles O14: an accepted read answers with that word, whose upper half is the number of the part. -/
theorem partReported : Obligations.PartReported := by
  unfold Obligations.PartReported
  intro s m h
  refine ⟨_, rfl, _, (readBy_given_resp s.chip m _ h).trans (by rw [readWords_hst_caps]), ?_⟩
  cases hp : s.chip.part <;> simp [Chip.partNo, hp, getBits]

end Sys2Proof.Machine
end

section
/-! PROOFS. DRAM and its poison marks through every command (R47, R88, R544): each command answers a state that it reaches by moves
that each keep the two lists canonical. -/

namespace Sys2Proof.Machine

/-! ### The moves -/

/-- `s` comes to a state by moves of which each leaves the waiting commands: the module changes, writes on their way arrive, bytes are
stored, a block's poison mark is set or cleared, and DRAM is lost (R47, R88, R544). -/
inductive State.Reaches (s : State) : State → Prop
  | here : s.Reaches s
  | chip {t : State} (c : Chip) (h : s.Reaches t) : s.Reaches { t with chip := c }
  | flush {t : State} (h : s.Reaches t) : s.Reaches t.flushDram
  | store {t : State} (a : Nat) (data : List Byte) (h : s.Reaches t) : s.Reaches { t with dram := dramStore t.dram a data }
  | mark {t : State} (b : Nat) (v : Bool) (h : s.Reaches t) : s.Reaches { t with dramPoison := tabPut false t.dramPoison b v }
  | lose {t : State} (h : s.Reaches t) : s.Reaches { t with dram := [], dramPoison := [] }

variable {s t u : State}

theorem State.Reaches.trans (h : s.Reaches t) (h' : t.Reaches u) : s.Reaches u := by
  induction h' with
  | here => exact h
  | chip c _ ih => exact ih.chip c
  | flush _ ih => exact ih.flush
  | store a data _ ih => exact ih.store a data
  | mark b v _ ih => exact ih.mark b v
  | lose _ ih => exact ih.lose

theorem State.Reaches.memoryKept (h : s.Reaches t) (hs : s.memoryKept = true) : t.memoryKept = true := by
  induction h with
  | here => exact hs
  | chip _ _ ih => exact ih
  | flush _ ih => exact flushDram_wf _ ih
  | store a data _ ih => exact dramStore_wf _ a data ih
  | mark _ _ _ ih => exact ih
  | lose _ _ => rfl

theorem State.Reaches.poisonKept (h : s.Reaches t) (hs : s.poisonKept = true) : t.poisonKept = true := by
  induction h with
  | here => exact hs
  | chip _ _ ih => exact ih
  | flush _ ih => exact flushDram_poison_wf _ ih
  | store _ _ _ ih => exact ih
  | mark b v _ ih => exact tabWf_tabPut _ _ b v ih
  | lose _ _ => rfl

/-- No move touches the queue of waiting commands. -/
theorem State.Reaches.pending (h : s.Reaches t) : t.pending = s.pending := by
  induction h with
  | here => rfl
  | chip _ _ ih => exact ih
  | flush _ ih => exact ih
  | store _ _ _ ih => exact ih
  | mark _ _ _ ih => exact ih
  | lose _ ih => exact ih

/-- Whichever way a condition decides. -/
theorem State.Reaches.ite {p : Prop} [Decidable p] (h : s.Reaches t) (h' : s.Reaches u) : s.Reaches (if p then t else u) := by
  split
  · exact h
  · exact h'

/-- Moves in order, one for each item of a list. -/
theorem foldl_reaches {α : Type} (f : State → α → State) (hf : ∀ t x, State.Reaches t (f t x)) (l : List α) (s : State) :
    s.Reaches (l.foldl f s) := by
  induction l generalizing s with
  | nil => exact .here
  | cons x r ih => exact (hf s x).trans (ih _)

/-! ### How a command meets the machine -/

theorem settle_reaches (s : State) (f : Chip → Chip) : s.Reaches (s.settle f) := (State.Reaches.here.chip _).flush

theorem settleOut_reaches (s : State) (f : Chip → Chip) : s.Reaches (s.settleOut f) := (State.Reaches.here.chip _).flush

theorem loseDram_reaches (s : State) : s.Reaches s.loseDram := .ite (.lose .here) .here

theorem act_reaches (s : State) (f : Chip → Chip) : Answers (s.act f) s.Reaches := ⟨_, rfl, settle_reaches s f⟩

/-- What a command reaches where its precondition stands; elsewhere the machine stays as it is (log 18). -/
theorem ite_answers_reaches (s : State) (p : Prop) [Decidable p] {o : Host.Outcome State Fault Refusal}
    (h : Answers o s.Reaches) : Answers (if p then o else .next s) s.Reaches := by
  split
  · exact h
  · exact ⟨s, rfl, .here⟩

theorem actIf_reaches (s : State) (p : Bool) (f : Chip → Chip) : Answers (s.actIf p f) s.Reaches :=
  ite_answers_reaches s _ (act_reaches s f)

theorem eventOut_reaches (s : State) (b i : Nat) (f : Chip → Chip) : Answers (s.eventOut b i f) s.Reaches :=
  ite_answers_reaches s _ ⟨_, rfl, settleOut_reaches s f⟩

theorem power_reaches (s : State) (f : Chip → Chip) : Answers (s.power f) s.Reaches :=
  ⟨_, rfl, (settle_reaches s f).trans (loseDram_reaches _)⟩

theorem write_reaches (s : State) (x : Meets) (m a size : Nat) (data : List Word) (hops : Nat) :
    Answers (s.write x m a size data hops) s.Reaches :=
  ⟨_, rfl, .ite (settleOut_reaches s _) (settle_reaches s _)⟩

theorem put_reaches (s : State) (m a : Nat) (d : Word) (x : Meets) : Answers (s.put m a d x) s.Reaches := write_reaches ..

theorem memory_reaches (s : State) (p : Bool) {t : State} (h : s.Reaches t) : Answers (s.memory p t) s.Reaches :=
  ite_answers_reaches s _ ⟨_, rfl, h.trans (settle_reaches t id)⟩

theorem portMemory_reaches (s : State) (p : Nat) {f : State → State} (h : s.Reaches (f s)) :
    Answers (s.portMemory p f) s.Reaches :=
  ite_answers_reaches s _ ⟨_, rfl, h.trans (settle_reaches _ id)⟩

/-! ### Accesses to DRAM (R47, R87 to R89) -/

theorem setPoison_reaches (s : State) (b : Nat) (v : Bool) : s.Reaches (s.setPoison b v) := by
  unfold State.setPoison
  split
  · exact .chip _ .here
  · exact .mark b v .here

theorem readFault_reaches (s : State) (b rr : Nat) : s.Reaches (s.readFault b rr) :=
  .ite (.chip _ .here) ((State.Reaches.here.chip _).trans (setPoison_reaches _ b true))

theorem readFaults_reaches (s : State) (a n : Nat) (rr : List Nat) : s.Reaches (s.readFaults a n rr) := by
  exact foldl_reaches (fun t (e : Nat × Nat) => t.readFault e.1 (rr.getD e.2 0)) (fun t e => readFault_reaches t e.1 _) _ s

theorem dramRead_reaches (s : State) (a n : Nat) (rr : List Nat) (hops : Nat) (bad : RespStatus) :
    s.Reaches (s.dramRead a n rr hops bad) := by
  have h := (readFaults_reaches s a n rr).chip ((s.readFaults a n rr).chip.hopSends hops)
  exact .ite (h.chip _) (h.chip _)

theorem dramWrite_reaches (s : State) (a : Nat) (data : List Byte) : s.Reaches (s.dramWrite a data) :=
  ((foldl_reaches _ (fun t b => setPoison_reaches t b false) _ s).store a data).chip _

theorem sharedWrite_reaches (s : State) (p a : Nat) (data : List Byte) (hops : Nat) :
    s.Reaches (s.sharedWrite p a data hops) :=
  .ite (.chip _ (.chip _ .here)) (((State.Reaches.here.chip _).trans (dramWrite_reaches _ a data)).chip _)

theorem bar2Read_reaches (s : State) (p off len : Nat) (rr : List Nat) (hops : Nat) :
    s.Reaches (s.bar2Read p off len rr hops) :=
  .ite .here (.ite (.chip _ .here) (dramRead_reaches ..))

theorem bar2Write_reaches (s : State) (p off : Nat) (data : List Byte) (hops : Nat) :
    s.Reaches (s.bar2Write p off data hops) :=
  .ite .here (.ite (.chip _ .here) (sharedWrite_reaches ..))

theorem coreDram_reaches (s : State) (m : Nat) (island wr : Bool) (addr len : Nat) (data : List Byte) (rr : List Nat)
    (hops : Nat) : s.Reaches (s.coreDram m island wr addr len data rr hops) :=
  .ite .here (.ite (.chip _ .here) (.ite (.ite (.chip _ .here) (.chip _ .here))
    (.ite (dramRead_reaches ..) (sharedWrite_reaches ..))))

/-- A repair stores the twin's copy and clears the mark (R511). -/
theorem repairBlock_reaches (s : State) (b : Nat) (data : List Word) (ok : Bool) : s.Reaches (s.repairBlock b data ok) :=
  .ite .here (.ite (((State.Reaches.here.store (64 * b) _).mark b false).chip (s.chip.repairEnd true (64 * b))) (.chip _ .here))

/-! ### The host rings (R388) -/

theorem ringFetch_reaches (s : State) (a n : Nat) (rr : List Nat) : s.Reaches (s.ringFetch a n rr).2 := readFaults_reaches ..

theorem ringRx_reaches (s : State) (p : Nat) (bytes : List Byte) (rr : List Nat) : s.Reaches (s.ringRx p bytes rr) := by
  unfold State.ringRx
  split
  · exact .chip _ .here
  · next a _ => exact .ite (.chip _ (ringFetch_reaches s a 16 rr)) (.chip _ (ringFetch_reaches s a 16 rr))

theorem ringTx_reaches (s : State) (p q : Nat) (sent : Bool) (rr : List Nat) : s.Reaches (s.ringTx p q sent rr) := by
  unfold State.ringTx
  split
  · exact .here
  · next a _ =>
    have h := ringFetch_reaches s a 16 (rr.take 1)
    refine .ite (.chip _ h) (.chip _ ?_)
    cases sent
    · exact h
    · exact h.trans (ringFetch_reaches ..)

theorem ethFrameRx_reaches (p : Nat) (bytes : List Byte) (fcsOk : Bool) (s : State) (rr : List Nat) :
    Answers (execEthFrameRx p bytes fcsOk s rr) s.Reaches :=
  portMemory_reaches s p (.ite ((State.Reaches.here.chip _).trans (ringRx_reaches ..)) (.chip _ .here))

theorem gateDrop_reaches (p q : Nat) (s : State) (rr : List Nat) : Answers (execGateDrop p q s rr) s.Reaches := by
  refine portMemory_reaches s p (.ite .here ?_)
  split
  · exact .chip _ .here
  · exact .ite (.chip _ (ringTx_reaches ..)) .here

theorem hostFrameTxDone_reaches (p q : Nat) (s : State) (rr : List Nat) : Answers (execHostFrameTxDone p q s rr) s.Reaches :=
  portMemory_reaches s p (.ite (ringTx_reaches ..) .here)

/-! ### Every command -/

/-- In a power failure DRAM is lost before the flush ends (R554). -/
theorem powerfailFlushDone_reaches (s : State) : Answers (execPowerfailFlushDone s) s.Reaches := by
  unfold execPowerfailFlushDone
  split
  · obtain ⟨t, ht, h⟩ := power_reaches { s with dram := [], dramPoison := [] } fun c => c.flushEnd
    exact ⟨t, ht, (State.Reaches.lose .here).trans h⟩
  · exact power_reaches ..

theorem canWakeEvent_reaches (ch width : Nat) (frame : Option CanFrame) (s : State) :
    Answers (execCanWakeEvent ch width frame s) s.Reaches := by
  unfold execCanWakeEvent
  split
  · exact ⟨s, rfl, .here⟩
  · exact power_reaches ..

/-- Every command answers a state that it reaches by the moves. -/
theorem exec_reaches (i : Instr) (s : State) : Answers (exec i s) s.Reaches := by
  cases i with
  | dipTargetWrite | iwinRead | iwinWrite | pageEnable | pageSoftReset | debugFreezeWrite | pgOwnerWrite | pgKeyWrite
  | evtPendClear | routeWrite | msixUnmask | bindingWrite | bellSend | bucketPost | bucketTake | lockRelease
  | lockForceRelease | hoiSubmit | coreDone | coreSuspend | admitTasks | retire | query | beMaxCostWrite
  | beEntriesWrite | corePoolWrite | flowCfgWrite | trackArm | trackPause | trackResume | trackAbort | trackContinue
  | slotEnable | slotDisable | slotResetState | slotClearStat | slotCtlWrite | hoGroupWrite | learnClear
  | learnGainWrite | axisEnable | axisDisable | moveAbs | moveRel | velocity | gearIn | camIn | supMove | stop
  | qstop | loadLimits | axisSetPos | resetFault | stateLostClear | tripClear | tripCfgWrite | fbkSetPos | refArm
  | cnvSoftTrigger | cnvAbort | cnvModeWrite | cnvEntryWrite | cnvSeqCfgWrite | plausClear | plausCfgWrite
  | timStepGo | timReacq | triggerEnable | triggerDisable | ptpCfgWrite | gclSwap | cycEnable | txRingTailWrite
  | rxRingTailWrite | mdioFrameStart | canTxRequest | canTxAbort | canSleep | canWake | canRecover | canAbortAll
  | streamEnable | streamDisable | adtClearStats | adtSetPolicy | adtSetAndClear | adtEnable | adtTrgCfgWrite
  | tlyPost32 | tallyClear | tallyFlush | tallyCfgWrite | qlossClear | commission | verify | abort | safConfirm
  | safSs1Req | safStoReq | safResetReq | pairEnable | pairDisable | handover | resync | dissolve | surrender
  | stageCheck | writeSlot | confirm | keyOrder | restart | attestGo | powerRequest | pwrStatClear => exact put_reaches ..
  | registerWrite | vecPendClear | shmEntryWrite | shadowWrite | shadowWriteArm | pwmArm | gpioOutWrite | gpioSet
  | gpioClr | pulseAtWrite | netTxPut | canData0Write | streamRdWrite | tlyPost64 => exact write_reaches ..
  | wideValueLowWordRead | rcRegisterRead | lockRead | coreNextRead | latchCaptureRead | cnvResultRead | capturePop
  | canResultRead | adtTrgResultRead | resultAliasRead | tamper | regAccessCapture => exact act_reaches ..
  | dipstickWindowEnd | floorTimerExpiry | paceRecoveryExpiry | memUseIntervalEnd | eventNoticeDelivery
  | msixHeldSend | pcieLinkChange | functionLevelReset | perstAssert | perstRelease | crossTimeExpiry
  | bucketPostCommit | slotCmdDone | learnClearDone | tripSelfTest | testStaleExpiry | gpioInputEdge | trefLoss
  | trefReturn | syncTimeout | timeStepApply | backupClockWrite | triggerOccurrence | pulseAtReached | captureEdge
  | cyclicFrameRx | rxDeadline | cyclicFrameTx | txFrameDrop | mdioDone | adtWindowEnd | streamFlushTimeout
  | adtCmdDone | dirClearDone | tallyEventFold | tallyTokenRefill | tallyCmdDone | pairHelloRx | roleClaimDelay
  | pairLinkTimeout | pairLinkUp | pairLinkDown | linkLostGraceExpiry | pairLaneDown | pairLaneReturn
  | pairTimeExchange | bulkCopyDone | standbyReady | pairSelftestDone | handoverCheck | handoverInstant
  | holdStuckCheck | holdDownExpiry | corCmdDone | attestDone | pcieConfigWrite | heldEntryGrant | stepPrefetch
  | waitLimitExpiry | pwmPeriodBoundary | pwmHalfBoundary | pwmCompareMatch | ssiFrameDone | rs485Response
  | rs485RespTimeout | filterRoundStart | plausPartnerTimeout | iwinDone | softResetComplete | keyTimeout
  | tallyEventIntake | tallyFlushDone | holdLatchRefresh | holdWatchdogExpiry | holdInFall | thermalCritExpiry
  | tripInputActive | blankWindowClose | cfgMismatchExpiry | cnvSequenceTrigger | encoderCount | hallChange
  | indexPulse | referenceEdge | conversionDone | ptpSyncRx | ptpFollowUpRx | pdelayReqRx | pdelayRespRx
  | followUpTimeout | pdelayRespTimeout | ptpSyncTx | pdelayReqTx | gclEntryExpiry | gclSwapEffect | netLinkChange
  | canFrameRx | canTxStart | canTxDone | canErrorDetected | busOffRecovery | canBusIntegrated | adtSampleIntake
  | adtRecordUpdate | streamBlockWritten | safetyTick | discrepancyTimeout | testPulseStart | outputTestPulse
  | ss1Expiry | edmTimeout | safetyStartupDone | safetyVerifyDone => exact actIf_reaches ..
  | completionPost | taskDispatch | taskRelease | preemptTimeout | admissionDone | recipeStepSet | recipeStepPost
  | recipeStepWait | recipeStepJump | recipeStepEnd | pairLinkBlockRx => exact eventOut_reaches ..
  | powerRungEntered | wakeEvent | rtcAlarm | resetPin | resetRelease | supplyChange | powerFailDetect
  | thermalSample | tapReset | extest | samplePreload | idcode | highz | clamp | extestPulse | extestTrain
  | regAccess | modReset | freeze | bypass | tapTestExit => exact power_reaches ..
  | unimplementedAccess m addr wr =>
    cases wr
    · exact act_reaches ..
    · exact put_reaches ..
  | bellTake m ch size ok => cases ok <;> exact act_reaches ..
  | bellInRead m ch ok => cases ok <;> exact act_reaches ..
  | axisTick => exact ite_answers_reaches s _ ⟨_, rfl, settleOut_reaches s _⟩
  | bootComplete => exact ite_answers_reaches s _ ⟨_, rfl, settleOut_reaches s _⟩
  | regAccessUpdate => exact ⟨_, rfl, settleOut_reaches s _⟩
  | canWakeEvent => exact canWakeEvent_reaches ..
  | powerfailFlushDone => exact powerfailFlushDone_reaches s
  | bar2Read => exact memory_reaches s _ (bar2Read_reaches ..)
  | bar2Write => exact memory_reaches s _ (bar2Write_reaches ..)
  | coreDramAccess => exact memory_reaches s _ (coreDram_reaches ..)
  | repairComplete elem key data ok =>
    cases elem
    · exact memory_reaches s _ (repairBlock_reaches ..)
    · exact actIf_reaches ..
  | ethFrameRx => exact ethFrameRx_reaches ..
  | gateDrop => exact gateDrop_reaches ..
  | hostFrameTxDone => exact hostFrameTxDone_reaches ..

/-- A step leaves DRAM and its marks to such moves: it takes a command from the queue, or lets a period pass. -/
theorem step_reaches (s : State) : Answers (step s) { s with pending := s.pending.tail }.Reaches := by
  obtain ⟨chip, dram, poison, pending⟩ := s
  cases pending with
  | nil => exact ⟨_, rfl, .chip _ .here⟩
  | cons c r => exact exec_reaches c _

/-- Settles O4: each move keeps the list of DRAM bytes canonical. -/
theorem memoryKept : Obligations.MemoryKept := by
  unfold Obligations.MemoryKept
  intro s hs
  obtain ⟨t, ht, h⟩ := step_reaches s
  exact ⟨t, ht, h.memoryKept hs⟩

/-- Settles O5: each move keeps the list of poison marks canonical. -/
theorem poisonKept : Obligations.PoisonKept := by
  unfold Obligations.PoisonKept
  intro s hs
  obtain ⟨t, ht, h⟩ := step_reaches s
  exact ⟨t, ht, h.poisonKept hs⟩

end Sys2Proof.Machine
end

section
/-! PROOFS. Writes of DIP_TARGET (R32). -/

namespace Sys2Proof.Machine

/-- A write that the register window takes at DIP_TARGET with the key is clamped (R32). -/
theorem applyWrite_dipTarget (c : Chip) (x : Meets) (m : Nat) (d : Word) :
    c.applyWrite x m (dipA 0x104) [d] true = c.targetWrite d := by
  have hres : resultAt c.part (dipA 0x104) = none := by cases c.part <;> decide
  have htw : isTw (dipA 0x104) = false := by decide
  have hwin : isWindow (dipA 0x104) = false := by decide
  have hblk : blockOf (dipA 0x104) = 0x13 := by decide
  have htarget : offOf (dipA 0x104) = 0x104 := by decide
  simp [Chip.applyWrite, hres, htw, Chip.blockWrite, hwin, hblk, htarget, Chip.keyedReg]

/-- A word set from a number that its lowest field holds shows the number there. -/
theorem fld_setNat_of_lt (c : Chip) (k n v : Nat) (hn : n ≤ 32) (h : v < 2 ^ n) : (c.setNat k v).fld k 0 n = v := by
  have hv := Chip.nat_setNat_same c k v (Nat.lt_of_lt_of_le h (Nat.pow_le_pow_right (by decide) hn))
  rw [Chip.nat] at hv
  rw [Chip.fld, getBits, hv, Nat.shiftRight_zero, Nat.mod_eq_of_lt h]

/-- TARGET as a write of `d` leaves it, at a LANE_FLOOR whose ceiling the field holds (R32). -/
theorem targetWrite_fld (c : Chip) (d : Word) (h : c.laneFloor < 30000) :
    (c.targetWrite d).fld (dipA 0x104) 0 16 = clampN ((110 * c.laneFloor + 99) / 100) 2000 (getBits d 0 16) := by
  have hd := getBits_lt d 0 16
  have hlt : clampN ((110 * c.laneFloor + 99) / 100) 2000 (getBits d 0 16) < 2 ^ 16 := by
    unfold clampN; split_ifs <;> omega
  exact fld_setNat_of_lt c _ 16 _ (by decide) hlt

/-- A taken write of DIP_TARGET shows in the field. -/
theorem dipTargetWrite_answers (s : State) (m : Nat) (d : Word) (h : s.chip.takes m (dipA 0x104) true = true)
    (hf : s.chip.laneFloor < 30000) :
    Answers (exec (.dipTargetWrite m d) s) fun t =>
      t.chip.fld (dipA 0x104) 0 16 = clampN ((110 * s.chip.laneFloor + 99) / 100) 2000 (getBits d 0 16) := by
  refine ⟨_, put_taken s {} m _ d true h rfl rfl (.inl rfl) (by decide), ?_⟩
  have hfloor : (s.chip.afterKey m (dipA 0x104) true).laneFloor = s.chip.laneFloor := by
    unfold Chip.afterKey; split <;> rfl
  have htw : isTw (dipA 0x104) = false := by decide
  dsimp only
  rw [settle_fld, writeBy_taken s.chip _ m _ d true h rfl rfl (.inl rfl), ← hfloor, ← targetWrite_fld _ d (hfloor ▸ hf)]
  simp only [htw, Bool.not_false, Bool.and_self, applyWrite_dipTarget]
  split <;> rfl

/-- Settles O16: each clause is a branch of the clamp. -/
theorem dipTargetClamped : Obligations.DipTargetClamped := by
  unfold Obligations.DipTargetClamped
  intro s m d h hf
  obtain ⟨t, ht, hfld⟩ := dipTargetWrite_answers s m d h hf
  refine ⟨t, ht, ?_⟩
  dsimp only
  rw [hfld]
  unfold clampN
  split_ifs <;> omega

end Sys2Proof.Machine
end

section
/-! PROOFS. What an operation of the module changes, bit by bit: each shared operation says it once, and every later statement carries
it through the operations that follow. -/

namespace Sys2Proof.Machine

variable {S T : Nat → Nat → Prop} {c c' c'' : Chip}

/-! ### What an operation changes -/

/-- From `c` to `c'` no bit changes but bit `j` of words `k` where `S k j` holds, and what the Dipstick and the fuses hold stands. -/
structure Chip.Alters (S : Nat → Nat → Prop) (c c' : Chip) : Prop where
  bit : ∀ k j, ¬ S k j → c'.bit k j = c.bit k j
  dip : c'.dip = c.dip
  laneFloor : c'.laneFloor = c.laneFloor

theorem Chip.Alters.refl (S : Nat → Nat → Prop) (c : Chip) : c.Alters S c := ⟨fun _ _ _ => rfl, rfl, rfl⟩

theorem Chip.Alters.trans (h : c.Alters S c') (h' : c'.Alters S c'') : c.Alters S c'' :=
  ⟨fun k j hk => (h'.bit k j hk).trans (h.bit k j hk), h'.dip.trans h.dip, h'.laneFloor.trans h.laneFloor⟩

/-- The same with the later alteration first. -/
theorem Chip.Alters.after (h' : c'.Alters S c'') (h : c.Alters S c') : c.Alters S c'' := h.trans h'

theorem Chip.Alters.mono {T : Nat → Nat → Prop} (h : c.Alters S c') (hST : ∀ k j, S k j → T k j) : c.Alters T c' :=
  ⟨fun k j hk => h.bit k j fun hS => hk (hST k j hS), h.dip, h.laneFloor⟩

theorem Chip.Alters.or (h : c.Alters S c') (h' : c'.Alters T c'') : c.Alters (fun k j => S k j ∨ T k j) c'' :=
  (h.mono fun _ _ => Or.inl).trans (h'.mono fun _ _ => Or.inr)

theorem Chip.Alters.fld (h : c.Alters S c') (k lo n : Nat) (hk : ∀ j, lo ≤ j → j < lo + n → ¬ S k j) :
    c'.fld k lo n = c.fld k lo n := by
  apply Nat.eq_of_testBit_eq
  intro i
  simp only [Chip.fld, testBit_getBits]
  by_cases hi : i < n
  · rw [show (c'.word k).getLsbD (lo + i) = (c.word k).getLsbD (lo + i) from h.bit k (lo + i) (hk _ (by omega) (by omega))]
  · simp [hi]

theorem Chip.Alters.word (h : c.Alters S c') (k : Nat) (hk : ∀ j, ¬ S k j) : c'.word k = c.word k :=
  BitVec.eq_of_getLsbD_eq fun i _ => h.bit k i (hk i)

theorem Chip.Alters.nat (h : c.Alters S c') (k : Nat) (hk : ∀ j, ¬ S k j) : c'.nat k = c.nat k :=
  congrArg BitVec.toNat (h.word k hk)

theorem Chip.Alters.ite {p : Prop} [Decidable p] (h : c.Alters S c') (h' : c.Alters S c'') :
    c.Alters S (if p then c' else c'') := by
  split
  · exact h
  · exact h'

theorem Chip.Alters.when {b : Bool} {f : Chip → Chip} (h : c.Alters S (f c)) : c.Alters S (c.when b f) :=
  .ite h (.refl S c)

/-- Effects for the items of a list, each of which alters `S` alone. -/
theorem each_alters {α : Type} (f : Chip → α → Chip) (l : List α) (h : ∀ c, ∀ x ∈ l, Chip.Alters S c (f c x)) (c : Chip) :
    c.Alters S (c.each l f) := by
  induction l generalizing c with
  | nil => exact .refl S c
  | cons x r ih => exact (h c x (by simp)).trans (ih (fun c y hy => h c y (by simp [hy])) _)

/-- Where the words, the Dipstick and the fuses stand nothing is altered. -/
theorem Chip.Alters.of_words (hw : c'.words = c.words) (hd : c'.dip = c.dip) (hl : c'.laneFloor = c.laneFloor) :
    c.Alters S c' :=
  ⟨fun k j _ => by rw [Chip.bit, Chip.word, hw, Chip.bit, Chip.word], hd, hl⟩

/-- What follows an alteration and leaves the words, the Dipstick and the fuses alters nothing more. -/
theorem Chip.Alters.keep (h : c.Alters S c') (hw : c''.words = c'.words) (hd : c''.dip = c'.dip)
    (hl : c''.laneFloor = c'.laneFloor) : c.Alters S c'' := h.trans (.of_words hw hd hl)

theorem setWord_alters (c : Chip) (k : Nat) (w : Word) (h : ∀ j, S k j) : c.Alters S (c.setWord k w) :=
  ⟨fun k' j hk => by
    have : k' ≠ k := fun e => hk (e ▸ h j)
    rw [Chip.bit, Chip.word_setWord_ne _ _ this, Chip.bit], rfl, rfl⟩

theorem setFld_alters (c : Chip) (k lo n v : Nat) (h : ∀ j, lo ≤ j → j < lo + n → S k j) :
    c.Alters S (c.setFld k lo n v) :=
  ⟨fun k' j hk => by
    rw [Chip.bit_setFld, if_neg]
    rintro ⟨rfl, hlo, hn, -⟩
    exact hk (h j hlo (by omega)), rfl, rfl⟩

theorem setBit_alters (c : Chip) (k i : Nat) (b : Bool) (h : S k i) : c.Alters S (c.setBit k i b) :=
  setFld_alters c k i 1 _ fun j hlo hn => by
    have : j = i := by omega
    exact this ▸ h

theorem setNat_alters (c : Chip) (k v : Nat) (h : ∀ j, S k j) : c.Alters S (c.setNat k v) := setWord_alters c k _ h

theorem count_alters (c : Chip) (k n : Nat) (h : ∀ j, S k j) : c.Alters S (c.count k n) := setNat_alters c k _ h

theorem pend_alters (c : Chip) (k i : Nat) (l : Option Nat) (h : S (k + PG_EVT_PEND) i) : c.Alters S (c.pend k i l) := by
  have hset := setBit_alters c (k + PG_EVT_PEND) i true h
  refine .ite (.ite hset ?_) (.refl S c)
  cases l
  · exact hset
  · exact ⟨hset.bit, hset.dip, hset.laneFloor⟩

/-- A register of a page lies at its offset from the page's start. -/
theorem pageAddr_zero_add (b i o : Nat) : pageAddr b i 0 + o = pageAddr b i o := by simp [pageAddr]

theorem cause_alters (c : Chip) (b p i : Nat) (hr : S (pageAddr b p PG_EVT_RAW) i) (hp : S (pageAddr b p PG_EVT_PEND) i) :
    c.Alters S (c.cause b p i) := by
  rw [← pageAddr_zero_add] at hr hp
  exact (setBit_alters c _ i true hr).trans (pend_alters _ _ i _ hp)

theorem level_alters (c : Chip) (b p i : Nat) (v : Bool) (hr : S (pageAddr b p PG_EVT_RAW) i)
    (hp : S (pageAddr b p PG_EVT_PEND) i) : c.Alters S (c.level b p i v) := by
  rw [← pageAddr_zero_add] at hr hp
  exact .ite ((setBit_alters c _ i v hr).trans (pend_alters _ _ i _ hp)) (setBit_alters c _ i v hr)

/-- The cause shows in RAW (R74). -/
theorem cause_raises (c : Chip) (b p i : Nat) (hi : i < 32) : (c.cause b p i).bit (pageAddr b p PG_EVT_RAW) i = true := by
  have hpend := pend_alters (S := fun k _ => k = pageAddr b p 0 + PG_EVT_PEND) (c.setBit (pageAddr b p 0 + PG_EVT_RAW) i true)
    (pageAddr b p 0) i (lineOf b p 0) rfl
  rw [← pageAddr_zero_add]
  exact (hpend.bit _ i (by simp [PG_EVT_RAW, PG_EVT_PEND])).trans (Chip.bit_setBit_same _ _ i true hi)

/-! ### Effects for the items of a list -/

/-- What the effect for an item brings about and the effects for the others leave stands after the whole list. -/
theorem each_establishes {α : Type} {P : α → Chip → Prop} (f : Chip → α → Chip) (l : List α)
    (hset : ∀ c x, x ∈ l → P x (f c x)) (hkeep : ∀ c x y, x ∈ l → y ∈ l → P y c → P y (f c x)) (c : Chip) :
    ∀ x ∈ l, P x (c.each l f) := by
  have hstay (l' : List α) (hl : l' ⊆ l) (c : Chip) (y : α) (hy : y ∈ l) (h : P y c) : P y (c.each l' f) := by
    induction l' generalizing c with
    | nil => exact h
    | cons x r ih => exact ih (fun z hz => hl (by simp [hz])) _ (hkeep c x y (hl (by simp)) hy h)
  suffices h : ∀ l' ⊆ l, ∀ c : Chip, ∀ x ∈ l', P x (c.each l' f) from h l (List.Subset.refl l) c
  intro l'
  induction l' with
  | nil => simp
  | cons x r ih =>
    intro hl c y hy
    have hr : r ⊆ l := fun z hz => hl (by simp [hz])
    rcases List.mem_cons.1 hy with rfl | hy
    · exact hstay r hr _ y (hl (by simp)) (hset c y (hl (by simp)))
    · exact ih hr _ y hy

/-! ### Where the words stand -/

theorem word_of_words (h : c'.words = c.words) (k : Nat) : c'.word k = c.word k := by rw [Chip.word, h, Chip.word]
theorem nat_of_words (h : c'.words = c.words) (k : Nat) : c'.nat k = c.nat k := congrArg BitVec.toNat (word_of_words h k)
theorem bit_of_words (h : c'.words = c.words) (k j : Nat) : c'.bit k j = c.bit k j := congrArg (BitVec.getLsbD · j) (word_of_words h k)
theorem fld_of_words (h : c'.words = c.words) (k lo n : Nat) : c'.fld k lo n = c.fld k lo n :=
  congrArg (getBits · lo n) (word_of_words h k)

/-! ### Whole blocks -/

/-- A word of one of these blocks, or of a store behind no register address. -/
def inBlocks (l : List Nat) (k _j : Nat) : Prop := 2 ^ 80 ≤ k ∨ blockOf k ∈ l

theorem inBlocks_page {l : List Nat} {b i o : Nat} (h : b ∈ l) (hb : b < 32) (hi : i < 128) (ho : o < 4096) (j : Nat) :
    inBlocks l (pageAddr b i o) j := .inr (by rwa [blockOf_pageAddr b i o hb hi ho])

theorem inBlocks_store (l : List Nat) (st i w j : Nat) : inBlocks l (elemKey st i w) j := .inl (by unfold elemKey; omega)

theorem inBlocks_mono {l l' : List Nat} (h : l ⊆ l') (k j : Nat) (hk : inBlocks l k j) : inBlocks l' k j :=
  hk.imp_right fun hm => h hm

theorem not_inBlocks_page {l : List Nat} {b i o : Nat} (h : b ∉ l) (hb : b < 32) (hi : i < 128) (ho : o < 4096) (j : Nat) :
    ¬ inBlocks l (pageAddr b i o) j := by
  rintro (hk | hk)
  · unfold pageAddr at hk; omega
  · rw [blockOf_pageAddr b i o hb hi ho] at hk; exact h hk

end Sys2Proof.Machine
end

section
/-! PROOFS. What shedding, the pins of the pairs, a status bit of the Dipstick, a flush of Tally, a request of the Safety Unit and a new
role alter (R35, R55, R285, R451, R484, R493). -/

namespace Sys2Proof.Machine

variable {S : Nat → Nat → Prop}

/-! ### Shedding (R35): Hoist alone -/

theorem portA_inBlocks {n o : Nat} (hn : n < 8) (ho : o < 4096) (j : Nat) : inBlocks [HOI] (portA n o) j :=
  inBlocks_page (by simp) (by decide) (by omega) ho j

/-- What a core port shows of the task offered to it. -/
theorem showNext_alters (c : Chip) {n : Nat} (hn : n < 8) (x y : Nat) (b : Bool) :
    c.Alters (inBlocks [HOI]) (((c.setNat (portA n 0x100) x).setNat (portA n 0x104) y).setBit (portA n 0x110) 30 b) :=
  ((setNat_alters c _ x (portA_inBlocks hn (by decide))).trans (setNat_alters _ _ y (portA_inBlocks hn (by decide)))).trans
    (setBit_alters _ _ 30 b (portA_inBlocks hn (by decide) 30))

theorem setPort_alters (c : Chip) (n : Nat) (x : CorePort) (hn : n < 8) : c.Alters (inBlocks [HOI]) (c.setPort n x) := by
  have hreq := portA_inBlocks hn (o := 0x110) (by decide) 31
  unfold Chip.setPort
  dsimp only
  split
  · exact .after (showNext_alters _ hn ..) (.after (setBit_alters _ _ 31 _ hreq) (.of_words rfl rfl rfl))
  · exact .after (showNext_alters _ hn ..) (.after (setBit_alters _ _ 31 _ hreq) (.of_words rfl rfl rfl))

theorem setInst_alters (c : Chip) (i : Nat) (x : Inst) : c.Alters (inBlocks [HOI]) (c.setInst i x) :=
  .after (setFld_alters _ (dK i 13) 28 4 _ fun j _ _ => inBlocks_store _ _ i 13 j) (.of_words rfl rfl rfl)

theorem offer_alters (c : Chip) (n i : Nat) (hn : n < 8) : c.Alters (inBlocks [HOI]) (c.offer n i) :=
  (setInst_alters c i _).trans (setPort_alters _ n _ hn)

theorem unoffer_alters (c : Chip) (n : Nat) (hn : n < 8) : c.Alters (inBlocks [HOI]) (c.unoffer n) := by
  unfold Chip.unoffer
  split
  · exact (setInst_alters c _ _).trans (setPort_alters _ n _ hn)
  · exact .refl _ c

theorem reoffer_alters (c : Chip) (n : Nat) (hn : n < 8) : c.Alters (inBlocks [HOI]) (c.reoffer n) := by
  unfold Chip.reoffer
  dsimp only
  split
  · exact .refl _ c
  · refine .ite (unoffer_alters c n hn) ?_
    split
    · exact .ite ((unoffer_alters c n hn).trans (offer_alters _ n _ hn)) (.refl _ c)
    · exact .refl _ c

theorem shedCores_alters (c : Chip) : c.Alters (inBlocks [HOI]) c.shedCores := by
  refine (each_alters _ _ (fun c n hn => ?_) c).trans (each_alters _ _ (fun c n hn => reoffer_alters c n ?_) _)
  · dsimp only
    split
    · exact .ite (setPort_alters c n _ (List.mem_range.1 hn)) (.refl _ c)
    · exact .refl _ c
  · exact List.mem_range.1 hn

/-! ### The pins of the pairs: the PWM Array alone -/

theorem pwmK_inBlocks {l : List Nat} (h : PWM ∈ l) {p o : Nat} (hp : p < 96) (ho : o < 4096) (j : Nat) : inBlocks l (pwmK p o) j :=
  inBlocks_page h (by decide) (by omega) ho j

theorem refreshPair_alters (c : Chip) (p : Nat) :
    c.Alters (fun k _ => k = pwmK p 0x108 ∨ k = pwmK p PG_EVT_RAW ∨ k = pwmK p PG_EVT_PEND) (c.refreshPair p) :=
  (setFld_alters c _ 28 4 _ fun _ _ _ => .inl rfl).trans
    (level_alters _ PWM (1 + p) 5 _ (.inr (.inl rfl)) (.inr (.inr rfl)))

/-- What the refreshing of a pair alters lies in its page. -/
theorem refreshPair_alters_inBlocks {l : List Nat} (h : PWM ∈ l) (c : Chip) (p : Nat) (hp : p < 96) :
    c.Alters (inBlocks l) (c.refreshPair p) := by
  refine (refreshPair_alters c p).mono ?_
  rintro k j (rfl | rfl | rfl)
  · exact pwmK_inBlocks h hp (by decide) j
  · exact pwmK_inBlocks h hp (by decide) j
  · exact pwmK_inBlocks h hp (by decide) j

theorem pwmPins_alters (c : Chip) (owned : Bool) : c.Alters (inBlocks [PWM]) (c.pwmPins owned) := by
  refine each_alters _ _ (fun c p hp => ?_) c
  have hp := List.mem_range.1 hp
  refine .after (refreshPair_alters_inBlocks (by simp) _ p hp) (.ite (cause_alters c PWM (1 + p) 6 ?_ ?_) (.refl _ c))
  · exact pwmK_inBlocks (by simp) hp (by decide) 6
  · exact pwmK_inBlocks (by simp) hp (by decide) 6

/-! ### Status bits of the Dipstick -/

/-- A status bit alters itself, and the event registers of its page (R55). -/
theorem dipBit_alters (c : Chip) (i : Nat) (v : Bool) (cause : Option Nat) (hi : S aDipStat i)
    (hr : ∀ j, S (dipA PG_EVT_RAW) j) (hp : ∀ j, S (dipA PG_EVT_PEND) j) : c.Alters S (c.dipBit i v cause) := by
  have hset := setBit_alters c aDipStat i v hi
  cases cause with
  | none => exact hset
  | some n => exact .ite (hset.trans (cause_alters _ DIP 0 n (hr n) (hp n))) hset

/-- The bit stands as it is put. -/
theorem dipBit_bit (c : Chip) (i : Nat) (v : Bool) (cause : Option Nat) (hi : i < 32) :
    (c.dipBit i v cause).bit aDipStat i = v := by
  have hset := Chip.bit_setBit_same c aDipStat i v hi
  cases cause with
  | none => exact hset
  | some n =>
    have hcause := cause_alters (S := fun k _ => k ≠ aDipStat) (c.setBit aDipStat i v) DIP 0 n (by decide) (by decide)
    simp only [Chip.dipBit]
    split
    · exact (hcause.bit aDipStat i (by simp)).trans hset
    · exact hset

theorem paiA_inBlocks {l : List Nat} (h : PAI ∈ l) {o : Nat} (ho : o < 4096) (j : Nat) : inBlocks l (paiA o) j :=
  inBlocks_page h (by decide) (by decide) ho j

theorem tlyA_inBlocks {l : List Nat} (h : TLY ∈ l) {o : Nat} (ho : o < 4096) (j : Nat) : inBlocks l (tlyA o) j :=
  inBlocks_page h (by decide) (by decide) ho j

theorem dipA_inBlocks {l : List Nat} (h : DIP ∈ l) {o : Nat} (ho : o < 4096) (j : Nat) : inBlocks l (dipA o) j :=
  inBlocks_page h (by decide) (by decide) ho j

theorem safA_inBlocks {l : List Nat} (h : SAF ∈ l) {o : Nat} (ho : o < 4096) (j : Nat) : inBlocks l (safA o) j :=
  inBlocks_page h (by decide) (by decide) ho j

theorem tlyFlush_alters (c : Chip) (r : Nat) : c.Alters (inBlocks [TLY]) (c.tlyFlush r) := by
  have hp (j : Nat) := tlyA_inBlocks (l := [TLY]) (o := 0x104) (by simp) (by decide) j
  unfold Chip.tlyFlush
  refine .ite (.refl _ c) ?_
  split
  · exact (setBit_alters c (tlyA 0x104) r true (hp r)).keep rfl rfl rfl
  · have hbegun := (setFld_alters c (tlyA 0x104) 0 5 (2 ^ r) fun j _ _ => hp j).trans (setBit_alters _ _ 30 true (hp 30))
    exact .after (setBit_alters _ _ 31 _ (hp 31)) (hbegun.keep rfl rfl rfl)

theorem safReq_alters (c : Chip) (off : Nat) (d : Word) (h : off < 4096) : c.Alters (inBlocks [SAF]) (c.safReq off d) := by
  have hp {o : Nat} (ho : o < 4096) (j : Nat) := safA_inBlocks (l := [SAF]) (by simp) ho j
  have hset := setNat_alters c (safA off) (if off = 0x128 && c.maintenance then 0xFFFF else getBits d 0 16) (hp h)
  exact .ite hset ((hset.trans (count_alters _ _ _ (hp (by decide)))).trans
    (cause_alters _ SAF 0 0 (hp (by decide) 0) (hp (by decide) 0)))

theorem safSurrender_alters (c : Chip) : c.Alters (inBlocks [SAF]) c.safSurrender :=
  (safReq_alters c 0x124 _ (by decide)).trans (safReq_alters _ 0x128 _ (by decide))

theorem qstopNext_alters (c : Chip) (a : Nat) : c.Alters S (c.qstopNext a) := .ite (.refl S c) (.of_words rfl rfl rfl)

theorem setSurrendered_alters (c : Chip) : c.Alters (inBlocks [DIP, TLY]) c.setSurrendered :=
  (dipBit_alters c 4 true _ (dipA_inBlocks (by simp) (by decide) 4) (dipA_inBlocks (by simp) (by decide))
    (dipA_inBlocks (by simp) (by decide))).trans ((tlyFlush_alters _ 1).mono (inBlocks_mono (by simp)))

theorem setSurrendered_bit (c : Chip) : c.setSurrendered.bit aDipStat 4 = true :=
  ((tlyFlush_alters _ 1).bit aDipStat 4 (by unfold inBlocks; decide)).trans (dipBit_bit c 4 true _ (by decide))

/-! ### A new role (R493 to R495) -/

theorem tally_alters (c : Chip) (k v : Nat) : c.Alters S (c.tally k v) := .of_words rfl rfl rfl
theorem out_alters (c : Chip) (o : Out) : c.Alters S (c.out o) := .of_words rfl rfl rfl
theorem holdDown_alters (c : Chip) : c.Alters S c.holdDown := .of_words rfl rfl rfl

theorem setAligned_alters (c : Chip) (b : Bool) (hp : S aPaiStat 23) (ht : S aTimStat 3) : c.Alters S (c.setAligned b) :=
  (setBit_alters c _ 23 b hp).trans (setBit_alters _ _ 3 b ht)

theorem toRole_alters (c : Chip) (r : Nat) (latch : Bool) : c.Alters (inBlocks [PAI, TIM, PWM]) (c.toRole r latch) := by
  have hp {o : Nat} (ho : o < 4096) (j : Nat) := paiA_inBlocks (l := [PAI, TIM, PWM]) (by simp) ho j
  have hcause (c : Chip) (i : Nat) := cause_alters c PAI 0 i (hp (o := PG_EVT_RAW) (by decide) i) (hp (by decide) i)
  unfold Chip.toRole
  refine .after (holdDown_alters _) (.after (.ite (.refl _ _) ((pwmPins_alters _ _).mono (inBlocks_mono (by simp))))
    (.after (.ite (.refl _ _) (setAligned_alters _ _ (hp (by decide) 23) ?_)) (.after (.ite (.refl _ _) ?_) (.of_words rfl rfl rfl))))
  · exact inBlocks_page (by simp) (by decide) (by decide) (by decide) 3
  · exact .after (.when (hcause _ 1)) (.after (tally_alters ..) (.after (hcause _ 0)
      (.after (count_alters _ _ 1 (hp (by decide))) (setFld_alters _ _ 28 4 r fun j _ _ => hp (by decide) j))))

/-- The role is the one taken (R493). -/
theorem toRole_role (c : Chip) (r : Nat) (latch : Bool) (hr : r < 16) : (c.toRole r latch).role = r := by
  have hcause (c : Chip) (i : Nat) := cause_alters (S := fun k j => ¬ (k = aPaiStat ∧ 28 ≤ j)) c PAI 0 i
    (fun h => absurd h.1 (by decide)) (fun h => absurd h.1 (by decide))
  unfold Chip.toRole
  refine (Chip.Alters.fld (S := fun k j => ¬ (k = aPaiStat ∧ 28 ≤ j)) (.after (holdDown_alters _)
    (.after (.ite (.refl _ _) ((pwmPins_alters _ _).mono ?_)) (.ite (.refl _ _) (setAligned_alters _ _ (by decide) (by decide)))))
    aPaiStat 28 4 ?_).trans ?_
  · rintro k j hk ⟨rfl, -⟩
    exact not_inBlocks_page (by decide) (by decide) (by decide) (by decide) j hk
  · intro j hj _ h; exact h ⟨rfl, hj⟩
  · split
    · next h => exact h
    · refine (Chip.Alters.fld (.after (.when (hcause _ 1)) (.after (tally_alters ..) (.after (hcause _ 0)
        (count_alters _ _ 1 fun _ h => absurd h.1 (by decide))))) aPaiStat 28 4 ?_).trans ?_
      · intro j hj _ h; exact h ⟨rfl, hj⟩
      · exact (Chip.fld_setFld_same _ _ 28 4 r (by decide)).trans (Nat.mod_eq_of_lt hr)

end Sys2Proof.Machine
end

section
/-! PROOFS. The draws on the memory (R48), and the expiry of the floor timer (R35, R506, R507). -/

namespace Sys2Proof.Machine

/-! ### Memory draws (R48) -/

/-- The machine with the draws of the nine consumers published. -/
def Chip.memDraws (c : Chip) (draws : List Nat) : Chip :=
  c.each (List.range 9) fun c k => c.setNat (memA (0x140 + 4 * k)) (draws.getD k 0)

/-- The draws are published, one word each. -/
theorem memDraws_draw (c : Chip) (draws : List Nat) (k : Nat) (hk : k < 9) :
    (c.memDraws draws).nat (memA (0x140 + 4 * k)) = draws.getD k 0 % 2 ^ 32 := by
  refine each_establishes (P := fun k c => c.nat (memA (0x140 + 4 * k)) = draws.getD k 0 % 2 ^ 32) _ _
    (fun c x _ => ?_) (fun c x y _ _ h => ?_) c k (List.mem_range.2 hk)
  · simp [Chip.nat, Chip.word_setNat]
  · rw [Chip.nat, Chip.word_setNat]
    split
    · next he =>
      obtain rfl : y = x := by simp only [memA, pageAddr] at he; omega
      exact BitVec.toNat_ofNat ..
    · exact h

/-- They alter nothing else. -/
theorem memDraws_alters (c : Chip) (draws : List Nat) :
    c.Alters (fun k _ => memA 0x140 ≤ k ∧ k < memA 0x164) (c.memDraws draws) := by
  refine each_alters _ _ (fun c k hk => setNat_alters c _ _ fun _ => ?_) c
  have := List.mem_range.1 hk
  simp only [memA, pageAddr]; omega

/-- The reservations are those of before. -/
theorem memDraws_over_iff (c : Chip) (draws : List Nat) :
    ((List.range 9).any fun k => draws.getD k 0 > (c.memDraws draws).nat (memA (0x110 + 4 * k))) = true ↔
      ∃ k < 9, c.nat (memA (0x110 + 4 * k)) < draws.getD k 0 := by
  simp only [List.any_eq_true, List.mem_range, decide_eq_true_eq]
  refine exists_congr fun k => and_congr_right fun hk => ?_
  rw [(memDraws_alters c draws).nat]
  intro _
  simp only [memA, pageAddr]; omega

/-- A draw beyond its reservation is counted and raised as OVER; the draws stand as published. -/
theorem memInterval_cases (c : Chip) (draws : List Nat) :
    (∃ k < 9, c.nat (memA (0x110 + 4 * k)) < draws.getD k 0) ∧
        c.memInterval draws = ((c.memDraws draws).count (memA 0x03C)).cause MEM 0 1 ∨
      (¬ ∃ k < 9, c.nat (memA (0x110 + 4 * k)) < draws.getD k 0) ∧ c.memInterval draws = c.memDraws draws := by
  rw [← memDraws_over_iff]
  change _ ∧ (if _ then _ else _) = _ ∨ _ ∧ (if _ then _ else _) = _
  split
  · next h => exact .inl ⟨h, rfl⟩
  · next h => exact .inr ⟨h, rfl⟩

/-- Raising a cause of the page alters its event registers alone. -/
theorem memCause_alters (c : Chip) :
    c.Alters (fun k _ => k = memA PG_EVT_RAW ∨ k = memA PG_EVT_PEND) (c.cause MEM 0 1) :=
  cause_alters c MEM 0 1 (.inl rfl) (.inr rfl)

theorem memInterval_draw (c : Chip) (draws : List Nat) (k : Nat) (hk : k < 9) :
    (c.memInterval draws).nat (memA (0x140 + 4 * k)) = draws.getD k 0 % 2 ^ 32 := by
  rw [← memDraws_draw c draws k hk]
  obtain ⟨-, h⟩ | ⟨-, h⟩ := memInterval_cases c draws
  · rw [h, (memCause_alters _).nat, (count_alters (S := fun k _ => k = memA 0x03C) _ _ 1 fun _ => rfl).nat]
    · intro _; simp only [memA, pageAddr]; omega
    · intro _; simp only [memA, pageAddr, PG_EVT_RAW, PG_EVT_PEND]; omega
  · rw [h]

/-- The count of draws beyond a reservation is none of the words published. -/
theorem memDraws_count (c : Chip) (draws : List Nat) : (c.memDraws draws).nat (memA 0x03C) = c.nat (memA 0x03C) :=
  (memDraws_alters c draws).nat _ fun _ => by decide

theorem memInterval_over (c : Chip) (draws : List Nat) (h : ∃ k < 9, c.nat (memA (0x110 + 4 * k)) < draws.getD k 0) :
    (c.memInterval draws).nat (memA 0x03C) = min (2 ^ 32 - 1) (c.nat (memA 0x03C) + 1) ∧
      (c.memInterval draws).bit (memA PG_EVT_RAW) 1 = true := by
  obtain ⟨-, e⟩ | ⟨hn, -⟩ := memInterval_cases c draws
  · rw [e]
    constructor
    · rw [(memCause_alters _).nat _ fun _ => by decide, Chip.nat_count_same, memDraws_count]
    · exact cause_raises _ MEM 0 1 (by decide)
  · exact absurd h hn

theorem memInterval_within (c : Chip) (draws : List Nat) (h : ∀ k < 9, draws.getD k 0 ≤ c.nat (memA (0x110 + 4 * k))) :
    (c.memInterval draws).nat (memA 0x03C) = c.nat (memA 0x03C) := by
  obtain ⟨⟨k, hk, hlt⟩, -⟩ | ⟨-, e⟩ := memInterval_cases c draws
  · exact absurd hlt (Nat.not_lt.2 (h k hk))
  · rw [e, memDraws_count]

/-! ### Giving up control (R35, R506, R507) -/

/-- Two registers of pair pages at different offsets are different words. -/
theorem pwmK_ne {p q o o' : Nat} (ho : o < 4096) (ho' : o' < 4096) (h : o ≠ o') : pwmK p o ≠ pwmK q o' := by
  simp only [pwmK, pageAddr]; omega

/-- The request for SS1 forces off each pair of the list, and leaves the other pairs. -/
theorem forcePair_bit (c : Chip) (p : Nat) : ((c.setBit (pwmK p 0x104) 0 true).refreshPair p).bit (pwmK p 0x104) 0 = true := by
  rw [(refreshPair_alters _ p).bit, Chip.bit_setBit_same _ _ _ _ (by decide)]
  simp [pwmK_ne, PG_EVT_RAW, PG_EVT_PEND]

theorem forcePair_keeps (c : Chip) (p q : Nat) (h : c.bit (pwmK q 0x104) 0 = true) :
    ((c.setBit (pwmK p 0x104) 0 true).refreshPair p).bit (pwmK q 0x104) 0 = true := by
  rw [(refreshPair_alters _ p).bit, Chip.bit_setBit _ _ _ _ _ _ (by decide), h, ite_self]
  simp [pwmK_ne, PG_EVT_RAW, PG_EVT_PEND]

theorem forcePair_alters (c : Chip) (p : Nat) (hp : p < 96) :
    c.Alters (inBlocks [SAF, PWM]) ((c.setBit (pwmK p 0x104) 0 true).refreshPair p) :=
  (setBit_alters c _ 0 true (pwmK_inBlocks (by simp) hp (by decide) 0)).trans
    (refreshPair_alters_inBlocks (by simp) _ p hp)

/-- The Safety Unit and the axes are asked first. -/
theorem ss1Asked_alters (c : Chip) :
    c.Alters (inBlocks [SAF]) (c.safSurrender.each c.safSurrender.prf.enabled fun c a => c.qstopNext a) :=
  (safSurrender_alters c).trans (each_alters _ _ (fun c a _ => qstopNext_alters c a) _)

theorem ss1Request_alters (c : Chip) : c.Alters (inBlocks [SAF, PWM]) c.ss1Request := by
  refine ((ss1Asked_alters c).mono (inBlocks_mono (by simp))).trans (each_alters _ _ (fun c p hp => ?_) _)
  exact forcePair_alters c p (List.mem_range.1 (List.mem_filter.1 hp).1)

/-- Every pair that no safety group governs is forced off (R35). -/
theorem ss1Request_forces (c : Chip) (p : Nat) (hp : p < 96) (h : c.bit (pwmK p 0x100) 24 = false) :
    c.ss1Request.bit (pwmK p 0x104) 0 = true := by
  refine each_establishes (P := fun p c => c.bit (pwmK p 0x104) 0 = true) _ _ (fun c p _ => forcePair_bit c p)
    (fun c p q _ _ => forcePair_keeps c p q) _ p ?_
  rw [List.mem_filter, (ss1Asked_alters c).bit, h]
  · exact ⟨List.mem_range.2 hp, rfl⟩
  · exact not_inBlocks_page (by decide) (by decide) (by omega) (by decide) 24

theorem giveUpAlone_dip (c : Chip) : c.giveUpAlone.dip = c.dip :=
  (setSurrendered_alters _).dip.trans (ss1Request_alters c).dip

theorem giveUpAlone_forces (c : Chip) (p : Nat) (hp : p < 96) (h : c.bit (pwmK p 0x100) 24 = false) :
    c.giveUpAlone.bit (pwmK p 0x104) 0 = true := by
  rw [← ss1Request_forces c p hp h]
  exact (setSurrendered_alters _).bit _ 0 (not_inBlocks_page (by decide) (by decide) (by omega) (by decide) 0)

theorem paiAbort_alters (c : Chip) : c.Alters (inBlocks [PAI]) c.paiAbort := by
  have hp {o : Nat} (ho : o < 4096) (j : Nat) := paiA_inBlocks (l := [PAI]) (by simp) ho j
  have hset := (setBit_alters c aPaiStat 19 false (hp (o := 0x108) (by decide) 19))
  exact .ite (.after (setNat_alters _ _ _ (hp (by decide))) (hset.keep rfl rfl rfl)) (hset.keep rfl rfl rfl)

theorem framesCut_alters (c : Chip) : c.Alters (fun _ _ => True) c.framesCut := by
  refine .after (each_alters _ _ (fun c n _ => ?_) _) (.of_words rfl rfl rfl)
  dsimp only
  split
  · exact .refl _ c
  · exact .after (setBit_alters _ _ _ _ trivial) (.after (setBit_alters _ _ _ _ trivial) (.of_words rfl rfl rfl))

theorem paiRelease_alters (c : Chip) (cause : Nat) : c.Alters (fun _ _ => True) (c.paiRelease cause) := by
  have hany {l : List Nat} (k j : Nat) (_ : inBlocks l k j) : True := trivial
  refine .after (cause_alters _ PAI 0 3 trivial trivial) (.after (tally_alters ..) (.after ((tlyFlush_alters _ 1).mono hany)
    (.after (out_alters ..) (.after ((toRole_alters _ 7 false).mono hany) (.after (framesCut_alters _) ?_)))))
  exact .after ((paiAbort_alters _).mono hany) (setFld_alters c _ 16 8 cause fun _ _ _ => trivial)

/-- A lead without a ready twin surrenders as a module without a twin (R506). -/
theorem paiSurrender_alone (c : Chip) (cause : Nat) (h : c.role = 3) (hr : c.bit aPaiStat 24 = false) :
    c.paiSurrender cause = ((c.setFld (paiA 0x124) 16 8 cause).paiAbort).giveUpAlone := by
  simp [Chip.paiSurrender, h, hr]

theorem paiSurrender_twin (c : Chip) (cause : Nat) (h : c.role = 3) (hr : c.bit aPaiStat 24 = true) :
    c.paiSurrender cause = c.paiRelease cause := by
  simp [Chip.paiSurrender, h, hr]

/-- The floor timer no longer waits for its expiry. -/
def Chip.timerRead (c : Chip) : Chip := { c with dip := { c.dip with expired := false } }

/-- What the expiry of the floor timer does by the module's role (R35, R37, R506). -/
theorem floorExpired_eq (c : Chip) (he : c.dip.expired = true) :
    c.floorExpired =
      if c.role = 3 then (if c.bit aPaiStat 24 then (c.timerRead.paiSurrender 6).setSurrendered else c.timerRead.paiSurrender 6)
      else if c.role ≤ 2 then c.timerRead.giveUpAlone
      else c.timerRead := by
  unfold Chip.floorExpired
  rw [he]
  rfl

/-- The module before it gives up control alone: its twin, where it has one, is told (R506). -/
theorem floorExpired_alone (c : Chip) (he : c.dip.expired = true) (h : c.role ≤ 2 ∨ c.role = 3 ∧ c.bit aPaiStat 24 = false) :
    ∃ c', c.timerRead.Alters (inBlocks [PAI]) c' ∧ c.floorExpired = c'.giveUpAlone := by
  rw [floorExpired_eq c he]
  rcases h with h | ⟨h, hr⟩
  · exact ⟨c.timerRead, .refl _ _, by rw [if_neg (by omega), if_pos h]⟩
  · refine ⟨_, ?_, by rw [if_pos h, if_neg (by simp [hr]), paiSurrender_alone c.timerRead 6 h hr]⟩
    exact (setFld_alters _ _ 16 8 6 fun j _ _ => paiA_inBlocks (by simp) (by decide) j).trans (paiAbort_alters _)

theorem floorExpired_twin (c : Chip) (he : c.dip.expired = true) (h : c.role = 3) (hr : c.bit aPaiStat 24 = true) :
    c.floorExpired = (c.timerRead.paiRelease 6).setSurrendered := by
  rw [floorExpired_eq c he, if_pos h, if_pos hr, paiSurrender_twin c.timerRead 6 h hr]

theorem floorExpired_elsewhere (c : Chip) (he : c.dip.expired = true) (h : 4 ≤ c.role) : c.floorExpired = c.timerRead := by
  rw [floorExpired_eq c he, if_neg (by omega), if_neg (by omega)]

/-- A module that leads or works alone surrenders: the wait ends, and SURRENDERED shows. -/
theorem floorExpired_surrenders (c : Chip) (he : c.dip.expired = true) (h : c.role ≤ 3) :
    c.floorExpired.dip.expired = false ∧ c.floorExpired.bit aDipStat 4 = true := by
  by_cases hr : c.role = 3 ∧ c.bit aPaiStat 24 = true
  · rw [floorExpired_twin c he hr.1 hr.2, (setSurrendered_alters _).dip, (paiRelease_alters _ 6).dip]
    exact ⟨rfl, setSurrendered_bit _⟩
  · obtain ⟨c', hc', e⟩ := floorExpired_alone c he (by
      rcases Nat.lt_or_ge c.role 3 with h2 | h3
      · exact .inl (by omega)
      · exact .inr ⟨by omega, Bool.eq_false_iff.2 fun hb => hr ⟨by omega, hb⟩⟩)
    rw [e, giveUpAlone_dip, hc'.dip]
    exact ⟨rfl, setSurrendered_bit _⟩

/-- Without a ready twin every pair that no safety group governs is forced off. -/
theorem floorExpired_forces (c : Chip) (he : c.dip.expired = true) (h : c.role ≤ 2 ∨ c.role = 3 ∧ c.bit aPaiStat 24 = false)
    (p : Nat) (hp : p < 96) (hg : c.bit (pwmK p 0x100) 24 = false) : c.floorExpired.bit (pwmK p 0x104) 0 = true := by
  obtain ⟨c', hc', e⟩ := floorExpired_alone c he h
  rw [e]
  refine giveUpAlone_forces c' p hp ((hc'.bit _ 24 ?_).trans hg)
  exact not_inBlocks_page (by decide) (by decide) (by omega) (by decide) 24

end Sys2Proof.Machine
end

section
/-! PROOFS. A window of the Dipstick (R27, R31, R34, R35, R503), and recovery (R37). -/

namespace Sys2Proof.Machine

variable {S : Nat → Nat → Prop} {c c' : Chip}

/-! ### A window's results (R27, R52) -/

/-- A new result writes its two words, and what is kept with them (R16, R19, R21). -/
theorem newResult_writes (c : Chip) (a : Nat) (data : Word) (info : Nat) (s : Stamp) :
    ∃ low f l, c.newResult a data info s = { (c.setNat a low).setWord (a + 4) data with fresh := f, stamps := l } :=
  ⟨_, _, _, rfl⟩

theorem newResult_alters (c : Chip) (a : Nat) (data : Word) (info : Nat) (s : Stamp) (h : ∀ j, S a j) (h' : ∀ j, S (a + 4) j) :
    c.Alters S (c.newResult a data info s) := by
  obtain ⟨low, f, l, e⟩ := newResult_writes c a data info s
  rw [e]
  exact ((setNat_alters c a low h).trans (setWord_alters _ (a + 4) data h')).keep rfl rfl rfl

/-- The upper word of a result is its data (R16). -/
theorem newResult_word (c : Chip) (a : Nat) (data : Word) (info : Nat) (s : Stamp) :
    (c.newResult a data info s).word (a + 4) = data := by
  obtain ⟨low, f, l, e⟩ := newResult_writes c a data info s
  rw [e]
  exact Chip.word_setWord_same (c.setNat a low) (a + 4) data

/-- The machine with the pace of every region published. -/
def Chip.regionPaces (c : Chip) (paces : List Nat) : Chip :=
  c.each (List.range 16) fun c n => c.newResult (dipA (0x808 + 8 * n)) (BitVec.ofNat 32 (paces.getD n 0)) n c.now

theorem regionPaces_alters (c : Chip) (paces : List Nat) :
    c.Alters (fun k _ => dipA 0x808 ≤ k ∧ k < dipA 0x888) (c.regionPaces paces) := by
  refine each_alters _ _ (fun c n hn => newResult_alters c _ _ n _ (fun _ => ?_) fun _ => ?_) c
  · have := List.mem_range.1 hn
    simp only [dipA, pageAddr]; omega
  · have := List.mem_range.1 hn
    simp only [dipA, pageAddr]; omega

theorem regionPaces_pace (c : Chip) (paces : List Nat) (n : Nat) (hn : n < 16) :
    (c.regionPaces paces).nat (dipA (0x80C + 8 * n)) = paces.getD n 0 % 2 ^ 32 := by
  have hkey (n : Nat) : dipA (0x80C + 8 * n) = dipA (0x808 + 8 * n) + 4 := by simp only [dipA, pageAddr]; omega
  refine each_establishes (P := fun n c => c.nat (dipA (0x80C + 8 * n)) = paces.getD n 0 % 2 ^ 32) _ _
    (fun c x _ => ?_) (fun c x y _ _ h => ?_) c n (List.mem_range.2 hn)
  · rw [Chip.nat, hkey, newResult_word]
    exact BitVec.toNat_ofNat ..
  · by_cases hxy : y = x
    · subst hxy
      rw [Chip.nat, hkey, newResult_word]
      exact BitVec.toNat_ofNat ..
    · rw [← h]
      refine (newResult_alters (S := fun k _ => k = dipA (0x808 + 8 * x) ∨ k = dipA (0x808 + 8 * x) + 4) c _ _ x _
        (fun _ => .inl rfl) fun _ => .inr rfl).nat _ fun _ => ?_
      simp only [dipA, pageAddr]; omega

/-- The bits `P` of DIP_STAT, and the event registers of its page. -/
def dipBits (P : Nat → Prop) (k j : Nat) : Prop := k = aDipStat ∧ P j ∨ k = dipA PG_EVT_RAW ∨ k = dipA PG_EVT_PEND

theorem dipBit_alters_dipBits {P : Nat → Prop} (c : Chip) (i : Nat) (v : Bool) (cause : Option Nat) (hi : P i) :
    c.Alters (dipBits P) (c.dipBit i v cause) :=
  dipBit_alters c i v cause (.inl ⟨rfl, hi⟩) (fun _ => .inr (.inl rfl)) fun _ => .inr (.inr rfl)

/-- A register of the page other than DIP_STAT and the event registers is none of these bits. -/
theorem not_dipBits_of_ne (P : Nat → Prop) {o : Nat} (h : o ≠ 0x108 ∧ o ≠ PG_EVT_RAW ∧ o ≠ PG_EVT_PEND) (j : Nat) :
    ¬ dipBits P (dipA o) j := by
  simp only [dipBits, aDipStat, dipA, pageAddr, PG_EVT_RAW, PG_EVT_PEND] at h ⊢; omega

theorem not_dipBits_stat {P : Nat → Prop} {j : Nat} (h : ¬ P j) : ¬ dipBits P aDipStat j := by
  rintro (⟨-, hj⟩ | h' | h')
  · exact h hj
  · exact absurd h' (by decide)
  · exact absurd h' (by decide)

/-- The machine with a window's results published: the lowest pace `p` with its region `r`, and the pace of each region (R27, R52). -/
def Chip.windowResults (c : Chip) (paces : List Nat) (p r : Nat) : Chip :=
  let c := (c.newResult (dipA 0x800) (BitVec.ofNat 32 p) r c.now).regionPaces paces
  (c.setFld aDipStat 8 4 r).dipBit 5 (p = 0) (some 6)

/-- The bits of DIP_STAT that a window publishes: PACE_ZERO and the region. -/
def regionBits (j : Nat) : Prop := j = 5 ∨ 8 ≤ j ∧ j < 12

/-- What the results alter: their words, the region and PACE_ZERO in DIP_STAT, and the event registers. -/
def resultBits (k j : Nat) : Prop := dipA 0x800 ≤ k ∧ k < dipA 0x888 ∨ dipBits regionBits k j

theorem windowResults_alters (c : Chip) (paces : List Nat) (p r : Nat) : c.Alters resultBits (c.windowResults paces p r) := by
  have hleast := newResult_alters (S := resultBits) c (dipA 0x800) (BitVec.ofNat 32 p) r c.now
    (fun _ => .inl (by decide)) fun _ => .inl (by decide)
  have hpaces (c : Chip) : c.Alters resultBits (c.regionPaces paces) := by
    refine (regionPaces_alters c paces).mono fun k _ h => .inl ⟨?_, h.2⟩
    simp only [dipA, pageAddr] at h ⊢; omega
  have hregion (c : Chip) : c.Alters resultBits (c.setFld aDipStat 8 4 r) :=
    setFld_alters c _ 8 4 r fun _ h h' => .inr (.inl ⟨rfl, .inr ⟨h, h'⟩⟩)
  have hzero (c : Chip) : c.Alters resultBits (c.dipBit 5 (p = 0) (some 6)) :=
    (dipBit_alters_dipBits (P := regionBits) c 5 _ _ (.inl rfl)).mono fun _ _ h => Or.inr h
  exact ((hleast.trans (hpaces _)).trans (hregion _)).trans (hzero _)

/-- PACE_ZERO and the region leave the words of the results. -/
theorem windowResults_nat (c : Chip) (paces : List Nat) (p r o : Nat) (h : 0x800 ≤ o) :
    (c.windowResults paces p r).nat (dipA o) =
      ((c.newResult (dipA 0x800) (BitVec.ofNat 32 p) r c.now).regionPaces paces).nat (dipA o) := by
  refine Chip.Alters.nat (S := dipBits fun _ => True) (.after (dipBit_alters_dipBits _ 5 _ _ trivial)
    (setFld_alters _ _ 8 4 r fun j _ _ => .inl ⟨rfl, trivial⟩)) _ (not_dipBits_of_ne _ ?_)
  simp only [PG_EVT_RAW, PG_EVT_PEND]; omega

theorem windowResults_least (c : Chip) (paces : List Nat) (p r : Nat) :
    (c.windowResults paces p r).nat (dipA 0x804) = p % 2 ^ 32 := by
  rw [windowResults_nat _ _ _ _ _ (by decide), (regionPaces_alters _ paces).nat _ (fun _ => by decide), Chip.nat,
    show dipA 0x804 = dipA 0x800 + 4 from rfl, newResult_word]
  exact BitVec.toNat_ofNat ..

theorem windowResults_pace (c : Chip) (paces : List Nat) (p r n : Nat) (hn : n < 16) :
    (c.windowResults paces p r).nat (dipA (0x80C + 8 * n)) = paces.getD n 0 % 2 ^ 32 := by
  rw [windowResults_nat _ _ _ _ _ (by omega), regionPaces_pace _ paces n hn]

theorem windowResults_region (c : Chip) (paces : List Nat) (p r : Nat) :
    (c.windowResults paces p r).fld aDipStat 8 4 = r % 16 := by
  unfold Chip.windowResults
  rw [(dipBit_alters_dipBits (P := (· = 5)) _ 5 _ _ rfl).fld _ 8 4 fun j h _ => not_dipBits_stat (by omega)]
  exact Chip.fld_setFld_same _ _ 8 4 r (by decide)

/-! ### PACE_LOW and the core voltage (R31, R34) -/

/-- The machine with other counts behind the Dipstick's page. -/
def Chip.withDip (c : Chip) (d : Dip) : Chip := { c with dip := d }

@[simp] theorem withDip_bit (c : Chip) (d : Dip) (k j : Nat) : (c.withDip d).bit k j = c.bit k j := rfl
@[simp] theorem withDip_fld (c : Chip) (d : Dip) (k lo n : Nat) : (c.withDip d).fld k lo n = c.fld k lo n := rfl
@[simp] theorem withDip_nat (c : Chip) (d : Dip) (k : Nat) : (c.withDip d).nat k = c.nat k := rfl
@[simp] theorem withDip_laneFloor (c : Chip) (d : Dip) : (c.withDip d).laneFloor = c.laneFloor := rfl
@[simp] theorem withDip_dip (c : Chip) (d : Dip) : (c.withDip d).dip = d := rfl

theorem Chip.Alters.withDip (h : c.Alters S c') (d : Dip) : (c.withDip d).Alters S (c'.withDip d) := ⟨h.bit, rfl, h.laneFloor⟩

/-- The bits that PACE_LOW alters: its own, and its event count. -/
def lowBits (k j : Nat) : Prop := k = dipA 0x110 ∨ dipBits (· = 0) k j

/-- The bits that the core voltage alters: its register, and VCORE_MAX. -/
def voltageBits (k j : Nat) : Prop := k = dipA 0x10C ∨ dipBits (· = 3) k j

/-- PACE_LOW leaves the count of windows at or above the floor. -/
theorem paceLow_alters (c : Chip) (p : Nat) : ∃ d, d.good = c.dip.good ∧ (c.withDip d).Alters lowBits (c.paceLow p) := by
  have hbit (c : Chip) (v : Bool) (cause : Option Nat) : c.Alters lowBits (c.dipBit 0 v cause) :=
    (dipBit_alters_dipBits (P := (· = 0)) c 0 v cause rfl).mono fun _ _ h => Or.inr h
  suffices h : ∃ n, (c.withDip { c.dip with lowClear := n }).Alters lowBits (c.paceLow p) by
    obtain ⟨n, h⟩ := h
    exact ⟨{ c.dip with lowClear := n }, rfl, h⟩
  unfold Chip.paceLow
  dsimp only
  split
  · refine ⟨0, .after (hbit _ true (some 0)) ?_⟩
    split
    · exact .refl _ _
    · exact count_alters (c.withDip _) _ 1 fun _ => .inl rfl
  split
  · exact ⟨c.dip.lowClear, .refl _ _⟩
  split
  · exact ⟨0, .refl _ _⟩
  split
  · exact ⟨0, hbit _ false none⟩
  · exact ⟨c.dip.lowClear + 1, .refl _ _⟩

/-- At or below 1.05 of the floor PACE_LOW is set. -/
theorem paceLow_sets (c : Chip) (p : Nat) (h : p * 100 ≤ 105 * c.laneFloor) : (c.paceLow p).bit aDipStat 0 = true := by
  unfold Chip.paceLow
  dsimp only
  rw [if_pos h]
  exact dipBit_bit _ 0 true _ (by decide)

/-- Above it a PACE_LOW that is clear stays so. -/
theorem paceLow_idle (c : Chip) (p : Nat) (h : 105 * c.laneFloor < p * 100) (hb : c.bit aDipStat 0 = false) : c.paceLow p = c := by
  unfold Chip.paceLow
  dsimp only
  rw [if_neg (by omega), if_pos (by simp [hb])]

theorem vcoreStep_alters (c : Chip) (p : Nat) : c.Alters voltageBits (c.vcoreStep p) := by
  have hmax (c : Chip) (v : Bool) : c.Alters voltageBits (c.dipBit 3 v (some 3)) :=
    (dipBit_alters_dipBits (P := (· = 3)) c 3 v (some 3) rfl).mono fun _ _ h => Or.inr h
  exact .after (hmax _ _) (setFld_alters c _ 0 16 _ fun _ _ _ => .inl rfl)

/-- With PACE_LOW clear a pace below TARGET raises the core voltage by 5 mV, up to 800 mV (R31). -/
theorem vcoreStep_raises (c : Chip) (p : Nat) (hb : c.bit aDipStat 0 = false) (h : p < c.fld (dipA 0x104) 0 16) :
    (c.vcoreStep p).fld (dipA 0x10C) 0 16 = min 800 (c.fld (dipA 0x10C) 0 16 + 5) := by
  unfold Chip.vcoreStep
  simp only [hb, h, Bool.false_eq_true, if_false, if_true]
  rw [(dipBit_alters_dipBits (P := (· = 3)) _ 3 _ _ rfl).fld _ 0 16 fun j _ _ => not_dipBits_of_ne _ (by decide) j,
    Chip.fld_setFld_same _ _ 0 16 _ (by decide)]
  omega

/-! ### PACE_FLOOR and shedding (R35) -/

/-- The bits that PACE_FLOOR alters: itself, SHEDDING, the floor timer, its event count, and Hoist. -/
def floorBits (k j : Nat) : Prop :=
  k = dipA 0x114 ∨ dipBits (fun j => j = 1 ∨ j = 2 ∨ 16 ≤ j ∧ j < 22) k j ∨ inBlocks [HOI] k j

theorem floorTimer_alters (c : Chip) (v : Nat) : c.Alters floorBits (c.setFld aDipStat 16 6 v) :=
  setFld_alters c _ 16 6 v fun _ h h' => .inr (.inl (.inl ⟨rfl, .inr (.inr ⟨h, h'⟩)⟩))

theorem floorBit_alters (c : Chip) (i : Nat) (v : Bool) (cause : Option Nat) (hi : i = 1 ∨ i = 2) :
    c.Alters floorBits (c.dipBit i v cause) :=
  (dipBit_alters_dipBits c i v cause (hi.imp_right .inl)).mono fun _ _ h => .inr (.inl h)

/-- With PACE_FLOOR set the tenth window in a row at or above the floor ends it. -/
theorem paceFloor_recovers (c : Chip) (p : Nat) (hb : c.bit aDipStat 1 = true) (hp : c.laneFloor ≤ p) (hg : 9 ≤ c.dip.good) :
    c.paceFloor p = ((((c.withDip { c.dip with good := 0, expired := false }).dipBit 1 false none).dipBit 2 false none).setFld
      aDipStat 16 6 0) := by
  have hten : c.dip.good + 1 ≥ 10 := by omega
  simp only [Chip.paceFloor, hb, hp, ge_iff_le, decide_true, if_true]
  rw [if_pos hten]
  rfl

/-- Any other window counts on the floor timer. -/
theorem paceFloor_waits (c : Chip) (p : Nat) (hb : c.bit aDipStat 1 = true) (h : c.laneFloor ≤ p → c.dip.good < 9) :
    ∃ d, c.paceFloor p = (c.setFld aDipStat 16 6 (min 50 (c.fld aDipStat 16 6 + 1))).withDip d := by
  have hten : ¬ (if decide (p ≥ c.laneFloor) then c.dip.good + 1 else 0) ≥ 10 := by
    split
    · next hp => have := h (of_decide_eq_true hp); omega
    · decide
  simp only [Chip.paceFloor, hb, if_true]
  rw [if_neg hten]
  exact ⟨_, rfl⟩

theorem paceFloor_idle (c : Chip) (p : Nat) (hb : c.bit aDipStat 1 = false) (hp : c.laneFloor ≤ p) : c.paceFloor p = c := by
  simp [Chip.paceFloor, hb, hp]

/-- A window below the floor sets PACE_FLOOR and SHEDDING, and counts. -/
theorem paceFloor_falls (c : Chip) (p : Nat) (hb : c.bit aDipStat 1 = false) (hp : p < c.laneFloor) :
    ∃ d, c.paceFloor p = (((((c.count (dipA 0x114)).setFld aDipStat 16 6 0).dipBit 1 true (some 1)).dipBit 2 true none).withDip
      d).shedCores := by
  have hn : decide (p ≥ c.laneFloor) = false := decide_eq_false (by omega)
  simp only [Chip.paceFloor, hb, hn, Bool.false_eq_true, if_false]
  exact ⟨_, rfl⟩

theorem paceFloor_alters (c : Chip) (p : Nat) : ∃ d, (c.withDip d).Alters floorBits (c.paceFloor p) := by
  have hones (c : Chip) (v v' : Bool) (cause : Option Nat) : c.Alters floorBits ((c.dipBit 1 v cause).dipBit 2 v' none) :=
    (floorBit_alters c 1 v cause (.inl rfl)).trans (floorBit_alters _ 2 v' none (.inr rfl))
  by_cases hb : c.bit aDipStat 1 = true
  · by_cases h : c.laneFloor ≤ p ∧ 9 ≤ c.dip.good
    · rw [paceFloor_recovers c p hb h.1 h.2]
      exact ⟨_, (hones _ false false none).trans (floorTimer_alters _ 0)⟩
    · obtain ⟨d, e⟩ := paceFloor_waits c p hb fun hp => by have := h ∘ And.intro hp; omega
      rw [e]
      exact ⟨d, (floorTimer_alters c _).withDip d⟩
  · have hb : c.bit aDipStat 1 = false := by simpa using hb
    by_cases hp : c.laneFloor ≤ p
    · rw [paceFloor_idle c p hb hp]
      exact ⟨c.dip, .refl _ _⟩
    · obtain ⟨d, e⟩ := paceFloor_falls c p hb (by omega)
      rw [e]
      have hcount := count_alters (S := floorBits) c (dipA 0x114) 1 fun _ => .inl rfl
      exact ⟨d, (((hcount.trans (floorTimer_alters _ 0)).trans (hones _ true true (some 1))).withDip d).trans
        ((shedCores_alters _).mono fun _ _ h => .inr (.inr h))⟩

theorem paceFloor_recovers_stat (c : Chip) (p : Nat) (hb : c.bit aDipStat 1 = true) (hp : c.laneFloor ≤ p) (hg : 9 ≤ c.dip.good) :
    (c.paceFloor p).bit aDipStat 1 = false ∧ (c.paceFloor p).bit aDipStat 2 = false ∧ (c.paceFloor p).fld aDipStat 16 6 = 0 := by
  have htimer (c : Chip) := setFld_alters (S := fun _ j => 16 ≤ j) c aDipStat 16 6 0 fun _ h _ => h
  rw [paceFloor_recovers c p hb hp hg]
  refine ⟨?_, ?_, Chip.fld_setFld_same _ _ 16 6 0 (by decide)⟩
  · rw [(htimer _).bit _ 1 (by decide), (dipBit_alters_dipBits (P := (· = 2)) _ 2 _ _ rfl).bit _ 1 (not_dipBits_stat (by decide))]
    exact dipBit_bit _ 1 false none (by decide)
  · rw [(htimer _).bit _ 2 (by decide)]
    exact dipBit_bit _ 2 false none (by decide)

theorem paceFloor_waits_stat (c : Chip) (p : Nat) (hb : c.bit aDipStat 1 = true) (hp : p < c.laneFloor) :
    (c.paceFloor p).bit aDipStat 1 = true ∧ (c.paceFloor p).fld aDipStat 16 6 = min 50 (c.fld aDipStat 16 6 + 1) := by
  obtain ⟨d, e⟩ := paceFloor_waits c p hb fun h => absurd h (by omega)
  rw [e, withDip_bit, withDip_fld, (setFld_alters (S := fun _ j => 16 ≤ j) c aDipStat 16 6 _ fun _ h _ => h).bit _ 1 (by decide),
    Chip.fld_setFld_same _ _ 16 6 _ (by decide)]
  exact ⟨hb, by omega⟩

theorem paceFloor_falls_stat (c : Chip) (p : Nat) (hb : c.bit aDipStat 1 = false) (hp : p < c.laneFloor) :
    (c.paceFloor p).bit aDipStat 1 = true ∧ (c.paceFloor p).bit aDipStat 2 = true ∧ (c.paceFloor p).fld aDipStat 16 6 = 0 ∧
      (c.paceFloor p).nat (dipA 0x114) = min (2 ^ 32 - 1) (c.nat (dipA 0x114) + 1) := by
  obtain ⟨d, e⟩ := paceFloor_falls c p hb hp
  have hdip {o : Nat} (ho : o < 4096) (j : Nat) : ¬ inBlocks [HOI] (dipA o) j :=
    not_inBlocks_page (by decide) (by decide) (by decide) ho j
  have hstat (j : Nat) : ¬ inBlocks [HOI] aDipStat j := hdip (o := 0x108) (by decide) j
  have h1 (c : Chip) (v : Bool) (cause : Option Nat) := dipBit_alters_dipBits (P := (· = 1)) c 1 v cause rfl
  have h2 (c : Chip) (v : Bool) (cause : Option Nat) := dipBit_alters_dipBits (P := (· = 2)) c 2 v cause rfl
  rw [e]
  refine ⟨?_, ?_, ?_, ?_⟩
  · rw [(shedCores_alters _).bit _ _ (hstat 1), withDip_bit, (h2 ..).bit _ 1 (not_dipBits_stat (by decide))]
    exact dipBit_bit _ 1 true (some 1) (by decide)
  · rw [(shedCores_alters _).bit _ _ (hstat 2), withDip_bit]
    exact dipBit_bit _ 2 true none (by decide)
  · rw [(shedCores_alters _).fld _ _ _ fun j _ _ => hstat j, withDip_fld, (h2 ..).fld _ 16 6 fun j h _ => not_dipBits_stat (by omega),
      (h1 ..).fld _ 16 6 fun j h _ => not_dipBits_stat (by omega)]
    exact Chip.fld_setFld_same _ _ 16 6 0 (by decide)
  · rw [(shedCores_alters _).nat _ (hdip (by decide)), withDip_nat, (h2 ..).nat _ (not_dipBits_of_ne _ (by decide)),
      (h1 ..).nat _ (not_dipBits_of_ne _ (by decide)),
      (setFld_alters (S := fun k _ => k = aDipStat) _ _ 16 6 0 fun _ _ _ => rfl).nat _ (fun _ => by decide)]
    exact Chip.nat_count_same c _

/-! ### A whole window -/

theorem withDip_withDip (c : Chip) (d d' : Dip) : (c.withDip d).withDip d' = c.withDip d' := rfl

theorem not_lowBits {o : Nat} (h : o ≠ 0x108 ∧ o ≠ 0x110 ∧ o ≠ PG_EVT_RAW ∧ o ≠ PG_EVT_PEND) (j : Nat) :
    ¬ lowBits (dipA o) j := by
  rintro (he | he)
  · simp only [dipA, pageAddr] at he; omega
  · exact not_dipBits_of_ne _ ⟨h.1, h.2.2⟩ j he

theorem not_voltageBits {o : Nat} (h : o ≠ 0x108 ∧ o ≠ 0x10C ∧ o ≠ PG_EVT_RAW ∧ o ≠ PG_EVT_PEND) (j : Nat) :
    ¬ voltageBits (dipA o) j := by
  rintro (he | he)
  · simp only [dipA, pageAddr] at he; omega
  · exact not_dipBits_of_ne _ ⟨h.1, h.2.2⟩ j he

theorem not_floorBits {o : Nat} (ho : o < 4096) (h : o ≠ 0x108 ∧ o ≠ 0x114 ∧ o ≠ PG_EVT_RAW ∧ o ≠ PG_EVT_PEND) (j : Nat) :
    ¬ floorBits (dipA o) j := by
  rintro (he | he | he)
  · simp only [dipA, pageAddr] at he; omega
  · exact not_dipBits_of_ne _ ⟨h.1, h.2.2⟩ j he
  · exact not_inBlocks_page (by decide) (by decide) (by decide) ho j he

theorem not_resultBits {o : Nat} (h : o ≠ 0x108 ∧ o ≠ PG_EVT_RAW ∧ o ≠ PG_EVT_PEND) (ho : o < 0x800) (j : Nat) :
    ¬ resultBits (dipA o) j := by
  rintro (he | he)
  · simp only [dipA, pageAddr] at he; omega
  · exact not_dipBits_of_ne _ h j he

theorem not_lowBits_stat {j : Nat} (h : j ≠ 0) : ¬ lowBits aDipStat j := by
  rintro (he | he)
  · exact absurd he (by decide)
  · exact not_dipBits_stat h he

theorem not_voltageBits_stat {j : Nat} (h : j ≠ 3) : ¬ voltageBits aDipStat j := by
  rintro (he | he)
  · exact absurd he (by decide)
  · exact not_dipBits_stat h he

theorem not_floorBits_stat {j : Nat} (h : j ≠ 1 ∧ j ≠ 2 ∧ (j < 16 ∨ 22 ≤ j)) : ¬ floorBits aDipStat j := by
  rintro (he | he | he)
  · exact absurd he (by decide)
  · exact not_dipBits_stat (by omega) he
  · exact not_inBlocks_page (by decide) (by decide) (by decide) (by decide) j he

theorem not_resultBits_stat {j : Nat} (h : j ≠ 5 ∧ (j < 8 ∨ 12 ≤ j)) : ¬ resultBits aDipStat j := by
  rintro (he | he)
  · exact absurd he.1 (by decide)
  · exact not_dipBits_stat (by unfold regionBits; omega) he

section
variable (c : Chip) (paces : List Nat)

/-- The machine in the course of a window: its results published, PACE_LOW decided, and the core voltage stepped. -/
def Chip.afterResults : Chip := c.windowResults paces (minPace paces).1 (minPace paces).2
def Chip.afterLow : Chip := (c.afterResults paces).paceLow (minPace paces).1
def Chip.afterVoltage : Chip := (c.afterLow paces).vcoreStep (minPace paces).1

theorem afterResults_alters : c.Alters resultBits (c.afterResults paces) := windowResults_alters ..

theorem afterLow_alters : ∃ d, d.good = (c.afterResults paces).dip.good ∧
    ((c.afterResults paces).withDip d).Alters lowBits (c.afterLow paces) := paceLow_alters ..

theorem afterVoltage_alters_afterLow : (c.afterLow paces).Alters voltageBits (c.afterVoltage paces) := vcoreStep_alters ..

/-- A window publishes its results, and then acts on the lowest pace. -/
theorem dipWindow_eq_paceFloor : c.dipWindow paces = ((c.afterVoltage paces).paceFloor (minPace paces).1).tlyWindow := by
  unfold Chip.dipWindow Chip.afterVoltage Chip.afterLow Chip.afterResults
  generalize minPace paces = least
  rfl

theorem dipWindow_bit (k j : Nat) :
    (c.dipWindow paces).bit k j = ((c.afterVoltage paces).paceFloor (minPace paces).1).bit k j := by
  rw [dipWindow_eq_paceFloor]; rfl

theorem dipWindow_fld (k lo n : Nat) :
    (c.dipWindow paces).fld k lo n = ((c.afterVoltage paces).paceFloor (minPace paces).1).fld k lo n := by
  rw [dipWindow_eq_paceFloor]; rfl

theorem dipWindow_nat (k : Nat) :
    (c.dipWindow paces).nat k = ((c.afterVoltage paces).paceFloor (minPace paces).1).nat k := by
  rw [dipWindow_eq_paceFloor]; rfl

/-- What PACE_FLOOR does last. -/
theorem dipWindow_alters_afterVoltage : ∃ d, ((c.afterVoltage paces).withDip d).Alters floorBits (c.dipWindow paces) := by
  obtain ⟨d, h⟩ := paceFloor_alters (c.afterVoltage paces) (minPace paces).1
  rw [dipWindow_eq_paceFloor]
  exact ⟨d, h.keep rfl rfl rfl⟩

theorem dipWindow_alters_afterLow :
    ∃ d, ((c.afterLow paces).withDip d).Alters (fun k j => voltageBits k j ∨ floorBits k j) (c.dipWindow paces) := by
  obtain ⟨d, h⟩ := dipWindow_alters_afterVoltage c paces
  exact ⟨d, ((afterVoltage_alters_afterLow c paces).withDip d).or h⟩

theorem dipWindow_alters_afterResults :
    ∃ d, ((c.afterResults paces).withDip d).Alters (fun k j => lowBits k j ∨ voltageBits k j ∨ floorBits k j)
      (c.dipWindow paces) := by
  obtain ⟨d, h⟩ := dipWindow_alters_afterLow c paces
  obtain ⟨n, -, hlow⟩ := afterLow_alters c paces
  have hlow := hlow.withDip d
  rw [withDip_withDip] at hlow
  exact ⟨d, hlow.or h⟩

/-- What comes before PACE_FLOOR leaves the count of good windows. -/
theorem afterVoltage_alters : ∃ d, d.good = c.dip.good ∧
    (c.withDip d).Alters (fun k j => (resultBits k j ∨ lowBits k j) ∨ voltageBits k j) (c.afterVoltage paces) := by
  have hresults := afterResults_alters c paces
  obtain ⟨d, hd, hlow⟩ := afterLow_alters c paces
  exact ⟨d, hd.trans (congrArg Dip.good hresults.dip), ((hresults.withDip d).or hlow).or (afterVoltage_alters_afterLow c paces)⟩

theorem afterVoltage_laneFloor : (c.afterVoltage paces).laneFloor = c.laneFloor := by
  obtain ⟨d, -, h⟩ := afterVoltage_alters c paces
  exact h.laneFloor

theorem afterVoltage_good : (c.afterVoltage paces).dip.good = c.dip.good := by
  obtain ⟨d, hd, h⟩ := afterVoltage_alters c paces
  rw [h.dip]
  exact hd

/-- What comes before PACE_FLOOR leaves the bits of DIP_STAT that it decides on and counts with. -/
theorem not_early_stat {j : Nat} (h : j = 1 ∨ 16 ≤ j) :
    ¬ ((resultBits aDipStat j ∨ lowBits aDipStat j) ∨ voltageBits aDipStat j) := by
  have h1 : ¬ resultBits aDipStat j := not_resultBits_stat (by omega)
  have h2 : ¬ lowBits aDipStat j := not_lowBits_stat (by omega)
  have h3 : ¬ voltageBits aDipStat j := not_voltageBits_stat (by omega)
  simp [h1, h2, h3]

theorem afterVoltage_floor : (c.afterVoltage paces).bit aDipStat 1 = c.bit aDipStat 1 := by
  obtain ⟨d, -, h⟩ := afterVoltage_alters c paces
  exact h.bit aDipStat 1 (not_early_stat (by omega))

theorem afterVoltage_timer : (c.afterVoltage paces).fld aDipStat 16 6 = c.fld aDipStat 16 6 := by
  obtain ⟨d, -, h⟩ := afterVoltage_alters c paces
  exact h.fld aDipStat 16 6 fun j hj _ => not_early_stat (by omega)

theorem afterVoltage_count : (c.afterVoltage paces).nat (dipA 0x114) = c.nat (dipA 0x114) := by
  obtain ⟨d, -, h⟩ := afterVoltage_alters c paces
  refine h.nat _ fun j => ?_
  simp [not_resultBits (o := 0x114) (by decide) (by decide) j, not_lowBits (o := 0x114) (by decide) j,
    not_voltageBits (o := 0x114) (by decide) j]

/-! ### What a window shows -/

/-- The words of the results stand through the rest of the window. -/
theorem dipWindow_result {o : Nat} (h : 0x800 ≤ o) (ho : o < 4096) :
    (c.dipWindow paces).nat (dipA o) = (c.afterResults paces).nat (dipA o) := by
  obtain ⟨d, hd⟩ := dipWindow_alters_afterResults c paces
  rw [hd.nat, withDip_nat]
  intro j
  have hn : o ≠ 0x108 ∧ o ≠ 0x10C ∧ o ≠ 0x110 ∧ o ≠ 0x114 ∧ o ≠ PG_EVT_RAW ∧ o ≠ PG_EVT_PEND := by
    simp only [PG_EVT_RAW, PG_EVT_PEND]; omega
  obtain ⟨n1, n2, n3, n4, n5⟩ := hn
  simp [not_lowBits ⟨n1, n3, n5⟩ j, not_voltageBits ⟨n1, n2, n5⟩ j, not_floorBits ho ⟨n1, n4, n5⟩ j]

theorem dipWindow_least : (c.dipWindow paces).nat (dipA 0x804) = (minPace paces).1 % 2 ^ 32 := by
  rw [dipWindow_result c paces (by decide) (by decide)]
  exact windowResults_least ..

theorem dipWindow_pace (n : Nat) (hn : n < 16) : (c.dipWindow paces).nat (dipA (0x80C + 8 * n)) = paces.getD n 0 % 2 ^ 32 := by
  rw [dipWindow_result c paces (by omega) (by omega)]
  exact windowResults_pace _ _ _ _ n hn

theorem dipWindow_region : (c.dipWindow paces).fld aDipStat 8 4 = (minPace paces).2 % 16 := by
  obtain ⟨d, hd⟩ := dipWindow_alters_afterResults c paces
  rw [← windowResults_region c paces (minPace paces).1, hd.fld, withDip_fld, Chip.afterResults]
  intro j h h'
  simp [not_lowBits_stat (j := j) (by omega), not_voltageBits_stat (j := j) (by omega), not_floorBits_stat (j := j) (by omega)]

/-- PACE_LOW stands as the window decides it. -/
theorem dipWindow_low : (c.dipWindow paces).bit aDipStat 0 = (c.afterLow paces).bit aDipStat 0 := by
  obtain ⟨d, hd⟩ := dipWindow_alters_afterLow c paces
  rw [hd.bit, withDip_bit]
  simp [not_voltageBits_stat (j := 0) (by decide), not_floorBits_stat (j := 0) (by decide)]

theorem dipWindow_low_set (h : (minPace paces).1 * 100 ≤ 105 * c.laneFloor) : (c.dipWindow paces).bit aDipStat 0 = true := by
  rw [dipWindow_low]
  exact paceLow_sets _ _ (by rwa [(afterResults_alters c paces).laneFloor])

/-- With PACE_LOW clear and the pace above 1.05 of the floor the window leaves PACE_LOW clear. -/
theorem afterLow_idle (hb : c.bit aDipStat 0 = false) (h : 105 * c.laneFloor < (minPace paces).1 * 100) :
    c.afterLow paces = c.afterResults paces := by
  have hres := afterResults_alters c paces
  refine paceLow_idle _ _ ?_ ?_
  · rwa [hres.laneFloor]
  · rw [hres.bit _ 0 (not_resultBits_stat (by decide)), hb]

theorem dipWindow_low_clear (hb : c.bit aDipStat 0 = false) (h : 105 * c.laneFloor < (minPace paces).1 * 100) :
    (c.dipWindow paces).bit aDipStat 0 = false := by
  rw [dipWindow_low, afterLow_idle c paces hb h, ← hb]
  exact (afterResults_alters c paces).bit _ 0 (not_resultBits_stat (by decide))

theorem dipWindow_voltage (hb : c.bit aDipStat 0 = false) (h : 105 * c.laneFloor < (minPace paces).1 * 100)
    (ht : (minPace paces).1 < c.fld (dipA 0x104) 0 16) :
    (c.dipWindow paces).fld (dipA 0x10C) 0 16 = min 800 (c.fld (dipA 0x10C) 0 16 + 5) := by
  have hres := afterResults_alters c paces
  have hfld {o : Nat} (ho : o ≠ 0x108 ∧ o ≠ PG_EVT_RAW ∧ o ≠ PG_EVT_PEND) (ho' : o < 0x800) :
      (c.afterResults paces).fld (dipA o) 0 16 = c.fld (dipA o) 0 16 := hres.fld _ 0 16 fun j _ _ => not_resultBits ho ho' j
  obtain ⟨d, hd⟩ := dipWindow_alters_afterVoltage c paces
  rw [hd.fld _ 0 16 fun j _ _ => not_floorBits (by decide) (by decide) j, withDip_fld, Chip.afterVoltage, afterLow_idle c paces hb h,
    vcoreStep_raises, hfld (by decide) (by decide)]
  · rw [hres.bit _ 0 (not_resultBits_stat (by decide)), hb]
  · rwa [hfld (by decide) (by decide)]

/-- A window below the floor. -/
theorem dipWindow_falls (hb : c.bit aDipStat 1 = false) (hp : (minPace paces).1 < c.laneFloor) :
    (c.dipWindow paces).bit aDipStat 1 = true ∧ (c.dipWindow paces).bit aDipStat 2 = true ∧
      (c.dipWindow paces).fld aDipStat 16 6 = 0 ∧
      (c.dipWindow paces).nat (dipA 0x114) = min (2 ^ 32 - 1) (c.nat (dipA 0x114) + 1) := by
  rw [dipWindow_bit, dipWindow_bit, dipWindow_fld, dipWindow_nat, ← afterVoltage_count c paces]
  exact paceFloor_falls_stat _ _ (by rw [afterVoltage_floor, hb]) (by rwa [afterVoltage_laneFloor])

theorem dipWindow_stays (hb : c.bit aDipStat 1 = false) (hp : c.laneFloor ≤ (minPace paces).1) :
    (c.dipWindow paces).bit aDipStat 1 = false := by
  rw [dipWindow_bit, paceFloor_idle, afterVoltage_floor, hb]
  · rw [afterVoltage_floor, hb]
  · rwa [afterVoltage_laneFloor]

theorem dipWindow_recovers (hb : c.bit aDipStat 1 = true) (hp : c.laneFloor ≤ (minPace paces).1) (hg : 9 ≤ c.dip.good) :
    (c.dipWindow paces).bit aDipStat 1 = false ∧ (c.dipWindow paces).bit aDipStat 2 = false ∧
      (c.dipWindow paces).fld aDipStat 16 6 = 0 := by
  rw [dipWindow_bit, dipWindow_bit, dipWindow_fld]
  exact paceFloor_recovers_stat _ _ (by rw [afterVoltage_floor, hb]) (by rwa [afterVoltage_laneFloor])
    (by rwa [afterVoltage_good])

theorem dipWindow_waits (hb : c.bit aDipStat 1 = true) (hp : (minPace paces).1 < c.laneFloor) :
    (c.dipWindow paces).bit aDipStat 1 = true ∧ (c.dipWindow paces).fld aDipStat 16 6 = min 50 (c.fld aDipStat 16 6 + 1) := by
  rw [dipWindow_bit, dipWindow_fld, ← afterVoltage_timer c paces]
  exact paceFloor_waits_stat _ _ (by rw [afterVoltage_floor, hb]) (by rwa [afterVoltage_laneFloor])

/-! ### What the pair makes of a window (R503, R510) -/

/-- The role is no register of the Dipstick or of Hoist. -/
theorem dipWindow_role : (c.dipWindow paces).role = c.role := by
  obtain ⟨d, hlate⟩ := dipWindow_alters_afterVoltage c paces
  obtain ⟨e, -, hearly⟩ := afterVoltage_alters c paces
  have hblocks (P : Nat → Prop) (j : Nat) : ¬ dipBits P aPaiStat j := by
    rintro (⟨h, -⟩ | h | h)
    all_goals exact absurd h (by decide)
  have hhoist (j : Nat) : ¬ inBlocks [HOI] aPaiStat j := not_inBlocks_page (by decide) (by decide) (by decide) (by decide) j
  rw [Chip.role, Chip.role, hlate.fld, withDip_fld, hearly.fld, withDip_fld]
  · intro j _ _
    have h1 : ¬ (dipA 0x800 ≤ aPaiStat ∧ aPaiStat < dipA 0x888) := by decide
    have h2 : aPaiStat ≠ dipA 0x110 ∧ aPaiStat ≠ dipA 0x10C := by decide
    simp [resultBits, lowBits, voltageBits, hblocks, h1, h2]
  · intro j _ _
    have h1 : aPaiStat ≠ dipA 0x114 := by decide
    simp [floorBits, hblocks, hhoist, h1]

end

theorem tellStatus_words (c : Chip) : c.tellStatus.words = c.words := by
  unfold Chip.tellStatus Chip.when
  split <;> rfl

theorem tellStatus_alters (c : Chip) : c.Alters S c.tellStatus := .when (out_alters _ _)

/-- PACE_LOW newly set touches the hold-down and what the twin is told alone. -/
theorem paceSeen_eq (c old : Chip) : ∃ c' : Chip, c.paceSeen old = c'.readyCheck ∧ c'.words = c.words := by
  refine ⟨_, rfl, ?_⟩
  split
  · unfold Chip.when
    split
    · exact tellStatus_words _
    · rfl
  · rfl

/-- At a module that is no ready standby a window has no further effect on any word. -/
theorem paceSeen_words (c old : Chip) (h5 : c.role ≠ 5) (h6 : c.role ≠ 6) : (c.paceSeen old).words = c.words := by
  obtain ⟨c', e, hw⟩ := paceSeen_eq c old
  have hrole : c'.role = c.role := fld_of_words hw ..
  rw [e, Chip.readyCheck, if_neg (by rw [hrole]; simp [h5, h6]), hw]

/-- Below the floor a standby is not ready (R503). -/
theorem unready_of_paceFloor (c : Chip) (cycles : Nat) (link : Bool) (h : c.bit aDipStat 1 = true) : c.unready cycles link ≠ 0 := by
  unfold Chip.unready
  rw [h]
  split_ifs <;> simp_all

theorem toSyncing_role (c : Chip) (why : Nat) : (c.toSyncing why).role = 4 := by
  rw [Chip.toSyncing, Chip.role, fld_of_words (tellStatus_words _)]
  exact toRole_role _ 4 false (by decide)

theorem toSyncing_alters (c : Chip) (why : Nat) : c.Alters (inBlocks [PAI, TIM, PWM]) (c.toSyncing why) := by
  have hrole := ((setFld_alters c (paiA 0x124) 8 8 why fun j _ _ => paiA_inBlocks (by simp) (by decide) j).trans
    (setFld_alters _ (timA 0x130) 26 3 2 fun j _ _ => inBlocks_page (by simp) (by decide) (by decide) (by decide) j)).trans
    (toRole_alters _ 4 false)
  exact hrole.trans (tellStatus_alters _)

/-- A ready standby below the floor leaves the ready state (R503). -/
theorem paceSeen_standby (c old : Chip) (h : c.role = 5 ∨ c.role = 6) (hb : c.bit aDipStat 1 = true) :
    (c.paceSeen old).role = 4 ∧ (c.paceSeen old).bit aDipStat 1 = true := by
  obtain ⟨c', e, hw⟩ := paceSeen_eq c old
  have hrole : c'.role = 5 ∨ c'.role = 6 := by rwa [Chip.role, fld_of_words hw]
  have hb' : c'.bit aDipStat 1 = true := by rwa [bit_of_words hw]
  rw [e, Chip.readyCheck, if_pos (by simpa using hrole)]
  dsimp only
  rw [if_neg (unready_of_paceFloor c' 2 false hb')]
  refine ⟨toSyncing_role c' _, ((toSyncing_alters c' _).bit _ 1 ?_).trans hb'⟩
  exact not_inBlocks_page (by decide) (by decide) (by decide) (by decide) 1

/-! ### Recovery (R37) -/

theorem paceRecovered_eq (c : Chip) (h : c.bit aDipStat 1 = false) :
    c.paceRecovered = c.withDip { c.dip with recovered := true } := by
  rw [Chip.paceRecovered, h]; rfl

/-- Settles O17, each clause by what its part of the windows shows. -/
theorem paceAndMemoryWindows : Obligations.PaceAndMemoryWindows := by
  unfold Obligations.PaceAndMemoryWindows
  intro s
  refine ⟨fun paces hacts => ⟨fun h5 h6 => ?_, fun hrole hb hp => ?_⟩, fun hacts he => ?_, fun hacts hb => ?_,
    fun draws hacts => ?_⟩
  · have hw := paceSeen_words (s.chip.dipWindow paces) s.chip (by rwa [dipWindow_role]) (by rwa [dipWindow_role])
    refine ⟨_, event_acts s DIP 0 _ hacts, ?_⟩
    simp only [settle_nat, settle_fld, settle_bit, nat_of_words hw, fld_of_words hw, bit_of_words hw]
    exact ⟨dipWindow_least _ paces, dipWindow_region _ paces, dipWindow_pace _ paces, dipWindow_falls _ paces, dipWindow_stays _ paces,
      dipWindow_recovers _ paces, dipWindow_waits _ paces, dipWindow_low_set _ paces,
      fun hb h => ⟨dipWindow_low_clear _ paces hb h, dipWindow_voltage _ paces hb h⟩⟩
  · exact ⟨_, event_acts s DIP 0 _ hacts, paceSeen_standby _ s.chip (by rwa [dipWindow_role]) (dipWindow_falls _ paces hb hp).1⟩
  · refine ⟨_, event_acts s DIP 0 _ hacts, ?_, fun h => (floorExpired_surrenders s.chip he h).2,
      fun h p hp => floorExpired_forces s.chip he h p hp, fun h => ?_⟩
    · by_cases h : s.chip.role ≤ 3
      · exact (floorExpired_surrenders s.chip he h).1
      · rw [settle_dip, floorExpired_elsewhere s.chip he (by omega)]; rfl
    · rw [settle_words, floorExpired_elsewhere s.chip he h]; rfl
  · refine ⟨_, event_acts s DIP 0 _ hacts, ?_⟩
    beta_reduce
    rw [settle_dip, settle_words, paceRecovered_eq s.chip hb]
    exact ⟨rfl, rfl⟩
  · exact ⟨_, event_acts s MEM 0 _ hacts, memInterval_draw s.chip draws, memInterval_over s.chip draws,
      memInterval_within s.chip draws⟩

end Sys2Proof.Machine
end

section
/-! PROOFS. Which row of the register map serves an address (R56, R67), and what a write of one word comes to once the register window
takes it (R9, R70). -/

namespace Sys2Proof.Machine

/-! ### Rows of the register map -/

theorem findRow_skip {r : RegRow} {rows : List RegRow} {o : Nat} (h : r.hit o = none) : findRow (r :: rows) o = findRow rows o := by
  simp [findRow, h]

theorem findRow_take {r : RegRow} {rows : List RegRow} {o : Nat} {x : RegHit} (h : r.hit o = some x) :
    findRow (r :: rows) o = some x := by
  simp [findRow, h]

theorem hit_below {r : RegRow} {o : Nat} (h : o < r.off) : r.hit o = none := by simp [RegRow.hit, h]

/-- Behind the last repeat, or between the words of two repeats. -/
theorem hit_outside {r : RegRow} {o : Nat} (hc : r.count ≠ 1)
    (h : r.count ≤ (o - r.off) / r.stride ∨ r.words ≤ (o - r.off) % r.stride / 4) : r.hit o = none := by
  have hn : ¬ ((o - r.off) / r.stride < r.count ∧ (o - r.off) % r.stride / 4 < r.words) := by omega
  by_cases ho : o < r.off
  · exact hit_below ho
  · simp [RegRow.hit, ho, hc, hn]

/-- A register that stands once does not reach behind its words. -/
theorem hit_behind {r : RegRow} {o : Nat} (hc : r.count = 1) (h : r.words ≤ (o - r.off) / 4) : r.hit o = none := by
  have hn : ¬ (o - r.off) / 4 < r.words := by omega
  by_cases ho : o < r.off
  · exact hit_below ho
  · simp [RegRow.hit, ho, hc, hn]

/-- The first word of repeat `i`. -/
theorem hit_repeat {r : RegRow} {o i : Nat} (hc : r.count ≠ 1) (hs : 0 < r.stride) (hw : 0 < r.words) (hi : i < r.count)
    (ho : o = r.off + r.stride * i) : r.hit o = some ⟨r, i, 0⟩ := by
  subst ho
  simp [RegRow.hit, hc, hs, hw, hi]

/-- Word `w` of a register that stands once. -/
theorem hit_single {r : RegRow} {o w : Nat} (hc : r.count = 1) (hw : w < r.words) (ho : o = r.off + 4 * w) :
    r.hit o = some ⟨r, 0, w⟩ := by
  subst ho
  simp [RegRow.hit, hc, hw]

/-! ### Result words lie elsewhere (R17) -/

theorem resultAt_tw (part : Part) {a : Nat} (h : isTw a = true) : resultAt part a = none := by simp [resultAt, h]

theorem resultAt_below (part : Part) {a : Nat} (h : offOf a < 0x800) : resultAt part a = none := by
  unfold resultAt
  split
  · rfl
  · simp only [h, if_true]

/-! ### Implemented words and their rows (R58) -/

theorem implemented_iff_row (part : Part) {a : Nat} (h : resultAt part a = none) :
    implemented part a = true ↔ (rowAt part a).isSome = true := by
  simp [implemented, h]

theorem rowAt_tw (part : Part) {a : Nat} (h : isTw a = true) (hi : implemented part a = true) :
    rowAt part a = findRow (twRows (blockOf a)) (twOf a) := by
  rw [implemented_iff_row part (resultAt_tw part h)] at hi
  unfold rowAt at hi ⊢
  rw [if_pos h] at hi ⊢
  split
  · next he => simp [he] at hi
  · rfl

/-- A word of a page that is implemented lies in the header or among the registers of its block. -/
theorem rowAt_page (part : Part) {b i o : Nat} (hb : b < 32) (hi : i < 128) (ho : o < 0x800)
    (h : implemented part (pageAddr b i o) = true) :
    rowAt part (pageAddr b i o) = if o < 0x034 then findRow headerRows o else findRow (blockRows b i) o := by
  have hoff := offOf_pageAddr b i o (by omega)
  rw [implemented_iff_row part (resultAt_below part (by omega))] at h
  unfold rowAt at h ⊢
  rw [isTw_pageAddr b i o hi (by omega), blockOf_pageAddr b i o hb hi (by omega), instOf_pageAddr b i o hi (by omega), hoff] at h ⊢
  simp only [Bool.false_eq_true, if_false] at h ⊢
  split
  · rfl
  · next he => simp [he] at h

/-! ### The key of a word (R104, R586) -/

theorem regKey_tw (c : Chip) (m : Nat) {a : Nat} (h : isTw a = true) : c.regKey m a false = a := by
  simp [Chip.regKey, isBell, h]

/-- Outside the pages that show each master its own words a word stands under its address. -/
theorem regKey_page (c : Chip) (m : Nat) {b i o : Nat} (hb : b < 32) (hi : i < 128) (ho : o < 4096)
    (h : b ≠ MBX ∨ bellOwn o = false) (h' : b ≠ CNV ∧ b ≠ ADT ∨ o < 0x300) : c.regKey m (pageAddr b i o) false = pageAddr b i o := by
  have hbell : (isBell (pageAddr b i o) && bellOwn o) = false := by
    rcases h with h | h <;> simp [isBell, blockOf_pageAddr b i o hb hi ho, h]
  simp only [Chip.regKey, offOf_pageAddr b i o ho, hbell, blockOf_pageAddr b i o hb hi ho, Bool.false_eq_true, if_false]
  rcases h' with ⟨h1, h2⟩ | h'
  · simp [h1, h2]
  · have h3 : ¬ 0x300 ≤ o := by omega
    have h7 : ¬ 0x700 ≤ o := by omega
    simp [h3, h7]

/-! ### Fields by their access codes (R9, R70) -/

theorem perAt_row {part : Part} {a : Nat} {h : RegHit} (hr : rowAt part a = some h) : perAt part a = h.row.per := by
  simp [perAt, hr]

/-- A row without RWL fields locks nothing. -/
theorem lockedAt_free (c : Chip) (m a : Nat) (h : RegHit) (hl : h.row.rwl = 0) : c.lockedAt m a h = false := by
  simp [Chip.lockedAt, hl]

/-- RWL fields stand open while the lock bit of their word is clear. -/
theorem lockedAt_open (c : Chip) (m a : Nat) (h : RegHit) (hp : h.row.per = false) (hw : h.word = 0) (hl : h.row.lock < 32)
    (ha : c.regKey m a false = a) (hb : c.bit a h.row.lock = false) : c.lockedAt m a h = false := by
  simp [Chip.lockedAt, hp, hw, Nat.div_eq_of_lt hl, Nat.mod_eq_of_lt hl, ha, hb]

/-- Nothing is logged for a word whose fields need no key and are not locked. -/
theorem mergeCause_open (c : Chip) (m a : Nat) (d : Word) (keyed : Bool) {h : RegHit} (hr : rowAt c.part a = some h)
    (hk : h.row.rwk = 0) (hl : c.lockedAt m a h = false) : c.mergeCause m a d keyed = 0 := by
  simp [Chip.mergeCause, hr, hk, hl, wordN]

/-- A write of one word that logs nothing. -/
theorem maskWrite_one (c : Chip) (m a : Nat) (d : Word) (keyed : Bool) (h : c.mergeCause m a d keyed = 0) :
    c.maskWrite m a [d] keyed = c.setWord (c.regKey m a (perAt c.part a)) (c.mergeWord m a d keyed) := by
  simp [Chip.maskWrite, Chip.wordsCause, Chip.each, h]

/-- RW fields, and RWL fields that no lock holds, take what is written. -/
theorem mergeWord_open (c : Chip) (m a : Nat) (d : Word) (keyed : Bool) {h : RegHit} {e : Word} (hr : rowAt c.part a = some h)
    (hk : h.row.rwk = 0) (hc : h.row.w1c = 0) (hl : c.lockedAt m a h = false)
    (he : wordN h.row.rw h.word ||| wordN h.row.rwl h.word = e) :
    c.mergeWord m a d keyed = ((c.word (c.regKey m a h.row.per) &&& ~~~e) ||| (d &&& e)) := by
  have hz : wordN 0 h.word = 0#32 := by simp [wordN]
  have ho : ~~~(0#32) = BitVec.allOnes 32 := rfl
  simp only [Chip.mergeWord, hr, hk, hc, hl, hz, he, Bool.false_eq_true, if_false, BitVec.ofNat_eq_ofNat,
    ite_self, BitVec.or_zero, BitVec.and_zero, ho, BitVec.and_allOnes]

/-- A write of one word, no partition's own, to such fields. -/
theorem maskWrite_open (c : Chip) (m a : Nat) (d : Word) (keyed : Bool) {h : RegHit} {e : Word} (hr : rowAt c.part a = some h)
    (hp : h.row.per = false) (hk : h.row.rwk = 0) (hc : h.row.w1c = 0) (hl : c.lockedAt m a h = false)
    (he : wordN h.row.rw h.word ||| wordN h.row.rwl h.word = e) (ha : c.regKey m a false = a) :
    c.maskWrite m a [d] keyed = c.setWord a ((c.word a &&& ~~~e) ||| (d &&& e)) := by
  rw [maskWrite_one c m a d keyed (mergeCause_open c m a d keyed hr hk hl), perAt_row hr,
    mergeWord_open c m a d keyed hr hk hc hl he, hp, ha]

/-! ### What the register window asks of a write -/

theorem takes_implemented {c : Chip} {m a : Nat} {key : Bool} (h : c.takes m a key = true) : implemented c.part a = true := by
  simp only [Chip.takes, Bool.and_eq_true] at h
  obtain ⟨⟨⟨⟨⟨-, hi⟩, -⟩, -⟩, -⟩, -⟩ := h
  exact hi

theorem settled_queues {s : State} (h : s.settled = true) : s.chip.outQ = [] ∧ s.chip.dramQ = [] := by
  simpa [State.settled] using h

/-- What an accepted write makes of the module, and what a lead forwards of it. -/
theorem writeBy_taken_core (c : Chip) (x : Meets) (m a : Nat) (d : Word) (key : Bool) (h : c.takes m a key = true)
    (hx : x.keyed = false) (hf : x.fwd = false) (ho : key = true ∨ isTw a = true ∨ offOf a ≠ PG_KEY)
    (hp : ¬ (8 ≤ m ∧ m < 16 ∧ pairBlock (blockOf a) = true)) :
    c.writeBy x m a 4 [d] = ((c.afterKey m a key).applyWrite x m a [d] (key && !isTw a)).answer .done [] := by
  rw [writeBy_taken c x m a d key h hx hf ho]
  have hhost : (decide (8 ≤ m) && decide (m < 16) && pairBlock (blockOf a)) = false := by
    rw [Bool.eq_false_iff]
    simp only [ne_eq, Bool.and_eq_true, decide_eq_true_eq, and_assoc]
    exact hp
  simp [hhost]

/-- An unkeyed write in a table window. -/
theorem applyWrite_tw (c : Chip) (x : Meets) (m : Nat) {a : Nat} (ws : List Word) (keyed : Bool) (h : isTw a = true) :
    c.applyWrite x m a ws keyed = c.twWrite x m a ws := by
  simp [Chip.applyWrite, resultAt_tw _ h, h]

end Sys2Proof.Machine
end

section
/-! PROOFS. Registers without behaviour of their own: loop parameters, routes, shared-memory entries and the staged registers of an
axis take the fields written (R75, R86, R180, R226), and change nothing else of the machine. -/

namespace Sys2Proof.Machine

/-! ### Loop parameters (R180) -/

/-- LOOP_PARAM `j` of a slot. -/
def paramK (slot j : Nat) : Nat := twAddr LOOP (0x1_0004 + 16 * slot + 4 * j)

section
variable {slot j : Nat} (hs : slot < 4096) (hj : j < 3)
include hs hj

theorem isTw_paramK : isTw (paramK slot j) = true := isTw_twAddr _ _ (by omega)
theorem blockOf_paramK : blockOf (paramK slot j) = LOOP := blockOf_twAddr _ _ (by decide) (by omega)
theorem twOf_paramK : twOf (paramK slot j) = 0x1_0004 + 16 * slot + 4 * j := twOf_twAddr _ _ (by omega)

theorem rowAt_paramK {part : Part} (h : implemented part (paramK slot j) = true) :
    rowAt part (paramK slot j) = some ⟨rwN (0x1_0004 + 4 * j) 4096 16 0xFFFF, slot, 0⟩ := by
  rw [rowAt_tw part (isTw_paramK hs hj) h, blockOf_paramK hs hj, twOf_paramK hs hj]
  change findRow loopTw _ = _
  unfold loopTw
  iterate 6 rw [findRow_skip (hit_outside (by decide) (by simp [rwlN, rwN, roN]; omega))]
  have hmiss (k : Nat) (hne : k ≠ j) (hk : k < 3) :
      (rwN (0x1_0004 + 4 * k) 4096 16 0xFFFF).hit (0x1_0004 + 16 * slot + 4 * j) = none := by
    by_cases hlt : slot = 0 ∧ j < k
    · exact hit_below (by simp [rwN]; omega)
    · exact hit_outside (by simp [rwN]) (by simp [rwN]; omega)
  have hhit : (rwN (0x1_0004 + 4 * j) 4096 16 0xFFFF).hit (0x1_0004 + 16 * slot + 4 * j) = some ⟨_, slot, 0⟩ :=
    hit_repeat (by simp [rwN]) (by simp [rwN]) (by simp [rwN]) hs (by simp [rwN]; omega)
  obtain rfl | rfl | rfl : j = 0 ∨ j = 1 ∨ j = 2 := by omega
  · exact findRow_take hhit
  · rw [findRow_skip (hmiss 0 (by decide) (by decide))]
    exact findRow_take hhit
  · rw [findRow_skip (hmiss 0 (by decide) (by decide)), findRow_skip (hmiss 1 (by decide) (by decide))]
    exact findRow_take hhit

/-- A write of LOOP_PARAM sets the fields of its row. -/
theorem applyWrite_param (c : Chip) (x : Meets) (m : Nat) (d : Word) (keyed : Bool)
    (h : implemented c.part (paramK slot j) = true) :
    c.applyWrite x m (paramK slot j) [d] keyed =
      c.setWord (paramK slot j) ((c.word (paramK slot j) &&& ~~~0xFFFF#32) ||| (d &&& 0xFFFF#32)) := by
  have hrow := rowAt_paramK hs hj h
  have hlock := lockedAt_free c m (paramK slot j) ⟨rwN (0x1_0004 + 4 * j) 4096 16 0xFFFF, slot, 0⟩ rfl
  rw [applyWrite_tw c x m [d] keyed (isTw_paramK hs hj)]
  have hplain : c.twWrite x m (paramK slot j) [d] = c.maskWrite m (paramK slot j) [d] x.keyed := by
    unfold Chip.twWrite
    rw [blockOf_paramK hs hj, twOf_paramK hs hj]
    have h1 : ¬ (0x1_0004 + 16 * slot + 4 * j < 0x1400) := by omega
    have h2 : ¬ ((0x1_0004 + 16 * slot + 4 * j) % 16 = 0) := by omega
    have h3 : ¬ (0x2_0000 ≤ 0x1_0004 + 16 * slot + 4 * j) := by omega
    simp [LOOP, h1, h2, h3]
  rw [hplain]
  exact maskWrite_open c m _ d x.keyed hrow rfl rfl rfl hlock (by simp [rwN, wordN]) (regKey_tw c m (isTw_paramK hs hj))

end

/-! ### Routes (R75) -/

section
variable {n : Nat} (hn : n < 1024)
include hn

theorem isTw_routeK : isTw (routeK n) = true := isTw_twAddr _ _ (by omega)
theorem blockOf_routeK : blockOf (routeK n) = HST := blockOf_twAddr _ _ (by decide) (by omega)
theorem twOf_routeK : twOf (routeK n) = 4 * n := twOf_twAddr _ _ (by omega)

theorem rowAt_routeK {part : Part} (h : implemented part (routeK n) = true) :
    rowAt part (routeK n) = some ⟨rwlN 0x0000 1024 4 0xC000_0F3F 30, n, 0⟩ := by
  rw [rowAt_tw part (isTw_routeK hn) h, blockOf_routeK hn, twOf_routeK hn]
  exact findRow_take (hit_repeat (by decide) (by decide) (by decide) hn (by simp [rwlN]))

/-- A write of an unlocked route sets the fields of its row. -/
theorem applyWrite_route (c : Chip) (x : Meets) (m : Nat) (d : Word) (keyed : Bool)
    (h : implemented c.part (routeK n) = true) (hb : c.bit (routeK n) 30 = false) :
    c.applyWrite x m (routeK n) [d] keyed =
      c.setWord (routeK n) ((c.word (routeK n) &&& ~~~0xC000_0F3F#32) ||| (d &&& 0xC000_0F3F#32)) := by
  have hkey := regKey_tw c m (isTw_routeK hn)
  have hlock := lockedAt_open c m (routeK n) ⟨rwlN 0x0000 1024 4 0xC000_0F3F 30, n, 0⟩ rfl rfl (by simp [rwlN]) hkey hb
  have hplain : c.twWrite x m (routeK n) [d] = c.maskWrite m (routeK n) [d] x.keyed := by
    unfold Chip.twWrite
    rw [blockOf_routeK hn, twOf_routeK hn]
    have h1 : ¬ (0x2000 ≤ 4 * n) := by omega
    simp [HST, h1]
  rw [applyWrite_tw c x m [d] keyed (isTw_routeK hn), hplain]
  exact maskWrite_open c m _ d x.keyed (rowAt_routeK hn h) rfl rfl rfl hlock (by simp [rwlN, wordN]) hkey

end

/-! ### Shared-memory entries (R86) -/

section
variable {n w : Nat} (hn : n < 8)
include hn

theorem shmK_eq : shmK (8 + n) + 4 * w = twAddr HST (0x2000 + 0x20 * n + 4 * w) := by simp only [shmK, twAddr]; omega
theorem isTw_shmK (hw : w < 4) : isTw (shmK (8 + n) + 4 * w) = true := by rw [shmK_eq hn]; exact isTw_twAddr _ _ (by omega)
theorem blockOf_shmK (hw : w < 4) : blockOf (shmK (8 + n) + 4 * w) = HST := by
  rw [shmK_eq hn]; exact blockOf_twAddr _ _ (by decide) (by omega)
theorem twOf_shmK (hw : w < 4) : twOf (shmK (8 + n) + 4 * w) = 0x2000 + 0x20 * n + 4 * w := by
  rw [shmK_eq hn]; exact twOf_twAddr _ _ (by omega)

/-- Word `w` of entry `n`, of BASE and SIZE. -/
theorem applyWrite_shm (c : Chip) (x : Meets) (m : Nat) (d : Word) (keyed : Bool) {mask : Word} (hw : w = 0 ∨ w = 2)
    (hm : mask = if w = 0 then 0xFFE0_0000#32 else 0x1FFF#32) (hb : c.bit (shmK (8 + n) + 0xC) 31 = false) :
    c.applyWrite x m (shmK (8 + n) + 4 * w) [d] keyed = c.setWord (shmK (8 + n) + 4 * w) (d &&& mask) := by
  have hlt : w < 4 := by omega
  have hentry : c.twWrite x m (shmK (8 + n) + 4 * w) [d] = c.shmWrite m (8 + n) w d := by
    have h1 : 0x2000 ≤ 0x2000 + 0x20 * n + 4 * w ∧ 0x2000 + 0x20 * n + 4 * w < 0x2100 := by omega
    have h2 : (0x2000 + 0x20 * n + 4 * w) % 0x20 < 0x10 ∧ (0x2000 + 0x20 * n + 4 * w) % 0x20 / 4 = w := by omega
    have h3 : (0x2000 + 0x20 * n + 4 * w - 0x2000) / 0x20 = n := by omega
    unfold Chip.twWrite
    rw [blockOf_shmK hn hlt, twOf_shmK hn hlt]
    simp only [HST, h1, h2, h3, Chip.each, decide_true, Bool.and_self, if_true, List.zipIdx_cons, List.zipIdx_nil,
      List.foldl_cons, List.foldl_nil, Nat.add_zero]
  rw [applyWrite_tw c x m [d] keyed (isTw_shmK hn hlt), hentry]
  rcases hw with rfl | rfl <;> simp [Chip.shmWrite, hb, hm]

end

/-! ### Staged registers of an axis (R226) -/

/-- The registers of an axis block that only wait for the next command. -/
def stagedOffsets : List Nat := [0x10, 0x14, 0x18, 0x1C, 0x20, 0x24, 0x28, 0x2C, 0x30, 0x34, 0x38, 0x3C]

section
variable {a o : Nat} (ha : a < 1152) (ho : o ∈ stagedOffsets)
include ha ho

theorem staged_lt : 0x100 * a + o < 0x4_8000 ∧ (0x100 * a + o) % 0x100 = o := by
  have : o < 0x100 := (by decide : ∀ o ∈ stagedOffsets, o < 0x100) o ho
  omega

theorem isTw_axK : isTw (axK a o) = true := isTw_twAddr _ _ (by have := staged_lt ha ho; omega)
theorem blockOf_axK : blockOf (axK a o) = PRF := blockOf_twAddr _ _ (by decide) (by have := staged_lt ha ho; omega)
theorem twOf_axK : twOf (axK a o) = 0x100 * a + o := twOf_twAddr _ _ (by have := staged_lt ha ho; omega)

/-- A write of a staged register takes what the access codes of its row leave. -/
theorem applyWrite_staged (c : Chip) (x : Meets) (m : Nat) (d : Word) (keyed : Bool) :
    c.applyWrite x m (axK a o) [d] keyed = c.setWord (axK a o) (c.mergeWord m (axK a o) d false) := by
  obtain ⟨hlt, hmod⟩ := staged_lt ha ho
  have hfixed : axFixed o = false := (by decide : ∀ o ∈ stagedOffsets, axFixed o = false) o ho
  have hne : o ≠ 4 ∧ o ≠ 0xE4 ∧ o ≠ 0xE8 := (by decide : ∀ o ∈ stagedOffsets, o ≠ 4 ∧ o ≠ 0xE4 ∧ o ≠ 0xE8) o ho
  have hl : 0x100 * a + o < 0x6_0000 := by omega
  rw [applyWrite_tw c x m [d] keyed (isTw_axK ha ho)]
  unfold Chip.twWrite
  rw [blockOf_axK ha ho, twOf_axK ha ho]
  simp [PRF, hl, Chip.each, Chip.prfTwWrite, hlt, hmod, hfixed, hne, axK]

end

/-! ### Frames (R66, R75, R86, R180, R226) -/

/-- Of the machine `s` comes to, all but word `a` and the answer is as before. -/
def KeepsAllBut (s : State) (a : Nat) (t : State) : Prop :=
  (∀ k, k ≠ a → t.chip.word k = s.chip.word k) ∧ t.dram = s.dram ∧ t.dramPoison = s.dramPoison ∧ t.pending = s.pending ∧
    t.chip = { s.chip with words := t.chip.words, resp := { status := .done, data := [] } }

/-- Between commands nothing is on its way to DRAM, and none is released. -/
theorem settle_idle (s : State) (f : Chip → Chip) (hs : s.settled = true) (hd : (f s.chip).dramQ = []) (ho : (f s.chip).outQ = []) :
    s.settle f = { s with chip := f s.chip } := by
  obtain ⟨hout, -⟩ := settled_queues hs
  have hc : { f s.chip with outQ := s.chip.outQ, dramQ := [] } = f s.chip := by
    rw [hout, ← ho, ← hd]
  simp only [State.settle, State.flushDram, hd, List.foldl_nil, hc]

/-- A core's write in a table window that sets one word leaves all else. -/
theorem put_keepsAllBut (s : State) (m a : Nat) (d w : Word) {i : Instr} (hi : exec i s = s.put m a d) (hs : s.settled = true)
    (h : s.chip.takes m a false = true) (hm : m < 8) (htw : isTw a = true) (hb : blockOf a ≠ HOI)
    (hw : ∀ x keyed, s.chip.applyWrite x m a [d] keyed = s.chip.setWord a w) :
    Answers (exec i s) (KeepsAllBut s a) := by
  obtain ⟨hout, hdram⟩ := settled_queues hs
  have hwrite : s.chip.writeBy (s.meets {}) m a 4 [d] = (s.chip.setWord a w).answer .done [] := by
    rw [writeBy_taken_core s.chip _ m a d false h rfl rfl (.inr (.inl htw)) (by omega), ← hw (s.meets {}) false]
    simp [Chip.afterKey]
  refine ⟨_, hi.trans (put_taken s {} m a d false h rfl rfl (.inr (.inl htw)) hb), ?_⟩
  rw [settle_idle s _ hs (by simp [hwrite, hdram]) (by simp [hwrite, hout])]
  rw [KeepsAllBut, hwrite]
  exact ⟨fun k hk => Chip.word_setWord_ne _ w hk, rfl, rfl, rfl, rfl⟩

/-- A refresh of the hold latch (R508). -/
theorem holdLatchRefresh_frame (s : State) (hs : s.settled = true) (hh : s.chip.pwr.held = none) (hl : s.chip.pai.latch = true)
    (hm : s.chip.modState ≤ 3) :
    Answers (exec .holdLatchRefresh s) fun t =>
      t = { s with chip := { s.chip with pai := { s.chip.pai with refreshed := s.chip.nowNs } } } := by
  obtain ⟨hout, hdram⟩ := settled_queues hs
  have hf : s.chip.holdRefresh = { s.chip with pai := { s.chip.pai with refreshed := s.chip.nowNs } } := by
    simp [Chip.holdRefresh, hl, hm, Chip.setPai]
  refine ⟨_, anytime_acts s _ hh, ?_⟩
  rw [settle_idle s _ hs (by simp only [hf, hdram]) (by simp only [hf, hout]), hf]

/-- A tamper pulse (R552). -/
theorem tamper_frame (s : State) (hs : s.settled = true) :
    Answers (exec .tamper s) fun t =>
      (∀ k, k ≠ aPwrStat → t.chip.word k = s.chip.word k) ∧ t.dram = s.dram ∧ t.dramPoison = s.dramPoison ∧
      t.chip = { s.chip with words := t.chip.words, pwr := { s.chip.pwr with tamper := true } } := by
  obtain ⟨hout, hdram⟩ := settled_queues hs
  have hshow (c : Chip) : c.Alters (fun k _ => k = aPwrStat) c.showPwr :=
    ((setFld_alters c aPwrStat 0 6 _ fun _ _ _ => rfl).trans (setBit_alters _ aPwrStat 23 _ rfl)).trans
      (setBit_alters _ aPwrStat 22 _ rfl)
  refine ⟨s.settle Chip.tamperFall, rfl, ?_⟩
  rw [settle_idle s _ hs hdram hout]
  exact ⟨fun k hk => (hshow (s.chip.setPwr _)).word k fun _ => hk, rfl, rfl, rfl⟩

theorem exec_routeWrite (s : State) (m n : Nat) (d : Word) : exec (.routeWrite m n d) s = s.put m (routeK n) d := rfl
theorem exec_registerWrite (s : State) (m a : Nat) (d : Word) : exec (.registerWrite m a 4 [d] 0) s = s.put m a d := rfl
theorem exec_shmEntryWrite (s : State) (m n off : Nat) (d : Word) :
    exec (.shmEntryWrite m n off [d]) s = s.put m (shmK (8 + n) + off) d := rfl

/-- Settles O15: each of these writes sets one word, and the two events change what they name. -/
theorem registerFrames : Obligations.RegisterFrames := by
  unfold Obligations.RegisterFrames
  intro s hs
  refine ⟨fun m d hm => ⟨fun slot j hslot hj h => ?_, fun n hn hb h => ?_, fun n hn hb => ⟨fun h => ?_, fun h => ?_⟩,
    fun a o ha ho h => ?_⟩, holdLatchRefresh_frame s hs, tamper_frame s hs⟩
  · exact put_keepsAllBut s m (paramK slot j) d _ (exec_registerWrite ..) hs h hm (isTw_paramK hslot hj)
      (by rw [blockOf_paramK hslot hj]; decide) fun x keyed => applyWrite_param hslot hj s.chip x m d keyed (takes_implemented h)
  · exact put_keepsAllBut s m (routeK n) d _ (exec_routeWrite ..) hs h hm (isTw_routeK hn)
      (by rw [blockOf_routeK hn]; decide) fun x keyed => applyWrite_route hn s.chip x m d keyed (takes_implemented h) hb
  · exact put_keepsAllBut s m (shmK (8 + n) + 4 * 0) d _ (exec_shmEntryWrite s m n 0 d) hs h hm (isTw_shmK hn (by decide))
      (by rw [blockOf_shmK hn (by decide)]; decide) fun x keyed => applyWrite_shm hn s.chip x m d keyed (.inl rfl) rfl hb
  · exact put_keepsAllBut s m (shmK (8 + n) + 4 * 2) d _ (exec_shmEntryWrite s m n 8 d) hs h hm (isTw_shmK hn (by decide))
      (by rw [blockOf_shmK hn (by decide)]; decide) fun x keyed => applyWrite_shm hn s.chip x m d keyed (.inr rfl) rfl hb
  · exact put_keepsAllBut s m (axK a o) d _ (exec_registerWrite ..) hs h hm (isTw_axK ha ho)
      (by rw [blockOf_axK ha ho]; decide) fun x keyed => applyWrite_staged ha ho s.chip x m d keyed

end Sys2Proof.Machine
end

section
/-! PROOFS. What the module notes of an access (R24, R55, R72, R74): counters, error records, causes and the notices they raise; and that
re-sends on the fabric do not bear on who may write a table window. -/

namespace Sys2Proof.Machine

variable {c c' c'' : Chip}

/-! ### Notes -/

/-- From `c` to `c'` only words, notices to the router and the count of logged errors change. -/
def Chip.Notes (c c' : Chip) : Prop := ∃ w n l, c' = { c with words := w, notices := n, logged := l }

theorem Chip.Notes.refl (c : Chip) : c.Notes c := ⟨_, _, _, rfl⟩

theorem Chip.Notes.trans (h : c.Notes c') (h' : c'.Notes c'') : c.Notes c'' := by
  obtain ⟨w, n, l, rfl⟩ := h
  obtain ⟨w', n', l', rfl⟩ := h'
  exact ⟨w', n', l', rfl⟩

theorem Chip.Notes.ite {p : Prop} [Decidable p] (h : c.Notes c') (h' : c.Notes c'') : c.Notes (if p then c' else c'') := by
  split
  · exact h
  · exact h'

theorem Chip.Notes.when {b : Bool} {f : Chip → Chip} (h : c.Notes (f c)) : c.Notes (c.when b f) := .ite h (.refl c)

theorem each_notes {α : Type} (f : Chip → α → Chip) (h : ∀ c x, Chip.Notes c (f c x)) (l : List α) (c : Chip) :
    c.Notes (c.each l f) := by
  induction l generalizing c with
  | nil => exact .refl c
  | cons x r ih => exact (h c x).trans (ih _)

theorem setWord_notes (c : Chip) (k : Nat) (w : Word) : c.Notes (c.setWord k w) := ⟨_, _, _, rfl⟩
theorem setFld_notes (c : Chip) (k lo n v : Nat) : c.Notes (c.setFld k lo n v) := setWord_notes ..
theorem setBit_notes (c : Chip) (k i : Nat) (b : Bool) : c.Notes (c.setBit k i b) := setWord_notes ..
theorem setNat_notes (c : Chip) (k v : Nat) : c.Notes (c.setNat k v) := setWord_notes ..
theorem count_notes (c : Chip) (k n : Nat) : c.Notes (c.count k n) := setWord_notes ..

theorem notify_notes (c : Chip) (k : Nat) (l : Option Nat) : c.Notes (c.notify k l) := by
  cases l with
  | none => exact .refl c
  | some n => exact ⟨_, _, _, rfl⟩

theorem causeAt_notes (c : Chip) (k i : Nat) (l : Option Nat) : c.Notes (c.causeAt k i l) := by
  refine (setBit_notes c _ i true).trans (.ite ?_ (.refl _))
  exact (setBit_notes _ _ i true).trans (.ite (.refl _) (notify_notes ..))

theorem cause_notes (c : Chip) (b p i : Nat) : c.Notes (c.cause b p i) := causeAt_notes ..

theorem level_notes (c : Chip) (b p i : Nat) (v : Bool) : c.Notes (c.level b p i v) := by
  refine .ite ((setBit_notes c _ i v).trans (.ite ?_ (.refl _))) (setBit_notes ..)
  exact (setBit_notes _ _ i true).trans (.ite (.refl _) (notify_notes ..))

theorem logAt_notes (c : Chip) (k e m o : Nat) (l : Option Nat) : c.Notes (c.logAt k e m o l) := by
  have hrec : c.Notes (if c.bit (k + PG_ERRINFO) 31 then c.setBit (k + PG_ERRINFO) 30 true
      else c.setNat (k + PG_ERRINFO) (2 ^ 31 + e % 16 * 2 ^ 26 + c.logAs.getD m % 64 * 2 ^ 20 + o % 2 ^ 20)) :=
    .ite (setBit_notes ..) (setNat_notes ..)
  exact ((hrec.trans (count_notes ..)).trans (causeAt_notes ..)).trans ⟨_, _, _, rfl⟩

theorem logErr_notes (c : Chip) (e m a : Nat) : c.Notes (c.logErr e m a) :=
  .ite (((logAt_notes ..).trans (causeAt_notes ..)).trans (causeAt_notes ..)) (logAt_notes ..)

theorem logUnimp_notes (c : Chip) (m a : Nat) : c.Notes (c.logUnimp m a) := by
  have hrec : c.Notes (if c.bit (pageAddr HST 0 0x100) 31 then c.setBit (pageAddr HST 0 0x100) 30 true
      else (c.setNat (pageAddr HST 0 0x100) (2 ^ 31 + ecUnimp * 2 ^ 26 + c.logAs.getD m % 64 * 2 ^ 20 + a % 0x10_0000)).setNat
        (pageAddr HST 0 0x100 + 4) (blockOf a)) :=
    .ite (setBit_notes ..) ((setNat_notes ..).trans (setNat_notes ..))
  exact ((hrec.trans (count_notes ..)).trans (cause_notes ..)).trans ⟨_, _, _, rfl⟩

theorem hopSends_notes (c : Chip) (n : Nat) : c.Notes (c.hopSends n) := by
  have hsent : c.Notes (if n = 0 then c else (c.count (pageAddr DIP 0 0x118) (min n 3)).cause DIP 0 4) :=
    .ite (.refl c) ((count_notes ..).trans (cause_notes ..))
  exact .ite ((hsent.trans (count_notes ..)).trans (cause_notes ..)) hsent

/-! ### The words of an error record (R72) -/

/-- What is recorded of an error on the page at `k`. -/
def recordBits (k k' _j : Nat) : Prop :=
  k' = k + PG_ERRINFO ∨ k' = k + PG_ERR_CNT ∨ k' = k + PG_EVT_RAW ∨ k' = k + PG_EVT_PEND

theorem causeAt_alters {S : Nat → Nat → Prop} (c : Chip) (k i : Nat) (l : Option Nat) (hr : S (k + PG_EVT_RAW) i)
    (hp : S (k + PG_EVT_PEND) i) : c.Alters S (c.causeAt k i l) :=
  (setBit_alters c _ i true hr).trans (pend_alters _ _ i _ hp)

theorem logAt_alters (c : Chip) (k e m o : Nat) (l : Option Nat) : c.Alters (recordBits k) (c.logAt k e m o l) := by
  have hrec : c.Alters (recordBits k) (if c.bit (k + PG_ERRINFO) 31 then c.setBit (k + PG_ERRINFO) 30 true
      else c.setNat (k + PG_ERRINFO) (2 ^ 31 + e % 16 * 2 ^ 26 + c.logAs.getD m % 64 * 2 ^ 20 + o % 2 ^ 20)) :=
    .ite (setBit_alters _ _ 30 true (.inl rfl)) (setNat_alters _ _ _ fun _ => .inl rfl)
  have hcount := hrec.trans (count_alters _ (k + PG_ERR_CNT) 1 fun _ => .inr (.inl rfl))
  exact (hcount.trans (causeAt_alters _ k 31 l (.inr (.inr (.inl rfl))) (.inr (.inr (.inr rfl))))).keep rfl rfl rfl

/-- The record of an error at `a`: on its page, or in the views of a Bell page. -/
def errorBits (a k j : Nat) : Prop := recordBits (errPage a) k j ∨ 2 ^ 25 ≤ k

theorem bellCause_alters_view (c : Chip) (ch s i : Nat) : c.Alters (fun k _ => 2 ^ 25 ≤ k) (c.bellCause ch s i) := by
  refine causeAt_alters c _ i _ ?_ ?_
  · simp only [viewKey]; omega
  · simp only [viewKey]; omega

theorem logErr_alters (c : Chip) (e m a : Nat) : c.Alters (errorBits a) (c.logErr e m a) := by
  have hlog (l : Option Nat) : c.Alters (errorBits a) (c.logAt (errPage a) e m (a % 0x10_0000) l) :=
    (logAt_alters ..).mono fun _ _ => .inl
  exact .ite (((hlog _).trans ((bellCause_alters_view ..).mono fun _ _ => .inr)).trans
    ((bellCause_alters_view ..).mono fun _ _ => .inr)) (hlog _)

/-- An error at a table window leaves the table windows. -/
theorem not_errorBits_tw {a k : Nat} (ha : isTw a = true) (hk : isTw k = true) (hlt : k < 2 ^ 25) (j : Nat) : ¬ errorBits a k j := by
  have htw : k / 0x8_0000 % 2 = 1 := by simpa [isTw] using hk
  simp only [errorBits, recordBits, errPage, ha, if_true, pageAddr, PG_ERRINFO, PG_ERR_CNT, PG_EVT_RAW, PG_EVT_PEND]
  omega

/-! ### Re-sends on the fabric (R24) -/

/-- What re-sends show on the Dipstick page. -/
def hopBits (k _j : Nat) : Prop := k = dipA 0x118 ∨ k = dipA 0x11C ∨ k = dipA PG_EVT_RAW ∨ k = dipA PG_EVT_PEND

theorem hopSends_alters (c : Chip) (n : Nat) : c.Alters hopBits (c.hopSends n) := by
  have hcause (c : Chip) (i : Nat) : c.Alters hopBits (c.cause DIP 0 i) :=
    cause_alters c DIP 0 i (.inr (.inr (.inl rfl))) (.inr (.inr (.inr rfl)))
  have hsent : c.Alters hopBits (if n = 0 then c else (c.count (pageAddr DIP 0 0x118) (min n 3)).cause DIP 0 4) :=
    .ite (.refl _ c) ((count_alters _ _ _ fun _ => .inl rfl).trans (hcause _ 4))
  exact .ite ((hsent.trans (count_alters _ _ _ fun _ => .inr (.inl rfl))).trans (hcause _ 5)) hsent

/-- The counts of a block that fails after three re-sends. -/
theorem hopSends_fails (c : Chip) (n : Nat) (h : 3 < n) :
    (c.hopSends n).nat (dipA 0x118) = min (2 ^ 32 - 1) (c.nat (dipA 0x118) + 3) ∧
      (c.hopSends n).nat (dipA 0x11C) = min (2 ^ 32 - 1) (c.nat (dipA 0x11C) + 1) := by
  have hcause (c : Chip) (i : Nat) := cause_alters (S := fun k _ => k = dipA PG_EVT_RAW ∨ k = dipA PG_EVT_PEND) c DIP 0 i
    (.inl rfl) (.inr rfl)
  have hcount (c : Chip) (k v : Nat) := count_alters (S := fun k' _ => k' = k) c k v fun _ => rfl
  have e : c.hopSends n = (((((c.count (dipA 0x118) 3).cause DIP 0 4)).count (dipA 0x11C)).cause DIP 0 5) := by
    rw [Chip.hopSends, if_neg (by omega : n ≠ 0), if_pos h, show min n 3 = 3 by omega]; rfl
  rw [e, (hcause _ 5).nat _ fun _ => by decide, (hcause _ 5).nat _ fun _ => by decide]
  constructor
  · rw [(hcount _ (dipA 0x11C) 1).nat _ fun _ => by decide, (hcause _ 4).nat _ fun _ => by decide, Chip.count, Chip.nat_setNat_same]
    · rfl
    · simp only [satAdd]; omega
  · rw [Chip.nat_count_same, (hcause _ 4).nat _ fun _ => by decide, (hcount _ (dipA 0x118) 3).nat _ fun _ => by decide]

/-! ### Who may write a table window (R69, R70, R76) -/

/-- The words that decide on a write of a table window: table windows, owners, and what the power manager and the test access port show. -/
def decides (k : Nat) : Prop :=
  isTw k = true ∨ offOf k = PG_OWNER ∨ k = aPwrStat ∨ offOf k = PG_CTL ∨ k = pageAddr TST 0 0x100

theorem not_hopBits {k : Nat} (h : decides k) (j : Nat) : ¬ hopBits k j := by
  rintro (rfl | rfl | rfl | rfl) <;> revert h <;> unfold decides <;> decide

section
variable (h : ∀ k, decides k → c'.word k = c.word k)
include h

theorem ownWord_congr {b o : Nat} (ho : o < 0x8_0000) : c'.ownWord (twAddr b o) = c.ownWord (twAddr b o) := by
  simp only [Chip.ownWord, Chip.fld, h _ (.inl (isTw_twAddr b o ho))]

theorem pageOwner_congr (b i : Nat) : c'.pageOwner b i = c.pageOwner b i := by
  have hoff : offOf (pageAddr b i 0 + PG_OWNER) = PG_OWNER := by simp only [offOf, pageAddr, PG_OWNER]; omega
  simp only [Chip.pageOwner, Chip.owner, Chip.fld, h _ (.inr (.inl hoff))]

theorem twOwner_congr (b : Nat) {o : Nat} (ho : o < 0x8_0000) : c'.twOwner b o = c.twOwner b o := by
  have hcode : (if o < 0x4_0000 then 0x4_0000 + 4 * (o / 0x4000) else o) < 0x8_0000 := by split <;> omega
  have htrigger : (if o < 0x4000 then 0x4000 + 4 * (o / 2048) else o) < 0x8_0000 := by split <;> omega
  unfold Chip.twOwner
  split <;> simp (disch := omega) only [Chip.slotOwner, Chip.axisOwner, Chip.camOwner, ownWord_congr h hcode,
    ownWord_congr h htrigger, ownWord_congr h, pageOwner_congr h]

theorem lineOwners_congr (hp : c'.part = c.part) {n : Nat} (hn : n < 1024) (p : Nat) :
    Chip.twWriter.lineOwners c' n p = Chip.twWriter.lineOwners c n p := by
  have hbind : c'.word (aBind ((n - 0x40) / 2)) = c.word (aBind ((n - 0x40) / 2)) := h _ (.inl (isTw_twAddr _ _ (by omega)))
  unfold Chip.twWriter.lineOwners
  simp only [Chip.bit, Chip.sideMaster, Chip.fld, hbind, pageOwner_congr h, hp]

theorem twWriter_congr (hp : c'.part = c.part) (p a : Nat) : c'.twWriter p a = c.twWriter p a := by
  have ho : twOf a < 0x8_0000 := Nat.mod_lt _ (by decide)
  simp only [Chip.twWriter, twOwner_congr h _ ho]
  by_cases hl : twOf a < 0x1000
  · rw [lineOwners_congr h hp (by omega)]
  · simp [hl]

theorem permitted_write_congr (hp : c'.part = c.part) (ht : c'.tap = c.tap) (m : Nat) {a : Nat} (ha : isTw a = true) :
    c'.permitted m a true = c.permitted m a true := by
  have htap : c'.tapAccess = c.tapAccess := by
    have := h (pageAddr TST 0 0x100) (.inr (.inr (.inr (.inr rfl))))
    simp only [Chip.tapAccess, Chip.bit, ht, this]
  have hwrite (per : Bool) : c'.mayWrite m a per = c.mayWrite m a per := by
    simp only [Chip.mayWrite, ha, if_true, twWriter_congr h hp]
  simp only [Chip.permitted, hp, htap, hwrite, Bool.not_true, Bool.false_and, Bool.false_eq_true, if_false, if_true]

theorem pageCause_congr {a : Nat} (ha : isTw a = true) : c'.pageCause a = c.pageCause a := by
  have hstate : c'.modState = c.modState := by simp only [Chip.modState, Chip.fld, h _ (.inr (.inr (.inl rfl)))]
  have hoff : offOf (pageAddr (blockOf a) 0 PG_CTL) = PG_CTL := by simp only [offOf, pageAddr, PG_CTL]; omega
  have hdomain (b : Nat) : c'.domain b 0 = c.domain b 0 := by simp [Chip.domain, hstate]
  simp [Chip.pageCause, ha, isBound, hdomain, Chip.resetting, Chip.bit, h _ (.inr (.inr (.inr (.inl hoff))))]

end

/-- Re-sends bear on no refusal of a write to a table window. -/
theorem accessCause_hopSends (c : Chip) (n m : Nat) {a : Nat} (ha : isTw a = true) :
    (c.hopSends n).accessCause m a true = c.accessCause m a true := by
  have hword (k : Nat) (hk : decides k) : (c.hopSends n).word k = c.word k := (hopSends_alters c n).word k (not_hopBits hk)
  obtain ⟨w, l, g, e⟩ := hopSends_notes c n
  have hp : (c.hopSends n).part = c.part := by rw [e]
  have ht : (c.hopSends n).tap = c.tap := by rw [e]
  simp only [Chip.accessCause, permitted_write_congr hword hp ht m ha, pageCause_congr hword ha]

end Sys2Proof.Machine
end

section
/-! PROOFS. A write of one word of a table window through re-sends on the fabric (R24, R70), and the obligation on registers without
behaviour of their own. -/

namespace Sys2Proof.Machine

/-! ### A write through re-sends -/

section
variable (c : Chip) (x : Meets) (m : Nat) {a : Nat} (d : Word) {hops : Nat}
variable (hs : c.sends m = true) (ha : a < 2 ^ 25) (h4 : a % 4 = 0) (hi : implemented c.part a = true) (htw : isTw a = true)
variable (hk : x.keyed = false) (hf : x.fwd = false)

include hs ha h4 htw in
/-- No key serves a table window, so no control transfer is lost with the block. -/
theorem writeBy_tw : c.writeBy x m a 4 [d] hops = ((c.hopSends hops).writeOne x m a [d] (hopFails hops)).answer m true := by
  have h25 : a % 33554432 = a := Nat.mod_eq_of_lt ha
  simp [Chip.writeBy, hs, h25, Chip.busWrite, h4, htw]

include hi htw hk hf

theorem writeOne_refused (p : Bool) {e : Nat} (he : c.accessCause m a true = e) (hne : e ≠ 0) :
    c.writeOne x m a [d] p = { chip := (c.logErr e m a).refusedCommand m a e d, cause := e } := by
  have hl : isLock a = false := by simp [isLock, htw]
  simp [Chip.writeOne, hi, Chip.writeCause, hf, hk, htw, he, hne, hl]

theorem writeOne_poisoned (he : c.accessCause m a true = 0) :
    c.writeOne x m a [d] true = { chip := c.logErr ecPoison m a, cause := ecPoison } := by
  have hl : isLock a = false := by simp [isLock, htw]
  simp [Chip.writeOne, hi, Chip.writeCause, hf, hk, htw, he, hl, ecPoison, Chip.refusedCommand, ecNotOwner]

theorem writeOne_accepted (he : c.accessCause m a true = 0) :
    c.writeOne x m a [d] false = { chip := c.actWrite x m a [d] false } := by
  have hl : isLock a = false := by simp [isLock, htw]
  simp [Chip.writeOne, hi, Chip.writeCause, hf, hk, htw, he, hl]

end

/-- An accepted write acts, and a lead may forward it. -/
theorem actWrite_takes (c : Chip) (x : Meets) (m a : Nat) (ws : List Word) (keyed : Bool)
    (hp : (decide (8 ≤ m) && decide (m < 16) && pairBlock (blockOf a) && c.standby) = false) :
    ∃ o, c.actWrite x m a ws keyed = { c.applyWrite x m a ws keyed with outs := o } := by
  unfold Chip.actWrite
  dsimp only
  rw [hp, Bool.false_and, if_neg (by decide)]
  split
  · exact ⟨_, rfl⟩
  · exact ⟨_, rfl⟩

/-- The parts of what the register window asks of a write. -/
theorem takes_parts {c : Chip} {m a : Nat} {key : Bool} (h : c.takes m a key = true) :
    c.sends m = true ∧ a < 2 ^ 25 ∧ a % 4 = 0 ∧ c.accessCause m a true = 0 ∧
      (decide (8 ≤ m) && decide (m < 16) && pairBlock (blockOf a) && c.standby) = false := by
  simp only [Chip.takes, Bool.and_eq_true, decide_eq_true_eq, Bool.not_eq_true'] at h
  obtain ⟨⟨⟨⟨⟨⟨⟨hs, ha⟩, h4⟩, -⟩, he⟩, -⟩, -⟩, hp⟩ := h
  exact ⟨hs, ha, h4, he, hp⟩

/-! ### What an accepted write completes -/

/-- After an accepted write the module shows in `t` what the write made of it in `n`, and the master sees it done. -/
structure Chip.Completes (n t : Chip) : Prop where
  words : t.words = n.words
  keys : t.keys = n.keys
  iwin : t.iwin = n.iwin
  done : t.resp.status = .done

theorem writeBy_completes (c : Chip) (x : Meets) (m a : Nat) (d : Word) (key : Bool) (h : c.takes m a key = true)
    (hx : x.keyed = false) (hf : x.fwd = false) (ho : key = true ∨ isTw a = true ∨ offOf a ≠ PG_KEY) :
    ∃ o, c.writeBy x m a 4 [d] =
      { (c.afterKey m a key).applyWrite x m a [d] (key && !isTw a) with outs := o, resp := { status := .done, data := [] } } := by
  rw [writeBy_taken c x m a d key h hx hf ho]
  dsimp only
  split
  · exact ⟨_, rfl⟩
  · exact ⟨_, rfl⟩

/-- An accepted write of one word. Outputs that it releases at Hoist would be delivered with it: it releases none. -/
theorem put_completes (s : State) (m a : Nat) (d : Word) (key : Bool) {i : Instr} (hi : exec i s = s.put m a d)
    (h : s.chip.takes m a key = true) (ho : key = true ∨ isTw a = true ∨ offOf a ≠ PG_KEY)
    (hq : blockOf a = HOI → s.settled = true ∧
      ((s.chip.afterKey m a key).applyWrite (s.meets {}) m a [d] (key && !isTw a)).outQ = []) :
    Answers (exec i s) fun t =>
      ((s.chip.afterKey m a key).applyWrite (s.meets {}) m a [d] (key && !isTw a)).Completes t.chip := by
  obtain ⟨o, hw⟩ := writeBy_completes s.chip (s.meets {}) m a d key h rfl rfl ho
  rw [hi]
  refine ⟨s.settle fun c => c.writeBy (s.meets {}) m a 4 [d], ?_, ?_⟩
  · by_cases hb : blockOf a = HOI
    · exact put_settled s {} m a d key h (hq hb).1 (by rw [hw]; exact (hq hb).2)
    · exact put_taken s {} m a d key h rfl rfl ho hb
  · constructor <;> simp only [settle_words, settle_keys, settle_iwin, settle_resp, hw]

/-! ### Registers without behaviour of their own (R75, R77, R86, R180) -/

theorem exec_registerWrite_hops (s : State) (m a : Nat) (d : Word) (hops : Nat) :
    exec (.registerWrite m a 4 [d] hops) s = s.write {} m a 4 [d] hops := rfl

/-- A write outside Hoist. -/
theorem write_settles (s : State) (m : Nat) {a : Nat} (d : Word) (hops : Nat) (ha : a < 2 ^ 25) (hb : blockOf a ≠ HOI) :
    s.write {} m a 4 [d] hops = .next (s.settle fun c => c.writeBy (s.meets {}) m a 4 [d] hops) := by
  simp only [State.write, Nat.mod_eq_of_lt ha, hb, if_false]

/-- A field all of which the mask lets through takes what is written. -/
theorem getBits_takes (old d e : Word) {lo n : Nat} (h : ∀ i < n, e.getLsbD (lo + i) = true) :
    getBits ((old &&& ~~~e) ||| (d &&& e)) lo n = getBits d lo n := by
  apply Nat.eq_of_testBit_eq
  intro i
  rw [testBit_getBits, testBit_getBits]
  by_cases hi : i < n
  · simp [hi, h i hi]
  · simp [hi]

section
variable {slot j : Nat} (hs : slot < 4096) (hj : j < 3) (s : State) (m : Nat) (d : Word) {hops : Nat}
variable (h : s.chip.takes m (paramK slot j) false = true)
include hs hj h

/-- A write of LOOP_PARAM that arrives after at most three re-sends sets its field. -/
theorem paramWrite_arrives (hh : hops ≤ 3) :
    Answers (exec (.registerWrite m (paramK slot j) 4 [d] hops) s) fun t =>
      t.chip.fld (paramK slot j) 0 16 = getBits d 0 16 ∧ t.chip.resp.status = .done := by
  obtain ⟨hsend, ha, h4, he, hp⟩ := takes_parts h
  have htw := isTw_paramK hs hj
  have hi := takes_implemented h
  obtain ⟨w, l, g, hn⟩ := hopSends_notes s.chip hops
  have hpart : (s.chip.hopSends hops).part = s.chip.part := by rw [hn]
  have hfail : hopFails hops = false := by simp [hopFails, hh]
  have hstand : (s.chip.hopSends hops).standby = s.chip.standby := by
    have hrole : (s.chip.hopSends hops).fld aPaiStat 28 4 = s.chip.fld aPaiStat 28 4 :=
      (hopSends_alters s.chip hops).fld _ 28 4 fun _ _ _ => by unfold hopBits; decide
    rw [Chip.standby, Chip.role, hrole]; rfl
  obtain ⟨o, hact⟩ := actWrite_takes (s.chip.hopSends hops) (s.meets {}) m (paramK slot j) [d] false (by rw [hstand, hp])
  have hwrite : s.chip.writeBy (s.meets {}) m (paramK slot j) 4 [d] hops =
      (({ (s.chip.hopSends hops).applyWrite (s.meets {}) m (paramK slot j) [d] false with outs := o } : Chip).answer .done []) := by
    rw [writeBy_tw _ _ m d hsend ha h4 htw, hfail, writeOne_accepted _ _ m d (by rwa [hpart]) htw rfl rfl
      (by rw [accessCause_hopSends _ _ m htw, he]), hact]
    rfl
  have hb : blockOf (paramK slot j) ≠ HOI := by rw [blockOf_paramK hs hj]; decide
  refine ⟨_, (exec_registerWrite_hops ..).trans (write_settles s m d hops ha hb), ?_, ?_⟩
  · rw [settle_fld, hwrite, applyWrite_param hs hj _ _ m d false (by rwa [hpart])]
    exact (congrArg (getBits · 0 16) (Chip.word_setWord_same ..)).trans (getBits_takes _ d _ (by decide))
  · rw [settle_resp, hwrite]
    rfl

/-- One whose block fails after three re-sends leaves it, and counts in the Dipstick page. -/
theorem paramWrite_fails (hh : 3 < hops) :
    Answers (exec (.registerWrite m (paramK slot j) 4 [d] hops) s) fun t =>
      t.chip.word (paramK slot j) = s.chip.word (paramK slot j) ∧
      t.chip.nat (pageAddr DIP 0 0x118) = min (2 ^ 32 - 1) (s.chip.nat (pageAddr DIP 0 0x118) + 3) ∧
      t.chip.nat (pageAddr DIP 0 0x11C) = min (2 ^ 32 - 1) (s.chip.nat (pageAddr DIP 0 0x11C) + 1) := by
  obtain ⟨hsend, ha, h4, he, -⟩ := takes_parts h
  have htw := isTw_paramK hs hj
  obtain ⟨w, l, g, hn⟩ := hopSends_notes s.chip hops
  have hpart : (s.chip.hopSends hops).part = s.chip.part := by rw [hn]
  have hfail : hopFails hops = true := by simp [hopFails, hh]
  have hwrite : s.chip.writeBy (s.meets {}) m (paramK slot j) 4 [d] hops =
      ((s.chip.hopSends hops).logErr ecPoison m (paramK slot j)).answer (denial m ecPoison true) := by
    rw [writeBy_tw _ _ m d hsend ha h4 htw, hfail, writeOne_poisoned _ _ m d (by rw [hpart]; exact takes_implemented h) htw rfl rfl
      (by rw [accessCause_hopSends _ _ m htw, he])]
    rfl
  have hb : blockOf (paramK slot j) ≠ HOI := by rw [blockOf_paramK hs hj]; decide
  have hlog := logErr_alters (s.chip.hopSends hops) ecPoison m (paramK slot j)
  have hpage : errPage (paramK slot j) = pageAddr LOOP 0 0 := by rw [errPage, if_pos htw, blockOf_paramK hs hj]
  have hdip (o : Nat) (ho : o = 0x118 ∨ o = 0x11C) (i : Nat) : ¬ errorBits (paramK slot j) (dipA o) i := by
    rw [errorBits, hpage]
    rcases ho with rfl | rfl <;> unfold recordBits <;> decide
  obtain ⟨hcount, hfatal⟩ := hopSends_fails s.chip hops hh
  refine ⟨_, (exec_registerWrite_hops ..).trans (write_settles s m d hops ha hb), ?_, ?_, ?_⟩
  · rw [settle_word, hwrite]
    exact (hlog.word _ (not_errorBits_tw htw htw ha)).trans
      ((hopSends_alters s.chip hops).word _ (not_hopBits (.inl htw)))
  · rw [settle_nat, hwrite]
    exact (hlog.nat _ (hdip 0x118 (.inl rfl))).trans hcount
  · rw [settle_nat, hwrite]
    exact (hlog.nat _ (hdip 0x11C (.inr rfl))).trans hfatal

end

/-! ### Pending vectors of a core (R77) -/

theorem blockRows_partition (p : Nat) : blockRows HST (1 + p) = hstPartRows p := by
  simp only [blockRows, HST]
  rw [if_neg (by omega), Nat.add_sub_cancel_left]

/-- The registers of a core's page hold the pending vectors as W1C words. -/
theorem rowAt_vecPend {part : Part} {p j : Nat} (hp : p < 8) (hj : j < 2) (h : implemented part (partA p (0x100 + 4 * j)) = true) :
    rowAt part (partA p (0x100 + 4 * j)) = some ⟨{ off := 0x100, words := 2, w1c := m64 }, 0, j⟩ := by
  rw [partA, rowAt_page part (by decide) (by omega) (by omega) h, if_neg (by omega)]
  rw [blockRows_partition, hstPartRows]
  simp only [hp, if_true, List.append_nil]
  exact findRow_take (hit_single rfl hj rfl)

/-- W1C fields alone clear the bits written as 1. -/
theorem mergeWord_w1c (c : Chip) (m a : Nat) (d : Word) (keyed : Bool) {h : RegHit} {e : Word} (hr : rowAt c.part a = some h)
    (hw : h.row.rw = 0) (hk : h.row.rwk = 0) (hl : h.row.rwl = 0) (he : wordN h.row.w1c h.word = e) :
    c.mergeWord m a d keyed = (c.word (c.regKey m a h.row.per) &&& ~~~(d &&& e)) := by
  have hz : wordN 0 h.word = 0#32 := by simp [wordN]
  have ho : ~~~(0#32) = BitVec.allOnes 32 := rfl
  simp only [Chip.mergeWord, hr, hw, hk, hl, hz, he, BitVec.ofNat_eq_ofNat, ite_self, BitVec.or_zero, BitVec.and_zero, ho,
    BitVec.and_allOnes]

/-- A write of W1C bits alone clears those written as 1. -/
theorem applyWrite_vecPend (c : Chip) (x : Meets) (m : Nat) (d : Word) {p j : Nat} (hp : p < 8) (hj : j < 2)
    (h : implemented c.part (partA p (0x100 + 4 * j)) = true) :
    c.applyWrite x m (partA p (0x100 + 4 * j)) [d] false =
      c.setWord (partA p (0x100 + 4 * j)) (c.word (partA p (0x100 + 4 * j)) &&& ~~~d) := by
  have hrow := rowAt_vecPend hp hj h
  have hoff : offOf (partA p (0x100 + 4 * j)) = 0x100 + 4 * j := offOf_pageAddr _ _ _ (by omega)
  have hblock : blockOf (partA p (0x100 + 4 * j)) = HST := blockOf_pageAddr _ _ _ (by decide) (by omega) (by omega)
  have hinst : instOf (partA p (0x100 + 4 * j)) = 1 + p := instOf_pageAddr _ _ _ (by omega) (by omega)
  have htw : isTw (partA p (0x100 + 4 * j)) = false := isTw_pageAddr _ _ _ (by omega) (by omega)
  have hkey : c.regKey m (partA p (0x100 + 4 * j)) false = partA p (0x100 + 4 * j) :=
    regKey_page c m (by decide) (by omega) (by omega) (.inl (by decide)) (.inl (by decide))
  have hplain : c.applyWrite x m (partA p (0x100 + 4 * j)) [d] false = c.maskWrite m (partA p (0x100 + 4 * j)) [d] false := by
    have hwin : isWindow (partA p (0x100 + 4 * j)) = false := by
      simp [isWindow, hblock, windowPages, HST, HOI, LOOP, PRF, ADT, TLY, NET, PWR]
    have h1 : ¬ (0x100 + 4 * j < 0x034) ∧ ¬ (9 ≤ 1 + p) := by omega
    simp [Chip.applyWrite, resultAt_below c.part (show offOf (partA p (0x100 + 4 * j)) < 0x800 by omega), htw, hoff, h1,
      Chip.blockWrite, hwin, hblock, HST, Chip.hstWrite, hinst]
  have hlock := lockedAt_free c m (partA p (0x100 + 4 * j)) ⟨{ off := 0x100, words := 2, w1c := m64 }, 0, j⟩ rfl
  rw [hplain, maskWrite_one c m _ d false (mergeCause_open c m _ d false hrow rfl hlock), perAt_row hrow, hkey]
  have hall : wordN m64 j = BitVec.allOnes 32 := by
    obtain rfl | rfl : j = 0 ∨ j = 1 := by omega
    · decide
    · decide
  rw [mergeWord_w1c c m _ d false hrow rfl rfl rfl hall, hkey, BitVec.and_allOnes]

/-! ### The obligation -/

theorem exec_vecPendClear (s : State) (m p off : Nat) (d : Word) :
    exec (.vecPendClear m p off [d]) s = s.put m (partA p (0x100 + off)) d := rfl

/-- An accepted unkeyed write that sets one word. -/
theorem put_sets (s : State) (m a : Nat) (d w : Word) {i : Instr} (hi : exec i s = s.put m a d) (h : s.chip.takes m a false = true)
    (ho : isTw a = true ∨ offOf a ≠ PG_KEY) (hb : blockOf a ≠ HOI)
    (hw : ∀ x, s.chip.applyWrite x m a [d] false = s.chip.setWord a w) : Answers (exec i s) fun t => t.chip.word a = w := by
  obtain ⟨t, ht, hc⟩ := put_completes s m a d false hi h (.inr ho) fun hn => absurd hn hb
  refine ⟨t, ht, ?_⟩
  have hkey : s.chip.afterKey m a false = s.chip := by simp [Chip.afterKey]
  beta_reduce
  rw [word_of_words hc.words, Bool.false_and, hkey, hw, Chip.word_setWord_same]

/-- Settles O10: each write sets one word, whose fields its row gives. -/
theorem plainWrites : Obligations.PlainWrites := by
  unfold Obligations.PlainWrites
  intro s m d
  refine ⟨fun slot j hops hslot hj h => ⟨paramWrite_arrives hslot hj s m d h, paramWrite_fails hslot hj s m d h⟩,
    fun n hn h hb => ?_, fun p j hp hj h => ?_, fun k hk hb => ⟨fun h => ?_, fun h => ?_⟩⟩
  · exact put_sets s m (routeK n) d _ (exec_routeWrite ..) h (.inl (isTw_routeK hn)) (by rw [blockOf_routeK hn]; decide)
      fun x => applyWrite_route hn s.chip x m d false (takes_implemented h) hb
  · have hoff : offOf (partA p (0x100 + 4 * j)) = 0x100 + 4 * j := offOf_pageAddr _ _ _ (by omega)
    have hblock : blockOf (partA p (0x100 + 4 * j)) = HST := blockOf_pageAddr _ _ _ (by decide) (by omega) (by omega)
    exact put_sets s m (partA p (0x100 + 4 * j)) d _ (exec_vecPendClear ..) h (.inr (by rw [hoff, PG_KEY]; omega))
      (by rw [hblock]; decide) fun x => applyWrite_vecPend s.chip x m d hp hj (takes_implemented h)
  · exact put_sets s m (shmK (8 + k) + 4 * 0) d _ (exec_shmEntryWrite s m k 0 d) h (.inl (isTw_shmK hk (by decide)))
      (by rw [blockOf_shmK hk (by decide)]; decide) fun x => applyWrite_shm hk s.chip x m d false (.inl rfl) rfl hb
  · exact put_sets s m (shmK (8 + k) + 4 * 2) d _ (exec_shmEntryWrite s m k 8 d) h (.inl (isTw_shmK hk (by decide)))
      (by rw [blockOf_shmK hk (by decide)]; decide) fun x => applyWrite_shm hk s.chip x m d false (.inr rfl) rfl hb

end Sys2Proof.Machine
end

section
/-! PROOFS. Accesses that come to nothing but a log (R58, R70, R85), and the read of PG_ERR_CNT (R69). -/

namespace Sys2Proof.Machine

variable {c c' : Chip}

/-! ### How a write of one word settles -/

/-- To any block, where the machine is settled and the write releases no output. -/
theorem write_settled (s : State) (m : Nat) {a : Nat} (d : Word) (hops : Nat) (ha : a < 2 ^ 25) (hs : s.settled = true)
    (hq : (s.chip.writeBy (s.meets {}) m a 4 [d] hops).outQ = []) :
    s.write {} m a 4 [d] hops = .next (s.settle fun c => c.writeBy (s.meets {}) m a 4 [d] hops) := by
  obtain ⟨h0, -⟩ := settled_queues hs
  simp only [State.write, Nat.mod_eq_of_lt ha]
  split
  · rw [settleOut_of_nil s (fun c => c.writeBy (s.meets {}) m a 4 [d] hops) hq, State.settle, h0, ← hq]
  · rfl

theorem Chip.Notes.outQ (h : c.Notes c') : c'.outQ = c.outQ := by
  obtain ⟨w, n, l, rfl⟩ := h
  rfl

/-! ### Unimplemented addresses (R58, R85) -/

/-- The access is counted. -/
theorem logUnimp_count (c : Chip) (m a : Nat) :
    (c.logUnimp m a).nat (pageAddr HST 0 0x034) = min (2 ^ 32 - 1) (c.nat (pageAddr HST 0 0x034) + 1) := by
  let S (k _j : Nat) : Prop := k = pageAddr HST 0 0x100 ∨ k = pageAddr HST 0 0x100 + 4
  have hrec : c.Alters S (if c.bit (pageAddr HST 0 0x100) 31 then c.setBit (pageAddr HST 0 0x100) 30 true
      else (c.setNat (pageAddr HST 0 0x100) (2 ^ 31 + ecUnimp * 2 ^ 26 + c.logAs.getD m % 64 * 2 ^ 20 + a % 0x10_0000)).setNat
        (pageAddr HST 0 0x100 + 4) (blockOf a)) :=
    .ite (setBit_alters _ _ 30 true (.inl rfl))
      ((setNat_alters _ _ _ fun _ => .inl rfl).trans (setNat_alters _ _ _ fun _ => .inr rfl))
  have hcause (c : Chip) := cause_alters (S := fun k _ => k = pageAddr HST 0 PG_EVT_RAW ∨ k = pageAddr HST 0 PG_EVT_PEND) c HST 0 0
    (.inl rfl) (.inr rfl)
  rw [← hrec.nat (pageAddr HST 0 0x034) fun _ => by simp only [S]; decide, ← Chip.nat_count_same]
  exact (hcause _).nat _ fun _ => by decide

/-- A read gives 0. -/
theorem readBy_unimplemented (c : Chip) (m : Nat) {a : Nat} (hs : c.sends m = true) (ha : a < 2 ^ 25) (h4 : a % 4 = 0)
    (hi : implemented c.part a = false) : c.readBy m a 4 = (c.logUnimp m a).answer .done [0] := by
  have h25 : a % 33554432 = a := Nat.mod_eq_of_lt ha
  simp [Chip.readBy, hs, h25, Chip.busRead, h4, Chip.readOne, hi, Reply.answer]

/-- A write is discarded; where the key sequence of the page stands open it is used up. -/
theorem writeBy_unimplemented (c : Chip) (x : Meets) (m : Nat) {a : Nat} (d : Word) (hs : c.sends m = true) (ha : a < 2 ^ 25)
    (h4 : a % 4 = 0) (hi : implemented c.part a = false) :
    ∃ k, c.writeBy x m a 4 [d] = (({ c with keys := k } : Chip).logUnimp m a).answer .done [] := by
  have h25 : a % 33554432 = a := Nat.mod_eq_of_lt ha
  have hone : ∃ k, c.writeOne x m a [d] false = { chip := ({ c with keys := k } : Chip).logUnimp m a } := by
    simp only [Chip.writeOne, hi, Bool.not_false, if_true]
    split
    · exact ⟨_, rfl⟩
    · exact ⟨_, rfl⟩
  obtain ⟨k, hone⟩ := hone
  refine ⟨k, ?_⟩
  simp [Chip.writeBy, hs, h25, Chip.busWrite, h4, hone, Reply.answer]

theorem exec_unimplementedRead (s : State) (m a : Nat) :
    exec (.unimplementedAccess m a false) s = .next (s.settle fun c => c.readBy m a 4) := rfl

theorem exec_unimplementedWrite (s : State) (m a : Nat) : exec (.unimplementedAccess m a true) s = s.write {} m a 4 [0] := rfl

theorem unimplementedAccess_answers (s : State) (m : Nat) {a : Nat} (wr : Bool) (hm : s.chip.sends m = true) (ha : a < 2 ^ 25)
    (h4 : a % 4 = 0) (hi : implemented s.chip.part a = false) (hs : s.settled = true) :
    Answers (exec (.unimplementedAccess m a wr) s) fun t =>
      t.chip.nat (pageAddr HST 0 0x034) = min (2 ^ 32 - 1) (s.chip.nat (pageAddr HST 0 0x034) + 1) ∧
      t.chip.resp = { status := .done, data := if wr then [] else [0] } := by
  cases wr with
  | false =>
    refine ⟨_, exec_unimplementedRead s m a, ?_⟩
    beta_reduce
    rw [settle_nat, settle_resp, readBy_unimplemented s.chip m hm ha h4 hi]
    exact ⟨logUnimp_count .., rfl⟩
  | true =>
    obtain ⟨k, hw⟩ := writeBy_unimplemented s.chip (s.meets {}) m 0 hm ha h4 hi
    have hq : (s.chip.writeBy (s.meets {}) m a 4 [0]).outQ = [] := by
      rw [hw, Chip.answer_outQ, (logUnimp_notes ..).outQ]
      exact (settled_queues hs).1
    refine ⟨_, (exec_unimplementedWrite s m a).trans (write_settled s m 0 0 ha hs hq), ?_⟩
    beta_reduce
    rw [settle_nat, settle_resp, hw]
    exact ⟨logUnimp_count { s.chip with keys := k } m a, rfl⟩

/-! ### Refused writes of a table window (R70) -/

/-- But for the command register of an axis a refused write only leaves its log. -/
theorem refusedCommand_plain (c : Chip) (m a e : Nat) (d : Word)
    (h : ¬ (blockOf a = PRF ∧ twOf a < 0x4_8000 ∧ twOf a % 0x100 = 4)) : c.refusedCommand m a e d = c := by
  rw [Chip.refusedCommand, if_neg]
  simp only [Bool.and_eq_true, decide_eq_true_eq]
  rintro ⟨⟨⟨-, hb⟩, ho⟩, hw⟩
  exact h ⟨hb, ho, hw⟩

theorem refusedWrite_answers (s : State) (m : Nat) {a : Nat} (d : Word) {hops : Nat} (hh : hops ≤ 3) (hm : s.chip.sends m = true)
    (ha : a < 2 ^ 25) (h4 : a % 4 = 0) (hi : implemented s.chip.part a = true) (htw : isTw a = true) (hs : s.settled = true)
    (hc : ¬ (blockOf a = PRF ∧ twOf a < 0x4_8000 ∧ twOf a % 0x100 = 4)) (he : s.chip.accessCause m a true ≠ 0) :
    Answers (exec (.registerWrite m a 4 [d] hops) s) fun t =>
      (∀ k, isTw k = true → k < 2 ^ 25 → t.chip.word k = s.chip.word k) ∧
      t.chip.resp.status = denial m (s.chip.accessCause m a true) true := by
  have hsent := hopSends_notes s.chip hops
  have hpart : (s.chip.hopSends hops).part = s.chip.part := by
    obtain ⟨w, l, g, e⟩ := hsent
    rw [e]
  have hfail : hopFails hops = false := by simp [hopFails, hh]
  have hw : s.chip.writeBy (s.meets {}) m a 4 [d] hops =
      ((s.chip.hopSends hops).logErr (s.chip.accessCause m a true) m a).answer (denial m (s.chip.accessCause m a true) true) := by
    rw [writeBy_tw _ _ m d hm ha h4 htw, hfail,
      writeOne_refused _ _ m d (by rwa [hpart]) htw rfl rfl false (accessCause_hopSends _ _ m htw) he,
      refusedCommand_plain _ _ _ _ _ hc, Reply.answer, if_neg he]
  have hq : (s.chip.writeBy (s.meets {}) m a 4 [d] hops).outQ = [] := by
    rw [hw, Chip.answer_outQ, (hsent.trans (logErr_notes ..)).outQ]
    exact (settled_queues hs).1
  refine ⟨_, (exec_registerWrite_hops ..).trans (write_settled s m d hops ha hs hq), fun k hk hlt => ?_, ?_⟩
  · rw [settle_word, hw]
    exact ((logErr_alters ..).word k (not_errorBits_tw htw hk hlt)).trans
      ((hopSends_alters s.chip hops).word k (not_hopBits (.inl hk)))
  · rw [settle_resp, hw, Chip.answer_resp]

/-! ### The read of PG_ERR_CNT (R69) -/

theorem rowAt_errCnt (part : Part) {b i : Nat} (hb : b < 32) (hi : i < 128)
    (h : implemented part (pageAddr b i PG_ERR_CNT) = true) :
    rowAt part (pageAddr b i PG_ERR_CNT) = some ⟨rc PG_ERR_CNT, 0, 0⟩ := by
  rw [rowAt_page part hb hi (by decide) h, if_pos (by decide)]
  decide

section
variable {c : Chip} {m a : Nat} (hrow : rowAt c.part a = some ⟨rc PG_ERR_CNT, 0, 0⟩) (htw : isTw a = false)
  (hoff : offOf a = PG_ERR_CNT) (hkey : c.regKey m a false = a)
include hrow hoff hkey

include htw in
/-- The count is the page's word, in every master's view. -/
theorem readWords_errCnt : c.readWords m a = [c.word a] := by
  have hres : resultAt c.part a = none := resultAt_below _ (lt_of_eq_of_lt hoff (by decide))
  have hlive : c.liveWord m a = c.word a := by
    simp only [Chip.liveWord, hres, hrow, htw, hoff, Chip.headWord, hkey]
    rfl
  rw [readWords_live c m _ (by simp [isLock, hoff, PG_ERR_CNT]) (by rw [hoff]; simp [PG_ERR_CNT])]
  simp [Chip.liveWords, valueWords, hres, hrow, rc, hlive]

/-- It is cleared for a reader with read rights alone. -/
theorem readEffect_errCnt : c.readEffect m a = if c.clears m a then c.setWord a 0 else c := by
  have hres : resultAt c.part a = none := resultAt_below _ (lt_of_eq_of_lt hoff (by decide))
  simp [Chip.readEffect, hres, hrow, rc, Chip.each, hkey]

end

theorem exec_rcRegisterRead (s : State) (m a : Nat) :
    exec (.rcRegisterRead m a 4) s = .next (s.settle fun c => c.readBy m a 4) := rfl

theorem rcRegisterRead_answers (s : State) (m : Nat) {a : Nat} (h : s.chip.gives m a = true) {w : Word} {c' : Chip}
    (hw : s.chip.readWords m a = [w]) (he : s.chip.readEffect m a = c') :
    Answers (exec (.rcRegisterRead m a 4) s) fun t => t.chip.resp = { status := .done, data := [w] } ∧ t.chip.word a = c'.word a := by
  have hread : s.chip.readBy m a 4 = c'.answer .done [w] := by simp [readBy_given s.chip m _ h, hw, he]
  refine ⟨_, exec_rcRegisterRead .., ?_, ?_⟩
  · rw [settle_resp, hread, Chip.answer_resp]
  · rw [settle_word, hread]
    rfl

theorem errCntRead_answers (s : State) (m : Nat) {b i : Nat} (hb : b < 32) (hi : i < 128)
    (h : s.chip.gives m (pageAddr b i PG_ERR_CNT) = true) :
    Answers (exec (.rcRegisterRead m (pageAddr b i PG_ERR_CNT) 4) s) fun t =>
      t.chip.resp = { status := .done, data := [s.chip.word (pageAddr b i PG_ERR_CNT)] } ∧
      t.chip.word (pageAddr b i PG_ERR_CNT) =
        if s.chip.clears m (pageAddr b i PG_ERR_CNT) then 0 else s.chip.word (pageAddr b i PG_ERR_CNT) := by
  have himp : implemented s.chip.part (pageAddr b i PG_ERR_CNT) = true := by
    simp only [Chip.gives, Bool.and_eq_true] at h
    obtain ⟨⟨⟨-, hi⟩, -⟩, -⟩ := h
    exact hi
  have hrow := rowAt_errCnt s.chip.part hb hi himp
  have htw := isTw_pageAddr b i PG_ERR_CNT hi (by decide)
  have hoff := offOf_pageAddr b i PG_ERR_CNT (by decide)
  have hkey := regKey_page s.chip m hb hi (o := PG_ERR_CNT) (by decide) (.inr (by decide)) (.inr (by decide))
  obtain ⟨t, ht, hresp, hword⟩ :=
    rcRegisterRead_answers s m h (readWords_errCnt hrow htw hoff hkey) (readEffect_errCnt hrow hoff hkey)
  refine ⟨t, ht, hresp, hword.trans ?_⟩
  rw [apply_ite (fun c : Chip => c.word (pageAddr b i PG_ERR_CNT)), Chip.word_setWord_same]

/-- Settles O11: the log of an unimplemented access, the record of a refused one, and the RC count. -/
theorem accessErrors : Obligations.AccessErrors := by
  unfold Obligations.AccessErrors
  intro s m
  exact ⟨fun a wr hm ha h4 hi hs => unimplementedAccess_answers s m wr hm ha h4 hi hs,
    fun a d hops hh hm ha h4 hi htw hs hc he => refusedWrite_answers s m d hh hm ha h4 hi htw hs hc he,
    fun b i hb hi h => errCntRead_answers s m hb hi h⟩

end Sys2Proof.Machine
end

section
/-! PROOFS. Notices reach the vectors of partitions and the messages of host functions (R74, R75, R77, R78). -/

namespace Sys2Proof.Machine

/-! ### A notice at a partition (R77, R78) -/

section
variable (c : Chip) {p v : Nat}

theorem notice_core (hp : p < 8) : (c.notice p v).bit (vecK (partA p 0x100) v) (v % 32) = true := by
  rw [Chip.notice, if_pos hp, Chip.bit_setBit_same _ _ _ _ (Nat.mod_lt _ (by decide))]

section
variable (hp : 8 ≤ p) (hv : c.bit (vecK (partA p 0x380) v) (v % 32) = false)
include hp hv

theorem notice_sends (hc : c.canMessage p = true) (hu : c.unmasked p v = true) : c.notice p v = c.sendMsix p v := by
  simp [Chip.notice, hv, hc, hu, show ¬ p < 8 by omega]

theorem notice_pends (h : c.canMessage p = false ∨ c.unmasked p v = false) :
    (c.notice p v).bit (vecK (partA p 0x380) v) (v % 32) = true := by
  have hm : (c.canMessage p && c.unmasked p v) = false := by rcases h with h | h <;> simp [h]
  simp only [Chip.notice, hv, hm, show ¬ p < 8 by omega, if_false, Bool.false_eq_true]
  exact Chip.bit_setBit_same _ _ _ _ (Nat.mod_lt _ (by decide))

end

theorem notice_notices : (c.notice p v).notices = c.notices := by
  simp only [Chip.notice, Chip.sendMsix]
  split_ifs <;> rfl

end

/-! ### Delivery (R75, R76) -/

/-- The module once the router has taken notice `x` of line `n` and posted it to Tally. -/
def Chip.takesNotice (c : Chip) (n : Nat) (x : LineNotice) : Chip := { c with notices := c.notices.erase x }.tally n x.value

theorem deliverNotice_routed {c : Chip} {n : Nat} {x : LineNotice} (hx : c.notices.find? (·.line == n) = some x)
    (hb : c.bit (routeK n) 31 = true) :
    c.deliverNotice n = (c.takesNotice n x).notice (c.fld (routeK n) 8 4) (c.fld (routeK n) 0 6) := by
  unfold Chip.deliverNotice
  rw [hx]
  exact if_pos hb

theorem exec_eventNoticeDelivery (s : State) (n : Nat) :
    exec (.eventNoticeDelivery n) s = s.event HST 0 fun c => c.deliverNotice n := rfl

theorem eventNoticeDelivery_answers (s : State) {n : Nat} {x : LineNotice} (ha : s.chip.acts HST 0 = true)
    (hx : s.chip.notices.find? (·.line == n) = some x) (hb : s.chip.bit (routeK n) 31 = true) {p v : Nat}
    (hp : s.chip.fld (routeK n) 8 4 = p) (hv : s.chip.fld (routeK n) 0 6 = v) :
    Answers (exec (.eventNoticeDelivery n) s) fun t =>
      t.chip.notices = s.chip.notices.erase x ∧
      (p < 8 → t.chip.bit (vecK (partA p 0x100) v) (v % 32) = true) ∧
      (8 ≤ p → s.chip.bit (vecK (partA p 0x380) v) (v % 32) = false →
        (s.chip.canMessage p = true → s.chip.unmasked p v = true →
          t.chip.outs = s.chip.outs ++ [.msix p (s.chip.nat (msixK p v 0)) (s.chip.nat (msixK p v 1)) (s.chip.word (msixK p v 2))]) ∧
        (s.chip.canMessage p = false ∨ s.chip.unmasked p v = false → t.chip.bit (vecK (partA p 0x380) v) (v % 32) = true)) := by
  have hdel := deliverNotice_routed hx hb
  rw [hp, hv] at hdel
  refine ⟨_, (exec_eventNoticeDelivery s n).trans (event_acts s HST 0 _ ha), ?_, fun h8 => ?_,
    fun h8 hpend => ⟨fun hc hu => ?_, fun h => ?_⟩⟩
  · rw [settle_notices, hdel, notice_notices]; rfl
  · rw [settle_bit, hdel]
    exact notice_core _ h8
  · rw [settle_outs, hdel, notice_sends (s.chip.takesNotice n x) h8 hpend hc hu]; rfl
  · rw [settle_bit, hdel]
    exact notice_pends _ h8 hpend h

/-! ### A held vector goes (R78) -/

theorem heldSend_sends {c : Chip} {p v : Nat} (hp : 8 ≤ p) (hp' : p < 16) (hv : v < 64)
    (hb : c.bit (vecK (partA p 0x380) v) (v % 32) = true) (hc : c.canMessage p = true) (hu : c.unmasked p v = true) :
    c.heldSend p v = (c.setBit (vecK (partA p 0x380) v) (v % 32) false).sendMsix p v := by
  simp [Chip.heldSend, hp, hp', hv, hb, hc, hu]

/-- The pending bit clears, and the message is the one of the vector's entry. -/
theorem heldSend_shows {c : Chip} {p v : Nat} (hp : 8 ≤ p) (hp' : p < 16) (hv : v < 64)
    (hb : c.bit (vecK (partA p 0x380) v) (v % 32) = true) (hc : c.canMessage p = true) (hu : c.unmasked p v = true) :
    (c.heldSend p v).bit (vecK (partA p 0x380) v) (v % 32) = false ∧
      (c.heldSend p v).outs =
        c.outs ++ [.msix p (c.nat (msixK p v 0)) (c.nat (msixK p v 1)) (c.word (msixK p v 2))] := by
  have hword (w : Nat) : (c.setBit (vecK (partA p 0x380) v) (v % 32) false).word (msixK p v w) = c.word (msixK p v w) := by
    refine Chip.word_setWord_ne _ _ ?_
    simp only [msixK, vecK, partA, pageAddr]
    omega
  rw [heldSend_sends hp hp' hv hb hc hu]
  constructor
  · exact Chip.bit_setBit_same c _ _ false (Nat.mod_lt v (by decide))
  · simp only [Chip.sendMsix, Chip.out, Chip.nat, hword]; rfl

theorem exec_msixHeldSend (s : State) (p v : Nat) :
    exec (.msixHeldSend p v) s = s.event HST (1 + p) fun c => c.heldSend p v := rfl

/-! ### Unmasking (R78) -/

section
variable {p v : Nat} (hp : 8 ≤ p) (hp' : p < 16) (hv : v < 64)
include hp hp' hv

theorem rowAt_msixMask {part : Part} (h : implemented part (msixK p v 3) = true) :
    rowAt part (msixK p v 3) = some ⟨rwN 0x40C 64 16 1 1, v, 0⟩ := by
  rw [msixK, partA] at h ⊢
  rw [rowAt_page part (by decide) (by omega) (by omega) h, if_neg (by omega), blockRows_partition, hstPartRows,
    if_neg (by omega : ¬ p < 8)]
  simp only [List.cons_append, List.nil_append, show ¬ p < 8 by omega, if_false]
  rw [findRow_skip (hit_behind rfl (by dsimp only; omega)), findRow_skip (hit_behind rfl (by dsimp only; omega)),
    findRow_skip (hit_outside (by decide) (by simp only [roN]; omega)), findRow_skip (hit_behind rfl (by simp only [ro]; omega)),
    findRow_skip (hit_outside (by decide) (by simp only [rwN]; omega)),
    findRow_skip (hit_outside (by decide) (by simp only [rwN]; omega)),
    findRow_skip (hit_outside (by decide) (by simp only [rwN]; omega))]
  exact findRow_take (hit_repeat (by decide) (by decide) (by decide) hv (by simp only [rwN]; omega))

/-- The write sets the mask bit, and a pending vector that may go goes. -/
theorem applyWrite_msixMask (c : Chip) (x : Meets) (m : Nat) (d : Word) (h : implemented c.part (msixK p v 3) = true) :
    c.applyWrite x m (msixK p v 3) [d] false =
      (c.setWord (msixK p v 3) ((c.word (msixK p v 3) &&& ~~~1#32) ||| (d &&& 1#32))).heldSend p v := by
  have hrow := rowAt_msixMask hp hp' hv h
  have ho : 0x400 + 16 * v + 4 * 3 < 0x800 := by omega
  have hoff : offOf (msixK p v 3) = 0x400 + 16 * v + 4 * 3 := offOf_pageAddr _ _ _ (by omega)
  have hblock : blockOf (msixK p v 3) = HST := blockOf_pageAddr _ _ _ (by decide) (by omega) (by omega)
  have hinst : instOf (msixK p v 3) = 1 + p := instOf_pageAddr _ _ _ (by omega) (by omega)
  have htw : isTw (msixK p v 3) = false := isTw_pageAddr _ _ _ (by omega) (by omega)
  have hkey : c.regKey m (msixK p v 3) false = msixK p v 3 :=
    regKey_page c m (by decide) (by omega) (by omega) (.inl (by decide)) (.inl (by decide))
  have hwrite : c.applyWrite x m (msixK p v 3) [d] false = (c.maskWrite m (msixK p v 3) [d] false).heldSend p v := by
    have hwin : isWindow (msixK p v 3) = false := by
      simp [isWindow, hblock, windowPages, HST, HOI, LOOP, PRF, ADT, TLY, NET, PWR]
    have hlow : ¬ (0x400 + 16 * v + 4 * 3 < 0x034) := by omega
    have hentry : (0x400 + 16 * v + 4 * 3 - 0x400) / 16 = v := by omega
    have hhost : (decide (9 ≤ 1 + p) && decide (0x400 ≤ 0x400 + 16 * v + 4 * 3) && decide (0x400 + 16 * v + 4 * 3 < 0x800)) = true := by
      simp only [Bool.and_eq_true, decide_eq_true_eq]; omega
    unfold Chip.applyWrite Chip.blockWrite Chip.hstWrite
    simp only [resultAt_below c.part (show offOf (msixK p v 3) < 0x800 by omega), htw, hoff, hwin, hblock, HST, hinst, hlow, hhost,
      hentry, Nat.add_sub_cancel_left, Option.isSome_none, Bool.false_and, Bool.false_eq_true, if_false, if_true]
  rw [hwrite, maskWrite_open c m _ d false (e := 1#32) hrow rfl rfl rfl (lockedAt_free c m _ _ rfl) (by simp [rwN, wordN]) hkey]

/-- Writing MASK as 0 lets a pending vector go. -/
theorem msixUnmask_shows (c : Chip) (x : Meets) (m : Nat) (d : Word) (h : implemented c.part (msixK p v 3) = true)
    (hb : c.bit (vecK (partA p 0x380) v) (v % 32) = true) (hc : c.canMessage p = true) (hf : natBit c.hst.fnMask (p - 8) = false)
    (hd : d.getLsbD 0 = false) :
    (c.applyWrite x m (msixK p v 3) [d] false).bit (vecK (partA p 0x380) v) (v % 32) = false ∧
      (c.applyWrite x m (msixK p v 3) [d] false).outs =
        c.outs ++ [.msix p (c.nat (msixK p v 0)) (c.nat (msixK p v 1)) (c.word (msixK p v 2))] := by
  rw [applyWrite_msixMask hp hp' hv c x m d h]
  have hword (k : Nat) (hk : k ≠ msixK p v 3) : ∀ w : Word, (c.setWord (msixK p v 3) w).word k = c.word k :=
    fun w => Chip.word_setWord_ne _ _ hk
  have hvec : vecK (partA p 0x380) v ≠ msixK p v 3 := by simp only [msixK, vecK, partA, pageAddr]; omega
  have hep (e : Nat) (he : e < 2) : epK e ≠ msixK p v 3 := by simp only [msixK, epK, hstA, partA, pageAddr]; omega
  have hentry (w : Nat) (hw : w < 3) : msixK p v w ≠ msixK p v 3 := by simp only [msixK, partA, pageAddr]; omega
  have hmask (w : Word) (hw : w.getLsbD 0 = false) : (c.setWord (msixK p v 3) w).unmasked p v = true := by
    simp only [Chip.unmasked, Chip.bit, Chip.word_setWord_same, hw]
    simpa using hf
  have hmsg (w : Word) : (c.setWord (msixK p v 3) w).canMessage p = true := by
    simp only [Chip.canMessage, Chip.bit, hword _ (hep _ (by omega : (p - 8) / 4 < 2))]
    exact hc
  have hshow := heldSend_shows (c := c.setWord (msixK p v 3) ((c.word (msixK p v 3) &&& ~~~1#32) ||| (d &&& 1#32))) hp hp' hv
    (by simp only [Chip.bit, hword _ hvec]; exact hb) (hmsg _) (hmask _ (by rw [BitVec.getLsbD_or, BitVec.getLsbD_and, BitVec.getLsbD_and, hd]; simp))
  simp only [Chip.nat, hword _ (hentry 0 (by decide)), hword _ (hentry 1 (by decide)), hword _ (hentry 2 (by decide))] at hshow
  exact hshow

end

theorem exec_msixUnmask (s : State) (m p v : Nat) (d : Word) : exec (.msixUnmask m p v d) s = s.put m (msixK p v 3) d := rfl

theorem msixUnmask_answers (s : State) {p v : Nat} (hp : 8 ≤ p) (hp' : p < 16) (hv : v < 64) (m : Nat) (d : Word)
    (hb : s.chip.bit (vecK (partA p 0x380) v) (v % 32) = true) (hc : s.chip.canMessage p = true)
    (hf : natBit s.chip.hst.fnMask (p - 8) = false) (h : s.chip.takes m (msixK p v 3) false = true) (hd : d.getLsbD 0 = false) :
    Answers (exec (.msixUnmask m p v d) s) fun t =>
      t.chip.bit (vecK (partA p 0x380) v) (v % 32) = false ∧
      t.chip.outs = s.chip.outs ++ [.msix p (s.chip.nat (msixK p v 0)) (s.chip.nat (msixK p v 1)) (s.chip.word (msixK p v 2))] := by
  have hblock : blockOf (msixK p v 3) = HST := blockOf_pageAddr _ _ _ (by decide) (by omega) (by omega)
  have hoff : offOf (msixK p v 3) = 0x400 + 16 * v + 4 * 3 := offOf_pageAddr _ _ _ (by omega)
  have hkey : isTw (msixK p v 3) = true ∨ offOf (msixK p v 3) ≠ PG_KEY := .inr (by rw [hoff, PG_KEY]; omega)
  have hkeyed : s.chip.afterKey m (msixK p v 3) false = s.chip := by simp [Chip.afterKey]
  have hw := writeBy_taken_core s.chip (s.meets {}) m (msixK p v 3) d false h rfl rfl (.inr hkey)
    (fun hn => absurd hn.2.2 (by rw [hblock]; decide))
  rw [Bool.false_and, hkeyed] at hw
  obtain ⟨hbit, houts⟩ := msixUnmask_shows hp hp' hv s.chip (s.meets {}) m d (takes_implemented h) hb hc hf hd
  refine ⟨_, (exec_msixUnmask s m p v d).trans (put_taken s {} m _ d false h rfl rfl (.inr hkey) (by rw [hblock]; decide)), ?_, ?_⟩
  · rw [settle_bit, hw]
    exact hbit
  · rw [settle_outs, hw]
    exact houts

/-- Settles O18: a delivery by the line's route, and the two ways a held vector is released. -/
theorem noticesAndMessages : Obligations.NoticesAndMessages := by
  unfold Obligations.NoticesAndMessages
  intro s
  refine ⟨fun n x ha _ hx hb => eventNoticeDelivery_answers s ha hx hb rfl rfl, fun p v hp hp' hv hb hc hf => ⟨fun m d h hd => ?_,
    fun ha hm => ?_⟩⟩
  · exact msixUnmask_answers s hp hp' hv m d hb hc hf h hd
  · obtain ⟨hbit, houts⟩ := heldSend_shows hp hp' hv hb hc (by simp [Chip.unmasked, hf, hm])
    exact ⟨_, (exec_msixHeldSend s p v).trans (event_acts s HST (1 + p) _ ha), hbit, houts⟩

end Sys2Proof.Machine
end

section
/-! PROOFS. The key sequence of a page (R73): who moves it, and what a write of a page's header reaches (R67). -/

namespace Sys2Proof.Machine

/-! ### Sequences (R73) -/

@[simp] theorem keySt_setKeySt_same (c : Chip) (k m : Nat) (v : KeySt) : (c.setKeySt k m v).keySt k m = v := tab_tabPut_same ..

/-- The sequences of other masters and pages stand. -/
theorem keySt_setKeySt_ne (c : Chip) {k k' m n : Nat} (v : KeySt) (hm : m < 64) (hn : n < 64) (h : k' ≠ k ∨ n ≠ m) :
    (c.setKeySt k m v).keySt k' n = c.keySt k' n := by
  refine tab_tabPut_ne _ _ _ ?_
  simp only [keyKey]
  omega

theorem keySt_of_keys {c c' : Chip} (h : c'.keys = c.keys) (k m : Nat) : c'.keySt k m = c.keySt k m := by
  simp only [Chip.keySt, h]

theorem Chip.Notes.keys {c c' : Chip} (h : c.Notes c') : c'.keys = c.keys := by
  obtain ⟨w, n, l, rfl⟩ := h
  rfl

theorem keyStep_first (c : Chip) (m : Nat) {a : Nat} (h : c.keySt (pageOf a) m = .closed) (ho : offOf a = PG_KEY) :
    c.keyStep m a 0x5EA1 = (c.setKeySt (pageOf a) m .half, false) := by
  simp [Chip.keyStep, h, ho]

theorem keyStep_second (c : Chip) (m : Nat) {a : Nat} (h : c.keySt (pageOf a) m = .half) (ho : offOf a = PG_KEY) :
    c.keyStep m a 0xC0DE = (c.setKeySt (pageOf a) m .opened, false) := by
  simp [Chip.keyStep, h, ho]

theorem keyExpired_closes (c : Chip) (m b i : Nat) (h : c.keySt (pageAddr b i 0) m = .half) :
    (c.keyExpired m b i).keySt (pageAddr b i 0) m = .closed := by
  rw [Chip.keyExpired, if_pos h, keySt_of_keys (logErr_notes ..).keys, keySt_setKeySt_same]

/-! ### Writes of a page's header (R67) -/

section
variable (c : Chip) (m : Nat) {a : Nat} (d : Word)

theorem applyWrite_head (x : Meets) (keyed : Bool) (ht : isTw a = false) (ho : offOf a < 0x034) :
    c.applyWrite x m a [d] keyed = c.headWrite m a d keyed := by
  simp [Chip.applyWrite, resultAt_below c.part (show offOf a < 0x800 by omega), ht, ho]

/-- PG_KEY holds nothing. -/
theorem headWrite_key (keyed : Bool) (ho : offOf a = PG_KEY) : c.headWrite m a d keyed = c := by
  unfold Chip.headWrite
  rw [ho]
  rfl

theorem headWrite_ctl (keyed : Bool) (ho : offOf a = PG_CTL) : c.headWrite m a d keyed = c.ctlWrite m a d keyed := by
  unfold Chip.headWrite
  rw [ho]
  rfl

/-- A keyed write of PG_CTL that starts no soft reset. -/
theorem ctlWrite_keyed (hd : d.getLsbD 1 = false) :
    c.ctlWrite m a d true = (c.setBit a 2 (d.getLsbD 2)).when (d.getLsbD 0 != c.bit a 0)
      fun c => c.enablePage (blockOf a) (instOf a) (d.getLsbD 0) := by
  have hbit : (c.setBit a 2 (d.getLsbD 2)).bit a 0 = c.bit a 0 := by simp [Chip.bit_setBit]
  simp only [Chip.ctlWrite, hd, hbit, Bool.false_and, Bool.not_true, Bool.false_eq_true, if_false, Chip.when]

end

/-! ### Enabling leaves the sequences (R67, R73) -/

theorem refreshPair_keys (c : Chip) (p : Nat) : (c.refreshPair p).keys = c.keys :=
  ((setFld_notes ..).trans (level_notes ..) : Chip.Notes c (c.refreshPair p)).keys

theorem pairEnable_keys (c : Chip) (p : Nat) (on : Bool) : (c.pairEnable p on).keys = c.keys := by
  unfold Chip.pairEnable
  dsimp only
  split
  · rfl
  · rw [refreshPair_keys]
    split_ifs <;> rfl

theorem fbkEnable_off_keys (c : Chip) (n : Nat) : (c.fbkEnable n false).keys = c.keys := rfl

theorem setCanState_notes (c : Chip) (n v : Nat) : c.Notes (c.setCanState n v) := by
  have hset : c.Notes ((c.setFld (canK n 0x108) 29 3 v).cause BUS n 4) := (setFld_notes ..).trans (cause_notes ..)
  exact .ite (.refl c) (.ite ((hset.trans (count_notes ..)).trans (cause_notes ..)) hset)

theorem canEnable_off_keys (c : Chip) (n : Nat) : (c.canEnable n false).keys = c.keys := by
  rw [Chip.canEnable, if_pos (by decide)]
  dsimp only
  rw [(setCanState_notes ..).keys]
  split
  · rfl
  · rfl

theorem enablePage_off_keys (c : Chip) (b i : Nat) : (c.enablePage b i false).keys = c.keys := by
  unfold Chip.enablePage
  split_ifs
  · exact pairEnable_keys ..
  · exact fbkEnable_off_keys ..
  · exact canEnable_off_keys ..
  · exact ((setBit_notes c _ 0 false).trans (setBit_notes ..)).keys
  · exact ((setBit_notes c _ 0 false).trans (setBit_notes ..)).keys
  · exact (setBit_notes c _ 0 false).keys

/-- At Hoist enabling only sets the bit. -/
theorem enablePage_hoi (c : Chip) (i : Nat) (on : Bool) : c.enablePage HOI i on = c.setBit (pageAddr HOI i PG_CTL) 0 on := rfl

/-! ### Writes of PG_KEY (R73) -/

/-- A write of PG_KEY moves the sequence of its master alone. -/
theorem writeBy_key (c : Chip) (x : Meets) (m : Nat) {a : Nat} (d : Word) (v : KeySt) (hs : c.sends m = true) (ha : a < 2 ^ 25)
    (h4 : a % 4 = 0) (hi : implemented c.part a = true) (he : c.accessCause m a true = 0)
    (hp : (decide (8 ≤ m) && decide (m < 16) && pairBlock (blockOf a) && c.standby) = false) (hx : x.keyed = false)
    (hf : x.fwd = false) (ht : isTw a = false) (ho : offOf a = PG_KEY) (hstep : c.keyStep m a d = (c.setKeySt (pageOf a) m v, false)) :
    ∃ o, c.writeBy x m a 4 [d] = { c.setKeySt (pageOf a) m v with outs := o, resp := { status := .done, data := [] } } := by
  have hl : isLock a = false := by simp [isLock, ho, PG_KEY]
  obtain ⟨o, hact⟩ := actWrite_takes (c.setKeySt (pageOf a) m v) x m a [d] false hp
  refine ⟨o, ?_⟩
  rw [writeBy_accepted c x m a d hs ha h4 hi he hl hx hf, if_neg (by simp [ht]), hstep]
  dsimp only
  rw [hact, applyWrite_head _ m d x false ht (by rw [ho]; decide), headWrite_key _ m d false ho]
  rfl

theorem exec_pgKeyWrite (s : State) (m b i : Nat) (d : Word) :
    exec (.pgKeyWrite m b i d) s = s.write {} m (pageAddr b i PG_KEY) 4 [d] 0 := rfl

theorem exec_keyTimeout (s : State) (m b i : Nat) : exec (.keyTimeout m b i) s = s.anytime fun c => c.keyExpired m b i := rfl

theorem exec_debugFreezeWrite (s : State) (m b i : Nat) (d : Word) :
    exec (.debugFreezeWrite m b i d) s = s.put m (pageAddr b i PG_CTL) d := rfl

section
variable (s : State) {m a : Nat} (hs : s.settled = true) (ht : isTw a = false)
include hs ht

/-- The machine after a write of PG_KEY that the window takes. -/
theorem write_key (d : Word) (v : KeySt) {k : Tab KeySt} (ho : offOf a = PG_KEY) (h : s.chip.takes m a false = true)
    (hstep : ({ s.chip with keys := k } : Chip).keyStep m a d = (({ s.chip with keys := k } : Chip).setKeySt (pageOf a) m v, false)) :
    Answers (State.write { s with chip := { s.chip with keys := k } } {} m a 4 [d] 0) fun t =>
      t.chip.keys = (({ s.chip with keys := k } : Chip).setKeySt (pageOf a) m v).keys ∧ t.chip.words = s.chip.words ∧
      t.chip.resp.status = .done := by
  obtain ⟨hsend, ha, h4, he, hp⟩ := takes_parts h
  have himp := takes_implemented h
  obtain ⟨o, hw⟩ := writeBy_key { s.chip with keys := k } (State.meets { s with chip := { s.chip with keys := k } } {}) m d v
    hsend ha h4 himp he hp rfl rfl ht ho hstep
  refine ⟨_, write_settled _ m d 0 ha hs ?_, ?_, ?_, ?_⟩
  · rw [hw]
    exact (settled_queues hs).1
  · rw [settle_keys, hw]
  · rw [settle_words, hw]; rfl
  · rw [settle_resp, hw]

end

/-! ### Writes of PG_CTL (R67, R73) -/

/-- A write of PG_CTL that the window takes. -/
theorem put_ctl (s : State) (m : Nat) {a : Nat} (d : Word) (key : Bool) {i : Instr} (hi : exec i s = s.put m a d)
    (h : s.chip.takes m a key = true) (ht : isTw a = false) (ho : offOf a = PG_CTL)
    (hq : blockOf a = HOI → s.settled = true ∧ ((s.chip.afterKey m a key).ctlWrite m a d key).outQ = []) :
    Answers (exec i s) fun t => ((s.chip.afterKey m a key).ctlWrite m a d key).Completes t.chip := by
  have hw : (s.chip.afterKey m a key).applyWrite (s.meets {}) m a [d] (key && !isTw a) =
      (s.chip.afterKey m a key).ctlWrite m a d key := by
    rw [ht, Bool.not_false, Bool.and_true, applyWrite_head _ m d _ _ ht (by rw [ho]; decide), headWrite_ctl _ m d _ ho]
  obtain ⟨t, he, hc⟩ := put_completes s m a d key hi h (.inr (.inr (by rw [ho]; decide))) (by rw [hw]; exact hq)
  exact ⟨t, he, hw ▸ hc⟩

section
variable (c : Chip) (m : Nat) {a : Nat} (d : Word)

/-- One that writes 0 leaves what the sequences became with it. -/
theorem ctlWrite_zero_keys : (c.ctlWrite m a 0 true).keys = c.keys := by
  rw [ctlWrite_keyed c m 0 rfl]
  unfold Chip.when
  split
  · exact enablePage_off_keys ..
  · rfl

/-- At Hoist one that starts no soft reset releases nothing. -/
theorem ctlWrite_outQ_hoi (hd : d.getLsbD 1 = false) (hb : blockOf a = HOI) : (c.ctlWrite m a d true).outQ = c.outQ := by
  rw [ctlWrite_keyed c m d hd, hb]
  unfold Chip.when
  split
  · beta_reduce
    rw [enablePage_hoi]; rfl
  · rfl

end

theorem afterKey_keySt (c : Chip) (m : Nat) {a : Nat} (ht : isTw a = false) :
    (c.afterKey m a true).keySt (pageOf a) m = .closed := by
  rw [Chip.afterKey, if_neg (by simp [ht]), keySt_setKeySt_same]

@[simp] theorem afterKey_outQ (c : Chip) (m a : Nat) (key : Bool) : (c.afterKey m a key).outQ = c.outQ := by
  unfold Chip.afterKey; split <;> rfl

/-- Settles O9: the two key words, the timeout, and the keyed write that uses an open sequence up. -/
theorem keySequence : Obligations.KeySequence := by
  unfold Obligations.KeySequence
  intro s m b i _ hi hs hm
  have hpage := pageOf_pageAddr b i PG_KEY (by decide)
  have ho := offOf_pageAddr b i PG_KEY (by decide)
  have ht := isTw_pageAddr b i PG_KEY hi (by decide)
  refine ⟨fun h => ?_, fun h => ?_, fun hh hk => ?_, fun h => ?_⟩
  · have hk : s.chip.keySt (pageOf (pageAddr b i PG_KEY)) m = .closed := by
      simp only [Chip.takes, Bool.and_eq_true, Bool.or_eq_true, ht] at h
      obtain ⟨⟨-, hk⟩, -⟩ := h
      simpa using hk
    obtain ⟨t, he, hkeys, -, hresp⟩ := write_key s hs ht 0x5EA1 .half ho h (keyStep_first s.chip m hk ho)
    rw [hpage] at hkeys
    exact ⟨t, (exec_pgKeyWrite ..).trans he, (keySt_of_keys hkeys ..).trans (keySt_setKeySt_same ..), hresp,
      fun k n hn hne => (keySt_of_keys hkeys ..).trans (keySt_setKeySt_ne s.chip .half hm hn hne)⟩
  · have hhalf : (s.chip.setKeySt (pageAddr b i 0) m .half).keySt (pageOf (pageAddr b i PG_KEY)) m = .half := by
      rw [hpage, keySt_setKeySt_same]
    obtain ⟨t, he, hkeys, hwords, -⟩ := write_key s hs ht 0xC0DE .opened ho h (keyStep_second _ m hhalf ho)
    rw [hpage] at hkeys
    exact ⟨t, (exec_pgKeyWrite ..).trans he,
      (keySt_of_keys hkeys ..).trans (keySt_setKeySt_same (s.chip.setKeySt (pageAddr b i 0) m .half) ..), hwords⟩
  · exact ⟨_, (exec_keyTimeout s m b i).trans (anytime_acts s _ hh), keyExpired_closes s.chip m b i hk⟩
  · have htc := isTw_pageAddr b i PG_CTL hi (by decide)
    obtain ⟨t, he, hc⟩ := put_ctl s m 0 true (exec_debugFreezeWrite ..) h htc (offOf_pageAddr b i PG_CTL (by decide))
      fun hh => ⟨hs, by rw [ctlWrite_outQ_hoi _ m 0 rfl hh, afterKey_outQ]; exact (settled_queues hs).1⟩
    have hclosed := afterKey_keySt s.chip m htc
    rw [pageOf_pageAddr b i PG_CTL (by decide)] at hclosed
    exact ⟨t, he, ((keySt_of_keys hc.keys ..).trans (keySt_of_keys (ctlWrite_zero_keys ..) ..)).trans hclosed⟩

end Sys2Proof.Machine
end

section
/-! PROOFS. Enabling a page (R67): the checks of a pair, a channel and a controller, and what ENABLE reads afterwards. -/

namespace Sys2Proof.Machine

variable {c c' : Chip}

/-- A word at another offset than PG_CTL. -/
def offCtl (k _j : Nat) : Prop := offOf k ≠ PG_CTL

theorem offCtl_page {b i o : Nat} (ho : o < 4096) (hne : o ≠ PG_CTL) (j : Nat) : offCtl (pageAddr b i o) j := by
  rwa [offCtl, offOf_pageAddr b i o ho]

/-- What follows on the setting of a bit of PG_CTL and leaves that register leaves the bit. -/
theorem bit_of_ctl_set {k j : Nat} {v : Bool} (hk : offOf k = PG_CTL) (hj : j < 32) (h : (c.setBit k j v).Alters offCtl c') :
    c'.bit k j = v := by
  rw [h.bit k j fun hn => hn hk, Chip.bit_setBit_same c k j v hj]

/-! ### The checks (R264, R313, R397) -/

/-- The checks of a page on its enabling pass. -/
def Chip.enablable (c : Chip) (b i : Nat) : Prop :=
  (b = PWM → 1 ≤ i → c.fld (pwmK (i - 1) 0x100) 29 2 ≠ 3) ∧ (b = FBK → i < 32 → c.fbkCode i = 0) ∧ (b = BUS → c.canCode i = 0)

section
variable (h : ∀ k j, offCtl k j → c'.word k = c.word k)
include h

theorem fbkCode_congr (n : Nat) : c'.fbkCode n = c.fbkCode n := by
  have hk (o : Nat) (ho : o < 4096) (hne : o ≠ PG_CTL) : c'.word (fbkK n o) = c.word (fbkK n o) := h _ 0 (offCtl_page ho hne 0)
  simp (disch := decide) only [Chip.fbkCode, Chip.fbkSrc, Chip.cpr, Chip.nat, Chip.fld, Chip.bit, hk]
  rfl

theorem canCode_congr (n : Nat) : c'.canCode n = c.canCode n := by
  have hk (o : Nat) (ho : o < 4096) (hne : o ≠ PG_CTL) : c'.word (canK n o) = c.word (canK n o) := h _ 0 (offCtl_page ho hne 0)
  simp (disch := decide) only [Chip.canCode, Chip.fld, Chip.bit, hk]
  rfl

theorem enablable_congr {b i : Nat} : c.enablable b i → c'.enablable b i := by
  have hk (p : Nat) : c'.word (pwmK p 0x100) = c.word (pwmK p 0x100) := h _ 0 (offCtl_page (by decide) (by decide) 0)
  simp only [Chip.enablable, fbkCode_congr h, canCode_congr h, Chip.fld, hk]
  exact id

end

/-! ### What ENABLE reads (R67) -/

theorem pairEnable_shows (c : Chip) (p : Nat) (on : Bool) (h : on = true → c.fld (pwmK p 0x100) 29 2 ≠ 3) :
    (c.pairEnable p on).bit (pageAddr PWM (1 + p) PG_CTL) 0 = on := by
  refine bit_of_ctl_set (c := c) (offOf_pageAddr _ _ _ (by decide)) (by decide) ?_
  have hstat (c : Chip) (v : Bool) : c.Alters offCtl (c.setBit (pwmK p 0x108) 17 v) :=
    setBit_alters c _ 17 v (offCtl_page (by decide) (by decide) 17)
  have hpair (c : Chip) : c.Alters offCtl (c.refreshPair p) := by
    refine (refreshPair_alters c p).mono ?_
    rintro k j (rfl | rfl | rfl)
    · exact offCtl_page (by decide) (by decide) j
    · exact offCtl_page (by decide) (by decide) j
    · exact offCtl_page (by decide) (by decide) j
  have hpass : ¬ (on && decide (c.fld (pwmK p 0x100) 29 2 = 3)) = true := by simpa using h
  unfold Chip.pairEnable
  rw [if_neg hpass]
  refine .trans ?_ (hpair _)
  cases on
  · exact (hstat _ false).keep rfl rfl rfl
  · rw [if_pos rfl]
    exact .ite (hstat _ true) (.refl _ _)

theorem setU64_alters {S : Nat → Nat → Prop} (c : Chip) (k v : Nat) (h : ∀ j, S k j) (h' : ∀ j, S (k + 4) j) :
    c.Alters S (c.setU64 k v) := (setWord_alters c k _ h).trans (setWord_alters _ (k + 4) _ h')

theorem fbkEnable_shows (c : Chip) (n : Nat) (on : Bool) (h : on = true → c.fbkCode n = 0) :
    (c.fbkEnable n on).bit (pageAddr FBK n PG_CTL) 0 = on := by
  have hk : offOf (pageAddr FBK n PG_CTL) = PG_CTL := offOf_pageAddr _ _ _ (by decide)
  cases on
  · exact bit_of_ctl_set (c := c) hk (by decide) (.of_words rfl rfl rfl)
  · unfold Chip.fbkEnable
    rw [if_neg (by decide)]
    split
    next hon => exact hon
    rw [h rfl, if_neg (by decide)]
    refine bit_of_ctl_set (c := c) hk (by decide) ?_
    have hcount := setU64_alters (S := offCtl) (c.setBit (fbkK n PG_CTL) 0 true) (fbkK n 0x158) 0
      (offCtl_page (by decide) (by decide)) fun j => by
        rw [show fbkK n 0x158 + 4 = fbkK n 0x15C from rfl]; exact offCtl_page (by decide) (by decide) j
    have hlatch (c : Chip) (l : Nat) (hl : l ∈ [0, 1, 2]) : c.Alters offCtl (c.setBit (latchK n l 0x30) 31 false) := by
      have hl : l < 3 := by simp at hl; omega
      exact setBit_alters c _ 31 false (offCtl_page (by omega) (by simp only [PG_CTL]; omega) 31)
    have hlatches := each_alters (S := offCtl) (fun c l => c.setBit (latchK n l 0x30) 31 false) [0, 1, 2] hlatch
    dsimp only
    generalize hy : (Chip.setChan _ n _) = y
    have hchan : Chip.Alters offCtl (c.setBit (fbkK n PG_CTL) 0 true) y := by
      refine hcount.keep ?_ ?_ ?_ <;> rw [← hy] <;>
        simp only [Chip.setChan, Chip.freeInt_words, Chip.freeNat_words, Chip.freeInt_dip, Chip.freeNat_dip, Chip.freeInt_laneFloor,
          Chip.freeNat_laneFloor]
    exact hchan.trans (hlatches y)

theorem setCanState_alters (c : Chip) (n v : Nat) : c.Alters offCtl (c.setCanState n v) := by
  have hreg (o : Nat) (ho : o < 4096) (hne : o ≠ PG_CTL) (j : Nat) : offCtl (canK n o) j := offCtl_page ho hne j
  have hcause (c : Chip) (i : Nat) : c.Alters offCtl (c.cause BUS n i) :=
    cause_alters c BUS n i (offCtl_page (by decide) (by decide) i) (offCtl_page (by decide) (by decide) i)
  have hset : c.Alters offCtl ((c.setFld (canK n 0x108) 29 3 v).cause BUS n 4) :=
    (setFld_alters c _ 29 3 v fun j _ _ => hreg _ (by decide) (by decide) j).trans (hcause _ 4)
  exact .ite (.refl _ c) (.ite ((hset.trans (count_alters _ _ 1 (hreg _ (by decide) (by decide)))).trans (hcause _ 5)) hset)

theorem setCanObj_alters (c : Chip) (n o : Nat) (x : CanObj) : c.Alters offCtl (c.setCanObj n o x) := by
  have hobj (j : Nat) : offCtl (objK n o 0xC) j := by
    simp only [offCtl, objK, twAddr, offOf, PG_CTL]; omega
  exact .after (setBit_alters _ _ 29 _ (hobj 29)) (.after (setBit_alters _ _ 30 _ (hobj 30)) (.of_words rfl rfl rfl))

theorem canEnable_shows (c : Chip) (n : Nat) (on : Bool) (h : on = true → c.canCode n = 0) :
    (c.canEnable n on).bit (pageAddr BUS n PG_CTL) 0 = on := by
  have hk : offOf (pageAddr BUS n PG_CTL) = PG_CTL := offOf_pageAddr _ _ _ (by decide)
  cases on
  · refine bit_of_ctl_set (c := c) hk (by decide) (.trans ?_ (setCanState_alters _ n 0))
    split
    · exact .after (setCanObj_alters ..) (.of_words rfl rfl rfl)
    · exact .of_words rfl rfl rfl
  · unfold Chip.canEnable
    rw [if_neg (by decide)]
    split
    next hon => exact hon
    rw [h rfl, if_neg (by decide)]
    refine bit_of_ctl_set (c := c.setFld (canK n 0x108) 20 4 0) hk (by decide) (.trans ?_ (setCanState_alters _ n 1))
    have hcounts := setNat_alters (S := offCtl) ((c.setFld (canK n 0x108) 20 4 0).setBit (canK n PG_CTL) 0 true) (canK n 0x10C)
      (min 511 0 * 2 ^ 16 + b2n (min 255 0 ≥ 128) * 2 ^ 15 + min 255 0) (offCtl_page (by decide) (by decide))
    exact .ite (hcounts.trans (setCanState_alters ..)) hcounts

theorem enablePage_shows (c : Chip) {b i : Nat} (on : Bool) (h : on = true → c.enablable b i) :
    (c.enablePage b i on).pageOn b i = on := by
  unfold Chip.enablePage Chip.pageOn
  split
  next hb =>
    simp only [Bool.and_eq_true, decide_eq_true_eq] at hb
    obtain ⟨rfl, hi⟩ := hb
    have hshow := pairEnable_shows c (i - 1) on fun hon => (h hon).1 rfl hi
    rwa [Nat.add_sub_cancel' hi] at hshow
  split
  next hb =>
    simp only [Bool.and_eq_true, decide_eq_true_eq] at hb
    obtain ⟨rfl, hi⟩ := hb
    exact fbkEnable_shows c i on fun hon => (h hon).2.1 rfl hi
  split
  next hb =>
    subst hb
    exact canEnable_shows c i on fun hon => (h hon).2.2 rfl
  have hctl : offOf (pageAddr b i PG_CTL) = PG_CTL := offOf_pageAddr _ _ _ (by decide)
  split
  · exact bit_of_ctl_set hctl (by decide) (setBit_alters _ _ 31 _ (offCtl_page (by decide) (by decide) 31))
  split
  · exact bit_of_ctl_set hctl (by decide) (setBit_alters _ _ 31 _ (offCtl_page (by decide) (by decide) 31))
  · exact Chip.bit_setBit_same _ _ _ _ (by decide)

end Sys2Proof.Machine
end

section
/-! PROOFS. Soft reset, DEBUG_FREEZE, PG_OWNER and PG_EVT_PEND of a page (R67, R68, R69, R74). -/

namespace Sys2Proof.Machine

variable {c c' : Chip}

/-! ### Soft reset (R68) -/

/-- What every effect for an item leaves stands after the whole list. -/
theorem each_keeps {α β : Type} (g : Chip → β) (f : Chip → α → Chip) (h : ∀ c x, g (f c x) = g c) (l : List α) (c : Chip) :
    g (c.each l f) = g c := by
  induction l generalizing c with
  | nil => rfl
  | cons x r ih => exact (ih _).trans (h c x)

/-- A key that a filter of a table passes over reads as by default. -/
theorem tabGet_filter_out {α : Type} (d : Nat → α) (t : Tab α) (p : Nat → Bool) {k : Nat} (h : p k = false) :
    tabGet d (t.filter fun e => p e.1) k = d k := by
  induction t with
  | nil => rfl
  | cons e r ih =>
    by_cases he : p e.1 = true
    · have hne : e.1 ≠ k := fun hn => by simp [hn, h] at he
      simpa [List.filter_cons, he, tabGet, hne] using ih
    · simpa [List.filter_cons, he] using ih

/-- On these pages nothing that a soft reset ends shows in a register. -/
theorem resetBehind_words (c : Chip) {b : Nat} (i : Nat) (h : b ∈ [COR, HOI, LOOP, FBK, CNV, NET, BUS, DIP]) :
    (c.resetBehind b i).words = c.words := by
  simp only [List.mem_cons, List.not_mem_nil, or_false] at h
  rcases h with rfl | rfl | rfl | rfl | rfl | rfl | rfl | rfl
  · rfl
  · exact (apply_ite Chip.words ..).trans (ite_self _)
  · rfl
  · exact (apply_ite Chip.words ..).trans (ite_self _)
  · exact (apply_ite Chip.words ..).trans (ite_self _)
  · exact (apply_ite Chip.words ..).trans (ite_self _)
  · rfl
  · rfl

theorem keepFaults_plain (c old : Chip) {b : Nat} (i : Nat) (h : b ∈ [COR, HOI, LOOP, FBK, CNV, NET, BUS, DIP]) :
    c.keepFaults old b i = c := by
  have hb : b ≠ PAI ∧ b ≠ PWM := by
    constructor
    · rintro rfl; revert h; decide
    · rintro rfl; revert h; decide
  simp [Chip.keepFaults, hb.1, hb.2]

theorem softReset_resetting (c : Chip) (b i : Nat) : (c.softReset b i).resetting b i = true := by
  unfold Chip.softReset Chip.resetting
  dsimp only
  rw [pageAddr_zero_add]
  exact Chip.bit_setBit_same _ _ _ _ (by decide)

/-- PG_CTL does not return. -/
theorem resetKey_ctl {b i k : Nat} (hb : b < 32) (hi : i < 128) (h : resetKey b i k = true) : k ≠ pageAddr b i PG_CTL := by
  rintro rfl
  simp only [resetKey, Bool.and_eq_true, decide_eq_true_eq] at h
  obtain ⟨⟨⟨⟨-, hlo⟩, -⟩, -⟩, -⟩ := h
  simp only [pageAddr, PG_CTL] at hlo
  omega

/-- On these pages every register that the soft reset governs returns. -/
theorem softReset_word (c : Chip) {b i k : Nat} (hb : b < 32) (hi : i < 128) (h : b ∈ [COR, HOI, LOOP, FBK, CNV, NET, BUS, DIP])
    (hk : resetKey b i k = true) : (c.softReset b i).word k = wordReset k := by
  unfold Chip.softReset
  dsimp only
  rw [keepFaults_plain _ _ i h, Chip.setBit, Chip.word_setFld, if_neg (by rw [pageAddr_zero_add]; exact resetKey_ctl hb hi hk),
    word_of_words (resetBehind_words _ i h)]
  exact tabGet_filter_out wordReset _ (fun k => !resetKey b i k) (by simp [hk])

theorem resetContext_outQ (c : Chip) (b i p : Nat) : (c.resetContext b i p).outQ = c.outQ := by
  unfold Chip.resetContext
  split
  · rfl
  · rfl

theorem softReset_outQ_hoi (c : Chip) (i : Nat) : (c.softReset HOI i).outQ = c.outQ := by
  have hcontexts : (c.when (windowPages.contains (HOI, i)) fun c => c.each (List.range 16) fun c p => c.resetContext HOI i p).outQ =
      c.outQ := by
    unfold Chip.when
    split
    · exact each_keeps Chip.outQ _ (fun c p => resetContext_outQ c HOI i p) _ c
    · rfl
  have hbehind (c : Chip) : (c.resetBehind HOI i).outQ = c.outQ := (apply_ite Chip.outQ ..).trans (ite_self _)
  unfold Chip.softReset
  dsimp only
  rw [keepFaults_plain _ _ i (by decide)]
  exact (hbehind _).trans hcontexts

/-! ### Writes of PG_CTL (R67, R68) -/

section
variable (c : Chip) (m : Nat) {a : Nat} (d : Word)

/-- A keyed write of PG_CTL that leaves ENABLE, and starts a soft reset where none is under way. -/
theorem ctlWrite_resets (he : d.getLsbD 0 = c.bit a 0) (hd : d.getLsbD 1 = true) :
    c.ctlWrite m a d true = (c.setBit a 2 (d.getLsbD 2)).when (!c.bit a 1) fun c => c.softReset (blockOf a) (instOf a) := by
  have h0 : (c.setBit a 2 (d.getLsbD 2)).bit a 0 = c.bit a 0 := by simp [Chip.bit_setBit]
  have h1 : (c.setBit a 2 (d.getLsbD 2)).bit a 1 = c.bit a 1 := by simp [Chip.bit_setBit]
  simp only [Chip.ctlWrite, he, hd, h0, h1, bne_self_eq_false, Bool.true_and, Bool.not_true, Bool.false_eq_true, if_false, Chip.when]

/-- One without the key sets DEBUG_FREEZE, and logs what asks for the key. -/
theorem ctlWrite_unkeyed : ∃ c', (c.setBit a 2 (d.getLsbD 2)).Notes c' ∧ c.ctlWrite m a d false = c' ∧
    (c.setBit a 2 (d.getLsbD 2)).Alters (errorBits a) c' := by
  refine ⟨_, ?_, rfl, ?_⟩
  · exact .ite (logErr_notes ..) (.refl _)
  · exact .ite (logErr_alters ..) (.refl ..)

end

section
variable (c : Chip) (m : Nat) (d : Word) {b i : Nat} (hb : b < 32) (hi : i < 128)

include hb hi in
/-- ENABLE reads as written where the checks of the page pass. -/
theorem ctlWrite_shows (hd : d.getLsbD 1 = false) (h : d.getLsbD 0 = true → c.pageOn b i = false → c.enablable b i) :
    (c.ctlWrite m (pageAddr b i PG_CTL) d true).pageOn b i = d.getLsbD 0 := by
  have hblock : blockOf (pageAddr b i PG_CTL) = b := blockOf_pageAddr _ _ _ hb hi (by decide)
  have hinst : instOf (pageAddr b i PG_CTL) = i := instOf_pageAddr _ _ _ hi (by decide)
  have hctl : offOf (pageAddr b i PG_CTL) = PG_CTL := offOf_pageAddr _ _ _ (by decide)
  rw [ctlWrite_keyed c m d hd, hblock, hinst]
  unfold Chip.when
  split
  next hne =>
    refine enablePage_shows _ _ fun hon => enablable_congr (c := c) (fun k _ hk => ?_) (h hon ?_)
    · exact Chip.word_setWord_ne _ _ fun he => hk (he ▸ hctl)
    · rw [hon] at hne
      simpa [Chip.pageOn] using hne
  next heq =>
    simp only [Bool.not_eq_true, bne_eq_false_iff_eq] at heq
    rw [heq, Chip.pageOn]
    simp [Chip.bit_setBit]

theorem not_errorBits_ctl (hi : i < 128) (hb : b < 32) (j : Nat) : ¬ errorBits (pageAddr b i PG_CTL) (pageAddr b i PG_CTL) j := by
  have hpage : errPage (pageAddr b i PG_CTL) = pageAddr b i 0 := by
    rw [errPage, if_neg (by simp [isTw_pageAddr b i PG_CTL hi (by decide)]), pageOf_pageAddr _ _ _ (by decide)]
  rw [errorBits, hpage]
  simp only [recordBits, pageAddr, PG_CTL, PG_ERRINFO, PG_ERR_CNT, PG_EVT_RAW, PG_EVT_PEND]
  omega

end

section
variable (s : State) (m : Nat) (d : Word) {b i : Nat} (hb : b < 32) (hi : i < 128) (hs : s.settled = true)

theorem exec_pageEnable (s : State) (m b i : Nat) (d : Word) :
    exec (.pageEnable m b i d) s = s.put m (pageAddr b i PG_CTL) d := rfl

theorem exec_pageSoftReset (s : State) (m b i : Nat) (d : Word) :
    exec (.pageSoftReset m b i d) s = s.put m (pageAddr b i PG_CTL) (d ||| 2#32) := rfl

theorem exec_softResetComplete (s : State) (b i : Nat) :
    exec (.softResetComplete b i) s = s.anytime fun c => c.softResetDone b i := rfl

include hb hi hs

theorem pageEnable_answers (h : s.chip.takes m (pageAddr b i PG_CTL) true = true) (hd : d.getLsbD 1 = false)
    (hc : d.getLsbD 0 = true → s.chip.pageOn b i = false → s.chip.enablable b i) :
    Answers (exec (.pageEnable m b i d) s) fun t => t.chip.pageOn b i = d.getLsbD 0 ∧ t.chip.resp.status = .done := by
  obtain ⟨t, he, hw⟩ := put_ctl s m d true (exec_pageEnable ..) h (isTw_pageAddr _ _ _ hi (by decide))
    (offOf_pageAddr _ _ _ (by decide)) fun hh =>
      ⟨hs, by rw [ctlWrite_outQ_hoi _ m d hd hh, afterKey_outQ]; exact (settled_queues hs).1⟩
  refine ⟨t, he, (bit_of_words hw.words _ 0).trans (ctlWrite_shows _ m d hb hi hd fun hon hoff => ?_), hw.done⟩
  refine enablable_congr (c := s.chip) (fun k _ _ => afterKey_word ..) (hc hon ?_)
  simpa [Chip.pageOn, Chip.bit] using hoff

theorem pageSoftReset_answers (h : s.chip.takes m (pageAddr b i PG_CTL) true = true) (hd : d.getLsbD 0 = s.chip.pageOn b i) :
    Answers (exec (.pageSoftReset m b i d) s) fun t =>
      t.chip.resetting b i = true ∧ t.chip.resp.status = .done ∧
      (s.chip.resetting b i = false → b ∈ [COR, HOI, LOOP, FBK, CNV, NET, BUS, DIP] →
        ∀ k, resetKey b i k = true → t.chip.word k = wordReset k) := by
  have hblock : blockOf (pageAddr b i PG_CTL) = b := blockOf_pageAddr _ _ _ hb hi (by decide)
  have hinst : instOf (pageAddr b i PG_CTL) = i := instOf_pageAddr _ _ _ hi (by decide)
  have hbit (j : Nat) : (s.chip.afterKey m (pageAddr b i PG_CTL) true).bit (pageAddr b i PG_CTL) j =
      s.chip.bit (pageAddr b i PG_CTL) j := by simp only [Chip.bit, afterKey_word]
  have hwrite := ctlWrite_resets (s.chip.afterKey m (pageAddr b i PG_CTL) true) m (a := pageAddr b i PG_CTL) (d ||| 2#32)
    (by rw [hbit, BitVec.getLsbD_or, hd, Chip.pageOn]; simp) (by rw [BitVec.getLsbD_or]; simp)
  rw [hblock, hinst, hbit] at hwrite
  obtain ⟨t, he, hw⟩ := put_ctl s m (d ||| 2#32) true (exec_pageSoftReset ..) h (isTw_pageAddr _ _ _ hi (by decide))
    (offOf_pageAddr _ _ _ (by decide)) fun hh => ⟨hs, by
      rw [hwrite, show b = HOI from hblock.symm.trans hh]
      have hq : (s.chip.afterKey m (pageAddr HOI i PG_CTL) true).outQ = [] := by rw [afterKey_outQ]; exact (settled_queues hs).1
      unfold Chip.when
      split
      · exact (softReset_outQ_hoi ..).trans hq
      · exact hq⟩
  rw [hwrite] at hw
  cases hres : s.chip.bit (pageAddr b i PG_CTL) 1 with
  | true =>
    refine ⟨t, he, (bit_of_words hw.words _ 1).trans ?_, hw.done, fun hn => by simp [Chip.resetting, hres] at hn⟩
    simp [Chip.when, hres, Chip.bit_setBit, hbit]
  | false =>
    rw [hres] at hw
    exact ⟨t, he, (bit_of_words hw.words _ 1).trans (softReset_resetting ..), hw.done,
      fun _ hl k hk => (word_of_words hw.words k).trans (softReset_word _ hb hi hl hk)⟩

omit hb hi hs in
theorem softResetComplete_answers (hh : s.chip.pwr.held = none) (hp : pageExists s.chip.part b i = true) :
    Answers (exec (.softResetComplete b i) s) fun t =>
      t.chip.resetting b i = false ∧ t.chip.keys = s.chip.keys ∧
      ∀ k, k ≠ pageAddr b i PG_CTL → t.chip.word k = s.chip.word k := by
  have hdone : s.chip.softResetDone b i = s.chip.setBit (pageAddr b i PG_CTL) 1 false := if_pos hp
  refine ⟨_, (exec_softResetComplete s b i).trans (anytime_acts s _ hh), ?_, ?_, fun k hk => ?_⟩
  · rw [Chip.resetting, settle_bit, hdone]
    exact Chip.bit_setBit_same _ _ _ _ (by decide)
  · rw [settle_keys, hdone, (setBit_notes ..).keys]
  · rw [settle_word, hdone]
    exact Chip.word_setWord_ne _ _ hk

theorem debugFreezeWrite_answers (h : s.chip.takes m (pageAddr b i PG_CTL) false = true) :
    Answers (exec (.debugFreezeWrite m b i d) s) fun t =>
      t.chip.bit (pageAddr b i PG_CTL) 2 = d.getLsbD 2 ∧ t.chip.pageOn b i = s.chip.pageOn b i ∧ t.chip.resp.status = .done := by
  have hkey : s.chip.afterKey m (pageAddr b i PG_CTL) false = s.chip := by simp [Chip.afterKey]
  obtain ⟨n, hn, hwrite, halt⟩ := ctlWrite_unkeyed s.chip m (a := pageAddr b i PG_CTL) d
  obtain ⟨t, he, hw⟩ := put_ctl s m d false (exec_debugFreezeWrite ..) h (isTw_pageAddr _ _ _ hi (by decide))
    (offOf_pageAddr _ _ _ (by decide)) fun _ => ⟨hs, by rw [hkey, hwrite, hn.outQ, (setBit_notes ..).outQ]; exact (settled_queues hs).1⟩
  rw [hkey, hwrite] at hw
  refine ⟨t, he, ?_, ?_, hw.done⟩
  · rw [bit_of_words hw.words, halt.bit _ 2 (not_errorBits_ctl hi hb 2)]
    exact Chip.bit_setBit_same _ _ _ _ (by decide)
  · rw [Chip.pageOn, bit_of_words hw.words, halt.bit _ 0 (not_errorBits_ctl hi hb 0), Chip.pageOn]
    simp [Chip.bit_setBit]

end

end Sys2Proof.Machine
end

section
/-! PROOFS. Writes of PG_OWNER and PG_EVT_PEND (R69, R74). -/

namespace Sys2Proof.Machine

/-! ### PG_OWNER (R69) -/

theorem rowAt_owner (part : Part) {b i : Nat} (hb : b < 32) (hi : i < 128) (h : implemented part (pageAddr b i PG_OWNER) = true) :
    rowAt part (pageAddr b i PG_OWNER) = some ⟨{ off := PG_OWNER, rwl := 0x800F_FFFF, rst := 1 }, 0, 0⟩ := by
  rw [rowAt_page part hb hi (by decide) h, if_pos (by decide)]
  decide

/-- An unlocked owner word takes its fields. -/
theorem headWrite_owner (c : Chip) (m : Nat) {a : Nat} (d : Word) (ho : offOf a = PG_OWNER)
    (hrow : rowAt c.part a = some ⟨{ off := PG_OWNER, rwl := 0x800F_FFFF, rst := 1 }, 0, 0⟩) (hkey : c.regKey m a false = a)
    (hl : c.bit a 31 = false) :
    c.headWrite m a d false = c.setWord a ((c.word a &&& ~~~0x800F_FFFF#32) ||| (d &&& 0x800F_FFFF#32)) := by
  have hhead : c.headWrite m a d false = c.maskWrite m a [d] false := by
    unfold Chip.headWrite
    rw [ho]
    rfl
  rw [hhead]
  exact maskWrite_open c m _ d false hrow rfl rfl rfl (lockedAt_open c m _ _ rfl rfl (by decide) hkey hl)
    (by simp [wordN]) hkey

/-! ### PG_EVT_PEND (R74) -/

/-- An event page of the Profile Generator shows an axis' cause, or the GPIO page a pin's (R258, R316): it stays pending. -/
def Chip.causeHeld (c : Chip) (a : Nat) : Bool :=
  (blockOf a = PRF && instOf a != 0 && c.u64 (pageOf a + 0x100) != 0) ||
    (blockOf a = FBK && instOf a = 32 && c.u64 (pageOf a + 0x120) != 0)

/-- The edges of `edges` clear in RAW of the view at `v`. -/
def Chip.clearEdges (c : Chip) (v : Nat) (edges : List Nat) : Chip := c.each edges fun c n => c.setBit (v + PG_EVT_RAW) n false

theorem clearEdges_alters (c : Chip) (v : Nat) (edges : List Nat) :
    c.Alters (fun k _ => k = v + PG_EVT_RAW) (c.clearEdges v edges) :=
  each_alters (fun c n => c.setBit (v + PG_EVT_RAW) n false) edges (fun c n _ => setBit_alters c _ n false rfl) c

theorem notify_word (c : Chip) (v : Nat) (l : Option Nat) (k : Nat) : (c.notify v l).word k = c.word k := by
  cases l with
  | none => rfl
  | some n => rfl

theorem causeHeld_congr {c c' : Chip} {a : Nat} (h : ∀ o, 0x100 ≤ o → o < 0x1000 → c'.word (pageOf a + o) = c.word (pageOf a + o)) :
    c'.causeHeld a = c.causeHeld a := by
  have hwide (o : Nat) (hlo : 0x100 ≤ o) (hhi : o + 4 < 0x1000) : c'.u64 (pageOf a + o) = c.u64 (pageOf a + o) := by
    simp only [Chip.u64, Chip.wide, Nat.add_assoc, h o hlo (by omega), h (o + 4) (by omega) hhi]
  simp only [Chip.causeHeld, hwide 0x100 (by decide) (by decide), hwide 0x120 (by decide) (by decide)]

/-- Exactly the pending bits written as 1 clear, in the view at `v`. -/
theorem evtClear_word (c : Chip) (m : Nat) {a v : Nat} (d : Word) (hv : (c.viewOf m a).1 = v) (h0 : v % 0x1000 = 0)
    (hh : c.causeHeld a = false) : (c.evtClear m a d).word (v + PG_EVT_PEND) = (c.word (v + PG_EVT_PEND) &&& ~~~d) := by
  have hraw (j : Nat) : ¬ (fun k (_ : Nat) => k = v + PG_EVT_RAW) (v + PG_EVT_PEND) j := by simp [PG_EVT_PEND, PG_EVT_RAW]
  let edges := (List.range 32).filter fun n => d.getLsbD n && !isLevel (blockOf a) (instOf a) n
  let n := (c.setWord (v + PG_EVT_PEND) (c.word (v + PG_EVT_PEND) &&& ~~~d)).clearEdges v edges
  have hpend : n.word (v + PG_EVT_PEND) = (c.word (v + PG_EVT_PEND) &&& ~~~d) :=
    ((clearEdges_alters ..).word _ hraw).trans (Chip.word_setWord_same ..)
  have hheld : n.causeHeld a = false := by
    rw [← hh]
    refine causeHeld_congr fun o hlo hhi => ?_
    have hne (e : Nat) (he : e < 0x100) : pageOf a + o ≠ v + e := by simp only [pageOf]; omega
    exact ((clearEdges_alters ..).word _ fun _ => hne _ (by decide)).trans (Chip.word_setWord_ne _ _ (hne _ (by decide)))
  have hclear : c.evtClear m a d = if n.lineUp v then n.notify v (c.viewOf m a).2 else n := by
    have hstay : n.when (n.causeHeld a && d.getLsbD 0 && n.bit (v + PG_EVT_EN) 0) (·.setBit (v + PG_EVT_PEND) 0 true) = n := by
      rw [hheld]; rfl
    rw [← hstay]
    simp only [Chip.evtClear, hv]
    rfl
  rw [hclear]
  split
  · rw [notify_word, hpend]
  · exact hpend

theorem evtClear_notes (c : Chip) (m a : Nat) (d : Word) : c.Notes (c.evtClear m a d) := by
  unfold Chip.evtClear
  dsimp only
  have hedges (k : Nat) (l : List Nat) (c : Chip) := each_notes (fun c n => c.setBit k n false) (fun c n => setBit_notes c k n false) l c
  have hpend (b : Bool) (k : Nat) (c : Chip) : c.Notes (c.when b (·.setBit k 0 true)) := .when (setBit_notes c k 0 true)
  have hline (b : Bool) (k : Nat) (l : Option Nat) (c : Chip) : c.Notes (if b then c.notify k l else c) := .ite (notify_notes ..) (.refl c)
  exact (((setWord_notes ..).trans (hedges ..)).trans (hpend ..)).trans (hline ..)

theorem headWrite_evtPend (c : Chip) (m : Nat) {a : Nat} (d : Word) (ho : offOf a = PG_EVT_PEND) :
    c.headWrite m a d false = c.evtClear m a d := by
  unfold Chip.headWrite
  rw [ho]
  rfl

/-! ### The view of a master (R104) -/

theorem viewOf_page (c : Chip) (m : Nat) {a : Nat} (h : isBell a = false) : (c.viewOf m a).1 = pageOf a := by
  simp [Chip.viewOf, h]

theorem viewOf_bell (c : Chip) (m : Nat) {a v : Nat} (h : isBell a = true) (hv : c.sideOf (instOf a - 1) m = some v) :
    (c.viewOf m a).1 = viewKey v (pageOf a) := by
  simp [Chip.viewOf, h, hv]

/-! ### The obligation -/

/-- An accepted unkeyed write of the header that only sets words and notes. -/
theorem put_head (s : State) (m : Nat) {a : Nat} (d : Word) {i : Instr} (hi : exec i s = s.put m a d)
    (h : s.chip.takes m a false = true) (hs : s.settled = true) (ht : isTw a = false) (ho : offOf a < 0x034) (hk : offOf a ≠ PG_KEY)
    (hn : s.chip.Notes (s.chip.headWrite m a d false)) :
    Answers (exec i s) fun t => (s.chip.headWrite m a d false).Completes t.chip := by
  have hkey : s.chip.afterKey m a false = s.chip := by simp [Chip.afterKey]
  have hw : (s.chip.afterKey m a false).applyWrite (s.meets {}) m a [d] (false && !isTw a) = s.chip.headWrite m a d false := by
    rw [hkey, Bool.false_and, applyWrite_head _ m d _ _ ht ho]
  obtain ⟨t, he, hc⟩ := put_completes s m a d false hi h (.inr (.inr hk)) fun _ => ⟨hs, by rw [hw, hn.outQ]; exact (settled_queues hs).1⟩
  exact ⟨t, he, hw ▸ hc⟩

theorem exec_pgOwnerWrite (s : State) (m b i : Nat) (d : Word) :
    exec (.pgOwnerWrite m b i d) s = s.put m (pageAddr b i PG_OWNER) d := rfl

theorem exec_evtPendClear (s : State) (m b i : Nat) (d : Word) :
    exec (.evtPendClear m b i d) s = s.put m (pageAddr b i PG_EVT_PEND) d := rfl

section
variable (s : State) (m : Nat) (d : Word) {b i : Nat} (hb : b < 32) (hi : i < 128) (hs : s.settled = true)
include hb hi hs

theorem pgOwnerWrite_answers (h : s.chip.takes m (pageAddr b i PG_OWNER) false = true)
    (hl : s.chip.bit (pageAddr b i PG_OWNER) 31 = false) :
    Answers (exec (.pgOwnerWrite m b i d) s) fun t =>
      t.chip.word (pageAddr b i PG_OWNER) =
        ((s.chip.word (pageAddr b i PG_OWNER) &&& ~~~0x800F_FFFF#32) ||| (d &&& 0x800F_FFFF#32)) ∧
      t.chip.resp.status = .done := by
  have ho : offOf (pageAddr b i PG_OWNER) = PG_OWNER := offOf_pageAddr _ _ _ (by decide)
  have hkey := regKey_page s.chip m hb hi (o := PG_OWNER) (by decide) (.inr (by decide)) (.inr (by decide))
  have hw := headWrite_owner s.chip m d ho (rowAt_owner _ hb hi (takes_implemented h)) hkey hl
  obtain ⟨t, he, hc⟩ := put_head s m d (exec_pgOwnerWrite ..) h hs (isTw_pageAddr _ _ _ hi (by decide)) (by rw [ho]; decide)
    (by rw [ho]; decide) (hw ▸ setWord_notes ..)
  rw [hw] at hc
  exact ⟨t, he, (word_of_words hc.words _).trans (Chip.word_setWord_same ..), hc.done⟩

/-- A W1C write of PG_EVT_PEND, in the view at `v`. -/
theorem evtPendClear_answers {v : Nat} (h : s.chip.takes m (pageAddr b i PG_EVT_PEND) false = true)
    (hv : (s.chip.viewOf m (pageAddr b i PG_EVT_PEND)).1 = v) (h0 : v % 0x1000 = 0)
    (hp : b = PRF → 1 ≤ i → s.chip.u64 (pageAddr b i 0x100) = 0) (hf : b = FBK → i = 32 → s.chip.u64 (pageAddr b i 0x120) = 0) :
    Answers (exec (.evtPendClear m b i d) s) fun t =>
      t.chip.word (v + PG_EVT_PEND) = (s.chip.word (v + PG_EVT_PEND) &&& ~~~d) ∧ t.chip.resp.status = .done := by
  have ho : offOf (pageAddr b i PG_EVT_PEND) = PG_EVT_PEND := offOf_pageAddr _ _ _ (by decide)
  have hblock : blockOf (pageAddr b i PG_EVT_PEND) = b := blockOf_pageAddr _ _ _ hb hi (by decide)
  have hinst : instOf (pageAddr b i PG_EVT_PEND) = i := instOf_pageAddr _ _ _ hi (by decide)
  have hheld : s.chip.causeHeld (pageAddr b i PG_EVT_PEND) = false := by
    rw [Chip.causeHeld, hblock, hinst, pageOf_pageAddr _ _ _ (by decide), pageAddr_zero_add, pageAddr_zero_add]
    rw [Bool.eq_false_iff]
    simp only [ne_eq, Bool.or_eq_true, Bool.and_eq_true, decide_eq_true_eq, bne_iff_ne]
    rintro (⟨⟨hblk, hne⟩, hnz⟩ | ⟨⟨hblk, hgpio⟩, hnz⟩)
    · exact hnz (hp hblk (by omega))
    · exact hnz (hf hblk hgpio)
  have hw := headWrite_evtPend s.chip m d ho
  obtain ⟨t, he, hc⟩ := put_head s m d (exec_evtPendClear ..) h hs (isTw_pageAddr _ _ _ hi (by decide)) (by rw [ho]; decide)
    (by rw [ho]; decide) (hw ▸ evtClear_notes ..)
  rw [hw] at hc
  exact ⟨t, he, (word_of_words hc.words _).trans (evtClear_word s.chip m d hv h0 hheld), hc.done⟩

end

/-- Settles O8: the writes of the page header, one by one. -/
theorem headerWrites : Obligations.HeaderWrites := by
  unfold Obligations.HeaderWrites
  intro s m b i d hb hi hs
  refine ⟨fun h hd hc => pageEnable_answers s m d hb hi hs h hd hc, fun h hd => pageSoftReset_answers s m d hb hi hs h hd,
    fun hh hp => softResetComplete_answers s hh hp, fun h => debugFreezeWrite_answers s m d hb hi hs h,
    fun h hl => pgOwnerWrite_answers s m d hb hi hs h hl, fun h hbell hp hf => ?_, fun ch t0 hch h hside => ?_⟩
  · have hview : (s.chip.viewOf m (pageAddr b i PG_EVT_PEND)).1 = pageAddr b i 0 := by
      rw [viewOf_page, pageOf_pageAddr _ _ _ (by decide)]
      rw [Bool.eq_false_iff]
      simp only [ne_eq, isBell, blockOf_pageAddr b i _ hb hi (by decide : PG_EVT_PEND < 4096),
        instOf_pageAddr b i _ hi (by decide : PG_EVT_PEND < 4096), Bool.and_eq_true, beq_iff_eq, decide_eq_true_eq]
      rintro ⟨⟨⟨h1, -⟩, h2⟩, h3⟩
      exact hbell ⟨h1, h2, h3⟩
    have hshow := evtPendClear_answers s m d hb hi hs h hview (by simp only [pageAddr]; omega) hp hf
    rwa [pageAddr_zero_add] at hshow
  · have hinst : instOf (mbxA ch PG_EVT_PEND) = 1 + ch := instOf_pageAddr _ _ _ (by omega) (by decide)
    have hblock : blockOf (mbxA ch PG_EVT_PEND) = MBX := blockOf_pageAddr _ _ _ (by decide) (by omega) (by decide)
    have htw : isTw (mbxA ch PG_EVT_PEND) = false := isTw_pageAddr _ _ _ (by omega) (by decide)
    have hpage : pageOf (mbxA ch PG_EVT_PEND) = pageAddr MBX (1 + ch) 0 := pageOf_pageAddr _ _ _ (by decide)
    have hbell : isBell (mbxA ch PG_EVT_PEND) = true := by
      rw [isBell, hblock, htw, hinst]
      simp
      omega
    have hview : (s.chip.viewOf m (mbxA ch PG_EVT_PEND)).1 = viewKey t0 (pageAddr MBX (1 + ch) 0) := by
      rw [viewOf_bell s.chip m hbell (by rw [hinst, Nat.add_sub_cancel_left]; exact hside), hpage]
    have hshow := evtPendClear_answers s m d (b := MBX) (by decide) (by omega) hs h hview
      (by simp only [viewKey, pageAddr]; omega) (fun hn => absurd hn (by decide)) (fun hn => absurd hn (by decide))
    have hkey : viewKey t0 (pageAddr MBX (1 + ch) 0) + PG_EVT_PEND = viewKey t0 (mbxA ch PG_EVT_PEND) := by
      simp only [viewKey, mbxA, pageAddr]; omega
    rwa [hkey] at hshow

end Sys2Proof.Machine
end

section
/-! PROOFS. The indirect windows (R60 to R64): GO begins an operation, and its end shows in the context of its master. -/

namespace Sys2Proof.Machine

variable {c c' : Chip}

/-! ### Registers of a context (R61, R586) -/

theorem windowPages_range {b i : Nat} (h : windowPages.contains (b, i) = true) : b < 32 ∧ i < 128 := by
  have hall : ∀ w ∈ windowPages, w.1 < 32 ∧ w.2 < 128 := by decide
  exact hall (b, i) (by simpa using h)

theorem winK_ne {b i p o o' : Nat} (h : o ≠ o') : winK b i p o ≠ winK b i p o' := by
  simp only [winK, viewKey, pageAddr]
  omega

theorem winK_add (b i p o : Nat) : winK b i p o + 4 = winK b i p (o + 4) := by
  simp only [winK, viewKey, pageAddr]
  omega

/-! ### GO (R62, R64) -/

/-- The operation that the context of master `p` asks for. -/
def Chip.iwinAsked (c : Chip) (p b i : Nat) : IwinOp :=
  { op := c.fld (winK b i p 8) 24 4, sel := c.fld (winK b i p 8) 8 8, addr := c.u64 (winK b i p 0),
    data := (List.range 16).map fun w => c.word (winK b i p (0x10 + 4 * w)), live := true }

theorem iwinGo_eq (c : Chip) (p b i : Nat) :
    c.iwinGo p b i = (({ c with iwin := c.iwin ++ [(iwinKey b i p, c.iwinAsked p b i)] } : Chip).setNat (winK b i p 0xC)
      (2 ^ 31)).setBit (winK b i p 8) 31 true := rfl

theorem iwinGo_iwin (c : Chip) (p b i : Nat) : (c.iwinGo p b i).iwin = c.iwin ++ [(iwinKey b i p, c.iwinAsked p b i)] := by
  rw [iwinGo_eq, Chip.setBit, Chip.setFld, Chip.setWord_iwin, Chip.setNat, Chip.setWord_iwin]

theorem iwinGo_outQ (c : Chip) (p b i : Nat) : (c.iwinGo p b i).outQ = c.outQ := by
  rw [iwinGo_eq, Chip.setBit, Chip.setFld, Chip.setWord_outQ, Chip.setNat, Chip.setWord_outQ]

/-- STAT shows BUSY alone. -/
theorem iwinGo_stat (c : Chip) (p b i : Nat) : (c.iwinGo p b i).word (winK b i p 0xC) = 0x8000_0000#32 := by
  rw [iwinGo_eq, Chip.setBit, Chip.word_setFld, if_neg (winK_ne (by decide)), Chip.word_setNat, if_pos rfl]
  rfl

/-- A field whose bits the mask lets through. -/
theorem getBits_masked (d e : Word) {lo n : Nat} (h : ∀ i < n, e.getLsbD (lo + i) = true) : getBits (d &&& e) lo n = getBits d lo n := by
  apply Nat.eq_of_testBit_eq
  intro i
  rw [testBit_getBits, testBit_getBits]
  by_cases hi : i < n
  · simp [hi, h i hi]
  · simp [hi]

section
variable (c : Chip) {p b i : Nat} (d : Word)

/-- What the context asks for once CMD is written with the OP, SEL and GO of `d`. -/
theorem iwinAsked_setCmd :
    (c.setWord (winK b i p 8) (d &&& 0x0F00_FF00#32)).iwinAsked p b i =
      { op := getBits d 24 4, sel := getBits d 8 8, addr := c.u64 (winK b i p 0),
        data := (List.range 16).map fun w => c.word (winK b i p (0x10 + 4 * w)), live := true } := by
  have hword (o : Nat) (ho : o ≠ 8) : (c.setWord (winK b i p 8) (d &&& 0x0F00_FF00#32)).word (winK b i p o) = c.word (winK b i p o) :=
    Chip.word_setWord_ne _ _ (winK_ne ho)
  have hdata (w : Nat) := hword (0x10 + 4 * w) (by omega)
  simp only [Chip.iwinAsked, Chip.fld, Chip.word_setWord_same, Chip.u64, Chip.wide, winK_add, hword 0 (by decide),
    hword (0 + 4) (by decide), hdata, getBits_masked d 0x0F00_FF00#32 (lo := 24) (n := 4) (by decide),
    getBits_masked d 0x0F00_FF00#32 (lo := 8) (n := 8) (by decide)]

/-- A write of CMD with GO, in an idle context, begins an operation. -/
theorem windowWrite_go (hb : b < 32) (hi : i < 128) (hbusy : c.bit (winK b i p 0xC) 31 = false) (hd : d.getLsbD 31 = true) :
    c.windowWrite p (pageAddr b i 0x208) [d] = (c.setWord (winK b i p 8) (d &&& 0x0F00_FF00#32)).iwinGo p b i := by
  have hoff : offOf (pageAddr b i 0x208) = 0x208 := offOf_pageAddr _ _ _ (by decide)
  have hblock : blockOf (pageAddr b i 0x208) = b := blockOf_pageAddr _ _ _ hb hi (by decide)
  have hinst : instOf (pageAddr b i 0x208) = i := instOf_pageAddr _ _ _ hi (by decide)
  unfold Chip.windowWrite
  rw [hoff, hblock, hinst]
  dsimp only
  rw [if_neg (by decide), hbusy, if_neg (by decide)]
  simp only [Chip.each, Chip.when, List.zipIdx_cons, List.zipIdx_nil, List.foldl_cons, List.foldl_nil, hd, if_true, Nat.reduceSub,
    Nat.reduceMul, Nat.reduceAdd]

theorem applyWrite_window (x : Meets) (m : Nat) (keyed : Bool) (hw : windowPages.contains (b, i) = true) :
    c.applyWrite x m (pageAddr b i 0x208) [d] keyed = c.windowWrite m (pageAddr b i 0x208) [d] := by
  obtain ⟨hb, hi⟩ := windowPages_range hw
  have hoff : offOf (pageAddr b i 0x208) = 0x208 := offOf_pageAddr _ _ _ (by decide)
  have htw : isTw (pageAddr b i 0x208) = false := isTw_pageAddr _ _ _ hi (by decide)
  have hwin : isWindow (pageAddr b i 0x208) = true := by
    rw [isWindow, htw, hoff, blockOf_pageAddr _ _ _ hb hi (by decide), instOf_pageAddr _ _ _ hi (by decide), hw]
    rfl
  have hres : resultAt c.part (pageAddr b i 0x208) = none := resultAt_below c.part (by rw [hoff]; decide)
  simp [Chip.applyWrite, hres, htw, hoff, Chip.blockWrite, hwin]

end

/-- CMD with GO, an OP and a SEL. -/
def goWord (op sel : Nat) : Word := BitVec.ofNat 32 (2 ^ 31 + op * 2 ^ 24 + sel % 256 * 256)

theorem goWord_fields {op sel : Nat} (ho : op < 16) (hs : sel < 256) :
    (goWord op sel).getLsbD 31 = true ∧ getBits (goWord op sel) 24 4 = op ∧ getBits (goWord op sel) 8 8 = sel := by
  have hnat : (goWord op sel).toNat = 2 ^ 31 + op * 2 ^ 24 + sel * 256 := by
    rw [goWord, BitVec.toNat_ofNat, Nat.mod_eq_of_lt hs]
    omega
  refine ⟨?_, ?_, ?_⟩
  · rw [← BitVec.testBit_toNat, hnat, Nat.testBit_eq_decide_div_mod_eq, decide_eq_true_eq]
    omega
  · rw [getBits, hnat, Nat.shiftRight_eq_div_pow]
    omega
  · rw [getBits, hnat, Nat.shiftRight_eq_div_pow]
    omega

theorem exec_iwinRead (s : State) (m b i sel : Nat) :
    exec (.iwinRead m b i sel) s = s.put m (pageAddr b i 0x208) (goWord 1 sel) := rfl

theorem exec_iwinWrite (s : State) (m b i sel : Nat) :
    exec (.iwinWrite m b i sel) s = s.put m (pageAddr b i 0x208) (goWord 2 sel) := rfl

/-- In an idle context GO with an OP and a SEL sets BUSY and begins that operation. -/
theorem go_answers (s : State) (m : Nat) {b i op sel : Nat} {x : Instr}
    (hx : exec x s = s.put m (pageAddr b i 0x208) (goWord op sel)) (hs : s.settled = true)
    (hw : windowPages.contains (b, i) = true) (h : s.chip.takes m (pageAddr b i 0x208) false = true)
    (hbusy : s.chip.bit (winK b i m 0xC) 31 = false) (hnone : (s.chip.iwin.find? fun e => e.1 = iwinKey b i m) = none)
    (ho : op < 16) (hsel : sel < 256) :
    Answers (exec x s) fun t =>
      t.chip.word (winK b i m 0xC) = 0x8000_0000#32 ∧ t.chip.resp.status = .done ∧
      (t.chip.iwin.find? fun e => e.1 = iwinKey b i m) =
        some (iwinKey b i m,
          { op := op, sel := sel, addr := s.chip.u64 (winK b i m 0),
            data := (List.range 16).map fun w => s.chip.word (winK b i m (0x10 + 4 * w)), live := true }) := by
  obtain ⟨hb, hi⟩ := windowPages_range hw
  obtain ⟨hgo, hop, hselw⟩ := goWord_fields ho hsel
  have hkey : s.chip.afterKey m (pageAddr b i 0x208) false = s.chip := by simp [Chip.afterKey]
  have hwrite : (s.chip.afterKey m (pageAddr b i 0x208) false).applyWrite (s.meets {}) m (pageAddr b i 0x208) [goWord op sel]
      (false && !isTw (pageAddr b i 0x208)) =
      (s.chip.setWord (winK b i m 8) (goWord op sel &&& 0x0F00_FF00#32)).iwinGo m b i := by
    rw [hkey, applyWrite_window _ _ _ _ _ hw, windowWrite_go _ _ hb hi hbusy hgo]
  have hoff : offOf (pageAddr b i 0x208) = 0x208 := offOf_pageAddr _ _ _ (by decide)
  obtain ⟨t, he, hc⟩ := put_completes s m (pageAddr b i 0x208) (goWord op sel) false hx h (.inr (.inr (by rw [hoff]; decide)))
    fun _ => ⟨hs, by rw [hwrite, iwinGo_outQ, Chip.setWord_outQ]; exact (settled_queues hs).1⟩
  rw [hwrite] at hc
  refine ⟨t, he, (word_of_words hc.words _).trans (iwinGo_stat ..), hc.done, ?_⟩
  have hlist := hc.iwin.trans (iwinGo_iwin ..)
  rw [Chip.setWord_iwin, iwinAsked_setCmd, hop, hselw] at hlist
  rw [hlist, List.find?_append, hnone]
  simp

/-! ### An operation ends (R63, R64) -/

/-- A list of values goes to keys of their own, those of the values' places. -/
theorem each_zipIdx_word (key : Nat → Nat) (hkey : ∀ j j', key j = key j' → j = j') (l : List Word) (c : Chip) (n : Nat) :
    (∀ j < n, (c.each (l.zipIdx n) fun c e => c.setWord (key e.2) e.1).word (key j) = c.word (key j)) ∧
    ∀ w d, l[w]? = some d → (c.each (l.zipIdx n) fun c e => c.setWord (key e.2) e.1).word (key (n + w)) = d := by
  induction l generalizing c n with
  | nil => simp [Chip.each]
  | cons v r ih =>
    obtain ⟨hlow, hhit⟩ := ih (c.setWord (key n) v) (n + 1)
    refine ⟨fun j hj => (hlow j (by omega)).trans (Chip.word_setWord_ne _ _ fun he => by have := hkey _ _ he; omega), fun w d h => ?_⟩
    cases w with
    | zero =>
      obtain rfl : v = d := by simpa using h
      exact (hlow n (by omega)).trans (Chip.word_setWord_same ..)
    | succ w =>
      have hshow := hhit w d (by simpa using h)
      rwa [Nat.add_right_comm] at hshow

/-- The operation without the window that it came from. -/
def Chip.iwinRuns (c : Chip) (b i p : Nat) (q : IwinOp) (rr : Nat) : ElemRes :=
  ({ c with iwin := tabErase c.iwin (iwinKey b i p) } : Chip).winRun b i p q rr

/-- What an operation leaves of the element it has read. -/
def ElemRes.fetched (r : ElemRes) (b i p : Nat) (q : IwinOp) : Chip :=
  if q.op = 1 && (r.err = 0 || r.err = 3) then r.chip.each r.data.zipIdx fun c e => c.setWord (winK b i p (0x10 + 4 * e.2)) e.1
  else r.chip

theorem iwinDone_live {p b i : Nat} {q : IwinOp} (rr : Nat) (hf : c.iwinFirst b i = some (iwinKey b i p, q)) (hl : q.live = true) :
    c.iwinDone p b i rr = (((c.iwinRuns b i p q rr).fetched b i p q).setNat (winK b i p 0xC)
      (2 ^ 30 + (c.iwinRuns b i p q rr).err)).setBit (winK b i p 8) 31 false := by
  unfold Chip.iwinDone
  rw [hf]
  simp only [bne_self_eq_false, Bool.false_eq_true, if_false, hl, Bool.not_true]
  rfl

/-- The words of the context and of the stores behind it, once an operation has ended. -/
theorem iwinDone_word {p b i : Nat} {q : IwinOp} (rr : Nat) (hf : c.iwinFirst b i = some (iwinKey b i p, q)) (hl : q.live = true)
    {k : Nat} (hstat : k ≠ winK b i p 0xC) (hcmd : k ≠ winK b i p 8) :
    (c.iwinDone p b i rr).word k = ((c.iwinRuns b i p q rr).fetched b i p q).word k := by
  rw [iwinDone_live rr hf hl, Chip.setBit, Chip.word_setFld, if_neg hcmd, Chip.word_setNat, if_neg hstat]

theorem iwinDone_stat {p b i : Nat} {q : IwinOp} (rr : Nat) (hf : c.iwinFirst b i = some (iwinKey b i p, q)) (hl : q.live = true) :
    (c.iwinDone p b i rr).word (winK b i p 0xC) = BitVec.ofNat 32 (2 ^ 30 + (c.iwinRuns b i p q rr).err) := by
  rw [iwinDone_live rr hf hl, Chip.setBit, Chip.word_setFld, if_neg (winK_ne (by decide)), Chip.word_setNat, if_pos rfl]

theorem iwinDone_go {p b i : Nat} {q : IwinOp} (rr : Nat) (hf : c.iwinFirst b i = some (iwinKey b i p, q)) (hl : q.live = true) :
    (c.iwinDone p b i rr).bit (winK b i p 8) 31 = false := by
  rw [iwinDone_live rr hf hl]
  exact Chip.bit_setBit_same _ _ _ _ (by decide)

/-- IWIN_DATA takes the words read. -/
theorem fetched_data {r : ElemRes} {b i p : Nat} {q : IwinOp} (hq : q.op = 1) (he : r.err = 0) {w : Nat} {d : Word}
    (hd : r.data[w]? = some d) : (r.fetched b i p q).word (winK b i p (0x10 + 4 * w)) = d := by
  have hinj (j j' : Nat) (h : winK b i p (0x10 + 4 * j) = winK b i p (0x10 + 4 * j')) : j = j' := by
    by_contra hne
    exact winK_ne (by omega) h
  rw [ElemRes.fetched, if_pos (by simp [hq, he])]
  have hshow := (each_zipIdx_word (fun j => winK b i p (0x10 + 4 * j)) hinj r.data r.chip 0).2 w d hd
  rwa [Nat.zero_add] at hshow

theorem fetched_write {r : ElemRes} {b i p : Nat} {q : IwinOp} (hq : q.op = 2) : r.fetched b i p q = r.chip := by
  rw [ElemRes.fetched, if_neg (by simp [hq])]

/-! ### A write of a successor list (R120, R589) -/

/-- Each word of the element takes its data under the mask. -/
theorem setElem_word (c : Chip) (st i : Nat) (data : List Word) (mask : Word) {w : Nat} (hw : w < 16) :
    (c.setElem st i data mask).word (elemKey st i w) = (data.getD w 0 &&& mask) := by
  have hne {x y : Nat} (h : x ≠ y) : elemKey st i x ≠ elemKey st i y := by simp only [elemKey]; omega
  refine each_establishes (P := fun w c => c.word (elemKey st i w) = (data.getD w 0 &&& mask))
    (fun c w => c.setWord (elemKey st i w) (data.getD w 0 &&& mask)) (List.range 16) (fun c x _ => Chip.word_setWord_same ..)
    (fun c x y _ _ h => ?_) c w (List.mem_range.2 hw)
  by_cases hxy : y = x
  · subst hxy
    exact Chip.word_setWord_same ..
  · exact (Chip.word_setWord_ne _ _ (hne hxy)).trans h

/-- The owner of the page writes an element of the successor lists. -/
theorem winRun_successors (c : Chip) {p : Nat} {q : IwinOp} (rr : Nat) (hop : q.op = 2) (hsel : q.sel = 2) (ha : q.addr < 8192)
    (hown : c.pageOwner HOI 0 = p) (hdom : c.domain HOI 0 < 2) :
    c.winRun HOI 0 p q rr =
      { chip := (c.setElem (storeOf HOI 2) q.addr q.data 0x8000_FFFF#32).elemWhole (storeOf HOI 2) q.addr } := by
  have hspan : q.addr % winSpan HOI q.sel = q.addr := by
    rw [hsel]; exact Nat.mod_eq_of_lt ha
  have hput : c.winHoi p q rr =
      { chip := (c.setElem (storeOf HOI 2) q.addr q.data 0x8000_FFFF#32).elemWhole (storeOf HOI 2) q.addr } := by
    simp [Chip.winHoi, hop, hsel, show ¬ 8192 ≤ q.addr by omega, Chip.elemPut, hown]
  have hdram : winDram HOI q.sel = false := by rw [hsel]; rfl
  unfold Chip.winRun
  rw [if_neg (by simp [hop]), hspan]
  dsimp only
  rw [if_pos rfl, hput, hdram, if_neg (by simp; omega)]

theorem elemWhole_word (c : Chip) (st i k : Nat) : (c.elemWhole st i).word k = c.word k := rfl

theorem exec_iwinDone (s : State) (p b i rr : Nat) : exec (.iwinDone p b i rr) s = s.anytime fun c => c.iwinDone p b i rr := rfl

/-- Settles O13: GO in an idle context, and the end of the oldest operation. -/
theorem indirectWindows : Obligations.IndirectWindows := by
  unfold Obligations.IndirectWindows
  intro s m b i sel hs hw
  refine ⟨fun h hbusy hnone hsel => ⟨?_, ?_⟩, fun p rr q hp hh hf hl => ?_⟩
  · obtain ⟨t, he, hstat, hdone, hq⟩ := go_answers s m (exec_iwinRead ..) hs hw h hbusy hnone (by decide) hsel
    exact ⟨t, he, hstat, hdone, _, hq, rfl, rfl, rfl, rfl⟩
  · obtain ⟨t, he, hstat, hdone, hq⟩ := go_answers s m (exec_iwinWrite ..) hs hw h hbusy hnone (by decide) hsel
    exact ⟨t, he, hstat, hdone, _, hq, rfl, rfl, rfl⟩
  · refine ⟨_, (exec_iwinDone s p b i rr).trans (anytime_acts s _ hh), iwinDone_stat rr hf hl, iwinDone_go rr hf hl,
      fun hq herr w d hd hw16 => ?_, fun hblk hop hsel ha hown hdom => ?_⟩
    · exact (iwinDone_word rr hf hl (winK_ne (by omega)) (winK_ne (by omega))).trans (fetched_data hq herr hd)
    · subst hblk
      obtain rfl : i = 0 := by simpa [windowPages, HOI, LOOP, PRF, ADT, TLY, NET, PWR] using hw
      have hrun := winRun_successors ({ s.chip with iwin := tabErase s.chip.iwin (iwinKey HOI 0 p) } : Chip) rr hop hsel ha hown hdom
      refine ⟨congrArg ElemRes.err hrun, fun w hw16 => ?_⟩
      have hfar (o : Nat) (ho : o < 0x100) : elemKey (storeOf HOI 2) q.addr w ≠ winK HOI 0 p o := by
        simp only [elemKey, winK, viewKey, pageAddr, HOI]
        omega
      refine (iwinDone_word rr hf hl (hfar _ (by decide)) (hfar _ (by decide))).trans ?_
      have hchip : (s.chip.iwinRuns HOI 0 p q rr).chip = _ := congrArg ElemRes.chip hrun
      rw [fetched_write hop, hchip, elemWhole_word, setElem_word _ _ _ _ _ hw16]

end Sys2Proof.Machine
end

section
/-! PROOFS. PCIe endpoints (R85, R91 to R93): what a link change, a function-level reset, PERST and a configuration write show in
HST_EP_STAT, and that the reset of a function leaves what the other functions show there. -/

namespace Sys2Proof.Machine

variable {S : Nat → Nat → Prop}

/-! ### Ranges of words, and bits of a number -/

/-- A key that a filter of a table lets through reads as before. -/
theorem tabGet_filter_in {α : Type} (d : Nat → α) (t : Tab α) (p : Nat → Bool) {k : Nat} (h : p k = true) :
    tabGet d (t.filter fun e => p e.1) k = tabGet d t k := by
  induction t with
  | nil => rfl
  | cons e r ih =>
    by_cases hk : e.1 = k
    · simp [hk, h, tabGet]
    · by_cases he : p e.1 = true
      · simp [he, tabGet, hk, ih]
      · simp [he, tabGet, hk, ih]

/-- Words that return to their reset values leave the words outside their range. -/
theorem clearWords_alters (c : Chip) {lo hi : Nat} (h : ∀ k j, lo ≤ k ∧ k < hi → S k j) : c.Alters S (c.clearWords lo hi) := by
  refine ⟨fun k j hk => congrArg (BitVec.getLsbD · j) ?_, rfl, rfl⟩
  refine tabGet_filter_in wordReset c.words (fun k => decide (k < lo) || decide (hi ≤ k)) ?_
  by_contra hin
  simp only [Bool.or_eq_true, decide_eq_true_eq, not_or, not_lt, not_le] at hin
  exact hk (h k j hin)

theorem natBit_setNatBit_same (v i : Nat) (b : Bool) : natBit (setNatBit v i b) i = b := by
  have hset : (v ||| 2 ^ i).testBit i = true := by simp [Nat.testBit_or]
  simp only [natBit, setNatBit, Nat.one_shiftLeft]
  cases b with
  | true => exact hset
  | false =>
    have hodd : (v ||| 2 ^ i) / 2 ^ i % 2 = 1 := by simpa [Nat.testBit_eq_decide_div_mod_eq] using hset
    have hdiv : ((v ||| 2 ^ i) - 2 ^ i) / 2 ^ i = (v ||| 2 ^ i) / 2 ^ i - 1 := by
      simpa using Nat.sub_mul_div (v ||| 2 ^ i) (2 ^ i) 1
    rw [if_neg (by decide), Nat.testBit_eq_decide_div_mod_eq, hdiv, decide_eq_false_iff_not]
    omega

/-! ### Words of HST page 0 -/

theorem epK_ne_hstA {e o : Nat} (he : e < 2) (h : o < 0x108 ∨ 0x110 ≤ o) : epK e ≠ hstA o := by
  simp only [epK, hstA, pageAddr]; omega

/-- RAW and PEND of HST page 0. -/
def hstCauseBits (k _j : Nat) : Prop := k = hstA PG_EVT_RAW ∨ k = hstA PG_EVT_PEND

theorem hstCause_alters (c : Chip) (i : Nat) : c.Alters hstCauseBits (c.cause HST 0 i) := cause_alters c HST 0 i (.inl rfl) (.inr rfl)

theorem not_hstCauseBits_epK {e : Nat} (he : e < 2) (j : Nat) : ¬ hstCauseBits (epK e) j := by
  rintro (h | h)
  · exact epK_ne_hstA he (.inl (by decide)) h
  · exact epK_ne_hstA he (.inl (by decide)) h

/-- A counter of HST page 0 and a cause after it: what the status of an endpoint shows stands. -/
theorem countCause_epK (c : Chip) {e o : Nat} (he : e < 2) (ho : o < 0x108) (i j : Nat) :
    ((c.count (hstA o)).cause HST 0 i).bit (epK e) j = c.bit (epK e) j :=
  ((hstCause_alters _ i).bit _ j (not_hstCauseBits_epK he j)).trans
    ((count_alters (S := fun k _ => k = hstA o) c _ 1 fun _ => rfl).bit _ j (epK_ne_hstA he (.inl ho)))

/-- The counter advances by one. -/
theorem countCause_count (c : Chip) {o : Nat} (i : Nat) (ho : o ≠ PG_EVT_RAW ∧ o ≠ PG_EVT_PEND) :
    ((c.count (hstA o)).cause HST 0 i).nat (hstA o) = min (2 ^ 32 - 1) (c.nat (hstA o) + 1) := by
  rw [← Chip.nat_count_same]
  refine (hstCause_alters _ i).nat _ fun _ h => ?_
  simp only [hstCauseBits, hstA, pageAddr] at h
  omega

/-! ### A link comes up or goes down (R85, R93) -/

/-- What a link change of endpoint `e` sets. -/
def linkBits (e k j : Nat) : Prop := k = epK e ∧ 23 ≤ j ∧ j ≠ 30 ∨ hstCauseBits k j

section
variable (c : Chip) {e : Nat} (he : e < 2) (up : Bool) (speed width : Nat) (h : ¬ (up = true ∧ c.bit (epK e) 30 = true))
include he h

/-- The link change, the fields first. -/
theorem pcieLink_eq : c.pcieLink e up speed width =
    (((c.setBit (epK e) 31 up).setFld (epK e) 27 3 (if up then speed else 0)).setFld (epK e) 23 4 (if up then width else 0)).level
      HST 0 (1 + e) up := by
  have hidle : (decide (e ≥ 2) || (up && c.bit (epK e) 30)) = false := by
    rw [Bool.eq_false_iff]
    simp only [ne_eq, Bool.or_eq_true, decide_eq_true_eq, Bool.and_eq_true]
    rintro (hge | hup)
    · omega
    · exact h hup
  rw [Chip.pcieLink, hidle, if_neg (by decide)]

theorem pcieLink_alters : c.Alters (linkBits e) (c.pcieLink e up speed width) := by
  rw [pcieLink_eq c he up speed width h]
  exact (((setBit_alters c _ 31 up (.inl ⟨rfl, by decide, by decide⟩)).trans
    (setFld_alters _ _ 27 3 _ fun j _ _ => .inl ⟨rfl, by omega, by omega⟩)).trans
    (setFld_alters _ _ 23 4 _ fun j _ _ => .inl ⟨rfl, by omega, by omega⟩)).trans
    (level_alters _ HST 0 _ up (.inr (.inl rfl)) (.inr (.inr rfl)))

/-- LINK_UP, SPEED and WIDTH. -/
theorem pcieLink_shows (hs : speed < 8) (hw : width < 16) :
    (c.pcieLink e up speed width).bit (epK e) 31 = up ∧
      (c.pcieLink e up speed width).fld (epK e) 27 3 = (if up then speed else 0) ∧
      (c.pcieLink e up speed width).fld (epK e) 23 4 = (if up then width else 0) := by
  have hspeed : (if up then speed else 0) % 2 ^ 3 = if up then speed else 0 := Nat.mod_eq_of_lt (by split <;> omega)
  have hwidth : (if up then width else 0) % 2 ^ 4 = if up then width else 0 := Nat.mod_eq_of_lt (by split <;> omega)
  rw [pcieLink_eq c he up speed width h]
  have hlevel (c : Chip) := level_alters (S := hstCauseBits) c HST 0 (1 + e) up (.inl rfl) (.inr rfl)
  have hkeep (j : Nat) := not_hstCauseBits_epK he j
  refine ⟨((hlevel _).bit _ 31 (hkeep 31)).trans ?_, ((hlevel _).fld _ 27 3 fun j _ _ => hkeep j).trans ?_,
    ((hlevel _).fld _ 23 4 fun j _ _ => hkeep j).trans ?_⟩
  · rw [Chip.bit_setFld, if_neg (by omega), Chip.bit_setFld, if_neg (by omega), Chip.bit_setBit_same _ _ _ _ (by decide)]
  · rw [Chip.fld_setFld_field _ _ _ _ _ _ _ (by decide), Chip.fld_setFld_same _ _ _ _ _ (by decide), hspeed]
  · rw [Chip.fld_setFld_same _ _ _ _ _ (by decide), hwidth]

end

/-! ### A function is reset (R91, R590) -/

/-- What the status of endpoint `e` shows of function `f`: MSI-X enable, bus mastering and D3. -/
def functionBits (e f k j : Nat) : Prop := k = epK e ∧ j < 12 ∧ j % 4 = f

/-- Words outside HST page 0. -/
def offHst0 (k _j : Nat) : Prop := k < hstA 0 ∨ hstA 0x1000 ≤ k

theorem not_offHst0 {o : Nat} (ho : o < 0x1000) (j : Nat) : ¬ offHst0 (hstA o) j := by
  simp only [offHst0, hstA, pageAddr]; omega

/-- MSI-X enable, bus mastering and D3 of a function end. -/
def Chip.functionOff (c : Chip) (e f : Nat) : Chip :=
  ((c.setBit (epK e) (8 + f) false).setBit (epK e) (4 + f) false).setBit (epK e) f false

theorem functionOff_alters (c : Chip) (e : Nat) {f : Nat} (hf : f < 4) : c.Alters (functionBits e f) (c.functionOff e f) :=
  ((setBit_alters c _ _ false ⟨rfl, by omega, by omega⟩).trans (setBit_alters _ _ _ false ⟨rfl, by omega, by omega⟩)).trans
    (setBit_alters _ _ _ false ⟨rfl, by omega, by omega⟩)

theorem functionOff_bit (c : Chip) (e : Nat) {f j : Nat} (hf : f < 4) (hj : j < 12) (hm : j % 4 = f) :
    (c.functionOff e f).bit (epK e) j = false := by
  have hcases : j = 8 + f ∨ j = 4 + f ∨ j = f := by omega
  simp only [Chip.functionOff, Chip.bit_setBit _ _ _ _ _ _ (show f < 32 by omega),
    Chip.bit_setBit _ _ _ _ _ _ (show 4 + f < 32 by omega), Chip.bit_setBit _ _ _ _ _ _ (show 8 + f < 32 by omega), true_and]
  rcases hcases with rfl | rfl | rfl
  · simp
  · simp
  · simp

theorem resetContext_alters (c : Chip) (b i p : Nat) : c.Alters offHst0 (c.resetContext b i p) := by
  refine .ite (.of_words rfl rfl rfl) (clearWords_alters c fun k _ hk => .inr ?_)
  simp only [viewKey, pageAddr, hstA, HST] at hk ⊢
  omega

theorem freeLocks_alters (c : Chip) (m : Nat) : c.Alters offHst0 (c.freeLocks m) := by
  have hpage (o j : Nat) : offHst0 (pageAddr MBX 97 o) j := .inr (by simp only [hstA, pageAddr, HST, MBX]; omega)
  unfold Chip.freeLocks
  refine each_alters _ (List.range 128) (fun c n _ => ?_) c
  exact .ite ((setNat_alters c (lockK n) 0 (hpage _)).trans (count_alters _ (pageAddr MBX 97 0x034) 1 (hpage _))) (.refl _ c)

/-- What a reset of host partition `p` clears besides the status of its function: its function mask, its vectors and MSI-X table, its
window contexts, its key sequences and its locks (R91, R590). -/
def Chip.partitionOff (c : Chip) (p : Nat) : Chip :=
  let c := { c with hst := { c.hst with fnMask := setNatBit c.hst.fnMask (p - 8) false } }
  let c := (c.clearWords (partA p 0x380) (partA p 0x388)).clearWords (partA p 0x400) (partA p 0x800)
  let c := c.each windowPages fun c w => c.resetContext w.1 w.2 p
  { c with keys := c.keys.filter fun e => e.1 % 64 != p }.freeLocks p

theorem functionReset_eq (c : Chip) (e : Nat) {f : Nat} (hf : f < 4) :
    c.functionReset (8 + 4 * e + f) = (c.functionOff e f).partitionOff (8 + 4 * e + f) := by
  unfold Chip.functionReset
  rw [show (8 + 4 * e + f - 8) / 4 = e by omega, show (8 + 4 * e + f - 8) % 4 = f by omega]
  rfl

theorem partitionOff_alters (c : Chip) (p : Nat) : c.Alters offHst0 (c.partitionOff p) := by
  have hclear (c : Chip) (lo hi : Nat) : c.Alters offHst0 (c.clearWords (partA p lo) (partA p hi)) :=
    clearWords_alters c fun k _ hk => .inr (by simp only [partA, hstA, pageAddr] at hk ⊢; omega)
  have hwindows (c : Chip) : c.Alters offHst0 (c.each windowPages fun c w => c.resetContext w.1 w.2 p) :=
    each_alters _ windowPages (fun c w _ => resetContext_alters c w.1 w.2 p) c
  have hmask : c.Alters offHst0 { c with hst := { c.hst with fnMask := setNatBit c.hst.fnMask (p - 8) false } } := .of_words rfl rfl rfl
  have hpages := ((hmask.trans (hclear _ 0x380 0x388)).trans (hclear _ 0x400 0x800)).trans (hwindows _)
  unfold Chip.partitionOff
  dsimp only
  exact (freeLocks_alters _ p).after (hpages.keep rfl rfl rfl)

theorem functionReset_alters (c : Chip) {e f : Nat} (hf : f < 4) :
    c.Alters (fun k j => functionBits e f k j ∨ offHst0 k j) (c.functionReset (8 + 4 * e + f)) :=
  functionReset_eq c e hf ▸ (functionOff_alters c e hf).or (partitionOff_alters _ _)

/-- What endpoint `e` shows of function `f` reads 0. -/
def Chip.FunctionClear (c : Chip) (e f : Nat) : Prop := ∀ j < 12, j % 4 = f → c.bit (epK e) j = false

theorem functionReset_clear (c : Chip) {e f : Nat} (he : e < 2) (hf : f < 4) :
    (c.functionReset (8 + 4 * e + f)).FunctionClear e f := fun j hj hm => by
  rw [functionReset_eq c e hf]
  exact ((partitionOff_alters _ _).bit _ j (not_offHst0 (by omega) j)).trans (functionOff_bit c e hf hj hm)

/-- What the four functions do not show stands. -/
theorem functionResets_alters (c : Chip) (e : Nat) :
    c.Alters (fun k j => k = epK e ∧ j < 12 ∨ offHst0 k j) (c.each (List.range 4) fun c f => c.functionReset (8 + 4 * e + f)) :=
  each_alters _ (List.range 4) (fun c _ hx => (functionReset_alters c (List.mem_range.1 hx)).mono
    fun _ _ h => h.imp_left fun ⟨hk, hj, _⟩ => ⟨hk, hj⟩) c

/-! ### The events -/

theorem exec_pcieLinkChange (s : State) (e : Nat) (up : Bool) (speed width : Nat) :
    exec (.pcieLinkChange e up speed width) s = s.event HST 0 fun c => c.pcieLink e up speed width := rfl
theorem exec_functionLevelReset (s : State) (e f : Nat) : exec (.functionLevelReset e f) s = s.event HST 0 fun c => c.flr e f := rfl
theorem exec_perstAssert (s : State) (e : Nat) : exec (.perstAssert e) s = s.event HST 0 fun c => c.perst e := rfl
theorem exec_perstRelease (s : State) (e : Nat) : exec (.perstRelease e) s = s.event HST 0 fun c => c.perstEnd e := rfl
theorem exec_pcieConfigWrite (s : State) (p : Nat) (msix master fnMask d3 : Bool) :
    exec (.pcieConfigWrite p msix master fnMask d3) s = s.event HST 0 fun c => c.pcieConfig p msix master fnMask d3 := rfl

section
variable (c : Chip) {e : Nat} (he : e < 2)
include he

theorem not_functionBits_hstA {f o : Nat} (ho : o < 0x108) (j : Nat) : ¬ (functionBits e f (hstA o) j ∨ offHst0 (hstA o) j) := by
  rintro (⟨h, -⟩ | h)
  · exact epK_ne_hstA he (.inl ho) h.symm
  · exact not_offHst0 (by omega) j h

/-- The function's bits end, the reset is counted and raised (R91). -/
theorem flr_shows {f : Nat} (hf : f < 4) :
    (c.flr e f).FunctionClear e f ∧ (c.flr e f).nat (hstA 0x038) = min (2 ^ 32 - 1) (c.nat (hstA 0x038) + 1) ∧
      (c.flr e f).bit (hstA PG_EVT_RAW) 3 = true := by
  have hflr : c.flr e f = ((c.functionReset (8 + 4 * e + f)).count (hstA 0x038)).cause HST 0 3 := by simp [Chip.flr, he, hf]
  rw [hflr]
  refine ⟨fun j hj hm => ?_, ?_, cause_raises _ HST 0 3 (by decide)⟩
  · rw [countCause_epK _ he (by decide)]
    exact functionReset_clear c he hf j hj hm
  · rw [countCause_count _ _ (by decide), (functionReset_alters c hf).nat _ (not_functionBits_hstA he (by decide))]

/-- The functions of endpoint `e` are reset, one by one (R93). -/
theorem functionResets_clear (f : Nat) (hf : f ∈ List.range 4) :
    (c.each (List.range 4) fun c f => c.functionReset (8 + 4 * e + f)).FunctionClear e f := by
  refine each_establishes (P := fun f c => c.FunctionClear e f) _ (List.range 4)
    (fun c x hx => functionReset_clear c he (List.mem_range.1 hx)) (fun c x y hx hy h j hj hm => ?_) c f hf
  by_cases hxy : j % 4 = x
  · exact functionReset_clear c he (List.mem_range.1 hx) j hj hxy
  · refine ((functionReset_alters c (List.mem_range.1 hx)).bit _ j ?_).trans (h j hj hm)
    rintro (⟨-, -, hj⟩ | hoff)
    · exact hxy hj
    · exact not_offHst0 (by omega) j hoff

/-- PERST ends the link and every enable of the endpoint, and is counted (R93). -/
theorem perst_shows (hb : c.bit (epK e) 30 = false) :
    (c.perst e).bit (epK e) 30 = true ∧ (c.perst e).bit (epK e) 31 = false ∧ (c.perst e).fld (epK e) 0 12 = 0 ∧
      (c.perst e).nat (hstA 0x03C) = min (2 ^ 32 - 1) (c.nat (hstA 0x03C) + 1) := by
  let d := (c.pcieLink e false 0 0).setBit (epK e) 30 true
  let n := d.each (List.range 4) fun c f => c.functionReset (8 + 4 * e + f)
  have hperst : c.perst e = (n.count (hstA 0x03C)).cause HST 0 4 := by
    have hidle : (decide (e ≥ 2) || c.bit (epK e) 30) = false := by simpa [hb] using he
    rw [Chip.perst, hidle, if_neg (by decide)]
  have hdown : ¬ (false = true ∧ c.bit (epK e) 30 = true) := fun h => absurd h.1 (by decide)
  have hstand (j : Nat) (hj : 12 ≤ j) : n.bit (epK e) j = d.bit (epK e) j := by
    refine (functionResets_alters d e).bit _ j ?_
    rintro (⟨-, h⟩ | h)
    · omega
    · exact not_offHst0 (by omega) j h
  obtain ⟨hlink, -, -⟩ := pcieLink_shows c he false 0 0 hdown (by decide) (by decide)
  rw [hperst]
  refine ⟨?_, ?_, ?_, ?_⟩
  · rw [countCause_epK _ he (by decide), hstand 30 (by decide)]
    exact Chip.bit_setBit_same _ _ _ _ (by decide)
  · rw [countCause_epK _ he (by decide), hstand 31 (by decide), Chip.bit_setBit _ _ _ _ _ _ (by decide), if_neg (by omega), hlink]
  · apply Nat.eq_of_testBit_eq
    intro j
    rw [Chip.fld, testBit_getBits, Nat.zero_testBit, Nat.zero_add]
    by_cases hj : j < 12
    · have hclear : n.bit (epK e) j = false :=
        functionResets_clear d he (j % 4) (List.mem_range.2 (Nat.mod_lt _ (by decide))) j hj rfl
      rw [← countCause_epK n he (o := 0x03C) (by decide) 4 j] at hclear
      simpa [hj, Chip.bit] using hclear
    · simp [hj]
  · rw [countCause_count _ _ (by decide), (functionResets_alters d e).nat]
    · rw [(setBit_alters (S := fun k _ => k = epK e) _ _ 30 true rfl).nat _ fun _ => (epK_ne_hstA he (.inl (by decide))).symm]
      rw [(pcieLink_alters c he false 0 0 hdown).nat _ fun j => ?_]
      rintro (⟨h, -⟩ | h)
      · exact epK_ne_hstA he (.inl (by decide)) h.symm
      · revert h
        unfold hstCauseBits
        decide
    · rintro j (⟨h, -⟩ | h)
      · exact epK_ne_hstA he (.inl (by decide)) h.symm
      · exact not_offHst0 (by decide) j h

theorem perstEnd_eq (hb : c.bit (epK e) 30 = true) : c.perstEnd e = (c.setBit (epK e) 30 false).out (.linkTraining e) := by
  simp [Chip.perstEnd, he, hb]

/-- A configuration write sets the function's enables and its function mask (R78, R92). -/
theorem pcieConfig_shows {f : Nat} (msix master fnMask d3 : Bool) (hf : f < 4) (hp : c.bit (epK e) 30 = false)
    (hl : c.bit (epK e) 31 = true) :
    let n := c.pcieConfig (8 + 4 * e + f) msix master fnMask d3
    n.bit (epK e) (8 + f) = msix ∧ n.bit (epK e) (4 + f) = master ∧ n.bit (epK e) f = d3 ∧
      natBit n.hst.fnMask (4 * e + f) = fnMask := by
  have hq : (8 + 4 * e + f - 8) / 4 = e := by omega
  have hm : (8 + 4 * e + f - 8) % 4 = f := by omega
  have hi : 8 + 4 * e + f - 8 = 4 * e + f := by omega
  have hhost : (decide (8 ≤ 8 + 4 * e + f) && decide (8 + 4 * e + f < 16)) = true := by
    simp only [Bool.and_eq_true, decide_eq_true_eq]; omega
  have hset : c.pcieConfig (8 + 4 * e + f) msix master fnMask d3 =
      { ((c.setBit (epK e) (8 + f) msix).setBit (epK e) (4 + f) master).setBit (epK e) f d3 with
        hst := { c.hst with fnMask := setNatBit c.hst.fnMask (4 * e + f) fnMask } } := by
    unfold Chip.pcieConfig
    rw [hq, hm, hi, hp, hl, hhost]
    rfl
  have hbit (j : Nat) : (c.pcieConfig (8 + 4 * e + f) msix master fnMask d3).bit (epK e) j =
      (((c.setBit (epK e) (8 + f) msix).setBit (epK e) (4 + f) master).setBit (epK e) f d3).bit (epK e) j := by rw [hset]; rfl
  have h8 : 8 + f < 32 := by omega
  have h4 : 4 + f < 32 := by omega
  have h0 : f < 32 := by omega
  refine ⟨?_, ?_, ?_, ?_⟩
  · simp [hbit, Chip.bit_setBit, h8, h4, h0]
  · simp [hbit, Chip.bit_setBit, h4, h0]
  · simp [hbit, h0]
  · rw [hset]
    exact natBit_setNatBit_same ..

end

/-- Settles O19: each event by what it shows in the endpoint's status. -/
theorem endpointEvents : Obligations.EndpointEvents := by
  unfold Obligations.EndpointEvents
  intro s e he ha
  refine ⟨fun up speed width hs hw h => ?_, fun f hf => ?_, fun hb => ?_, fun hb => ?_, fun f msix master fnMask d3 hf hp hl => ?_⟩
  · exact ⟨_, (exec_pcieLinkChange ..).trans (event_acts s HST 0 _ ha), pcieLink_shows s.chip he up speed width h hs hw⟩
  · obtain ⟨hclear, hcount, hcause⟩ := flr_shows s.chip he hf
    exact ⟨_, (exec_functionLevelReset ..).trans (event_acts s HST 0 _ ha), hclear (8 + f) (by omega) (by omega),
      hclear (4 + f) (by omega) (by omega), hclear f (by omega) (by omega), hcount, hcause⟩
  · exact ⟨_, (exec_perstAssert ..).trans (event_acts s HST 0 _ ha), perst_shows s.chip he hb⟩
  · refine ⟨_, (exec_perstRelease ..).trans (event_acts s HST 0 _ ha), ?_⟩
    beta_reduce
    rw [settle_bit, settle_outs, perstEnd_eq s.chip he hb]
    exact ⟨Chip.bit_setBit_same s.chip _ _ false (by decide), rfl⟩
  · exact ⟨_, (exec_pcieConfigWrite ..).trans (event_acts s HST 0 _ ha), pcieConfig_shows s.chip he msix master fnMask d3 hf hp hl⟩

end Sys2Proof.Machine
end

section
/-! PROOFS. Accesses of hosts and cores to DRAM and to the resume island (R4, R24, R47, R87 to R89): which bytes a write stores, which
a read answers, and that what they count leaves the contents of DRAM. -/

namespace Sys2Proof.Machine

variable {c c' c'' : Chip}

/-! ### What an access counts (R24, R47) -/

/-- The words that re-reads of DRAM and re-sends on the fabric change. -/
def accessBits (k j : Nat) : Prop := k = memA 0x034 ∨ hopBits k j

/-- From `c` to `c'` only re-reads and re-sends are counted and raised. -/
structure Chip.Counts (c c' : Chip) : Prop where
  notes : c.Notes c'
  alters : c.Alters accessBits c'

theorem Chip.Counts.refl (c : Chip) : c.Counts c := ⟨.refl c, .refl _ c⟩

theorem Chip.Counts.trans (h : c.Counts c') (h' : c'.Counts c'') : c.Counts c'' :=
  ⟨h.notes.trans h'.notes, h.alters.trans h'.alters⟩

theorem memRereads_counts (c : Chip) (n : Nat) : c.Counts (c.memRereads n) :=
  ⟨.ite (.refl c) (count_notes ..), .ite (.refl _ c) (count_alters c _ n fun _ => .inl rfl)⟩

theorem hopSends_counts (c : Chip) (n : Nat) : c.Counts (c.hopSends n) :=
  ⟨hopSends_notes c n, (hopSends_alters c n).mono fun _ _ => .inr⟩

/-- The registers of Adit and the stores are not among the counts. -/
theorem not_accessBits {k : Nat} (h : 2 ^ 80 ≤ k ∨ blockOf k = ADT) (j : Nat) : ¬ accessBits k j := by
  rintro (rfl | rfl | rfl | rfl | rfl) <;> revert h <;> decide

/-! ### The contents of DRAM behind the counts (R47, R414) -/

theorem Chip.Counts.coldRec (h : c.Counts c') (b : Nat) : c'.coldRec b = c.coldRec b := by
  have hadt : c'.adt = c.adt := by
    obtain ⟨w, n, l, rfl⟩ := h.notes
    rfl
  have hbase : c'.u64 (adtA 0x108) = c.u64 (adtA 0x108) := by
    simp only [Chip.u64, Chip.wide, h.alters.word (adtA 0x108) (not_accessBits (.inr (by decide))),
      h.alters.word (adtA 0x108 + 4) (not_accessBits (.inr (by decide)))]
  have hfast (sig : Nat) : c'.bit (dirK sig 0) 26 = c.bit (dirK sig 0) 26 :=
    h.alters.bit _ 26 (not_accessBits (.inl (by unfold dirK elemKey; omega)) 26)
  simp only [Chip.coldRec, hadt, hbase, hfast]

theorem Chip.Counts.recByte (h : c.Counts c') (sig i : Nat) : c'.recByte sig i = c.recByte sig i := by
  rw [Chip.recByte, Chip.recByte, h.alters.fld _ _ _ fun j _ _ => not_accessBits (.inl (by unfold dirK elemKey; omega)) j]

section
variable (s : State) (h : s.chip.Counts c')
include h

theorem memByte_counts (a : Nat) : ({ s with chip := c' } : State).memByte a = s.memByte a := by
  simp only [State.memByte, h.coldRec, h.recByte]

theorem memLoad_counts (a n : Nat) : ({ s with chip := c' } : State).memLoad a n = s.memLoad a n := by
  induction n generalizing a with
  | zero => rfl
  | succ n ih => simp only [State.memLoad, memByte_counts s h, ih]

theorem blockPoison_counts : ({ s with chip := c' } : State).blockPoison = s.blockPoison := by
  have helem : c'.elemPoison = s.chip.elemPoison := by
    obtain ⟨w, n, l, rfl⟩ := h.notes
    rfl
  funext b
  simp only [State.blockPoison, h.coldRec, helem]

end

/-! ### Reads (R47, R88) -/

/-- Up to three re-reads of a block are counted, and nothing else. -/
theorem readFault_few (s : State) (b : Nat) {rr : Nat} (h : rr ≤ 3) :
    s.readFault b rr = { s with chip := s.chip.memRereads (min rr 3) } := by
  simp [State.readFault, h]

theorem readFaults_few (s : State) (a n : Nat) {rr : List Nat} (h : rr.all (· ≤ 3) = true) :
    ∃ c', s.chip.Counts c' ∧ s.readFaults a n rr = { s with chip := c' } := by
  have hfew (i : Nat) : rr.getD i 0 ≤ 3 := by
    by_cases hi : i < rr.length
    · rw [List.getD_eq_getElem _ _ hi]
      exact of_decide_eq_true (List.all_eq_true.1 h _ (List.getElem_mem hi))
    · rw [List.getD_eq_default _ _ (by omega)]
      omega
  unfold State.readFaults
  generalize (blocksOf a n).zipIdx = l
  induction l generalizing s with
  | nil => exact ⟨_, .refl _, rfl⟩
  | cons x r ih =>
    rw [List.foldl_cons, readFault_few s x.1 (hfew x.2)]
    obtain ⟨c', hc, he⟩ := ih { s with chip := s.chip.memRereads (min (rr.getD x.2 0) 3) }
    exact ⟨c', (memRereads_counts ..).trans hc, he⟩

/-- A read that meets no poison, no storage fault and no failing hop is answered with the bytes that stand there. -/
theorem dramRead_arrives (s : State) (a n : Nat) {rr : List Nat} {hops : Nat} (bad : RespStatus) (h : rr.all (· ≤ 3) = true)
    (hh : hops ≤ 3) (hp : s.meetsPoison a n = false) :
    ∃ c', s.chip.Counts c' ∧
      s.dramRead a n rr hops bad = { s with chip := c'.answer .done (bytesWords (s.memLoad a n)) } := by
  obtain ⟨c', hc, he⟩ := readFaults_few s a n h
  have hc' := hc.trans (hopSends_counts c' hops)
  have hpoison : ({ s with chip := c'.hopSends hops } : State).meetsPoison a n = false := by
    rw [State.meetsPoison, blockPoison_counts s hc', ← hp, State.meetsPoison]
  have hfail : hopFails hops = false := by simp [hopFails, hh]
  refine ⟨_, hc', ?_⟩
  simp only [State.dramRead, he, hpoison, hfail, Bool.or_self, Bool.false_eq_true, if_false, memLoad_counts s hc']

/-! ### Writes (R24, R88) -/

theorem setPoison_dram (s : State) (b : Nat) (v : Bool) : (s.setPoison b v).dram = s.dram := by
  unfold State.setPoison
  split <;> rfl

theorem setPoison_dramQ (s : State) (b : Nat) (v : Bool) : (s.setPoison b v).chip.dramQ = s.chip.dramQ := by
  unfold State.setPoison
  split <;> rfl

theorem recPoke_dramQ (c : Chip) (a : Nat) (b : Byte) : (c.recPoke a b).dramQ = c.dramQ := by
  unfold Chip.recPoke
  split <;> rfl

theorem mirrorOut_dramQ (c : Chip) (a : Nat) (data : List Byte) : (c.mirrorOut a data).dramQ = c.dramQ := by
  unfold Chip.mirrorOut
  split <;> rfl

/-- A write stores its bytes and sends nothing further to DRAM. -/
theorem dramWrite_stores (s : State) (a : Nat) (data : List Byte) :
    (s.dramWrite a data).dram = dramStore s.dram a data ∧ (s.dramWrite a data).chip.dramQ = s.chip.dramQ := by
  have hwhole (l : List Nat) : (l.foldl (fun (s : State) b => s.setPoison b false) s).dram = s.dram ∧
      (l.foldl (fun (s : State) b => s.setPoison b false) s).chip.dramQ = s.chip.dramQ := by
    induction l generalizing s with
    | nil => exact ⟨rfl, rfl⟩
    | cons b r ih =>
      obtain ⟨hd, hq⟩ := ih (s.setPoison b false)
      exact ⟨hd.trans (setPoison_dram ..), hq.trans (setPoison_dramQ ..)⟩
  obtain ⟨hd, hq⟩ := hwhole ((blocksOf a data.length).filter fun b => a ≤ 64 * b && 64 * b + 64 ≤ a + data.length)
  refine ⟨congrArg (dramStore · a data) hd, ?_⟩
  exact (each_keeps Chip.dramQ _ (fun c e => recPoke_dramQ ..) data.zipIdx _).trans ((mirrorOut_dramQ ..).trans hq)

/-- A write that arrives whole and covers no poisoned block in part stores its bytes. -/
theorem sharedWrite_arrives (s : State) (p a : Nat) (data : List Byte) {hops : Nat} (hh : hops ≤ 3)
    (hp : s.partPoison a data.length = false) :
    let t := s.sharedWrite p a data hops
    t.dram = dramStore s.dram a data ∧ t.chip.dramQ = s.chip.dramQ ∧ t.chip.resp.status = .done := by
  have hc := hopSends_counts s.chip hops
  have hpoison : ({ s with chip := s.chip.hopSends hops } : State).partPoison a data.length = false := by
    rw [State.partPoison, blockPoison_counts s hc, ← hp, State.partPoison]
  have hfail : hopFails hops = false := by simp [hopFails, hh]
  have hq : (s.chip.hopSends hops).dramQ = s.chip.dramQ := by
    obtain ⟨w, n, l, e⟩ := hc.notes
    rw [e]
  obtain ⟨hdram, hdramQ⟩ := dramWrite_stores { s with chip := s.chip.hopSends hops } a data
  simp only [State.sharedWrite, hpoison, hfail, Bool.or_self, Bool.false_eq_true, if_false]
  exact ⟨hdram, hdramQ.trans hq, rfl⟩

/-! ### The answer to a command that reaches DRAM itself -/

/-- With no other write on its way the command comes to the state named, as far as DRAM, the answer and the island show it. -/
theorem memory_answers (s : State) (hh : s.chip.pwr.held = none) {t : State} (hq : t.chip.dramQ = []) :
    Answers (s.memory s.chip.pwr.held.isNone t) fun u =>
      u.dram = t.dram ∧ u.chip.resp = t.chip.resp ∧ u.chip.pwr = t.chip.pwr := by
  refine ⟨t.settle id, ?_, settle_dram t id hq, rfl, rfl⟩
  rw [State.memory, hh]
  rfl

section
variable (s : State) (hh : s.chip.pwr.held = none) (hs : s.settled = true)
include hh hs

/-- A write that comes down to a shared write. -/
theorem sharedWrite_answers {t : State} {p a hops : Nat} {data : List Byte} (ht : t = s.sharedWrite p a data hops) (hops_le : hops ≤ 3)
    (hp : s.partPoison a data.length = false) :
    Answers (s.memory s.chip.pwr.held.isNone t) fun u =>
      (∀ i (h : i < data.length), dramByte u.dram (a + i) = data[i]) ∧
      (∀ x, (x < a ∨ a + data.length ≤ x) → dramByte u.dram x = dramByte s.dram x) ∧ u.chip.resp.status = .done := by
  obtain ⟨hdram, hq, hresp⟩ := sharedWrite_arrives s p a data hops_le hp
  rw [← ht] at hdram hq hresp
  obtain ⟨u, he, hu, hr, -⟩ := memory_answers s hh (hq.trans (settled_queues hs).2)
  refine ⟨u, he, fun i hi => ?_, fun x hx => ?_, hr ▸ hresp⟩
  · rw [hu, hdram, dramByte_store_in _ _ _ _ hi]
  · rw [hu, hdram, dramByte_store_out _ _ _ _ hx]

/-- A read that comes down to a read of DRAM. -/
theorem dramRead_answers {t : State} {a n hops : Nat} {rr : List Nat} {bad : RespStatus} (ht : t = s.dramRead a n rr hops bad)
    (hr : rr.all (· ≤ 3) = true) (hops_le : hops ≤ 3) (hp : s.meetsPoison a n = false) :
    Answers (s.memory s.chip.pwr.held.isNone t) fun u =>
      u.chip.resp = { status := .done, data := bytesWords (s.memLoad a n) } ∧ u.dram = s.dram := by
  obtain ⟨c', hc, he⟩ := dramRead_arrives s a n bad hr hops_le hp
  obtain ⟨w, l, g, hc⟩ := hc.notes
  rw [hc] at he
  have hq : t.chip.dramQ = [] := by
    rw [ht, he]
    exact (settled_queues hs).2
  obtain ⟨u, hu, hdram, hresp, -⟩ := memory_answers s hh hq
  refine ⟨u, hu, ?_, ?_⟩
  · rw [hresp, ht, he]; rfl
  · rw [hdram, ht, he]

end

/-! ### BAR2 (R87, R88) -/

theorem shmRefuse_notes (c : Chip) (p cause off : Nat) : c.Notes (c.shmRefuse p cause off) :=
  .trans (.ite (setBit_notes ..) (setNat_notes ..)) (cause_notes ..)

theorem exec_bar2Read (s : State) (p off len : Nat) (rr : List Nat) (hops : Nat) :
    exec (.bar2Read p off len rr hops) s = s.memory s.chip.pwr.held.isNone (s.bar2Read p off len rr hops) := rfl
theorem exec_bar2Write (s : State) (p off : Nat) (data : List Byte) (hops : Nat) :
    exec (.bar2Write p off data hops) s = s.memory s.chip.pwr.held.isNone (s.bar2Write p off data hops) := rfl

section
variable (s : State) {p : Nat} (hp : 8 ≤ p) (hp' : p < 16) (hd : s.chip.masterDown p = false) (off : Nat)
include hp hp' hd

theorem bar2Write_shared (data : List Byte) (hops : Nat) (h : s.chip.shmWhy p off data.length true = 0) :
    s.bar2Write p off data hops = s.sharedWrite p (s.chip.u64 (shmK p) + off) data hops := by
  simp [State.bar2Write, hp, hp', hd, h]

theorem bar2Read_dram (len : Nat) (rr : List Nat) (hops : Nat) (h : s.chip.shmWhy p off len false = 0) :
    s.bar2Read p off len rr hops = s.dramRead (s.chip.u64 (shmK p) + off) len rr hops .poisoned := by
  simp [State.bar2Read, hp, hp', hd, h]

theorem bar2Write_refused (data : List Byte) (hops : Nat) (h : s.chip.shmWhy p off data.length true ≠ 0) :
    s.bar2Write p off data hops =
      { s with chip := (s.chip.shmRefuse p (s.chip.shmWhy p off data.length true) off).answer .discarded } := by
  simp [State.bar2Write, hp, hp', hd, h]

theorem bar2Read_refused (len : Nat) (rr : List Nat) (hops : Nat) (h : s.chip.shmWhy p off len false ≠ 0) :
    s.bar2Read p off len rr hops =
      { s with chip := (s.chip.shmRefuse p (s.chip.shmWhy p off len false) off).answer .completerAbort } := by
  simp [State.bar2Read, hp, hp', hd, h]

end

/-- A refused access is recorded and answered; DRAM stands. -/
theorem shmRefuse_answers (s : State) (hh : s.chip.pwr.held = none) (hs : s.settled = true) {t : State} {p why off : Nat}
    {r : RespStatus} (ht : t = { s with chip := (s.chip.shmRefuse p why off).answer r }) :
    Answers (s.memory s.chip.pwr.held.isNone t) fun u => u.chip.resp.status = r ∧ u.dram = s.dram := by
  have hq : t.chip.dramQ = [] := by
    obtain ⟨w, n, l, e⟩ := shmRefuse_notes s.chip p why off
    rw [ht, e]
    exact (settled_queues hs).2
  obtain ⟨u, hu, hdram, hresp, -⟩ := memory_answers s hh hq
  exact ⟨u, hu, by rw [hresp, ht]; rfl, by rw [hdram, ht]⟩

/-! ### Cores (R89) -/

theorem exec_coreDramAccess (s : State) (m : Nat) (island wr : Bool) (addr len : Nat) (data : List Byte) (rr : List Nat) (hops : Nat) :
    exec (.coreDramAccess m island wr addr len data rr hops) s =
      s.memory s.chip.pwr.held.isNone (s.coreDram m island wr addr len data rr hops) := rfl

section
variable (s : State) {m addr : Nat} (len : Nat) (data : List Byte) (rr : List Nat) (hops : Nat)
variable (hm : m < 8) (hhalt : natBit s.chip.cor.halted m = false) (hgate : natBit s.chip.hst.coreGated m = false)
variable (hrun : s.chip.running = true)
include hm hhalt hgate hrun

theorem coreDram_write (h : addr + data.length ≤ s.chip.dramBytes) :
    s.coreDram m false true addr len data rr hops = s.sharedWrite m addr data hops := by
  simp [State.coreDram, Nat.not_le.2 hm, hhalt, hgate, hrun, Nat.not_lt.2 h]

theorem coreDram_read (h : addr + len ≤ s.chip.dramBytes) :
    s.coreDram m false false addr len data rr hops = s.dramRead addr len rr hops .busError := by
  simp [State.coreDram, Nat.not_le.2 hm, hhalt, hgate, hrun, Nat.not_lt.2 h]

theorem coreDram_islandWrite (h : addr + data.length ≤ 4 * 2 ^ 20) :
    s.coreDram m true true addr len data rr hops =
      { s with chip := ({ s.chip with pwr := { s.chip.pwr with island := dramStore s.chip.pwr.island addr data } } : Chip).answer .done } := by
  have hin : ¬ 4194304 < addr + data.length := by omega
  simp [State.coreDram, Nat.not_le.2 hm, hhalt, hgate, hrun, hin]

theorem coreDram_islandRead (h : addr + len ≤ 4 * 2 ^ 20) :
    s.coreDram m true false addr len data rr hops =
      { s with chip := s.chip.answer .done (bytesWords (dramLoad s.chip.pwr.island addr len)) } := by
  have hin : ¬ 4194304 < addr + len := by omega
  simp [State.coreDram, Nat.not_le.2 hm, hhalt, hgate, hrun, hin]

end

/-- Settles O20: what arrives acts on the bytes it addresses, and what is refused acts on none. -/
theorem hostMemory : Obligations.HostMemory := by
  unfold Obligations.HostMemory
  intro s hh hs
  refine ⟨fun p off data hops hp hp' hd hops_le hw hpoison => ?_, fun p off len rr hops hp hp' hd hw hr hops_le hpoison => ?_,
    fun p off len data rr hops hp hp' hd => ⟨fun hw => ?_, fun hw => ?_⟩,
    fun m addr data len rr hops hops_le hm hhalt hgate hrun => ⟨fun hin hpoison => ?_, fun hin hr hpoison => ?_, fun hin => ?_, fun hin => ?_⟩⟩
  · rw [exec_bar2Write]
    exact sharedWrite_answers s hh hs (bar2Write_shared s hp hp' hd off data hops hw) hops_le hpoison
  · rw [exec_bar2Read]
    exact dramRead_answers s hh hs (bar2Read_dram s hp hp' hd off len rr hops hw) hr hops_le hpoison
  · rw [exec_bar2Read]
    exact shmRefuse_answers s hh hs (bar2Read_refused s hp hp' hd off len rr hops hw)
  · rw [exec_bar2Write]
    exact shmRefuse_answers s hh hs (bar2Write_refused s hp hp' hd off data hops hw)
  · rw [exec_coreDramAccess]
    exact sharedWrite_answers s hh hs (coreDram_write s len data rr hops hm hhalt hgate hrun hin) hops_le hpoison
  · rw [exec_coreDramAccess]
    exact dramRead_answers s hh hs (coreDram_read s len data rr hops hm hhalt hgate hrun hin) hr hops_le hpoison
  · have hcore := coreDram_islandWrite s len data rr hops hm hhalt hgate hrun hin
    obtain ⟨u, hu, hdram, -, hpwr⟩ := memory_answers s hh (t := s.coreDram m true true addr len data rr hops)
      (by rw [hcore]; exact (settled_queues hs).2)
    rw [hcore] at hdram hpwr
    exact ⟨u, (exec_coreDramAccess ..).trans hu, congrArg (·.island) hpwr, hdram⟩
  · have hcore := coreDram_islandRead s len data rr hops hm hhalt hgate hrun hin
    obtain ⟨u, hu, hdram, hresp, -⟩ := memory_answers s hh (t := s.coreDram m true false addr len data rr hops)
      (by rw [hcore]; exact (settled_queues hs).2)
    rw [hcore] at hdram hresp
    exact ⟨u, (exec_coreDramAccess ..).trans hu, hresp, hdram⟩

end Sys2Proof.Machine
end

section
/-! PROOFS. Accesses to the mailbox pages (R94, R97, R101): what an accepted write and read of their registers come to. -/

namespace Sys2Proof.Machine

variable {c c' : Chip}

/-! ### What the notes leave of the mailboxes -/

theorem Chip.Notes.bells (h : c.Notes c') : c'.bells = c.bells := by
  obtain ⟨w, n, l, rfl⟩ := h
  rfl

theorem Chip.Notes.bell (h : c.Notes c') (ch : Nat) : c'.bell ch = c.bell ch := by
  rw [Chip.bell, h.bells, Chip.bell]

theorem Chip.Notes.ring (h : c.Notes c') (r : Nat) : c'.ring r = c.ring r := by
  obtain ⟨w, n, l, rfl⟩ := h
  rfl

@[simp] theorem bell_setBell_same (c : Chip) (ch : Nat) (x : Bell) : (c.setBell ch x).bell ch = x := tab_tabPut_same ..
@[simp] theorem ring_setRing_same (c : Chip) (r : Nat) (x : Bucket) : (c.setRing r x).ring r = x := tab_tabPut_same ..

/-! ### Writes -/

/-- What a command makes of the module counts where it stands. -/
theorem settle_at (s : State) (f : Chip → Chip) : s.settle f = s.settle fun _ => f s.chip := rfl

/-- An accepted unkeyed write to a block whose writes a lead does not forward. -/
theorem put_plain (s : State) (m : Nat) {a : Nat} (d : Word) {i : Instr} (hi : exec i s = s.put m a d)
    (h : s.chip.takes m a false = true) (ho : isTw a = true ∨ offOf a ≠ PG_KEY) (hb : pairBlock (blockOf a) = false) :
    exec i s = .next (s.settle fun _ => (s.chip.applyWrite (s.meets {}) m a [d] false).answer .done []) := by
  have hhoi : blockOf a ≠ HOI := fun he => absurd (he ▸ hb) (by decide)
  have hw := writeBy_taken_core s.chip (s.meets {}) m a d false h rfl rfl (.inr ho) fun ⟨_, _, hp⟩ => by
    rw [hb] at hp
    exact absurd hp (by decide)
  rw [show s.chip.afterKey m a false = s.chip by simp [Chip.afterKey], Bool.false_and] at hw
  rw [hi, put_taken s {} m a d false h rfl rfl (.inr ho) hhoi, settle_at, hw]

section
variable {p o : Nat} (hp : p < 98) (ho : o < 0x800)
include hp ho

theorem isTw_mbx : isTw (pageAddr MBX p o) = false := isTw_pageAddr _ _ _ (by omega) (by omega)
theorem blockOf_mbx : blockOf (pageAddr MBX p o) = MBX := blockOf_pageAddr _ _ _ (by decide) (by omega) (by omega)
theorem instOf_mbx : instOf (pageAddr MBX p o) = p := instOf_pageAddr _ _ _ (by omega) (by omega)
omit hp in
theorem offOf_mbx : offOf (pageAddr MBX p o) = o := offOf_pageAddr _ _ _ (by omega)

theorem applyWrite_mbx (c : Chip) (x : Meets) (m : Nat) (d : Word) (keyed : Bool) (hlo : 0x034 ≤ o) :
    c.applyWrite x m (pageAddr MBX p o) [d] keyed = c.mbxWrite m (pageAddr MBX p o) [d] keyed := by
  have hoff := offOf_mbx (p := p) ho
  have hblock := blockOf_mbx hp ho
  have hres := resultAt_below c.part (show offOf (pageAddr MBX p o) < 0x800 by omega)
  have htw := isTw_mbx hp ho
  generalize pageAddr MBX p o = a at *
  have hwin : isWindow a = false := by simp [isWindow, hblock, windowPages, MBX, HOI, LOOP, PRF, ADT, TLY, NET, PWR]
  simp [Chip.applyWrite, hres, htw, hoff, show ¬ o < 0x034 by omega, Chip.blockWrite, hwin, hblock, MBX]

theorem isLock_mbx (h : p ≠ 97) : isLock (pageAddr MBX p o) = false := by simp [isLock, instOf_mbx hp ho, h]

/-- The row of a register of a mailbox page. -/
theorem rowAt_mbx {part : Part} (hlo : 0x034 ≤ o) (h : implemented part (pageAddr MBX p o) = true) :
    rowAt part (pageAddr MBX p o) = findRow (blockRows MBX p) o := by
  rw [rowAt_page part (by decide) (by omega) ho h, if_neg (by omega)]

/-- What the register window takes there as a write is what the page's registers make of it. -/
theorem put_mbx (s : State) (m : Nat) (d : Word) {i : Instr} (hi : exec i s = s.put m (pageAddr MBX p o) d)
    (h : s.chip.takes m (pageAddr MBX p o) false = true) (hlo : 0x034 ≤ o) :
    exec i s = .next (s.settle fun _ => (s.chip.mbxWrite m (pageAddr MBX p o) [d] false).answer .done []) := by
  have hkey : offOf (pageAddr MBX p o) ≠ PG_KEY := by rw [offOf_mbx ho, PG_KEY]; omega
  rw [put_plain s m d hi h (.inr hkey) (by rw [blockOf_mbx hp ho]; decide), applyWrite_mbx hp ho _ _ m d false hlo]

end

/-! ### Reads -/

/-- The parts of what the register window asks of a read. -/
theorem gives_parts {m a : Nat} (h : c.gives m a = true) :
    c.sends m = true ∧ a % 4 = 0 ∧ implemented c.part a = true ∧ c.accessCause m a false = 0 ∧ valueBase c.part a = a := by
  simp only [Chip.gives, Bool.and_eq_true, decide_eq_true_eq] at h
  obtain ⟨⟨⟨⟨⟨hs, -⟩, h4⟩, hi⟩, he⟩, hb⟩ := h
  exact ⟨hs, h4, hi, he, hb⟩

theorem gives_sends {m a : Nat} (h : c.gives m a = true) : c.sends m = true := by
  obtain ⟨hs, -⟩ := gives_parts h
  exact hs

theorem gives_implemented {m a : Nat} (h : c.gives m a = true) : implemented c.part a = true := by
  obtain ⟨-, -, hi, -⟩ := gives_parts h
  exact hi

/-- An accepted read meets no refusal on the bus. -/
theorem busRead_given {m a : Nat} (h : c.gives m a = true) : (c.busRead m a 4).cause = 0 := by
  obtain ⟨-, h4, hi, he, hb⟩ := gives_parts h
  simp [Chip.busRead, h4, Chip.readOne, hi, he, hb]

/-- The words, the channels and the answer after an accepted read. -/
theorem read_answers (s : State) (m : Nat) {a : Nat} {i : Instr} (hi : exec i s = s.read m a 4) (h : s.chip.gives m a = true) :
    Answers (exec i s) fun t =>
      t.chip.words = (s.chip.readEffect m a).words ∧ t.chip.bells = (s.chip.readEffect m a).bells ∧
      t.chip.resp = { status := .done, data := [(s.chip.readWords m a).getD 0 0] } := by
  refine ⟨_, hi, ?_⟩
  have hread : ∃ k, s.chip.readBy m a 4 =
      ({ s.chip.readEffect m a with caps := k } : Chip).answer .done [(s.chip.readWords m a).getD 0 0] := by
    rw [readBy_given s.chip m a h]
    dsimp only
    split
    · exact ⟨_, rfl⟩
    · exact ⟨_, rfl⟩
  obtain ⟨k, hread⟩ := hread
  beta_reduce
  rw [settle_words, settle_bells, settle_resp, hread]
  exact ⟨rfl, rfl, rfl⟩

end Sys2Proof.Machine
end

section
/-! PROOFS. Bell channels (R99 to R104): a word is sent, looked at, taken or fails its check, and CROSS is set. -/

namespace Sys2Proof.Machine

variable {c c' : Chip}

/-! ### A channel's two directions (R99, R102) -/

theorem dir_setDir_same (b : Bell) (s : Nat) (d : BellDir) : (b.setDir s d).dir s = d := by
  unfold Bell.setDir Bell.dir
  split <;> rfl

/-! ### Causes of a view (R74, R104) -/

theorem viewKey_page_add (s ch o : Nat) : viewKey s (pageAddr MBX (1 + ch) 0) + o = viewKey s (mbxA ch o) := by
  simp only [viewKey, mbxA, pageAddr]; omega

/-- RAW and PEND of side `s`'s view of channel `ch`. -/
def bellCauseBits (ch s k _j : Nat) : Prop := k = viewKey s (mbxA ch PG_EVT_RAW) ∨ k = viewKey s (mbxA ch PG_EVT_PEND)

theorem bellCause_notes (c : Chip) (ch s i : Nat) : c.Notes (c.bellCause ch s i) := causeAt_notes ..

theorem bellCause_alters (c : Chip) (ch s i : Nat) : c.Alters (bellCauseBits ch s) (c.bellCause ch s i) :=
  causeAt_alters c _ i _ (.inl (viewKey_page_add ..)) (.inr (viewKey_page_add ..))

theorem bellCause_raises (c : Chip) (ch s : Nat) {i : Nat} (hi : i < 32) :
    (c.bellCause ch s i).bit (viewKey s (mbxA ch PG_EVT_RAW)) i = true := by
  rw [← viewKey_page_add]
  refine ((pend_alters (S := fun k _ => k = viewKey s (pageAddr MBX (1 + ch) 0) + PG_EVT_PEND) _ _ i _ rfl).bit _ i ?_).trans
    (Chip.bit_setBit_same _ _ i true hi)
  simp [PG_EVT_RAW, PG_EVT_PEND]

/-- A word of the header of a page or a view (R67). -/
def inHeader (k _j : Nat) : Prop := k % 0x1000 < 0x034

theorem bellCause_alters_header (c : Chip) (ch s i : Nat) : c.Alters inHeader (c.bellCause ch s i) := by
  refine (bellCause_alters c ch s i).mono fun k _ h => ?_
  simp only [bellCauseBits, viewKey, mbxA, pageAddr, PG_EVT_RAW, PG_EVT_PEND] at h
  simp only [inHeader]
  omega

/-- An error record changes headers alone (R72). -/
theorem logErr_alters_header (c : Chip) (e m a : Nat) : c.Alters inHeader (c.logErr e m a) := by
  have hpage : errPage a % 0x1000 = 0 := by
    unfold errPage pageOf pageAddr
    split <;> omega
  have hlog (l : Option Nat) : c.Alters inHeader (c.logAt (errPage a) e m (a % 0x10_0000) l) :=
    (logAt_alters ..).mono fun k _ h => by
      simp only [recordBits, PG_ERRINFO, PG_ERR_CNT, PG_EVT_RAW, PG_EVT_PEND] at h
      simp only [inHeader]
      omega
  exact .ite (((hlog _).trans (bellCause_alters_header ..)).trans (bellCause_alters_header ..)) (hlog _)

/-! ### A word is sent (R100) -/

section
variable (c : Chip) {ch t : Nat} (hon : c.channelOn ch = true)
include hon

/-- The sender's direction is full with the word; an overwritten one is marked. -/
theorem bellSend_dir (d : Word) :
    ((c.bellSend ch t d).bell ch).dir t =
      { word := d, full := true, collided := ((c.bell ch).dir t).full || ((c.bell ch).dir t).collided,
        rxseq := (((c.bell ch).dir t).rxseq + 1) % 256 } := by
  rw [Chip.bellSend, hon, if_neg (by decide)]
  dsimp only
  rw [((count_notes ..).trans (bellCause_notes ..)).bell ch, bell_setBell_same, dir_setDir_same]

/-- The other side's word is taken. -/
theorem bellTaken_dir : ((c.bellTaken ch t).bell ch).dir (1 - t) =
    { (c.bell ch).dir (1 - t) with full := false, collided := false } := by
  rw [Chip.bellTaken, hon, if_neg (by decide)]
  dsimp only
  rw [(Chip.Notes.ite (bellCause_notes ..) (.refl _) : Chip.Notes (c.setBell ch _) _).bell ch, bell_setBell_same, dir_setDir_same]

end

/-! ### Registers of a channel (R99, R104) -/

section
variable {ch t o : Nat} (hc : ch < 64) (ho : o < 0x800)
include hc ho

theorem isBell_mbxA : isBell (mbxA ch o) = true := by
  have hrange : 1 ≤ 1 + ch ∧ 1 + ch < 65 := by omega
  simp [isBell, mbxA, blockOf_mbx (show 1 + ch < 98 by omega) ho, isTw_mbx (show 1 + ch < 98 by omega) ho,
    instOf_mbx (show 1 + ch < 98 by omega) ho, hrange]

theorem rowAt_bell {part : Part} (hlo : 0x034 ≤ o) (h : implemented part (mbxA ch o) = true) :
    rowAt part (mbxA ch o) = findRow mbxBellRows o := by
  have hrows : blockRows MBX (1 + ch) = mbxBellRows := by simp [blockRows, MBX, show 1 + ch < 65 by omega]
  rw [mbxA, rowAt_mbx (by omega) ho hlo h, hrows]

variable {m : Nat} {h : RegHit} (hlo : 0x034 ≤ o) (hrow : rowAt c.part (mbxA ch o) = some h)
include hlo hrow

/-- Each side reads its own view. -/
theorem liveWord_bell (hwo : h.row.wo = false) (hs : c.sideOf ch m = some t) : c.liveWord m (mbxA ch o) = c.bellWord ch t (mbxA ch o) := by
  have hbell := isBell_mbxA hc ho
  have hres := resultAt_below c.part (show offOf (mbxA ch o) < 0x800 by rw [mbxA, offOf_mbx ho]; exact ho)
  have htw : isTw (mbxA ch o) = false := isTw_mbx (by omega) ho
  have hoff : offOf (mbxA ch o) = o := offOf_mbx ho
  have hblock : blockOf (mbxA ch o) = MBX := blockOf_mbx (by omega) ho
  have hinst : instOf (mbxA ch o) - 1 = ch := by rw [mbxA, instOf_mbx (by omega) ho]; omega
  generalize mbxA ch o = a at *
  have hpage : c.liveWord m a = c.pageWord m a := by
    simp [Chip.liveWord, hres, hrow, hwo, htw, hoff, show ¬ o < 0x034 by omega]
  rw [hpage]
  unfold Chip.pageWord
  simp only [hblock, MBX, hbell, hinst, hs, if_true]

/-- A read of a value of one or more words answers its lowest. -/
theorem readWords_bell (hw : 0 < h.row.words) (hwo : h.row.wo = false) (hs : c.sideOf ch m = some t) :
    (c.readWords m (mbxA ch o)).getD 0 0 = c.bellWord ch t (mbxA ch o) := by
  have hblock : blockOf (mbxA ch o) = MBX := blockOf_mbx (by omega) ho
  have hres := resultAt_below c.part (show offOf (mbxA ch o) < 0x800 by rw [mbxA, offOf_mbx ho]; exact ho)
  have hlock : isLock (mbxA ch o) = false := isLock_mbx (by omega) ho (by omega)
  rw [readWords_live c m _ hlock (by rw [hblock]; simp [MBX, TIM]), liveWords_getD_zero c m _ (by simpa [valueWords, hres, hrow] using hw),
    liveWord_bell hc ho hlo hrow hwo hs]

omit hlo in
/-- Only the read of MBX_BELL_TAKE takes anything, and no register but the counters clears (R9, R100). -/
theorem readEffect_bell (hrc : h.row.rc = false) (hs : c.sideOf ch m = some t) :
    c.readEffect m (mbxA ch o) = if o = 0x108 then c.bellTaken ch t else c := by
  have hbell := isBell_mbxA hc ho
  have hres := resultAt_below c.part (show offOf (mbxA ch o) < 0x800 by rw [mbxA, offOf_mbx ho]; exact ho)
  have htw : isTw (mbxA ch o) = false := isTw_mbx (by omega) ho
  have hoff : offOf (mbxA ch o) = o := offOf_mbx ho
  have hblock : blockOf (mbxA ch o) = MBX := blockOf_mbx (by omega) ho
  have hlock : isLock (mbxA ch o) = false := isLock_mbx (by omega) ho (by omega)
  have hinst : instOf (mbxA ch o) - 1 = ch := by rw [mbxA, instOf_mbx (by omega) ho]; omega
  generalize mbxA ch o = a at *
  by_cases htake : o = 0x108
  · simp [Chip.readEffect, hres, hrow, hrc, htw, hbell, hoff, htake, hinst, hs]
  · simp [Chip.readEffect, hres, hrow, hrc, htw, hbell, hoff, htake, hlock, hblock, MBX, HOI, TIM]

end

/-- MBX_BELL_IN shows the other side's word (R99). -/
theorem bellWord_in (c : Chip) (ch t : Nat) : c.bellWord ch t (mbxA ch 0x104) = ((c.bell ch).dir (1 - t)).word := by
  rw [Chip.bellWord, show offOf (mbxA ch 0x104) = 0x104 from offOf_mbx (by decide)]
  rfl

/-- The lower word of MBX_BELL_TAKE is its status word (R99). -/
theorem bellWord_take (c : Chip) (ch t : Nat) : c.bellWord ch t (mbxA ch 0x108) = (c.bellTakeWords ch t).getD 0 0 := by
  rw [Chip.bellWord, show offOf (mbxA ch 0x108) = 0x108 from offOf_mbx (by decide)]
  rfl

/-! ### A failed check (R101) -/

theorem bellCheckFail_bells (c : Chip) (ch t m o : Nat) : (c.bellCheckFail ch t m o).bells = c.bells :=
  (((setBit_notes c _ 5 true).trans (bellCause_notes ..)).trans (logErr_notes ..)).bells

/-- CHK_FAIL is set in the reader's view. -/
theorem bellCheckFail_bit (c : Chip) (ch t m o : Nat) : (c.bellCheckFail ch t m o).bit (viewKey t (mbxA ch 0x110)) 5 = true := by
  have hstat (j : Nat) : ¬ inHeader (viewKey t (mbxA ch 0x110)) j := by
    simp only [inHeader, viewKey, mbxA, pageAddr]
    omega
  exact ((logErr_alters_header ..).bit _ 5 (hstat 5)).trans
    (((bellCause_alters_header ..).bit _ 5 (hstat 5)).trans (Chip.bit_setBit_same c _ _ true (by decide)))

/-- A read that the register window takes and whose check fails. -/
theorem bellBadRead_given {m ch o t : Nat} (h : c.gives m (mbxA ch o) = true) (hs : c.sideOf ch m = some t) :
    c.bellBadRead m ch (mbxA ch o) 4 = c.bellCheckFail ch t m (offOf (mbxA ch o)) := by
  simp [Chip.bellBadRead, gives_sends h, busRead_given h, hs]

/-! ### CROSS (R102) -/

theorem crossExpired_eq {ch : Nat} (hc : ch < 64) (hon : c.channelOn ch = true) (h0 : (c.bell ch).d0.full = true)
    (h1 : (c.bell ch).d1.full = true) (hx : (c.bell ch).cross = false) :
    c.crossExpired ch = ((c.setBell ch { c.bell ch with cross := true }).bellCause ch 0 3).bellCause ch 1 3 := by
  simp [Chip.crossExpired, hc, hon, h0, h1, hx]

/-! ### The commands -/

theorem exec_bellSend (s : State) (m ch : Nat) (d : Word) : exec (.bellSend m ch d) s = s.put m (pageAddr MBX (1 + ch) 0x100) d := rfl
theorem exec_bellTake (s : State) (m ch : Nat) : exec (.bellTake m ch 4 true) s = s.read m (mbxA ch 0x108) 4 := rfl
theorem exec_bellTake_bad (s : State) (m ch : Nat) :
    exec (.bellTake m ch 4 false) s = .next (s.settle fun c => c.bellBadRead m ch (mbxA ch 0x108) 4) := rfl
theorem exec_bellInRead (s : State) (m ch : Nat) : exec (.bellInRead m ch true) s = s.read m (mbxA ch 0x104) 4 := rfl
theorem exec_crossTimeExpiry (s : State) (ch : Nat) :
    exec (.crossTimeExpiry ch) s = s.event MBX (1 + ch) fun c => c.crossExpired ch := rfl

section
variable (s : State) {m ch t0 : Nat} (hc : ch < 64) (hs : s.chip.sideOf ch m = some t0)
include hc

theorem crossTimeExpiry_answers (ha : s.chip.acts MBX (1 + ch) = true) (hon : s.chip.channelOn ch = true)
    (h0 : (s.chip.bell ch).d0.full = true) (h1 : (s.chip.bell ch).d1.full = true) (hx : (s.chip.bell ch).cross = false) :
    Answers (exec (.crossTimeExpiry ch) s) fun t =>
      (t.chip.bell ch).cross = true ∧ t.chip.bit (viewKey 0 (mbxA ch PG_EVT_RAW)) 3 = true ∧
      t.chip.bit (viewKey 1 (mbxA ch PG_EVT_RAW)) 3 = true := by
  have hn := crossExpired_eq hc hon h0 h1 hx
  refine ⟨_, (exec_crossTimeExpiry s ch).trans (event_acts s MBX (1 + ch) _ ha), ?_, ?_, ?_⟩
  · change ((s.chip.crossExpired ch).bell ch).cross = true
    rw [hn, ((bellCause_notes ..).trans (bellCause_notes ..)).bell, bell_setBell_same]
  · rw [settle_bit, hn]
    refine ((bellCause_alters _ ch 1 3).bit _ 3 ?_).trans (bellCause_raises _ ch 0 (by decide))
    simp only [bellCauseBits, viewKey, mbxA, pageAddr, PG_EVT_RAW, PG_EVT_PEND]
    omega
  · rw [settle_bit, hn]
    exact bellCause_raises _ ch 1 (by decide)

include hs

/-- What a write of MBX_BELL_OUT makes of the channel. -/
theorem bellSend_answers (d : Word) (hon : s.chip.channelOn ch = true) (h : s.chip.takes m (mbxA ch 0x100) false = true) :
    Answers (exec (.bellSend m ch d) s) fun t =>
      (t.chip.bell ch).dir t0 = { word := d, full := true, collided := ((s.chip.bell ch).dir t0).full || ((s.chip.bell ch).dir t0).collided,
                                  rxseq := (((s.chip.bell ch).dir t0).rxseq + 1) % 256 } ∧ t.chip.resp.status = .done := by
  have hwrite : s.chip.mbxWrite m (pageAddr MBX (1 + ch) 0x100) [d] false = s.chip.bellSend ch t0 d := by
    have hinst : instOf (pageAddr MBX (1 + ch) 0x100) = 1 + ch := instOf_mbx (by omega) (by decide)
    have hoff : offOf (pageAddr MBX (1 + ch) 0x100) = 0x100 := offOf_mbx (by decide)
    simp [Chip.mbxWrite, hinst, hoff, show 1 + ch < 65 by omega, hs]
  refine ⟨_, put_mbx (by omega) (by decide) s m d (exec_bellSend ..) h (by decide), ?_, ?_⟩
  · rw [hwrite]
    exact bellSend_dir s.chip hon d
  · rw [settle_resp, Chip.answer_resp]

theorem bellTake_answers (hon : s.chip.channelOn ch = true) (h : s.chip.gives m (mbxA ch 0x108) = true) :
    Answers (exec (.bellTake m ch 4 true) s) fun t =>
      ((t.chip.bell ch).dir (1 - t0)).full = false ∧
      t.chip.resp = { status := .done, data := [(s.chip.bellTakeWords ch t0).getD 0 0] } := by
  have hrow : rowAt s.chip.part (mbxA ch 0x108) = some ⟨ro 0x108 2, 0, 0⟩ :=
    (rowAt_bell hc (by decide) (by decide) (gives_implemented h)).trans (by decide)
  obtain ⟨t, ht, -, hbells, hresp⟩ := read_answers s m (exec_bellTake s m ch) h
  refine ⟨t, ht, ?_, ?_⟩
  · rw [readEffect_bell hc (by decide) hrow rfl hs, if_pos rfl] at hbells
    rw [Chip.bell, hbells, ← Chip.bell, bellTaken_dir s.chip hon]
  · rw [hresp, readWords_bell hc (by decide) (by decide) hrow (by decide) rfl hs, bellWord_take]

theorem bellInRead_answers (h : s.chip.gives m (mbxA ch 0x104) = true) :
    Answers (exec (.bellInRead m ch true) s) fun t =>
      t.chip.bells = s.chip.bells ∧ t.chip.resp = { status := .done, data := [((s.chip.bell ch).dir (1 - t0)).word] } := by
  have hrow : rowAt s.chip.part (mbxA ch 0x104) = some ⟨ro 0x104, 0, 0⟩ :=
    (rowAt_bell hc (by decide) (by decide) (gives_implemented h)).trans (by decide)
  obtain ⟨t, ht, -, hbells, hresp⟩ := read_answers s m (exec_bellInRead s m ch) h
  refine ⟨t, ht, ?_, ?_⟩
  · rw [hbells, readEffect_bell hc (by decide) hrow rfl hs, if_neg (by decide)]
  · rw [hresp, readWords_bell hc (by decide) (by decide) hrow (by decide) rfl hs, bellWord_in]

omit hc in
theorem bellTakeBad_answers (h : s.chip.gives m (mbxA ch 0x108) = true) :
    Answers (exec (.bellTake m ch 4 false) s) fun t =>
      t.chip.bells = s.chip.bells ∧ t.chip.resp.status = (if m < 8 then .busError else .poisoned) ∧
      t.chip.bit (viewKey t0 (mbxA ch 0x110)) 5 = true := by
  have hfail := bellBadRead_given h hs
  refine ⟨_, exec_bellTake_bad s m ch, ?_, ?_, ?_⟩
  · rw [settle_bells, hfail, bellCheckFail_bells]
  · rw [settle_resp, hfail]; rfl
  · rw [settle_bit, hfail, bellCheckFail_bit]

end

/-- Settles O21: what a send, a take, a look, a failed check and the expiry of CROSS make of a channel. -/
theorem bellChannels : Obligations.BellChannels := by
  unfold Obligations.BellChannels
  intro s m ch t0 hc hs hon
  exact ⟨fun d h => bellSend_answers s hc hs d hon h,
    fun h => ⟨bellTake_answers s hc hs hon h, bellTakeBad_answers s hs h⟩,
    fun h => bellInRead_answers s hc hs h,
    fun ha h0 h1 hx => crossTimeExpiry_answers s hc ha hon h0 h1 hx⟩

end Sys2Proof.Machine
end

section
/-! PROOFS. Bucket rings (R105 to R110): a notice is staged, committed or refused, and entries are freed. -/

namespace Sys2Proof.Machine

variable {c : Chip}

/-! ### Causes of a ring (R105) -/

theorem ringCause_notes (c : Chip) (r s i : Nat) : c.Notes (c.ringCause r s i) := by
  unfold Chip.ringCause
  dsimp only
  split
  · exact (setBit_notes ..).trans (bellCause_notes ..)
  · exact .refl c

/-- They show in the views of a Bell channel alone. -/
theorem ringCause_alters (c : Chip) (r s i : Nat) : c.Alters (fun k _ => 2 ^ 25 ≤ k) (c.ringCause r s i) := by
  unfold Chip.ringCause
  dsimp only
  split
  · exact (setBit_alters c _ r true (by simp only [viewKey]; omega)).trans (bellCause_alters_view ..)
  · exact .refl _ c

/-! ### A notice is posted (R107, R108) -/

theorem ringPost_ring {r : Nat} (hon : c.channelOn (64 + r) = true) :
    ((c.ringPost r).ring r).staged = (c.ring r).staged ++
      [{ ptr := c.u64 (mbxA (64 + r) 0x100), len := c.nat (mbxA (64 + r) 0x108), tag := c.fld (mbxA (64 + r) 0x10C) 0 16 }] := by
  rw [Chip.ringPost, hon, if_neg (by decide), ring_setRing_same]

/-! ### It is committed or refused (R108) -/

/-- The words of the next entry of ring `r` take notice `n` (R106). -/
def Chip.ringEntry (c : Chip) (r : Nat) (n : Notice) : Chip :=
  let x := c.ring r
  let e := (x.tail + x.count) % 256
  ((c.setU64 (ringEntK r e 0) n.ptr).setNat (ringEntK r e 2) n.len).setNat (ringEntK r e 3) (x.nextSeq * 2 ^ 16 + n.tag % 2 ^ 16)

theorem ringEntry_len (c : Chip) (r : Nat) (n : Notice) :
    (c.ringEntry r n).word (ringEntK r (((c.ring r).tail + (c.ring r).count) % 256) 2) = BitVec.ofNat 32 n.len := by
  unfold Chip.ringEntry
  dsimp only
  rw [Chip.word_setNat, if_neg (by simp only [ringEntK, twAddr]; omega), Chip.word_setNat, if_pos rfl]

section
variable {r : Nat} {n : Notice} {rest : List Notice} (hst : (c.ring r).staged = n :: rest)
include hst

theorem ringCommit_accepts (hcount : (c.ring r).count < 256) (hfit : n.ptr + n.len ≤ c.dramBytes) :
    c.ringCommit r = ((c.ringEntry r n).setRing r { c.ring r with
      staged := rest, lastRefuse := false, count := (c.ring r).count + 1, nextSeq := ((c.ring r).nextSeq + 1) % 65536 }).ringCause r 1 5 := by
  unfold Chip.ringCommit
  dsimp only
  rw [hst]
  dsimp only
  rw [if_neg (show ¬ (c.ring r).count = 256 by omega), if_neg (Nat.not_lt.2 hfit), if_neg (by decide)]
  rfl

theorem ringCommit_refuses (hcount : (c.ring r).count = 256) :
    c.ringCommit r = ((c.setRing r { c.ring r with staged := rest, lastRefuse := true, why := 1 }).count
      (mbxA (64 + r) 0x034)).ringCause r 0 7 := by
  unfold Chip.ringCommit
  dsimp only
  rw [hst]
  dsimp only
  rw [if_pos hcount, if_pos (by decide)]

end

/-! ### Entries are freed (R107, R110) -/

theorem ringTake_ring {r n : Nat} (hon : c.channelOn (64 + r) = true) (hn : n ≤ (c.ring r).count) :
    (c.ringTake r n).ring r = { c.ring r with tail := ((c.ring r).tail + n) % 256, count := (c.ring r).count - n } := by
  have hring (b : Bool) (c : Chip) : (if b = true then c.ringCause r 0 6 else c).ring r = c.ring r :=
    (Chip.Notes.ite (ringCause_notes ..) (.refl c)).ring r
  rw [Chip.ringTake, hon, if_neg (by decide), if_neg (Nat.not_lt.2 hn), hring, ring_setRing_same]

/-! ### The commands -/

theorem exec_bucketPost (s : State) (m r : Nat) (d : Word) :
    exec (.bucketPost m r d) s = s.put m (pageAddr MBX (1 + (64 + r)) 0x110) d := rfl
theorem exec_bucketPostCommit (s : State) (r : Nat) :
    exec (.bucketPostCommit r) s = s.event MBX (65 + r) fun c => c.ringCommit r := rfl
theorem exec_bucketTake (s : State) (m r : Nat) (d : Word) :
    exec (.bucketTake m r d) s = s.put m (pageAddr MBX (1 + (64 + r)) 0x114) d := rfl

theorem settle_ring (s : State) (f : Chip → Chip) (r : Nat) : (s.settle f).chip.ring r = (f s.chip).ring r := rfl

section
variable (s : State) (m : Nat) {r : Nat} (d : Word) (hr : r < 32)
include hr

/-- POST and TAKE_N of a ring's page act when written (R107). -/
theorem mbxWrite_ring {o : Nat} (ho : o = 0x110 ∨ o = 0x114) :
    s.chip.mbxWrite m (pageAddr MBX (1 + (64 + r)) o) [d] false =
      if o = 0x110 then s.chip.ringPost r else s.chip.ringTake r d.toNat := by
  have hlt : o < 0x800 := by omega
  have hinst : instOf (pageAddr MBX (1 + (64 + r)) o) = 65 + r := (instOf_mbx (by omega) hlt).trans (by omega)
  have hoff : offOf (pageAddr MBX (1 + (64 + r)) o) = o := offOf_mbx hlt
  have hpage : ¬ 65 + r = 0 ∧ ¬ 65 + r < 65 ∧ 65 + r < 97 := by omega
  unfold Chip.mbxWrite
  dsimp only
  rw [hinst, hoff, if_neg hpage.1, if_neg hpage.2.1, if_pos hpage.2.2, Nat.add_sub_cancel_left]
  rcases ho with rfl | rfl <;> rfl

theorem bucketPost_answers (hon : s.chip.channelOn (64 + r) = true) (h : s.chip.takes m (mbxA (64 + r) 0x110) false = true) :
    Answers (exec (.bucketPost m r d) s) fun t =>
      (t.chip.ring r).staged = (s.chip.ring r).staged ++
        [{ ptr := s.chip.u64 (mbxA (64 + r) 0x100), len := s.chip.nat (mbxA (64 + r) 0x108), tag := s.chip.fld (mbxA (64 + r) 0x10C) 0 16 }] ∧
      t.chip.resp.status = .done := by
  refine ⟨_, put_mbx (by omega) (by decide) s m d (exec_bucketPost ..) h (by decide), ?_, ?_⟩
  · rw [settle_ring, mbxWrite_ring s m d hr (.inl rfl), if_pos rfl]
    exact ringPost_ring hon
  · rw [settle_resp, Chip.answer_resp]

theorem bucketTake_answers (hon : s.chip.channelOn (64 + r) = true) (h : s.chip.takes m (mbxA (64 + r) 0x114) false = true)
    (hd : d.toNat ≤ (s.chip.ring r).count) :
    Answers (exec (.bucketTake m r d) s) fun t =>
      (t.chip.ring r).count = (s.chip.ring r).count - d.toNat ∧ (t.chip.ring r).tail = ((s.chip.ring r).tail + d.toNat) % 256 := by
  have hring := ringTake_ring hon hd
  refine ⟨_, put_mbx (by omega) (by decide) s m d (exec_bucketTake ..) h (by decide), ?_⟩
  beta_reduce
  rw [settle_ring, mbxWrite_ring s m d hr (.inr rfl), if_neg (by decide)]
  exact ⟨congrArg Bucket.count hring, congrArg Bucket.tail hring⟩

end

section
variable (s : State) {r : Nat} (ha : s.chip.acts MBX (65 + r) = true) {n : Notice} {rest : List Notice}
variable (hst : (s.chip.ring r).staged = n :: rest)
include ha hst

theorem bucketPostCommit_accepts (hr : r < 32) (hcount : (s.chip.ring r).count < 256) (hfit : n.ptr + n.len ≤ s.chip.dramBytes) :
    Answers (exec (.bucketPostCommit r) s) fun t =>
      (t.chip.ring r).staged = rest ∧ (t.chip.ring r).count = (s.chip.ring r).count + 1 ∧
      (t.chip.ring r).nextSeq = ((s.chip.ring r).nextSeq + 1) % 65536 ∧ (t.chip.ring r).lastRefuse = false ∧
      t.chip.word (ringEntK r (((s.chip.ring r).tail + (s.chip.ring r).count) % 256) 2) = BitVec.ofNat 32 n.len := by
  have hn := ringCommit_accepts hst hcount hfit
  refine ⟨_, (exec_bucketPostCommit s r).trans (event_acts s MBX _ _ ha), ?_⟩
  beta_reduce
  rw [settle_ring, settle_word, hn, (ringCause_notes ..).ring, ring_setRing_same]
  refine ⟨rfl, rfl, rfl, rfl, ?_⟩
  refine ((ringCause_alters ..).word _ fun _ => ?_).trans (ringEntry_len s.chip r n)
  simp only [ringEntK, twAddr, MBX]
  omega

theorem bucketPostCommit_refuses (hcount : (s.chip.ring r).count = 256) :
    Answers (exec (.bucketPostCommit r) s) fun t =>
      (t.chip.ring r).staged = rest ∧ (t.chip.ring r).count = 256 ∧ (t.chip.ring r).lastRefuse = true ∧ (t.chip.ring r).why = 1 := by
  have hn := ringCommit_refuses hst hcount
  refine ⟨_, (exec_bucketPostCommit s r).trans (event_acts s MBX _ _ ha), ?_⟩
  beta_reduce
  rw [settle_ring, hn, (ringCause_notes ..).ring, (count_notes ..).ring, ring_setRing_same]
  exact ⟨rfl, hcount, rfl, rfl⟩

end

/-- Settles O22: what a post, its commit and a take make of a ring. -/
theorem bucketRings : Obligations.BucketRings := by
  unfold Obligations.BucketRings
  intro s m r d hr
  exact ⟨fun hon h => bucketPost_answers s m d hr hon h,
    fun n rest ha hst => ⟨fun hcount hfit => bucketPostCommit_accepts s ha hst hr hcount hfit,
      fun hcount => bucketPostCommit_refuses s ha hst hcount⟩,
    fun hon h hd => bucketTake_answers s m d hr hon h hd⟩

end Sys2Proof.Machine
end

section
/-! PROOFS. Locks (R111, R112) and the binding table (R95, R96). -/

namespace Sys2Proof.Machine

variable {c : Chip}

/-! ### The register of a lock (R111) -/

section
variable {n : Nat} (hn : n < 128)
include hn

theorem offOf_lockK : offOf (lockK n) = 0x100 + 4 * n := offOf_mbx (by omega)
theorem isTw_lockK : isTw (lockK n) = false := isTw_mbx (by decide) (by omega)
theorem blockOf_lockK : blockOf (lockK n) = MBX := blockOf_mbx (by decide) (by omega)
theorem instOf_lockK : instOf (lockK n) = 97 := instOf_mbx (by decide) (by omega)
theorem pageOf_lockK : pageOf (lockK n) = pageAddr MBX 97 0 := pageOf_pageAddr _ _ _ (by omega)
theorem lockK_lt : lockK n < 2 ^ 25 ∧ lockK n % 4 = 0 := by simp only [lockK, pageAddr, MBX]; omega

theorem isLock_lockK : isLock (lockK n) = true := by
  simp [isLock, blockOf_lockK hn, isTw_lockK hn, instOf_lockK hn, offOf_lockK hn]
  omega

theorem lock_number : (offOf (lockK n) - 0x100) / 4 = n := by rw [offOf_lockK hn]; omega

theorem rowAt_lockK (part : Part) : rowAt part (lockK n) = some ⟨rwN 0x100 128 4 0, n, 0⟩ := by
  have hexists : pageExists part MBX 97 = true := by cases part <;> rfl
  have hrows : blockRows MBX 97 = mbxLockRows := rfl
  have hskip : (rc 0x034).hit (0x100 + 4 * n) = none := hit_behind rfl (by simp only [rc]; omega)
  unfold rowAt
  rw [isTw_lockK hn, blockOf_lockK hn, instOf_lockK hn, offOf_lockK hn, hexists, if_neg (by decide), if_pos rfl, if_neg (by omega),
    hrows, mbxLockRows, findRow_skip hskip]
  exact findRow_take (hit_repeat (by decide) (by decide) (by decide) hn (by simp only [rwN]))

theorem resultAt_lockK (part : Part) : resultAt part (lockK n) = none := resultAt_below part (by rw [offOf_lockK hn]; omega)

theorem implemented_lockK (part : Part) : implemented part (lockK n) = true := by simp [implemented, rowAt_lockK hn]

/-! ### A read takes a free lock (R112) -/

theorem readWords_lockK (c : Chip) (m : Nat) : c.readWords m (lockK n) = [(c.lockRead m n).1] := by
  rw [Chip.readWords, if_pos (isLock_lockK hn), lock_number hn]

theorem readEffect_lockK (c : Chip) (m : Nat) : c.readEffect m (lockK n) = (c.lockRead m n).2 := by
  have hbell : isBell (lockK n) = false := by simp [isBell, instOf_lockK hn]
  simp [Chip.readEffect, resultAt_lockK hn, rowAt_lockK hn, rwN, isTw_lockK hn, hbell, isLock_lockK hn, lock_number hn]

/-! ### A write frees it (R112) -/

theorem applyWrite_lockK (c : Chip) (x : Meets) (m : Nat) (d : Word) (keyed : Bool) :
    c.applyWrite x m (lockK n) [d] keyed = c.lockWrite m n d keyed := by
  have hw := applyWrite_mbx (p := 97) (o := 0x100 + 4 * n) (by decide) (by omega) c x m d keyed (by omega)
  rw [show pageAddr MBX 97 (0x100 + 4 * n) = lockK n from rfl] at hw
  rw [hw]
  simp [Chip.mbxWrite, instOf_lockK hn, isLock_lockK hn, lock_number hn]

end

/-- A lock's own rule decides on a write that its page accepts (R112). -/
theorem writeOne_lock {c c' : Chip} (x : Meets) (m a : Nat) (d : Word) {keyed : Bool} (hi : implemented c.part a = true)
    (he : c.accessCause m a true = 0) (htw : isTw a = false) (hl : isLock a = true) (hk : c.keyStep m a d = (c', keyed))
    (hx : x.keyed = false) (hf : x.fwd = false) :
    c.writeOne x m a [d] false =
      if c'.lockDenied m ((offOf a - 0x100) / 4) d keyed then { chip := c'.logErr ecNotOwner m a, cause := ecNotOwner }
      else { chip := c'.actWrite x m a [d] keyed } := by
  by_cases hd : c'.lockDenied m ((offOf a - 0x100) / 4) d keyed = true
  · simp [Chip.writeOne, hi, Chip.writeCause, hf, he, hx, htw, hk, hl, hd, ecNotOwner, Chip.refusedCommand]
  · simp [Chip.writeOne, hi, Chip.writeCause, hf, he, hx, htw, hk, hl, hd]

/-- A write of one word, answered. -/
theorem writeBy_one {c : Chip} (x : Meets) (m : Nat) {a : Nat} (d : Word) (hs : c.sends m = true) (ha : a < 2 ^ 25) (h4 : a % 4 = 0) :
    c.writeBy x m a 4 [d] = (c.writeOne x m a [d] false).answer m true := by
  have h25 : a % 33554432 = a := Nat.mod_eq_of_lt ha
  simp [Chip.writeBy, hs, h25, Chip.busWrite, h4]

section
variable (s : State) (m : Nat) {n : Nat} (d : Word) (hn : n < 128) (hs : s.chip.sends m = true)
variable (he : s.chip.accessCause m (lockK n) true = 0) {c' : Chip} {keyed : Bool} (hk : s.chip.keyStep m (lockK n) d = (c', keyed))
include hn hs he hk

/-- A write that the lock's rule lets through. -/
theorem put_lock_accepted (hd : c'.lockDenied m n d keyed = false) :
    s.put m (lockK n) d = .next (s.settle fun _ => (c'.lockWrite m n d keyed).answer .done []) := by
  obtain ⟨hlt, h4⟩ := lockK_lt hn
  have hact : c'.actWrite (s.meets {}) m (lockK n) [d] keyed = c'.lockWrite m n d keyed := by
    simp [Chip.actWrite, blockOf_lockK hn, show pairBlock MBX = false from rfl, applyWrite_lockK hn]
  rw [State.put, write_settles s m d 0 hlt (by rw [blockOf_lockK hn]; decide), settle_at, writeBy_one _ m d hs hlt h4,
    writeOne_lock _ m _ d (implemented_lockK hn _) he (isTw_lockK hn) (isLock_lockK hn) hk rfl rfl, lock_number hn, hd,
    if_neg (by decide), hact]
  rfl

/-- One that it refuses. -/
theorem put_lock_denied (hd : c'.lockDenied m n d keyed = true) :
    s.put m (lockK n) d = .next (s.settle fun _ => (c'.logErr ecNotOwner m (lockK n)).answer (denial m ecNotOwner true)) := by
  obtain ⟨hlt, h4⟩ := lockK_lt hn
  rw [State.put, write_settles s m d 0 hlt (by rw [blockOf_lockK hn]; decide), settle_at, writeBy_one _ m d hs hlt h4,
    writeOne_lock _ m _ d (implemented_lockK hn _) he (isTw_lockK hn) (isLock_lockK hn) hk rfl rfl, lock_number hn, hd, if_pos rfl]
  rfl

end

/-! ### The commands of a lock -/

theorem exec_lockRead (s : State) (m n : Nat) : exec (.lockRead m n) s = s.read m (lockK n) 4 := rfl
theorem exec_lockRelease (s : State) (m n : Nat) (d : Word) : exec (.lockRelease m n d) s = s.put m (lockK n) d := rfl
theorem exec_lockForceRelease (s : State) (m n : Nat) (d : Word) : exec (.lockForceRelease m n d) s = s.put m (lockK n) d := rfl

section
variable (s : State) {m n : Nat} (hn : n < 128)
include hn

theorem lockRead_answers (h : s.chip.gives m (lockK n) = true) {w : Word} {c' : Chip} (hr : s.chip.lockRead m n = (w, c')) :
    Answers (exec (.lockRead m n) s) fun t => t.chip.words = c'.words ∧ t.chip.resp = { status := .done, data := [w] } := by
  obtain ⟨t, ht, hwords, -, hresp⟩ := read_answers s m (exec_lockRead s m n) h
  rw [readEffect_lockK hn, hr] at hwords
  rw [readWords_lockK hn, hr] at hresp
  exact ⟨t, ht, hwords, hresp⟩

/-- Without a sequence under way the write is unkeyed. -/
theorem keyStep_lockK (d : Word) (hk : s.chip.keySt (pageAddr MBX 97 0) m = .closed) :
    s.chip.keyStep m (lockK n) d = (s.chip, false) :=
  keyStep_closed s.chip m _ d (by rw [pageOf_lockK hn, hk]) (by rw [offOf_lockK hn, PG_KEY]; omega)

section
variable (hs : s.chip.sends m = true) (he : s.chip.accessCause m (lockK n) true = 0)
include hs he

theorem lockRelease_frees (hk : s.chip.keySt (pageAddr MBX 97 0) m = .closed) (hh : s.chip.nat (lockK n) = m + 1) :
    Answers (exec (.lockRelease m n 0) s) fun t => t.chip.nat (lockK n) = 0 ∧ t.chip.resp.status = .done := by
  have hw : s.chip.lockWrite m n 0 false = s.chip.setNat (lockK n) 0 := by simp [Chip.lockWrite, hh]
  have hp := put_lock_accepted s m 0 hn hs he (keyStep_lockK s hn 0 hk) (by simp [Chip.lockDenied, hh])
  refine ⟨_, (exec_lockRelease ..).trans hp, ?_, ?_⟩
  · rw [settle_nat, hw]
    exact Chip.nat_setNat_same _ _ _ (by decide)
  · rw [settle_resp, Chip.answer_resp]

theorem lockRelease_denied (d : Word) (hk : s.chip.keySt (pageAddr MBX 97 0) m = .closed) (hh : s.chip.nat (lockK n) ≠ m + 1) :
    Answers (exec (.lockRelease m n d) s) fun t =>
      t.chip.nat (lockK n) = s.chip.nat (lockK n) ∧ t.chip.resp.status = denial m ecNotOwner true := by
  have hp := put_lock_denied s m d hn hs he (keyStep_lockK s hn d hk) (by simp [Chip.lockDenied, hh])
  refine ⟨_, (exec_lockRelease ..).trans hp, ?_, ?_⟩
  · rw [settle_nat]
    refine (logErr_alters_header s.chip ecNotOwner m (lockK n)).nat _ fun _ => ?_
    simp only [inHeader, lockK, pageAddr]
    omega
  · rw [settle_resp, Chip.answer_resp]

theorem lockForceRelease_frees (hk : s.chip.keySt (pageAddr MBX 97 0) m = .opened) (ho : s.chip.owner (pageAddr MBX 97 0) = m)
    (hh : s.chip.nat (lockK n) ≠ 0) :
    Answers (exec (.lockForceRelease m n 0x80) s) fun t =>
      t.chip.nat (lockK n) = 0 ∧ t.chip.nat (pageAddr MBX 97 0x034) = min (2 ^ 32 - 1) (s.chip.nat (pageAddr MBX 97 0x034) + 1) := by
  let c := s.chip.setKeySt (pageAddr MBX 97 0) m .closed
  have hstep : s.chip.keyStep m (lockK n) 0x80 = (c, true) := by
    rw [keyStep_opened s.chip m _ _ (by rw [pageOf_lockK hn, hk]), pageOf_lockK hn]
  have hown : c.owner (pageAddr MBX 97 0) = m := ho
  have hheld : c.nat (lockK n) ≠ 0 := hh
  have hw : c.lockWrite m n 0x80 true = (c.setNat (lockK n) 0).count (pageAddr MBX 97 0x034) := by
    simp [Chip.lockWrite, hown, hheld]
  have hp := put_lock_accepted s m 0x80 hn hs he hstep (by simp [Chip.lockDenied, hown])
  have hne : lockK n ≠ pageAddr MBX 97 0x034 := by simp only [lockK, pageAddr]; omega
  refine ⟨_, (exec_lockForceRelease ..).trans hp, ?_, ?_⟩
  · rw [settle_nat, hw]
    refine ((count_alters (S := fun k _ => k = pageAddr MBX 97 0x034) (c.setNat (lockK n) 0) _ 1 fun _ => rfl).nat _ fun _ => hne).trans ?_
    exact Chip.nat_setNat_same _ _ _ (by decide)
  · rw [settle_nat, hw]
    refine (Chip.nat_count_same (c.setNat (lockK n) 0) _).trans ?_
    rw [(setNat_alters (S := fun k _ => k = lockK n) c _ 0 fun _ => rfl).nat _ fun _ => hne.symm]
    rfl

end

end

/-! ### The binding table (R95, R96) -/

section
variable {k : Nat} (hk : k < 96)
include hk

theorem isTw_aBind : isTw (aBind k) = true := isTw_twAddr _ _ (by omega)
theorem blockOf_aBind : blockOf (aBind k) = MBX := blockOf_twAddr _ _ (by decide) (by omega)
theorem twOf_aBind : twOf (aBind k) = 4 * k := twOf_twAddr _ _ (by omega)

theorem applyWrite_aBind (c : Chip) (x : Meets) (m : Nat) (d : Word) (keyed : Bool) :
    c.applyWrite x m (aBind k) [d] keyed = c.bindWrite m k d := by
  rw [applyWrite_tw c x m [d] keyed (isTw_aBind hk)]
  unfold Chip.twWrite
  rw [blockOf_aBind hk, twOf_aBind hk]
  simp [MBX, show 4 * k < 384 by omega]

end

/-- What a channel's state clears of words lies in the views of its sides. -/
theorem clearChannel_alters (c : Chip) (k : Nat) : c.Alters (fun k _ => 2 ^ 25 ≤ k) (c.clearChannel k) := by
  have hviews (c : Chip) : c.Alters (fun k _ => 2 ^ 25 ≤ k)
      (c.each [0, 1] fun c s => c.clearWords (viewKey s (mbxA k 0x110)) (viewKey s (mbxA k 0x118))) :=
    each_alters _ [0, 1] (fun c s _ => clearWords_alters c fun k' _ hk' => by
      simp only [viewKey, mbxA, pageAddr, MBX] at hk'
      omega) c
  unfold Chip.clearChannel
  exact .ite ((Chip.Alters.of_words rfl rfl rfl : c.Alters _ (c.setBell k {})).trans (hviews _)) (.of_words rfl rfl rfl)

theorem bindWhy_lt (c : Chip) (k : Nat) (d : Word) : c.bindWhy k d < 2 ^ 4 := by
  unfold Chip.bindWhy
  dsimp only
  split_ifs <;> decide

/-- EN is among the fields of a binding (R95). -/
theorem getLsbD_binding_en (d : Word) : (d &&& 0x803F_3F3F#32).getLsbD 31 = d.getLsbD 31 := by
  rw [BitVec.getLsbD_and]
  exact Bool.and_true _

section
variable (c : Chip) (m k : Nat) (d : Word) (hl : c.bit (pageAddr MBX 0 0x100) 31 = false)
include hl

/-- A binding that breaks no rule of R96 is set, and its channel cleared. -/
theorem bindWrite_sets (h : d.getLsbD 31 = false ∨ c.bindWhy k (d &&& 0x803F_3F3F#32) = 0) :
    c.bindWrite m k d = (c.setWord (aBind k) (d &&& 0x803F_3F3F#32)).clearChannel k := by
  have hwhy : (if (d &&& 0x803F_3F3F#32).getLsbD 31 then c.bindWhy k (d &&& 0x803F_3F3F#32) else 0) = 0 := by
    rw [getLsbD_binding_en]
    rcases h with h | h
    · rw [h, if_neg (by decide)]
    · rw [h, ite_self]
  unfold Chip.bindWrite
  dsimp only
  rw [hl, if_neg (by decide), hwhy, if_neg (by decide)]

/-- One that breaks a rule only shows the reason. -/
theorem bindWrite_refuses (hen : d.getLsbD 31 = true) (h : c.bindWhy k (d &&& 0x803F_3F3F#32) ≠ 0) :
    c.bindWrite m k d = c.setFld (pageAddr MBX 0 0x104) 0 4 (c.bindWhy k (d &&& 0x803F_3F3F#32)) := by
  have hwhy : (if (d &&& 0x803F_3F3F#32).getLsbD 31 then c.bindWhy k (d &&& 0x803F_3F3F#32) else 0) =
      c.bindWhy k (d &&& 0x803F_3F3F#32) := if_pos (by rw [getLsbD_binding_en, hen])
  unfold Chip.bindWrite
  dsimp only
  rw [hl, if_neg (by decide), hwhy, if_pos (by simpa using h)]

end

theorem exec_bindingWrite (s : State) (m k : Nat) (d : Word) : exec (.bindingWrite m k d) s = s.put m (aBind k) d := rfl

theorem bindingWrite_eq (s : State) (m : Nat) {k : Nat} (d : Word) (hk : k < 96) (h : s.chip.takes m (aBind k) false = true) :
    exec (.bindingWrite m k d) s = .next (s.settle fun _ => (s.chip.bindWrite m k d).answer .done []) := by
  rw [put_plain s m d (exec_bindingWrite ..) h (.inl (isTw_aBind hk)) (by rw [blockOf_aBind hk]; decide), applyWrite_aBind hk]

/-- Settles O23: reads and writes of a lock by its holder, and binding writes by the rules of R96. -/
theorem locksAndBindings : Obligations.LocksAndBindings := by
  unfold Obligations.LocksAndBindings
  intro s m n hn hm
  refine ⟨fun h hz => ?_, fun h hnz => ?_, fun hs he hk => ⟨fun hh => lockRelease_frees s hn hs he hk hh,
    fun d hh => lockRelease_denied s hn hs he d hk hh⟩, fun hs he hk ho hh => lockForceRelease_frees s hn hs he hk ho hh,
    fun k d hk h hl => ⟨fun hw => ?_, fun hen hw => ?_⟩⟩
  · obtain ⟨t, ht, hwords, hresp⟩ := lockRead_answers s hn h (if_pos hz : s.chip.lockRead m n = _)
    exact ⟨t, ht, (nat_of_words hwords _).trans (Chip.nat_setNat_same _ _ _ (by omega)), hresp⟩
  · exact lockRead_answers s hn h (if_neg hnz : s.chip.lockRead m n = _)
  · refine ⟨_, bindingWrite_eq s m d hk h, ?_⟩
    have hne : ¬ 2 ^ 25 ≤ aBind k := by simp only [aBind, twAddr, MBX]; omega
    beta_reduce
    rw [settle_word, bindWrite_sets s.chip m k d hl hw]
    exact ((clearChannel_alters ..).word _ fun _ => hne).trans (Chip.word_setWord_same ..)
  · have hne : aBind k ≠ pageAddr MBX 0 0x104 := by simp only [aBind, twAddr, pageAddr]; omega
    refine ⟨_, bindingWrite_eq s m d hk h, ?_, ?_⟩
    · rw [settle_word, bindWrite_refuses s.chip m k d hl hen hw]
      exact Chip.word_setWord_ne _ _ hne
    · rw [settle_fld, bindWrite_refuses s.chip m k d hl hen hw]
      exact (Chip.fld_setFld_same _ _ _ _ _ (by decide)).trans (Nat.mod_eq_of_lt (bindWhy_lt ..))

end Sys2Proof.Machine
end

section
/-! PROOFS. The state of Hoist behind its registers: what is read of a run, a port, a flow and a track after each change, and
what an offer to a core changes (R116, R130, R133, R153). -/

namespace Sys2Proof.Machine

variable {c c' c'' : Chip}

/-! ### Runs, ports, flows and tracks -/

theorem inst_of_hoi (h : c'.hoi = c.hoi) (i : Nat) : c'.inst i = c.inst i := by rw [Chip.inst, h, Chip.inst]
theorem port_of_hoi (h : c'.hoi = c.hoi) (n : Nat) : c'.port n = c.port n := by rw [Chip.port, h, Chip.port]
theorem track_of_hoi (h : c'.hoi = c.hoi) (t : Nat) : c'.track t = c.track t := by rw [Chip.track, h, Chip.track]

@[simp] theorem inst_setInst_same (c : Chip) (i : Nat) (x : Inst) : (c.setInst i x).inst i = x := tab_tabPut_same ..
theorem inst_setInst_ne (c : Chip) {i j : Nat} (x : Inst) (h : j ≠ i) : (c.setInst i x).inst j = c.inst j := tab_tabPut_ne _ _ _ h
@[simp] theorem port_setInst (c : Chip) (i : Nat) (x : Inst) (n : Nat) : (c.setInst i x).port n = c.port n := rfl
@[simp] theorem track_setTrack_same (c : Chip) (t : Nat) (x : Track) : (c.setTrack t x).track t = x := tab_tabPut_same ..

theorem Chip.Notes.hoi (h : c.Notes c') : c'.hoi = c.hoi := by
  obtain ⟨w, n, l, rfl⟩ := h
  rfl

/-- A port and what its registers show. -/
theorem setPort_notes (c : Chip) (n : Nat) (x : CorePort) :
    ({ c with hoi := { c.hoi with ports := tabPut {} c.hoi.ports n x } } : Chip).Notes (c.setPort n x) := by
  have hshow (c : Chip) (y z : Nat) (b : Bool) :
      c.Notes (((c.setNat (portA n 0x100) y).setNat (portA n 0x104) z).setBit (portA n 0x110) 30 b) :=
    ((setNat_notes ..).trans (setNat_notes ..)).trans (setBit_notes ..)
  unfold Chip.setPort
  dsimp only
  split
  · exact (setBit_notes ..).trans (hshow ..)
  · exact (setBit_notes ..).trans (hshow ..)

theorem setPort_hoi (c : Chip) (n : Nat) (x : CorePort) :
    (c.setPort n x).hoi = { c.hoi with ports := tabPut {} c.hoi.ports n x } := (setPort_notes c n x).hoi

@[simp] theorem port_setPort_same (c : Chip) (n : Nat) (x : CorePort) : (c.setPort n x).port n = x := by
  rw [Chip.port, setPort_hoi]
  exact tab_tabPut_same ..

theorem port_setPort_ne (c : Chip) {n k : Nat} (x : CorePort) (h : k ≠ n) : (c.setPort n x).port k = c.port k := by
  rw [Chip.port, setPort_hoi]
  exact tab_tabPut_ne _ _ _ h

@[simp] theorem inst_setPort (c : Chip) (n : Nat) (x : CorePort) (i : Nat) : (c.setPort n x).inst i = c.inst i := by
  rw [Chip.inst, setPort_hoi, Chip.inst]

@[simp] theorem flowOrder_setPort (c : Chip) (n : Nat) (x : CorePort) (k : Nat) : (c.setPort n x).flowOrder k = c.flowOrder k := by
  rw [Chip.flowOrder, setPort_hoi, Chip.flowOrder]

/-- PREEMPT_REQ shows a task offered to a busy core, or one to be shed (R133). -/
theorem setPort_preempt (c : Chip) (n : Nat) (x : CorePort) :
    (c.setPort n x).bit (portA n 0x110) 31 = (x.current.isSome && (x.next.isSome || x.shed)) := by
  have hne : portA n 0x110 ≠ portA n 0x100 ∧ portA n 0x110 ≠ portA n 0x104 := by simp only [portA, pageAddr]; omega
  have hshow (c : Chip) (y z : Nat) (b : Bool) :
      (((c.setNat (portA n 0x100) y).setNat (portA n 0x104) z).setBit (portA n 0x110) 30 b).bit (portA n 0x110) 31 =
        c.bit (portA n 0x110) 31 := by
    rw [Chip.bit_setBit _ _ _ _ _ _ (by decide), if_neg (by simp), Chip.bit, Chip.word_setNat, if_neg hne.2, Chip.word_setNat,
      if_neg hne.1, Chip.bit]
  unfold Chip.setPort
  dsimp only
  split <;> rw [hshow, Chip.bit_setBit_same _ _ _ _ (by decide)]

/-- DISPATCH_REQ shows a task offered to an idle core (R133). -/
theorem setPort_dispatch (c : Chip) (n i : Nat) (b : Bool) :
    (c.setPort n { current := none, next := some i, shed := b }).bit (portA n 0x110) 30 = true :=
  Chip.bit_setBit_same _ _ _ _ (by decide)

/-! ### What a port and a run show -/

/-- What the registers of port `n` show of the task offered to it (R133). -/
def portBits (n k j : Nat) : Prop := k = portA n 0x100 ∨ k = portA n 0x104 ∨ (k = portA n 0x110 ∧ 30 ≤ j)

theorem setPort_alters_portBits (c : Chip) (n : Nat) (x : CorePort) : c.Alters (portBits n) (c.setPort n x) := by
  have hbit (j : Nat) (hj : 30 ≤ j) : portBits n (portA n 0x110) j := .inr (.inr ⟨rfl, hj⟩)
  have hshow (c : Chip) (y z : Nat) (b : Bool) : c.Alters (portBits n)
      (((c.setNat (portA n 0x100) y).setNat (portA n 0x104) z).setBit (portA n 0x110) 30 b) :=
    ((setNat_alters c _ y fun _ => .inl rfl).trans (setNat_alters _ _ z fun _ => .inr (.inl rfl))).trans
      (setBit_alters _ _ 30 b (hbit 30 (by decide)))
  have hset (b : Bool) := setBit_alters { c with hoi := { c.hoi with ports := tabPut {} c.hoi.ports n x } } _ 31 b (hbit 31 (by decide))
  unfold Chip.setPort
  dsimp only
  split
  · exact .after (hshow ..) (.after (hset _) (.of_words rfl rfl rfl))
  · exact .after (hshow ..) (.after (hset _) (.of_words rfl rfl rfl))

theorem setInst_alters_state (c : Chip) (i : Nat) (x : Inst) : c.Alters (fun k _ => k = dK i 13) (c.setInst i x) :=
  .after (setFld_alters _ (dK i 13) 28 4 _ fun _ _ _ => rfl) (.of_words rfl rfl rfl)

/-! ### An offer -/

/-- What offers to the cores show: STATE of descriptors, and the registers of the ports (R116, R133). -/
def offerBits (k j : Nat) : Prop := (∃ i, k = dK i 13) ∨ ∃ n < 8, portBits n k j

/-- The module with other runs and ports. -/
def Chip.withRuns (c : Chip) (i : Tab Inst) (p : Tab CorePort) : Chip := { c with hoi := { c.hoi with inst := i, ports := p } }

/-- From `c` to `c'` offers to the cores change, and what the registers show of them; no run of a task changes otherwise. -/
structure Chip.Reoffers (c c' : Chip) : Prop where
  alters : c.Alters offerBits c'
  inst : ∀ i, ∃ b, c'.inst i = { c.inst i with offered := b }
  current : ∀ n, (c'.port n).current = (c.port n).current
  request : ∀ n, (c.port n).current = none → c.bit (portA n 0x110) 31 = false → c'.bit (portA n 0x110) 31 = false
  rest : ∃ i p, (c.withRuns i p).Notes c'

theorem Chip.Reoffers.refl (c : Chip) : c.Reoffers c :=
  ⟨.refl _ c, fun _ => ⟨_, rfl⟩, fun _ => rfl, fun _ _ h => h, ⟨_, _, Chip.Notes.refl c⟩⟩

theorem Chip.Reoffers.trans (h : c.Reoffers c') (h' : c'.Reoffers c'') : c.Reoffers c'' where
  alters := h.alters.trans h'.alters
  inst i := by
    obtain ⟨b, hb⟩ := h.inst i
    obtain ⟨b', hb'⟩ := h'.inst i
    exact ⟨b', by rw [hb', hb]⟩
  current n := (h'.current n).trans (h.current n)
  request n hn hb := h'.request n ((h.current n).trans hn) (h.request n hn hb)
  rest := by
    obtain ⟨i, p, w, n, l, rfl⟩ := h.rest
    obtain ⟨i', p', h'⟩ := h'.rest
    exact ⟨i', p', Chip.Notes.trans ⟨_, _, _, rfl⟩ h'⟩

theorem Chip.Reoffers.ite {p : Prop} [Decidable p] (h : c.Reoffers c') (h' : c.Reoffers c'') :
    c.Reoffers (if p then c' else c'') := by
  split
  · exact h
  · exact h'

/-- Run `i` is marked as offered or not, and port `n` shows what is offered to it. -/
theorem offerShown_reoffers (c : Chip) (n i : Nat) (b : Bool) (nx : Option Nat) (hn : n < 8) :
    c.Reoffers ((c.setInst i { c.inst i with offered := b }).setPort n { c.port n with next := nx }) where
  alters := ((setInst_alters_state c i _).mono fun _ _ h => .inl ⟨i, h⟩).trans
    ((setPort_alters_portBits _ n _).mono fun _ _ h => .inr ⟨n, hn, h⟩)
  inst j := by
    rw [inst_setPort]
    by_cases h : j = i
    · subst h
      exact ⟨b, inst_setInst_same ..⟩
    · exact ⟨_, inst_setInst_ne _ _ h⟩
  current k := by
    by_cases h : k = n
    · subst h
      rw [port_setPort_same]
    · rw [port_setPort_ne _ _ h, port_setInst]
  request k hk hb := by
    by_cases h : k = n
    · subst h
      rw [setPort_preempt, hk]
      rfl
    · rw [(setPort_alters_portBits _ n _).bit _ 31, (setInst_alters_state c i _).bit _ 31, hb]
      · simp only [portA, dK, elemKey, pageAddr, HOI]
        omega
      · simp only [portBits, portA, pageAddr]
        omega
  rest := by
    have hinst (x : Inst) : (c.withRuns (tabPut {} c.hoi.inst i x) (tabPut {} c.hoi.ports n { c.port n with next := nx })).Notes
        { c.setInst i x with hoi := { (c.setInst i x).hoi with ports := tabPut {} c.hoi.ports n { c.port n with next := nx } } } :=
      ⟨_, _, _, rfl⟩
    exact ⟨_, _, (hinst { c.inst i with offered := b }).trans (setPort_notes ..)⟩

theorem unoffer_reoffers (c : Chip) (n : Nat) (hn : n < 8) : c.Reoffers (c.unoffer n) := by
  unfold Chip.unoffer
  split
  · next i hi => exact offerShown_reoffers c n i false none hn
  · exact .refl c

theorem offer_reoffers (c : Chip) (n i : Nat) (hn : n < 8) : c.Reoffers (c.offer n i) :=
  offerShown_reoffers c n i true (some i) hn

theorem reoffer_reoffers (c : Chip) (n : Nat) (hn : n < 8) : c.Reoffers (c.reoffer n) := by
  unfold Chip.reoffer
  dsimp only
  split
  · exact .refl c
  · refine .ite (unoffer_reoffers c n hn) ?_
    split
    · exact .ite ((unoffer_reoffers c n hn).trans (offer_reoffers _ n _ hn)) (.refl c)
    · exact .refl c

theorem each_reoffers {α : Type} (f : Chip → α → Chip) (l : List α) (h : ∀ c, ∀ x ∈ l, Chip.Reoffers c (f c x)) (c : Chip) :
    c.Reoffers (c.each l f) := by
  induction l generalizing c with
  | nil => exact .refl c
  | cons x r ih => exact (h c x (by simp)).trans (ih (fun c y hy => h c y (by simp [hy])) _)

/-- Every offer follows what is ready (R133). -/
theorem reofferAll_reoffers (c : Chip) : c.Reoffers c.reofferAll :=
  each_reoffers _ _ (fun c n hn => reoffer_reoffers c n (List.mem_range.1 hn)) c

/-! ### What offers leave -/

theorem reofferAll_phase (c : Chip) (i : Nat) : (c.reofferAll.inst i).phase = (c.inst i).phase := by
  obtain ⟨b, hb⟩ := (reofferAll_reoffers c).inst i
  rw [hb]

theorem reofferAll_trig (c : Chip) (i : Nat) : (c.reofferAll.inst i).trig = (c.inst i).trig := by
  obtain ⟨b, hb⟩ := (reofferAll_reoffers c).inst i
  rw [hb]

end Sys2Proof.Machine
end

section
/-! PROOFS. Effects within Hoist: what they leave of the rest of the module, and how a completion reaches a task (R120, R121, R123, R128). -/

namespace Sys2Proof.Machine

variable {c c' c'' : Chip}

/-! ### Effects within Hoist -/

/-- From `c` to `c'` only Hoist's state, words, notices to the router and the count of logged errors change. -/
def Chip.Hoists (c c' : Chip) : Prop := ∃ h, ({ c with hoi := h } : Chip).Notes c'

theorem Chip.Notes.hoists (h : c.Notes c') : c.Hoists c' := ⟨c.hoi, h⟩

theorem Chip.Hoists.refl (c : Chip) : c.Hoists c := (Chip.Notes.refl c).hoists

theorem Chip.Hoists.trans (h : c.Hoists c') (h' : c'.Hoists c'') : c.Hoists c'' := by
  obtain ⟨x, w, n, l, rfl⟩ := h
  obtain ⟨x', w', n', l', rfl⟩ := h'
  exact ⟨x', w', n', l', rfl⟩

theorem Chip.Hoists.ite {p : Prop} [Decidable p] (h : c.Hoists c') (h' : c.Hoists c'') : c.Hoists (if p then c' else c'') := by
  split
  · exact h
  · exact h'

theorem each_hoists {α : Type} (f : Chip → α → Chip) (h : ∀ c x, Chip.Hoists c (f c x)) (l : List α) (c : Chip) :
    c.Hoists (c.each l f) := by
  induction l generalizing c with
  | nil => exact .refl c
  | cons x r ih => exact (h c x).trans (ih _)

theorem Chip.Hoists.outQ (h : c.Hoists c') : c'.outQ = c.outQ := by
  obtain ⟨x, w, n, l, rfl⟩ := h
  rfl

theorem Chip.Hoists.posts (h : c.Hoists c') : c'.posts = c.posts := by
  obtain ⟨x, w, n, l, rfl⟩ := h
  rfl

theorem Chip.Hoists.tim (h : c.Hoists c') : c'.tim = c.tim := by
  obtain ⟨x, w, n, l, rfl⟩ := h
  rfl

theorem Chip.Hoists.cor (h : c.Hoists c') : c'.cor = c.cor := by
  obtain ⟨x, w, n, l, rfl⟩ := h
  rfl

theorem setInst_hoists (c : Chip) (i : Nat) (x : Inst) : c.Hoists (c.setInst i x) := ⟨_, setFld_notes ..⟩
theorem setFlow_hoists (c : Chip) (n : Nat) (l : List Nat) : c.Hoists (c.setFlow n l) := ⟨_, setFld_notes ..⟩
theorem setPort_hoists (c : Chip) (n : Nat) (x : CorePort) : c.Hoists (c.setPort n x) := ⟨_, setPort_notes ..⟩
theorem setAdmitted_hoists (c : Chip) (l : List Nat) : c.Hoists (c.setAdmitted l) := ⟨_, setFld_notes ..⟩
theorem setTrack_hoists (c : Chip) (t : Nat) (x : Track) : c.Hoists (c.setTrack t x) := ⟨_, .refl _⟩

theorem Chip.Reoffers.hoists (h : c.Reoffers c') : c.Hoists c' := by
  obtain ⟨i, p, h⟩ := h.rest
  exact ⟨_, h⟩

theorem reofferAll_hoists (c : Chip) : c.Hoists c.reofferAll := (reofferAll_reoffers c).hoists

theorem spacingHit_notes (c : Chip) (i : Nat) : c.Notes (c.spacingHit i) :=
  ((setFld_notes ..).trans (count_notes ..)).trans (cause_notes ..)

/-! ### Ready (R121, R123) -/

/-- A spacing violation shows in the descriptor's count and in Hoist's control page (R124, R140). -/
theorem spacingHit_alters (c : Chip) (i : Nat) :
    c.Alters (fun k _ => k = dK i 14 ∨ k = hoiA 0x03C ∨ k = hoiA PG_EVT_RAW ∨ k = hoiA PG_EVT_PEND) (c.spacingHit i) :=
  ((setFld_alters c _ 16 16 _ fun _ _ _ => .inl rfl).trans (count_alters _ _ 1 fun _ => .inr (.inl rfl))).trans
    (cause_alters _ HOI 0 3 (.inr (.inr (.inl rfl))) (.inr (.inr (.inr rfl))))

/-- A trigger may violate the spacing. -/
def Chip.spaced (c : Chip) (i : Nat) (hit : Bool) : Chip := if hit then c.spacingHit i else c

/-- A run joins the flow of its task, if any (R130). -/
def Chip.joinFlow (c : Chip) (i : Nat) (f : Option Nat) : Chip :=
  match f with
  | some n => c.setFlow n (c.flowOrder n ++ [i])
  | none => c

theorem spaced_notes (c : Chip) (i : Nat) (hit : Bool) : c.Notes (c.spaced i hit) := .ite (spacingHit_notes ..) (.refl c)

theorem joinFlow_hoists (c : Chip) (i : Nat) (f : Option Nat) : c.Hoists (c.joinFlow i f) := by
  cases f with
  | none => exact .refl c
  | some n => exact setFlow_hoists ..

theorem spaced_reqBound (c : Chip) (i : Nat) (hit : Bool) : (c.spaced i hit).reqBound i = c.reqBound i := by
  unfold Chip.spaced
  split
  · refine (spacingHit_alters c i).nat _ fun _ => ?_
    simp only [dK, elemKey, hoiA, pageAddr, HOI, PG_EVT_RAW, PG_EVT_PEND]
    omega
  · rfl

/-- A task with a bound that has no run becomes ready: it joins its flow and is ranked. -/
theorem taskReady_bounded {i : Nat} (s : Stamp) (hb : c.reqBound i ≠ 0) (hp : (c.inst i).phase = .idle) :
    ∃ hit f, c.taskReady i s = (((c.spaced i hit).joinFlow i f).setInst i
      { c.inst i with prevTrig := some s.fine, phase := .ready, trig := s, demoted := hit, flow := f }).reofferAll := by
  have hrun : c.cannotRun i = false := by simp [Chip.cannotRun, hb]
  unfold Chip.taskReady
  dsimp only
  rw [hrun, if_neg (by decide)]
  generalize (c.reqBound i != 0 && _) = hit
  have hfree : ((c.spaced i hit).reqBound i == 0) = false := by simpa [spaced_reqBound] using hb
  refine ⟨hit, (c.spaced i hit).flowOf i, ?_⟩
  rw [← Chip.spaced] at *
  simp only [hfree, hp, Bool.false_and, Bool.false_eq_true, if_false]
  rfl

/-! ### A completion at a task (R121) -/

/-- A loaded task without a run reads WAITING (R116). -/
theorem phase_of_waiting {i : Nat} {x : Inst} (h : c.stateCode i x = 2) : x.phase = .idle := by
  cases hx : x.phase with
  | idle => rfl
  | held => simp [Chip.stateCode, hx] at h
  | ready => cases hr : x.retiring <;> simp [Chip.stateCode, hx, hr] at h
  | waitOrder => cases hr : x.retiring <;> simp [Chip.stateCode, hx, hr] at h
  | running => cases hr : x.retiring <;> cases hq : x.queued <;> simp [Chip.stateCode, hx, hr, hq] at h

section
variable {i : Nat} (s : Stamp) (hst : c.stateCode i (c.inst i) = 2) (he : (c.inst i).ending = false) (hq : (c.inst i).queued = false)
include hst he hq

/-- A waiting task with counts to go counts one down, and becomes ready with the last. -/
theorem decrement_waiting (ht : c.fld (dK i 1) 0 16 ≠ 0) :
    c.decrement i s =
      if c.fld (dK i 1) 0 16 = 1 then (c.setFld (dK i 1) 0 16 0).taskReady i s
      else c.setFld (dK i 1) 0 16 (c.fld (dK i 1) 0 16 - 1) := by
  simp only [Chip.decrement, hst, he, hq, ht]
  by_cases h1 : c.fld (dK i 1) 0 16 = 1
  · simp [h1]
  · simp [h1]

/-- With more than one count to go TALLY alone changes. -/
theorem decrement_counts (ht : 2 ≤ c.fld (dK i 1) 0 16) :
    c.decrement i s = c.setFld (dK i 1) 0 16 (c.fld (dK i 1) 0 16 - 1) := by
  rw [decrement_waiting s hst he hq (by omega), if_neg (by omega)]

/-- With one count to go a task with a bound becomes ready. -/
theorem decrement_readies (ht : c.fld (dK i 1) 0 16 = 1) (hb : c.reqBound i ≠ 0) :
    c.Hoists (c.decrement i s) ∧ ((c.decrement i s).inst i).phase = .ready ∧ ((c.decrement i s).inst i).trig = s := by
  rw [decrement_waiting s hst he hq (by omega), if_pos ht]
  have hbound : (c.setFld (dK i 1) 0 16 0).reqBound i = c.reqBound i := by
    simp only [Chip.reqBound, Chip.nat, Chip.word_setFld]
    rw [if_neg (by simp only [dK, elemKey]; omega)]
  obtain ⟨hit, f, hready⟩ := taskReady_bounded (c := c.setFld (dK i 1) 0 16 0) s (by rwa [hbound]) (phase_of_waiting hst)
  rw [hready, reofferAll_phase, reofferAll_trig, inst_setInst_same]
  exact ⟨(setFld_notes ..).hoists.trans ((spaced_notes ..).hoists.trans ((joinFlow_hoists ..).trans
    ((setInst_hoists ..).trans (reofferAll_hoists _)))), rfl, rfl⟩

end

theorem fld_lt (c : Chip) (k lo n : Nat) : c.fld k lo n < 2 ^ n := getBits_lt ..

/-- TALLY after it has been counted down. -/
theorem tally_counted (c : Chip) (i : Nat) :
    (c.setFld (dK i 1) 0 16 (c.fld (dK i 1) 0 16 - 1)).fld (dK i 1) 0 16 = c.fld (dK i 1) 0 16 - 1 := by
  have := fld_lt c (dK i 1) 0 16
  rw [Chip.fld_setFld_same _ _ _ _ _ (by decide), Nat.mod_eq_of_lt (by omega)]

/-! ### The oldest completion (R120) -/

/-- A list of one entry. -/
theorem completionPost_single {q : Post} {r : List Post} (hp : c.posts = q :: r) (hl : c.bit (succK (q.head % 2 ^ 17)) 31 = true) :
    c.completionPost = ({ c with posts := r } : Chip).decrement (c.fld (succK (q.head % 2 ^ 17)) 0 16) q.stamp := by
  have hend : (({ c with posts := r } : Chip).word (succK (q.head % 2 ^ 17))).getLsbD 31 = true := hl
  rw [Chip.completionPost, hp]
  dsimp only
  rw [Chip.walkList]
  simp only [hend, if_true]
  rfl

/-! ### Where Hoist acts -/

/-- Hoist's pages are governed by ENABLE (R67). -/
theorem pageOn_of_acts {i : Nat} (h : c.acts HOI i = true) : c.pageOn HOI i = true := by
  have hu : ungated HOI i = false := by simp [ungated, HOI, HST, COR, SAF, MEM, PWR, DIP, TST, MBX, TIM, PWM]
  simp only [Chip.acts, hu, Bool.and_eq_true, Bool.false_or] at h
  exact h.2

/-- A page of Hoist whose events take place operates (R67). -/
theorem operates_of_acts {i : Nat} (h : c.acts HOI i = true) : c.operates HOI i = true := by
  have hon := pageOn_of_acts h
  simp only [Chip.acts, Chip.frozen, Bool.and_eq_true] at h
  obtain ⟨⟨⟨-, hr⟩, hf⟩, -⟩ := h
  simp only [Chip.operates, hon, hr, hf, Bool.and_self]

theorem eventOut_settled (s : State) (b i : Nat) (f : Chip → Chip) (h : s.chip.acts b i = true) (hs : s.settled = true)
    (hq : (f s.chip).outQ = []) : s.eventOut b i f = .next (s.settle f) := by
  obtain ⟨h0, -⟩ := settled_queues hs
  rw [eventOut_acts s b i f h, settleOut_of_nil s f hq, State.settle, h0, ← hq]

end Sys2Proof.Machine
end

section
/-! PROOFS. What a command that acts on Hoist comes to: an event of its pages, and an accepted write to one of their registers
(R67, R118, R133, R141, R153). -/

namespace Sys2Proof.Machine

variable {c c' : Chip}

/-! ### What a state shows of the module -/

/-- In `t` the registers, Hoist, the completions on their way and the Core Cluster stand as in `n`. -/
structure Chip.Shows (n t : Chip) : Prop where
  words : t.words = n.words
  hoi : t.hoi = n.hoi
  posts : t.posts = n.posts
  cor : t.cor = n.cor

namespace Chip.Shows

variable {n t : Chip} (h : n.Shows t)
include h

theorem word (k : Nat) : t.word k = n.word k := word_of_words h.words k
theorem nat (k : Nat) : t.nat k = n.nat k := nat_of_words h.words k
theorem bit (k j : Nat) : t.bit k j = n.bit k j := bit_of_words h.words k j
theorem fld (k lo w : Nat) : t.fld k lo w = n.fld k lo w := fld_of_words h.words k lo w
theorem inst (i : Nat) : t.inst i = n.inst i := inst_of_hoi h.hoi i
theorem port (k : Nat) : t.port k = n.port k := port_of_hoi h.hoi k
theorem track (k : Nat) : t.track k = n.track k := track_of_hoi h.hoi k
theorem u64 (k : Nat) : t.u64 k = n.u64 k := by simp only [Chip.u64, Chip.wide, h.word]

end Chip.Shows

theorem settle_shows (s : State) (f : Chip → Chip) : (f s.chip).Shows (s.settle f).chip := ⟨rfl, rfl, rfl, rfl⟩

/-! ### Events -/

/-- An event of a page of Hoist that releases no output. -/
theorem eventOut_shows (s : State) {i : Nat} {f : Chip → Chip} {j : Instr} (hj : exec j s = s.eventOut HOI i f)
    (h : s.chip.acts HOI i = true) (hs : s.settled = true) (hq : (f s.chip).outQ = []) :
    Answers (exec j s) fun t => (f s.chip).Shows t.chip :=
  ⟨_, hj.trans (eventOut_settled s HOI i f h hs hq), settle_shows s f⟩

/-- An event that takes place while the page is enabled. -/
theorem enabledEvent_shows (s : State) {i : Nat} {f : Chip → Chip} {j : Instr} (hj : exec j s = s.enabledEvent HOI i f)
    (h : s.chip.acts HOI i = true) : Answers (exec j s) fun t => (f s.chip).Shows t.chip :=
  ⟨_, hj.trans (enabledEvent_acts s HOI i f h (pageOn_of_acts h)), settle_shows s f⟩

/-! ### Accepted writes -/

/-- An accepted write of one word that releases no output: the module shows what the write made of it, and the master sees it done. -/
theorem put_shows (s : State) (m a : Nat) (d : Word) (key : Bool) {i : Instr} (hi : exec i s = s.put m a d)
    (h : s.chip.takes m a key = true) (ho : key = true ∨ isTw a = true ∨ offOf a ≠ PG_KEY) (hs : s.settled = true) {n : Chip}
    (hn : (s.chip.afterKey m a key).applyWrite (s.meets {}) m a [d] (key && !isTw a) = n) (hq : n.outQ = []) :
    Answers (exec i s) fun t => n.Shows t.chip ∧ t.chip.resp.status = .done := by
  obtain ⟨o, hw⟩ := writeBy_completes s.chip (s.meets {}) m a d key h rfl rfl ho
  rw [hn] at hw
  have hput := put_settled s {} m a d key h hs (by rw [hw]; exact hq)
  refine ⟨_, hi.trans hput, ⟨?_, ?_, ?_, ?_⟩, ?_⟩
  · rw [settle_words, hw]
  · rw [settle_hoi, hw]
  · rw [settle_posts, hw]
  · rw [settle_cor, hw]
  · rw [settle_resp, hw]

@[simp] theorem afterKey_false (c : Chip) (m a : Nat) : c.afterKey m a false = c := by simp [Chip.afterKey]

section
variable {p o : Nat} (hp : p < 128) (ho : o < 0x200)
include hp ho

/-- A register of a page of Hoist below its window. -/
theorem applyWrite_hoi (c : Chip) (x : Meets) (m : Nat) (d : Word) (keyed : Bool) (hlo : 0x034 ≤ o) :
    c.applyWrite x m (pageAddr HOI p o) [d] keyed = c.hoiWrite m (pageAddr HOI p o) [d] keyed := by
  have hoff := offOf_pageAddr HOI p o (by omega)
  have hblock := blockOf_pageAddr HOI p o (by decide) hp (by omega)
  have hres := resultAt_below c.part (show offOf (pageAddr HOI p o) < 0x800 by omega)
  have htw := isTw_pageAddr HOI p o hp (by omega)
  generalize pageAddr HOI p o = a at *
  have hwin : isWindow a = false := by simp [isWindow, hoff, show ¬ 0x200 ≤ o by omega]
  simp [Chip.applyWrite, hres, htw, hoff, show ¬ o < 0x034 by omega, Chip.blockWrite, hwin, hblock, HOI]

/-- An accepted write to such a register: what its page makes of it, in the module after the key sequence. -/
theorem put_hoi (s : State) (m : Nat) (d : Word) (key : Bool) {i : Instr} (hi : exec i s = s.put m (pageAddr HOI p o) d)
    (h : s.chip.takes m (pageAddr HOI p o) key = true) (hlo : 0x034 ≤ o) (hs : s.settled = true) {n : Chip}
    (hn : (s.chip.afterKey m (pageAddr HOI p o) key).hoiWrite m (pageAddr HOI p o) [d] key = n) (hq : n.outQ = []) :
    Answers (exec i s) fun t => n.Shows t.chip ∧ t.chip.resp.status = .done := by
  have hoff := offOf_pageAddr HOI p o (by omega)
  have htw := isTw_pageAddr HOI p o hp (by omega)
  refine put_shows s m _ d key hi h (.inr (.inr ?_)) hs (n := n) ?_ hq
  · rw [hoff, PG_KEY]
    omega
  · rw [htw, Bool.not_false, Bool.and_true, applyWrite_hoi hp ho _ _ m d key hlo, hn]

end

/-! ### The registers of Hoist's pages -/

theorem hoiWrite_control (c : Chip) (m : Nat) (d : Word) :
    c.hoiWrite m (hoiA 0x100) [d] false = c.admitReqWrite m d ∧
    c.hoiWrite m (hoiA 0x10C) [d] false = c.submit m (getBits d 0 16) (hoiA 0x10C) ∧
    c.hoiWrite m (hoiA 0x108) [d] true = c.corePoolWrite d ∧
    c.hoiWrite m (hoiA 0x118) [d] true = c.beEntriesWrite m d ∧
    c.hoiWrite m (hoiA 0x11C) [d] true = c.capWrite m d := by
  have hinst (o : Nat) (ho : o < 4096) : instOf (hoiA o) = 0 := instOf_pageAddr _ _ _ (by decide) ho
  have hoff (o : Nat) (ho : o < 4096) : offOf (hoiA o) = o := offOf_pageAddr _ _ _ ho
  simp [Chip.hoiWrite, hinst, hoff, Chip.keyedReg]

theorem hoiWrite_port (c : Chip) (m : Nat) {n : Nat} (d : Word) (keyed : Bool) (hn : n < 8) :
    c.hoiWrite m (portA n 0x108) [d] keyed = c.coreDone n (getBits d 0 16) ∧
    c.hoiWrite m (portA n 0x10C) [d] keyed = c.suspend n (getBits d 0 16) := by
  have hinst (o : Nat) (ho : o < 4096) : instOf (portA n o) = 1 + n := instOf_pageAddr _ _ _ (by omega) ho
  have hoff (o : Nat) (ho : o < 4096) : offOf (portA n o) = o := offOf_pageAddr _ _ _ ho
  simp [Chip.hoiWrite, hinst, hoff, show 1 + n < 9 by omega]

theorem hoiWrite_track (c : Chip) (m : Nat) {t : Nat} (d : Word) (keyed : Bool) (ht : t < 64) :
    c.hoiWrite m (trkA t 0x104) [d] keyed = c.trkCommand t d := by
  have hinst : instOf (trkA t 0x104) = 16 + t := instOf_pageAddr _ _ _ (by omega) (by decide)
  have hoff : offOf (trkA t 0x104) = 0x104 := offOf_pageAddr _ _ _ (by decide)
  simp [Chip.hoiWrite, hinst, hoff, show ¬ 16 + t < 9 by omega]

end Sys2Proof.Machine
end

section
/-! PROOFS. Completions and submissions at a task, and the grant of a best-effort entry to a held run (R118, R121, R128). -/

namespace Sys2Proof.Machine

variable {c c' : Chip}

/-! ### The held run that was triggered first (R128) -/

section
variable {f : Option (Nat × Nat) → Nat × Nat → Option (Nat × Nat)} (h0 : ∀ e, f none e = some e)
  (h1 : ∀ m e, f (some m) e = if e.1 < m.1 then some e else some m)
include h1

theorem foldl_least_from (l : List (Nat × Nat)) (m : Nat × Nat) :
    ∃ e ∈ m :: l, l.foldl f (some m) = some e ∧ ∀ e' ∈ m :: l, e.1 ≤ e'.1 := by
  induction l generalizing m with
  | nil => exact ⟨m, by simp, rfl, by simp⟩
  | cons x r ih =>
    rw [List.foldl_cons, h1]
    split
    · next hx =>
      obtain ⟨e, he, hf, hle⟩ := ih x
      refine ⟨e, List.mem_cons_of_mem _ he, hf, List.forall_mem_cons.2 ⟨?_, hle⟩⟩
      exact (hle x (by simp)).trans hx.le
    · next hx =>
      obtain ⟨e, he, hf, hle⟩ := ih m
      obtain ⟨hm, hr⟩ := List.forall_mem_cons.1 hle
      refine ⟨e, ?_, hf, List.forall_mem_cons.2 ⟨hm, List.forall_mem_cons.2 ⟨by omega, hr⟩⟩⟩
      rcases List.mem_cons.1 he with rfl | he
      · simp
      · simp [he]

include h0

/-- The fold of R128 keeps an entry with the least instant. -/
theorem foldl_least {l : List (Nat × Nat)} (hl : l ≠ []) : ∃ e ∈ l, l.foldl f none = some e ∧ ∀ e' ∈ l, e.1 ≤ e'.1 := by
  obtain ⟨m, r, rfl⟩ := List.exists_cons_of_ne_nil hl
  rw [List.foldl_cons, h0]
  exact foldl_least_from h1 r m

end

/-- A run that is not idle stands in the table of runs. -/
theorem mem_of_tab {α : Type} {d v : α} {t : Tab α} {k : Nat} (h : tab d t k = v) (hv : v ≠ d) : (k, v) ∈ t := by
  induction t with
  | nil => exact absurd h.symm hv
  | cons e r ih =>
    obtain ⟨x, w⟩ := e
    simp only [tab, tabGet] at h
    split at h
    · next hx =>
      subst hx h
      simp
    · exact List.mem_cons_of_mem _ (ih h)

/-- What a held run is ranked by. -/
def heldKey (e : Nat × Inst) : Option (Nat × Nat) :=
  if e.2.phase == .held then some (e.2.trig.fine, e.1)
  else if e.2.queued && e.2.qHeld then some (e.2.qTrig.fine, e.1) else none

theorem grantHeld_first {i : Nat} (hp : (c.inst i).phase = .held) (hfree : c.beFree = true)
    (hfirst : ∀ e ∈ c.hoi.inst, e.1 ≠ i → (e.2.phase = .held → (c.inst i).trig.fine < e.2.trig.fine) ∧
      (e.2.queued = true → e.2.qHeld = true → (c.inst i).trig.fine < e.2.qTrig.fine)) :
    (c.grantHeld.inst i).phase = .ready := by
  have hmem : (i, c.inst i) ∈ c.hoi.inst := mem_of_tab rfl fun h => by
    rw [h] at hp
    exact absurd hp (by decide)
  have hkey : ((c.inst i).trig.fine, i) ∈ c.hoi.inst.filterMap heldKey :=
    List.mem_filterMap.2 ⟨_, hmem, by simp [heldKey, hp]⟩
  -- an entry of another run comes later
  have hlater : ∀ e ∈ c.hoi.inst.filterMap heldKey, e.2 ≠ i → (c.inst i).trig.fine < e.1 := by
    intro e he hne
    obtain ⟨x, hx, hxe⟩ := List.mem_filterMap.1 he
    unfold heldKey at hxe
    split_ifs at hxe with h1 h2
    · obtain rfl := Option.some.inj hxe
      exact (hfirst x hx hne).1 (by simpa using h1)
    · obtain rfl := Option.some.inj hxe
      obtain ⟨hq, hh⟩ := Bool.and_eq_true_iff.1 h2
      exact (hfirst x hx hne).2 hq hh
  have hpick {f : Option (Nat × Nat) → Nat × Nat → Option (Nat × Nat)} {x : Option (Nat × Nat)}
      (hx : (c.hoi.inst.filterMap heldKey).foldl f none = x) (h0 : ∀ e, f none e = some e)
      (h1 : ∀ m e, f (some m) e = if e.1 < m.1 then some e else some m) : ∃ t, x = some (t, i) := by
    obtain ⟨⟨t, j⟩, hj, hf, hle⟩ := foldl_least h0 h1 (List.ne_nil_of_mem hkey)
    have hji : j = i := by
      by_contra hne
      exact absurd (hlater _ hj hne) (Nat.not_lt.2 (hle _ hkey))
    exact ⟨t, by rw [← hx, hf, hji]⟩
  unfold Chip.grantHeld
  rw [hfree, Bool.not_true, if_neg (by decide)]
  dsimp only
  split
  · next hnone =>
    obtain ⟨t, ht⟩ := hpick hnone (fun _ => rfl) (fun _ _ => rfl)
    exact absurd ht (by simp)
  · next j hsome =>
    obtain ⟨t, ht⟩ := hpick hsome (fun _ => rfl) (fun _ _ => rfl)
    obtain ⟨-, rfl⟩ : _ = t ∧ j = i := by simpa using ht
    rw [hp, if_pos (by decide), reofferAll_phase, inst_setInst_same]

/-! ### HOI_SUBMIT (R118, R129) -/

theorem submit_counts {m i a : Nat} (ho : c.descOwner i = m) (hst : c.stateCode i (c.inst i) = 2)
    (he : (c.inst i).ending = false) (hq : (c.inst i).queued = false) (ht : 2 ≤ c.fld (dK i 1) 0 16) :
    c.submit m i a = c.setFld (dK i 1) 0 16 (c.fld (dK i 1) 0 16 - 1) := by
  have hne : ¬ c.fld (dK i 1) 0 16 = 1 := by omega
  rw [← decrement_counts c.now hst he hq ht]
  simp [Chip.submit, ho, hne]

/-! ### The commands -/

theorem exec_completionPost (s : State) : exec .completionPost s = s.eventOut HOI 0 fun c => c.postNext := rfl
theorem exec_hoiSubmit (s : State) (m : Nat) (d : Word) : exec (.hoiSubmit m d) s = s.put m (hoiA 0x10C) d := rfl
theorem exec_heldEntryGrant (s : State) : exec .heldEntryGrant s = s.enabledEvent HOI 0 fun c => c.grantHeld := rfl

section
variable (s : State) (hs : s.settled = true)
include hs

/-- The oldest completion, whose list has one entry, reaches the task of that entry. -/
theorem completionPost_shows (ha : s.chip.acts HOI 0 = true) {q : Post} {r : List Post} (hp : s.chip.posts = q :: r)
    (hl : s.chip.bit (succK (q.head % 2 ^ 17)) 31 = true) {n : Chip}
    (hn : ({ s.chip with posts := r } : Chip).decrement (s.chip.fld (succK (q.head % 2 ^ 17)) 0 16) q.stamp = n)
    (ho : n.outQ = s.chip.outQ) : Answers (exec .completionPost s) fun t => n.Shows t.chip := by
  obtain ⟨h0, -⟩ := settled_queues hs
  have hpost : s.chip.postNext = n := by
    rw [Chip.postNext, operates_of_acts ha, if_pos rfl, completionPost_single hp hl, hn]
  rw [← hpost]
  exact eventOut_shows s (exec_completionPost s) ha hs (by rw [hpost, ho, h0])

end

/-- Settles O24: TALLY of a waiting task counts down with the completion and with the submission, the last count makes a task with a
bound ready, and the fold over the held runs finds the one triggered first. -/
theorem hoistPosts : Obligations.HoistPosts := by
  unfold Obligations.HoistPosts
  intro s hs
  obtain ⟨h0, -⟩ := settled_queues hs
  refine ⟨fun q r i ha hp hl hi hst he hq ht => ?_, fun q r i ha hp hl hi hst he hq ht hb => ?_,
    fun m d h ho hst he hq ht => ?_, fun i ha hp hf hfirst => ?_⟩
  · subst hi
    obtain ⟨t, htt, hsh⟩ := completionPost_shows s hs ha hp hl (decrement_counts (c := { s.chip with posts := r }) q.stamp hst he hq ht) rfl
    exact ⟨t, htt, hsh.posts, (hsh.fld ..).trans (tally_counted ..), hsh.hoi⟩
  · subst hi
    obtain ⟨hh, hphase, htrig⟩ := decrement_readies (c := { s.chip with posts := r }) q.stamp hst he hq ht hb
    obtain ⟨t, htt, hsh⟩ := completionPost_shows s hs ha hp hl rfl hh.outQ
    exact ⟨t, htt, hsh.posts.trans hh.posts, by rw [hsh.inst, hphase], by rw [hsh.inst, htrig]⟩
  · obtain ⟨-, hsub, -⟩ := hoiWrite_control s.chip m d
    obtain ⟨t, htt, hsh, hresp⟩ := put_hoi (p := 0) (o := 0x10C) (by decide) (by decide) s m d false (exec_hoiSubmit s m d) h
      (by decide) hs (n := s.chip.setFld (dK (getBits d 0 16) 1) 0 16 (s.chip.fld (dK (getBits d 0 16) 1) 0 16 - 1))
      (by rw [afterKey_false, ← hoiA, hsub, submit_counts ho hst he hq ht]) h0
    exact ⟨t, htt, (hsh.fld ..).trans (tally_counted ..), hresp⟩
  · obtain ⟨t, htt, hsh⟩ := enabledEvent_shows s (exec_heldEntryGrant s) ha
    exact ⟨t, htt, (congrArg Inst.phase (hsh.inst i)).trans (grantHeld_first hp hf hfirst)⟩

end Sys2Proof.Machine
end

section
/-! PROOFS. The start and the end of a run: what dispatch sets, and the release of a run outside any flow (R123, R131, R137, R145). -/

namespace Sys2Proof.Machine

variable {c c' : Chip}

/-! ### The words of a descriptor -/

theorem dK_ne {i j w w' : Nat} (h : w ≠ w') (hw : w < 1024 := by decide) (hw' : w' < 1024 := by decide) : dK i w ≠ dK j w' := by
  simp only [dK, elemKey]
  omega

/-- A descriptor lies in no page and no table window. -/
theorem dK_ne_reg {i w k : Nat} (h : k < 2 ^ 80) : dK i w ≠ k := by
  simp only [dK, elemKey]
  omega

theorem hoiA_lt {o : Nat} (ho : o < 4096) : hoiA o < 2 ^ 80 := by
  simp only [hoiA, pageAddr, HOI]
  omega

/-- The present stamp follows the counter and the status word of the Timebase (R14). -/
theorem now_congr (ht : c'.tim = c.tim) (hw : c'.word aTimStat = c.word aTimStat) : c'.now = c.now := by
  simp only [Chip.now, Chip.fld, ht, hw]

/-! ### Dispatch of a run (R123) -/

section
variable (c : Chip) (i : Nat)

theorem startRun_hoists : c.Hoists (c.startRun i) := .trans (.ite (.refl c) (setFld_notes ..).hoists) (setInst_hoists ..)

theorem startRun_alters : c.Alters (fun k _ => k = dK i 1 ∨ k = dK i 13) (c.startRun i) :=
  .trans (.ite (.refl _ c) (setFld_alters _ _ _ _ _ fun _ _ _ => .inl rfl)) ((setInst_alters_state ..).mono fun _ _ => .inr)

theorem startRun_hoi : (c.startRun i).hoi =
    { c.hoi with inst := tabPut {} c.hoi.inst i { c.inst i with phase := .running, offered := false, dispatched := true } } := by
  unfold Chip.startRun
  split <;> rfl

theorem startRun_inst : (c.startRun i).inst i = { c.inst i with phase := .running, offered := false, dispatched := true } := by
  unfold Chip.startRun
  rw [inst_setInst_same]
  split <;> rfl

/-- TALLY is reloaded as a run starts that does not resume, unless the task is ONESHOT. -/
theorem startRun_tally (h1 : c.bit (dK i 0) 27 = false) (hd : (c.inst i).dispatched = false) :
    (c.startRun i).fld (dK i 1) 0 16 = c.fld (dK i 1) 16 16 := by
  have hlt := fld_lt c (dK i 1) 16 16
  unfold Chip.startRun
  rw [h1, hd, if_neg (by decide), (setInst_alters_state ..).fld _ 0 16 fun _ _ _ => dK_ne (by decide), Chip.reloadTally,
    Chip.fld_setFld_same _ _ _ _ _ (by decide), Nat.mod_eq_of_lt hlt]

end

/-! ### The release of a run (R131, R137) -/

theorem checkLate_notes (c : Chip) (i : Nat) (x : Inst) : c.Notes (c.checkLate i x) := by
  unfold Chip.checkLate
  dsimp only
  exact .ite (.ite ((((setNat_notes ..).trans (setFld_notes ..)).trans (count_notes ..)).trans (cause_notes ..)) (setNat_notes ..))
    (.refl c)

/-- The lateness check shows in words 14 and 15 of the descriptor and in Hoist's control page (R145). -/
theorem checkLate_alters (c : Chip) (i : Nat) (x : Inst) :
    c.Alters (fun k _ => k = dK i 14 ∨ k = dK i 15 ∨ k = hoiA 0x034 ∨ k = hoiA PG_EVT_RAW ∨ k = hoiA PG_EVT_PEND) (c.checkLate i x) := by
  have hmax (c : Chip) (v : Nat) : c.Alters (fun k _ => k = dK i 14 ∨ k = dK i 15 ∨ k = hoiA 0x034 ∨ k = hoiA PG_EVT_RAW ∨
      k = hoiA PG_EVT_PEND) (c.setNat (dK i 15) v) := setNat_alters _ _ v fun _ => .inr (.inl rfl)
  have hcount (c : Chip) : c.Alters (fun k _ => k = dK i 14 ∨ k = dK i 15 ∨ k = hoiA 0x034 ∨ k = hoiA PG_EVT_RAW ∨
      k = hoiA PG_EVT_PEND) (((c.countFld (dK i 14) 0 16).count (hoiA 0x034)).cause HOI 0 1) :=
    ((setFld_alters _ _ _ _ _ fun _ _ _ => .inl rfl).trans (count_alters _ _ 1 fun _ => .inr (.inr (.inl rfl)))).trans
      (cause_alters _ HOI 0 1 (.inr (.inr (.inr (.inl rfl)))) (.inr (.inr (.inr (.inr rfl)))))
  unfold Chip.checkLate
  dsimp only
  exact .ite (.ite ((hmax ..).trans (hcount _)) (hmax ..)) (.refl _ c)

theorem checkLate_word (c : Chip) (i : Nat) (x : Inst) {k : Nat} (h : k = dK i 0 ∨ k = dK i 8 ∨ k = aTimStat) :
    (c.checkLate i x).word k = c.word k := by
  refine (checkLate_alters c i x).word k fun _ => ?_
  rcases h with rfl | rfl | rfl
  · have := dK_ne_reg (i := i) (w := 0) (hoiA_lt (o := 0x034) (by decide))
    simp only [dK, elemKey, hoiA, pageAddr, HOI, PG_EVT_RAW, PG_EVT_PEND]
    omega
  · simp only [dK, elemKey, hoiA, pageAddr, HOI, PG_EVT_RAW, PG_EVT_PEND]
    omega
  · simp only [dK, elemKey, hoiA, aTimStat, pageAddr, TIM, HOI, PG_EVT_RAW, PG_EVT_PEND]
    omega

/-- The successor list of descriptor `i`, posted now where it is enabled (R137). -/
def Chip.successors (c : Chip) (i : Nat) : List Post :=
  if c.bit (dK i 8) 31 then [{ head := c.fld (dK i 8) 0 17, stamp := c.now }] else []

theorem successors_congr {i : Nat} (ht : c'.tim = c.tim) (hw : ∀ k, k = dK i 8 ∨ k = aTimStat → c'.word k = c.word k) :
    c'.successors i = c.successors i := by
  have hbit : c'.bit (dK i 8) 31 = c.bit (dK i 8) 31 := by rw [Chip.bit, hw _ (.inl rfl), Chip.bit]
  have hfld : c'.fld (dK i 8) 0 17 = c.fld (dK i 8) 0 17 := by rw [Chip.fld, hw _ (.inl rfl), Chip.fld]
  rw [Chip.successors, hbit, hfld, now_congr ht (hw _ (.inr rfl)), Chip.successors]

theorem postIf_eq (c : Chip) (i : Nat) :
    c.postIf (c.bit (dK i 8) 31) (c.fld (dK i 8) 0 17) c.now = { c with posts := c.posts ++ c.successors i } := by
  unfold Chip.postIf Chip.successors
  cases c.bit (dK i 8) 31
  · rw [if_neg (by decide), if_neg (by decide), List.append_nil]
  · rw [if_pos rfl, if_pos rfl]
    rfl

/-- A run that ends plainly: outside any flow, with no output held, not retiring or ending, none queued behind it, not ONESHOT. -/
structure Chip.EndsPlainly (c : Chip) (i : Nat) : Prop where
  flow : (c.inst i).flow = none
  held : (c.inst i).held = []
  retiring : (c.inst i).retiring = false
  ending : (c.inst i).ending = false
  queued : (c.inst i).queued = false
  oneshot : c.bit (dK i 0) 27 = false

theorem releaseOne_plain {i : Nat} (h : c.EndsPlainly i) :
    c.releaseOne i = { c.checkLate i (c.inst i) with posts := c.posts ++ c.successors i }.setInst i
      { prevTrig := (c.inst i).prevTrig } := by
  have hlate := checkLate_notes c i (c.inst i)
  have hw (k : Nat) := checkLate_word c i (c.inst i) (k := k)
  have hsucc : (c.checkLate i (c.inst i)).successors i = c.successors i :=
    successors_congr hlate.hoists.tim fun k hk => hw k (.inr hk)
  have hone : (c.checkLate i (c.inst i)).bit (dK i 0) 27 = false := by
    rw [Chip.bit, hw _ (.inl rfl)]
    exact h.oneshot
  unfold Chip.releaseOne
  simp only [h.held, h.flow, Chip.each, List.foldl_nil, Chip.leaveFlow, postIf_eq, hsucc, hlate.hoists.posts]
  unfold Chip.afterRelease
  rw [h.retiring, if_neg (by decide), h.ending, Bool.false_or]
  rw [show ({ c.checkLate i (c.inst i) with posts := c.posts ++ c.successors i } : Chip).bit (dK i 0) 27 = false from hone,
    if_neg (by decide), h.queued, if_neg (by decide)]

/-- After such a run the task is idle again, its successor list is on its way, and nothing else of Hoist has changed. -/
theorem finish_plain {i : Nat} (h : c.EndsPlainly i) :
    ((c.finish i).inst i).phase = .idle ∧ (c.finish i).posts = c.posts ++ c.successors i ∧ (c.finish i).outQ = c.outQ ∧
      ∃ r, (c.finish i).hoi = { c.hoi with inst := r } := by
  have hlate := checkLate_notes c i (c.inst i)
  have hfin : c.finish i = c.releaseOne i := by rw [Chip.finish, h.flow]
  rw [hfin, releaseOne_plain h, inst_setInst_same]
  refine ⟨rfl, ?_, ?_, ?_⟩
  · exact (setInst_hoists ..).posts
  · exact (setInst_hoists ..).outQ.trans hlate.outQ
  · exact ⟨_, congrArg (fun x : Hoi => { x with inst := tabPut {} x.inst i { prevTrig := (c.inst i).prevTrig } }) hlate.hoi⟩

/-- A run out of its turn in an ordered flow waits (R131). -/
theorem finish_waits {i n : Nat} (hf : (c.inst i).flow = some n) (ho : (c.flowOrder n).head? ≠ some i) :
    c.finish i = c.setInst i { c.inst i with phase := .waitOrder } := by
  rw [Chip.finish, hf]
  exact if_neg ho

end Sys2Proof.Machine
end

section
/-! PROOFS. Effects outside Hoist: a role, a digest mismatch, the pins of the pairs and a request for SS1 leave descriptors and Hoist's
pages as they are (R35, R285, R493, R505). -/

namespace Sys2Proof.Machine

variable {c c' c'' : Chip}

/-- A word of a store, or of Hoist. -/
def hoistWord (k : Nat) : Prop := 2 ^ 80 ≤ k ∨ blockOf k = HOI

theorem not_hoistWord {b i o : Nat} (hb : b < 32) (hi : i < 128) (ho : o < 4096) (hne : b ≠ HOI) : ¬ hoistWord (pageAddr b i o) := by
  rintro (h | h)
  · simp only [pageAddr] at h
    omega
  · exact hne ((blockOf_pageAddr b i o hb hi ho).symm.trans h)

/-- From `c` to `c'` the words of stores and of Hoist stand, with Hoist's state, the released outputs and the Core Cluster. -/
structure Chip.Spares (c c' : Chip) : Prop where
  word : ∀ k, hoistWord k → c'.word k = c.word k
  hoi : c'.hoi = c.hoi
  outQ : c'.outQ = c.outQ
  cor : c'.cor = c.cor

theorem Chip.Spares.refl (c : Chip) : c.Spares c := ⟨fun _ _ => rfl, rfl, rfl, rfl⟩

theorem Chip.Spares.trans (h : c.Spares c') (h' : c'.Spares c'') : c.Spares c'' :=
  ⟨fun k hk => (h'.word k hk).trans (h.word k hk), h'.hoi.trans h.hoi, h'.outQ.trans h.outQ, h'.cor.trans h.cor⟩

/-- The same with the later effect first. -/
theorem Chip.Spares.after (h' : c'.Spares c'') (h : c.Spares c') : c.Spares c'' := h.trans h'

theorem Chip.Spares.ite {p : Prop} [Decidable p] (h : c.Spares c') (h' : c.Spares c'') : c.Spares (if p then c' else c'') := by
  split
  · exact h
  · exact h'

theorem Chip.Spares.when {b : Bool} {f : Chip → Chip} (h : c.Spares (f c)) : c.Spares (c.when b f) := .ite h (.refl c)

theorem each_spares {α : Type} (f : Chip → α → Chip) (l : List α) (h : ∀ c, ∀ x ∈ l, Chip.Spares c (f c x)) (c : Chip) :
    c.Spares (c.each l f) := by
  induction l generalizing c with
  | nil => exact .refl c
  | cons x r ih => exact (h c x (by simp)).trans (ih (fun c y hy => h c y (by simp [hy])) _)

/-- Notes that alter no word of Hoist. -/
theorem Chip.Notes.spares (h : c.Notes c') {S : Nat → Nat → Prop} (ha : c.Alters S c') (hS : ∀ k j, S k j → ¬ hoistWord k) :
    c.Spares c' where
  word k hk := ha.word k fun j hj => hS k j hj hk
  hoi := h.hoi
  outQ := h.outQ
  cor := h.hoists.cor

theorem setFld_spares (c : Chip) {k : Nat} (lo n v : Nat) (h : ¬ hoistWord k) : c.Spares (c.setFld k lo n v) :=
  (setFld_notes ..).spares (S := fun k' _ => k' = k) (setFld_alters _ _ _ _ _ fun _ _ _ => rfl) fun _ _ e => e ▸ h

theorem setBit_spares (c : Chip) {k : Nat} (i : Nat) (b : Bool) (h : ¬ hoistWord k) : c.Spares (c.setBit k i b) := setFld_spares c i 1 _ h

theorem setNat_spares (c : Chip) {k : Nat} (v : Nat) (h : ¬ hoistWord k) : c.Spares (c.setNat k v) :=
  (setNat_notes ..).spares (S := fun k' _ => k' = k) (setNat_alters _ _ _ fun _ => rfl) fun _ _ e => e ▸ h

theorem count_spares (c : Chip) {k : Nat} (n : Nat) (h : ¬ hoistWord k) : c.Spares (c.count k n) := setNat_spares c _ h

theorem cause_spares (c : Chip) {b p : Nat} (i : Nat) (hb : b < 32) (hp : p < 128) (hne : b ≠ HOI) : c.Spares (c.cause b p i) := by
  refine (cause_notes ..).spares (S := fun k _ => k = pageAddr b p PG_EVT_RAW ∨ k = pageAddr b p PG_EVT_PEND)
    (cause_alters c b p i (.inl rfl) (.inr rfl)) ?_
  rintro k j (rfl | rfl)
  · exact not_hoistWord hb hp (by decide) hne
  · exact not_hoistWord hb hp (by decide) hne

/-! ### The pins of the pairs (R285, R286) -/

theorem pwmK_not_hoistWord {p o : Nat} (hp : p < 96) (ho : o < 4096) : ¬ hoistWord (pwmK p o) :=
  not_hoistWord (by decide) (by omega) ho (by decide)

theorem refreshPair_notes (c : Chip) (p : Nat) : c.Notes (c.refreshPair p) := (setFld_notes ..).trans (level_notes ..)

theorem refreshPair_spares (c : Chip) {p : Nat} (hp : p < 96) : c.Spares (c.refreshPair p) := by
  refine (refreshPair_notes c p).spares (refreshPair_alters c p) ?_
  rintro k j (rfl | rfl | rfl)
  · exact pwmK_not_hoistWord hp (by decide)
  · exact pwmK_not_hoistWord hp (by decide)
  · exact pwmK_not_hoistWord hp (by decide)

theorem pwmPins_spares (c : Chip) (owned : Bool) : c.Spares (c.pwmPins owned) := by
  refine each_spares _ _ (fun c p hp => ?_) c
  have hp := List.mem_range.1 hp
  exact .after (refreshPair_spares _ hp) (.ite (cause_spares c 6 (by decide) (by omega) (by decide)) (.refl c))

/-! ### A request for SS1 (R35) -/

theorem safA_not_hoistWord {o : Nat} (ho : o < 4096) : ¬ hoistWord (safA o) := not_hoistWord (by decide) (by decide) ho (by decide)

theorem safReq_spares (c : Chip) {off : Nat} (d : Word) (h : off < 4096) : c.Spares (c.safReq off d) := by
  have hset := setNat_spares c (if off = 0x128 && c.maintenance then 0xFFFF else getBits d 0 16) (safA_not_hoistWord h)
  exact .ite hset ((hset.trans (count_spares _ _ (safA_not_hoistWord (by decide)))).trans
    (cause_spares _ 0 (by decide) (by decide) (by decide)))

theorem qstopNext_spares (c : Chip) (a : Nat) : c.Spares (c.qstopNext a) := .ite (.refl c) ⟨fun _ _ => rfl, rfl, rfl, rfl⟩

theorem ss1Request_spares (c : Chip) : c.Spares c.ss1Request := by
  refine .after (each_spares _ _ (fun c p hp => ?_) _) (.after (each_spares _ _ (fun c a _ => qstopNext_spares c a) _)
    ((safReq_spares c _ (by decide)).trans (safReq_spares _ _ (by decide))))
  have hp := List.mem_range.1 (List.mem_filter.1 hp).1
  exact (setBit_spares c 0 true (pwmK_not_hoistWord hp (by decide))).trans (refreshPair_spares _ hp)

/-! ### Roles and mismatches (R493, R494, R505) -/

theorem paiA_not_hoistWord {o : Nat} (ho : o < 4096) : ¬ hoistWord (paiA o) := not_hoistWord (by decide) (by decide) ho (by decide)

theorem timA_not_hoistWord {o : Nat} (ho : o < 4096) : ¬ hoistWord (timA o) := not_hoistWord (by decide) (by decide) ho (by decide)

theorem setPai_spares (c : Chip) (f : Pai → Pai) : c.Spares (c.setPai f) := ⟨fun _ _ => rfl, rfl, rfl, rfl⟩
theorem out_spares (c : Chip) (o : Out) : c.Spares (c.out o) := ⟨fun _ _ => rfl, rfl, rfl, rfl⟩
theorem tally_spares (c : Chip) (k v : Nat) : c.Spares (c.tally k v) := ⟨fun _ _ => rfl, rfl, rfl, rfl⟩

theorem paiCause_spares (c : Chip) (i : Nat) : c.Spares (c.cause PAI 0 i) := cause_spares c i (by decide) (by decide) (by decide)

theorem toRole_spares (c : Chip) (r : Nat) (latch : Bool) : c.Spares (c.toRole r latch) := by
  unfold Chip.toRole
  refine .after (setPai_spares ..) (.after (.ite (.refl _) (pwmPins_spares ..)) (.after (.ite (.refl _) ?_)
    (.after (.ite (.refl _) ?_) (setPai_spares ..))))
  · exact (setBit_spares _ _ _ (paiA_not_hoistWord (by decide))).trans (setBit_spares _ _ _ (timA_not_hoistWord (by decide)))
  · exact .after (.when (paiCause_spares ..)) (.after (tally_spares ..) (.after (paiCause_spares ..)
      (.after (count_spares _ _ (paiA_not_hoistWord (by decide))) (setFld_spares _ _ _ _ (paiA_not_hoistWord (by decide))))))

theorem tellStatus_spares (c : Chip) : c.Spares c.tellStatus := .when (out_spares ..)

theorem toSyncing_spares (c : Chip) (why : Nat) : c.Spares (c.toSyncing why) := by
  have hrole := ((setFld_spares c (k := paiA 0x124) 8 8 why (paiA_not_hoistWord (by decide))).trans
    (setFld_spares _ (k := timA 0x130) 26 3 2 (timA_not_hoistWord (by decide)))).trans (toRole_spares _ 4 false)
  exact hrole.trans (tellStatus_spares _)

theorem paiMismatch_spares (c : Chip) (slot : Bool) (key : Nat) : c.Spares (c.paiMismatch slot key) := by
  have hbegin : c.Spares (((c.cause PAI 0 2).count (paiA 0x03C)).tally 0x0462 key) :=
    .after (tally_spares ..) (.after (count_spares _ _ (paiA_not_hoistWord (by decide))) (paiCause_spares ..))
  unfold Chip.paiMismatch
  refine .ite (.after (toSyncing_spares ..) ?_) (.after (setPai_spares ..) (.after (.when ?_) ?_))
  · exact .after (setPai_spares ..) (.after (setBit_spares _ _ _ (paiA_not_hoistWord (by decide))) hbegin)
  · exact .after (paiCause_spares ..) (setBit_spares _ _ _ (paiA_not_hoistWord (by decide)))
  · exact .after (setPai_spares ..) (.after (setBit_spares _ _ _ (paiA_not_hoistWord (by decide))) hbegin)

/-- The standby's comparison of a learning digest (R219). -/
theorem learnCompare_spares (c : Chip) (s : Nat) : c.Spares (c.learnCompare s) := by
  have hrun (x : SlotRun) : c.Spares (c.setSlotRun s x) := ⟨fun _ _ => rfl, rfl, rfl, rfl⟩
  unfold Chip.learnCompare
  dsimp only
  split
  · exact .ite (.refl c) (.ite (hrun _) (.after (out_spares ..) (.after (paiMismatch_spares ..) (hrun _))))
  · exact .refl c

end Sys2Proof.Machine
end

section
/-! PROOFS. Dispatch to a lane, a core or as a relay, and the release of a lane (R123 to R126, R131, R133, R137). -/

namespace Sys2Proof.Machine

variable {c c' : Chip}

/-! ### A lane whose slot does not execute (R123, R172) -/

/-- The slot of task `i` does not execute: it is not enabled, or the Loop Array is halted. -/
def Chip.slotRests (c : Chip) (i : Nat) : Prop :=
  (c.slotHdr (c.fld (dK i 2) 0 12)).enabled = false ∨ c.operates LOOP 0 = false

/-- The words that decide on it: the task's target, the headers of slots, and the pages of the Loop Array and of the test access port. -/
def restWord (i k : Nat) : Prop :=
  k = dK i 2 ∨ (∃ s, k = hdrK s 0) ∨ k = pageAddr LOOP 0 PG_CTL ∨ k = pageAddr TST 0 0x100

theorem slotRests_congr {i : Nat} (ht : c'.tap = c.tap) (hw : ∀ k, restWord i k → c'.word k = c.word k) (h : c.slotRests i) :
    c'.slotRests i := by
  have hs : c'.fld (dK i 2) 0 12 = c.fld (dK i 2) 0 12 := by rw [Chip.fld, hw _ (.inl rfl), Chip.fld]
  have hbit (s : Nat) : (c'.slotHdr s).enabled = (c.slotHdr s).enabled := by
    simp only [Chip.slotHdr, Chip.bit, hw (hdrK s 0) (.inr (.inl ⟨s, rfl⟩))]
  have hctl : c'.word (pageAddr LOOP 0 PG_CTL) = c.word (pageAddr LOOP 0 PG_CTL) := hw _ (.inr (.inr (.inl rfl)))
  have htst : c'.word (pageAddr TST 0 0x100) = c.word (pageAddr TST 0 0x100) := hw _ (.inr (.inr (.inr rfl)))
  have hop : c'.operates LOOP 0 = c.operates LOOP 0 := by
    simp only [Chip.operates, Chip.pageOn, Chip.resetting, Chip.freezing, Chip.bit, hctl, htst, ht]
  simpa only [Chip.slotRests, hs, hbit, hop] using h

theorem Chip.Notes.tap (h : c.Notes c') : c'.tap = c.tap := by
  obtain ⟨w, n, l, rfl⟩ := h
  rfl

theorem Chip.Hoists.tap (h : c.Hoists c') : c'.tap = c.tap := by
  obtain ⟨x, h⟩ := h
  exact h.tap

theorem startRun_slotRests {i : Nat} (h : c.slotRests i) : (c.startRun i).slotRests i := by
  refine slotRests_congr (startRun_hoists c i).tap (fun k hk => (startRun_alters c i).word k fun _ => ?_) h
  rcases hk with rfl | ⟨s, rfl⟩ | rfl | rfl
  · simp only [dK, elemKey]
    omega
  · simp only [dK, hdrK, slotK, elemKey, storeOf]
    omega
  · simp only [dK, elemKey, pageAddr, LOOP, PG_CTL]
    omega
  · simp only [dK, elemKey, pageAddr, TST]
    omega

/-- Task `i` has started on lane `l`. -/
def Chip.onLane (c : Chip) (l i : Nat) : Chip :=
  { c.startRun i with hoi := { (c.startRun i).hoi with lanes := tabPut 0 (c.startRun i).hoi.lanes l (i + 1) } }

theorem onLane_inst (c : Chip) (l i : Nat) : (c.onLane l i).inst i = { c.inst i with phase := .running, offered := false, dispatched := true } :=
  startRun_inst c i

theorem runLane_eq (c : Chip) (l i poison : Nat) (bad : List Nat) :
    c.runLane l i poison bad =
      let s := (c.onLane l i).fld (dK i 2) 0 12
      if !(c.onLane l i).operates LOOP 0 then c.onLane l i
      else
        let r := Chip.runSlotFor Chip.srcVal (c.onLane l i) s ((c.onLane l i).costOf i) poison bad (c.inst i).trig
        let outs := if (c.onLane l i).bit (ctlK s) 29 then [] else r.2
        let d := r.1.learnCompare s
        match (d.inst i).flow with
        | some _ => d.setInst i { d.inst i with held := outs }
        | none => { d with outQ := d.outQ ++ outs } := rfl

/-- Where the slot does not execute the lane takes the task, and what remains of the execution is the standby's comparison. -/
theorem runLane_rests (l poison : Nat) {i : Nat} (bad : List Nat) (h : c.slotRests i) :
    c.runLane l i poison bad = c.onLane l i ∨
      ∃ n, (c.onLane l i).Spares n ∧ (c.runLane l i poison bad = n ∨ c.runLane l i poison bad = n.setInst i { n.inst i with held := [] }) := by
  have hrests : (c.onLane l i).slotRests i := startRun_slotRests h
  rw [runLane_eq]
  generalize c.onLane l i = d at *
  cases hop : d.operates LOOP 0 with
  | false => exact .inl rfl
  | true =>
    have hslot : (d.slotHdr (d.fld (dK i 2) 0 12)).enabled = false := hrests.resolve_right (by rw [hop]; decide)
    have hexec (cost : Nat) (trig : Stamp) :
        Chip.runSlotFor Chip.srcVal d (d.fld (dK i 2) 0 12) cost poison bad trig = (d, []) := by
      simp [Chip.runSlotFor, hslot]
    refine .inr ⟨d.learnCompare (d.fld (dK i 2) 0 12), learnCompare_spares .., ?_⟩
    simp only [Bool.not_true, Bool.false_eq_true, if_false, hexec, ite_self, List.append_nil]
    split
    · exact .inr rfl
    · exact .inl rfl

/-- The lane holds the task, which runs; TALLY stands as the start of the run left it, and no output is released. -/
theorem runLane_shows (l poison : Nat) {i : Nat} (bad : List Nat) (h : c.slotRests i) :
    tab 0 (c.runLane l i poison bad).hoi.lanes l = i + 1 ∧ ((c.runLane l i poison bad).inst i).phase = .running ∧
      (c.runLane l i poison bad).outQ = c.outQ ∧ (c.runLane l i poison bad).word (dK i 1) = (c.startRun i).word (dK i 1) := by
  have hlane : tab 0 (c.onLane l i).hoi.lanes l = i + 1 := tab_tabPut_same (d := 0) (c.startRun i).hoi.lanes l (i + 1)
  have hout : (c.onLane l i).outQ = c.outQ := (startRun_hoists c i).outQ
  rcases runLane_rests l poison bad h with hr | ⟨n, hn, hr | hr⟩
  · rw [hr]
    exact ⟨hlane, by rw [onLane_inst], hout, rfl⟩
  · rw [hr, hn.hoi, inst_of_hoi hn.hoi, hn.outQ, hn.word _ (.inl ?_)]
    · exact ⟨hlane, by rw [onLane_inst], hout, rfl⟩
    · simp only [dK, elemKey]
      omega
  · rw [hr, inst_setInst_same, (setInst_hoists ..).outQ, hn.outQ, (setInst_alters_state ..).word _ fun _ => dK_ne (by decide),
      hn.word _ (.inl ?_)]
    · refine ⟨?_, ?_, hout, rfl⟩
      · exact (congrArg (fun x : Hoi => tab 0 x.lanes l) hn.hoi).trans hlane
      · exact congrArg Inst.phase ((inst_of_hoi hn.hoi i).trans (onLane_inst c l i))
    · simp only [dK, elemKey]
      omega

/-! ### Re-sends on the fabric (R24) -/

/-- A count of the fabric and its cause. -/
def Chip.counted (c : Chip) (b : Bool) (o k i : Nat) : Chip := c.when b fun c => (c.count (dipA o) k).cause DIP 0 i

theorem counted_notes (c : Chip) (b : Bool) (o k i : Nat) : c.Notes (c.counted b o k i) :=
  .ite ((count_notes ..).trans (cause_notes ..)) (.refl c)

theorem counted_alters (c : Chip) (b : Bool) {o : Nat} (k i : Nat) (ho : o = 0x118 ∨ o = 0x11C) : c.Alters hopBits (c.counted b o k i) := by
  have hcount : c.Alters hopBits (c.count (dipA o) k) := count_alters c _ k fun _ => by
    rcases ho with rfl | rfl
    · exact .inl rfl
    · exact .inr (.inl rfl)
  exact .ite (hcount.trans (cause_alters _ DIP 0 i (.inr (.inr (.inl rfl))) (.inr (.inr (.inr rfl))))) (.refl _ c)

theorem hops_notes (c : Chip) (resends failed : Nat) : c.Notes (c.hops resends failed) :=
  (counted_notes ..).trans (counted_notes ..)

theorem hops_alters (c : Chip) (resends failed : Nat) : c.Alters hopBits (c.hops resends failed) :=
  (counted_alters c _ _ 4 (.inl rfl)).trans (counted_alters _ _ _ 5 (.inr rfl))

theorem not_hopBits_store {st i w : Nat} (j : Nat) : ¬ hopBits (elemKey st i w) j := by
  simp only [hopBits, elemKey, dipA, pageAddr, DIP, PG_EVT_RAW, PG_EVT_PEND]
  omega

theorem hops_slotRests {i : Nat} (resends failed : Nat) (h : c.slotRests i) : (c.hops resends failed).slotRests i := by
  refine slotRests_congr (hops_notes ..).tap (fun k hk => (hops_alters ..).word k fun j => ?_) h
  rcases hk with rfl | ⟨s, rfl⟩ | rfl | rfl
  · exact not_hopBits_store j
  · exact not_hopBits_store j
  · simp only [hopBits]
    decide
  · simp only [hopBits]
    decide

/-! ### Dispatch -/

theorem dispatch_lane {pool i : Nat} (hpool : pool ≤ 1) (hd : c.dispatches = true) (hp : c.pick pool = some i)
    (hl : c.freeLanes pool ≠ []) (resends poison : Nat) (bad : List Nat) :
    ∃ l ∈ c.freeLanes pool, c.taskDispatch pool resends poison bad =
      (c.freeNat.2.hops resends (poison % 256)).runLane l i poison bad := by
  obtain ⟨l, r, hlr⟩ := List.exists_cons_of_ne_nil hl
  have hlt : c.freeNat.1 % (r.length + 1) < (l :: r).length := Nat.mod_lt _ (Nat.succ_pos _)
  refine ⟨(l :: r).getD (c.freeNat.1 % (r.length + 1)) l, ?_, ?_⟩
  · rw [hlr, List.getD_eq_getElem _ _ hlt]
    exact List.getElem_mem hlt
  · simp [Chip.taskDispatch, hd, hpool, hp, hlr]

theorem dispatch_relay {pool i : Nat} (hpool : 6 ≤ pool) (hd : c.dispatches = true) (hp : c.pick 6 = some i) (resends poison : Nat)
    (bad : List Nat) : c.taskDispatch pool resends poison bad = (c.startRun i).finish i := by
  simp [Chip.taskDispatch, hd, show ¬ pool ≤ 1 by omega, show ¬ pool ≤ 5 by omega, hp]

theorem dispatch_core {k i n : Nat} (hk : k < 4) (hd : c.dispatches = true) (hout : natBit c.hoi.poolOut k = false)
    (hp : c.pick (2 + k) = some i)
    (hn : ((c.poolCores k).find? fun n => (c.port n).current.isNone && (c.port n).next.isNone) = some n) :
    c.taskDispatch (2 + k) 0 0 [] = c.offer n i := by
  have hpick : c.pick (2 + (2 + k - 2)) = some i := by rwa [Nat.add_sub_cancel_left]
  simp only [Chip.taskDispatch, hd, Bool.not_true, Bool.false_eq_true, if_false, show ¬ 2 + k ≤ 1 by omega,
    show 2 + k ≤ 5 by omega, if_true, Nat.add_sub_cancel_left, Chip.dispatchCore, hout, hp, hn]

/-- An offer to an idle core shows at its port. -/
theorem offer_shows {n : Nat} (i : Nat) (hc : (c.port n).current = none) :
    ((c.offer n i).port n).next = some i ∧ ((c.offer n i).inst i).offered = true ∧ (c.offer n i).bit (portA n 0x110) 30 = true := by
  unfold Chip.offer
  refine ⟨by rw [port_setPort_same], by rw [inst_setPort, inst_setInst_same], ?_⟩
  have hport : ({ c.port n with next := some i } : CorePort) = { current := none, next := some i, shed := (c.port n).shed } := by rw [← hc]
  rw [hport]
  exact setPort_dispatch ..

/-- A relay's run starts and ends at once (R126). -/
theorem startRun_ends {i : Nat} (h : c.EndsPlainly i) : (c.startRun i).EndsPlainly i := by
  have hinst := startRun_inst c i
  refine ⟨?_, ?_, ?_, ?_, ?_, ?_⟩
  · rw [hinst]; exact h.flow
  · rw [hinst]; exact h.held
  · rw [hinst]; exact h.retiring
  · rw [hinst]; exact h.ending
  · rw [hinst]; exact h.queued
  · rw [(startRun_alters c i).bit _ 27]
    · exact h.oneshot
    · simp only [dK, elemKey]
      omega

theorem startRun_successors (c : Chip) (i : Nat) : (c.startRun i).successors i = c.successors i := by
  refine successors_congr (startRun_hoists c i).tim fun k hk => (startRun_alters c i).word k fun _ => ?_
  rcases hk with rfl | rfl
  · simp only [dK, elemKey]
    omega
  · simp only [dK, elemKey, aTimStat, pageAddr, TIM]
    omega

/-! ### The end of a lane run (R137) -/

/-- Lane `l` is free. -/
def Chip.laneFreed (c : Chip) (l : Nat) : Chip := { c with hoi := { c.hoi with lanes := tabPut 0 c.hoi.lanes l 0 } }

theorem laneDone_eq {i l : Nat} (ho : c.operates HOI 0 = true) (hl : c.hoi.lanes.find? (·.2 == i + 1) = some (l, i + 1)) :
    c.laneDone i = (c.laneFreed l).finish i := by
  simp only [Chip.laneDone, ho, if_true, Chip.taskRelease, hl]
  rfl

/-! ### The commands -/

theorem exec_taskDispatch (s : State) (pool resends poison : Nat) (bad : List Nat) :
    exec (.taskDispatch pool resends poison bad) s = s.eventOut HOI 0 fun c => c.taskDispatch pool resends poison bad := rfl
theorem exec_taskRelease (s : State) (i : Nat) : exec (.taskRelease i) s = s.eventOut HOI 0 fun c => c.laneDone i := rfl

section
variable (s : State) (hs : s.settled = true) (ha : s.chip.acts HOI 0 = true)
include hs ha

theorem laneDispatch_answers {pool i : Nat} (hpool : pool ≤ 1) (hd : s.chip.dispatches = true) (hp : s.chip.pick pool = some i)
    (hl : s.chip.freeLanes pool ≠ []) (hrest : s.chip.slotRests i) (resends poison : Nat) (bad : List Nat) :
    Answers (exec (.taskDispatch pool resends poison bad) s) fun t =>
      (∃ l ∈ s.chip.freeLanes pool, tab 0 t.chip.hoi.lanes l = i + 1) ∧ (t.chip.inst i).phase = .running ∧
      (s.chip.bit (dK i 0) 27 = false → (s.chip.inst i).dispatched = false →
        t.chip.fld (dK i 1) 0 16 = s.chip.fld (dK i 1) 16 16) := by
  obtain ⟨h0, -⟩ := settled_queues hs
  obtain ⟨l, hmem, hn⟩ := dispatch_lane hpool hd hp hl resends poison bad
  have hfree : s.chip.freeNat.2.slotRests i := slotRests_congr rfl (fun _ _ => rfl) hrest
  have hnotes := hops_notes s.chip.freeNat.2 resends (poison % 256)
  have halters := hops_alters s.chip.freeNat.2 resends (poison % 256)
  obtain ⟨hlane, hphase, hout, htally⟩ := runLane_shows l poison bad (hops_slotRests resends (poison % 256) hfree)
  obtain ⟨t, htt, hsh⟩ := eventOut_shows s (exec_taskDispatch s pool resends poison bad) ha hs
    (by rw [hn, hout, hnotes.outQ]; exact h0)
  rw [hn] at hsh
  refine ⟨t, htt, ⟨l, hmem, ?_⟩, ?_, fun h1 hd => ?_⟩
  · rw [hsh.hoi, hlane]
  · rw [hsh.inst, hphase]
  · have hbit : (s.chip.freeNat.2.hops resends (poison % 256)).bit (dK i 0) 27 = false :=
      (halters.bit _ 27 (not_hopBits_store 27)).trans h1
    have hdisp : ((s.chip.freeNat.2.hops resends (poison % 256)).inst i).dispatched = false :=
      (congrArg Inst.dispatched (inst_of_hoi hnotes.hoi i)).trans hd
    rw [hsh.fld, Chip.fld, htally, ← Chip.fld, startRun_tally _ i hbit hdisp]
    exact halters.fld _ 16 16 fun j _ _ => not_hopBits_store j

theorem relayDispatch_answers {pool i : Nat} (hpool : 6 ≤ pool) (hd : s.chip.dispatches = true) (hp : s.chip.pick 6 = some i)
    (hend : s.chip.EndsPlainly i) (resends poison : Nat) (bad : List Nat) :
    Answers (exec (.taskDispatch pool resends poison bad) s) fun t =>
      (t.chip.inst i).phase = .idle ∧ t.chip.posts = s.chip.posts ++ s.chip.successors i := by
  obtain ⟨h0, -⟩ := settled_queues hs
  have hn := dispatch_relay hpool hd hp resends poison bad
  have hstart := startRun_hoists s.chip i
  obtain ⟨hphase, hposts, hout, -⟩ := finish_plain (startRun_ends hend)
  obtain ⟨t, htt, hsh⟩ := eventOut_shows s (exec_taskDispatch s pool resends poison bad) ha hs (by rw [hn, hout, hstart.outQ, h0])
  rw [hn] at hsh
  exact ⟨t, htt, by rw [hsh.inst, hphase], by rw [hsh.posts, hposts, hstart.posts, startRun_successors]⟩

theorem coreDispatch_answers {k i n : Nat} (hk : k < 4) (hd : s.chip.dispatches = true) (hpo : natBit s.chip.hoi.poolOut k = false)
    (hp : s.chip.pick (2 + k) = some i)
    (hf : ((s.chip.poolCores k).find? fun n => (s.chip.port n).current.isNone && (s.chip.port n).next.isNone) = some n) :
    Answers (exec (.taskDispatch (2 + k) 0 0 []) s) fun t =>
      (t.chip.port n).next = some i ∧ (t.chip.inst i).offered = true ∧ t.chip.bit (portA n 0x110) 30 = true := by
  obtain ⟨h0, -⟩ := settled_queues hs
  have hn := dispatch_core hk hd hpo hp hf
  have hcore : n < 8 := List.mem_range.1 (List.mem_filter.1 (List.mem_of_find?_eq_some hf)).1
  have hidle : (s.chip.port n).current = none := by
    have := List.find?_some hf
    simp only [Bool.and_eq_true, Option.isNone_iff_eq_none] at this
    exact this.1
  obtain ⟨hnext, hoff, hbit⟩ := offer_shows i hidle
  obtain ⟨t, htt, hsh⟩ := eventOut_shows s (exec_taskDispatch s (2 + k) 0 0 []) ha hs
    (by rw [hn, (offer_reoffers _ _ _ hcore).hoists.outQ, h0])
  rw [hn] at hsh
  exact ⟨t, htt, by rw [hsh.port, hnext], by rw [hsh.inst, hoff], by rw [hsh.bit, hbit]⟩

section
variable {i l : Nat} (hl : s.chip.hoi.lanes.find? (·.2 == i + 1) = some (l, i + 1))
include hl

theorem taskRelease_frees (hend : s.chip.EndsPlainly i) :
    Answers (exec (.taskRelease i) s) fun t =>
      tab 0 t.chip.hoi.lanes l = 0 ∧ (t.chip.inst i).phase = .idle ∧ t.chip.posts = s.chip.posts ++ s.chip.successors i := by
  obtain ⟨h0, -⟩ := settled_queues hs
  have hn := laneDone_eq (operates_of_acts ha) hl
  have hfreed : (s.chip.laneFreed l).EndsPlainly i :=
    ⟨hend.flow, hend.held, hend.retiring, hend.ending, hend.queued, hend.oneshot⟩
  obtain ⟨hphase, hposts, hout, r, hhoi⟩ := finish_plain hfreed
  obtain ⟨t, htt, hsh⟩ := eventOut_shows s (exec_taskRelease s i) ha hs (by rw [hn, hout]; exact h0)
  rw [hn] at hsh
  refine ⟨t, htt, ?_, by rw [hsh.inst, hphase], by rw [hsh.posts, hposts]; rfl⟩
  rw [hsh.hoi, hhoi]
  exact tab_tabPut_same (d := 0) s.chip.hoi.lanes l 0

theorem taskRelease_waits {n : Nat} (hf : (s.chip.inst i).flow = some n) (ho : (s.chip.flowOrder n).head? ≠ some i) :
    Answers (exec (.taskRelease i) s) fun t => tab 0 t.chip.hoi.lanes l = 0 ∧ (t.chip.inst i).phase = .waitOrder := by
  obtain ⟨h0, -⟩ := settled_queues hs
  have hn : s.chip.laneDone i = (s.chip.laneFreed l).setInst i { s.chip.inst i with phase := .waitOrder } :=
    (laneDone_eq (operates_of_acts ha) hl).trans (finish_waits hf ho)
  obtain ⟨t, htt, hsh⟩ := eventOut_shows s (exec_taskRelease s i) ha hs (by rw [hn, (setInst_hoists ..).outQ]; exact h0)
  rw [hn] at hsh
  refine ⟨t, htt, ?_, by rw [hsh.inst, inst_setInst_same]⟩
  rw [hsh.hoi]
  exact tab_tabPut_same (d := 0) s.chip.hoi.lanes l 0

end

end

/-- Settles O25: each dispatch is a start of the picked run, each release an end of the lane's run. -/
theorem hoistDispatch : Obligations.HoistDispatch := by
  unfold Obligations.HoistDispatch
  intro s hs ha
  refine ⟨fun pool i hpool hd hp hl hrest resends poison bad => laneDispatch_answers s hs ha hpool hd hp hl hrest resends poison bad,
    fun pool i hpool hd hp hf hh hr he hq h1 resends poison bad =>
      relayDispatch_answers s hs ha hpool hd hp ⟨hf, hh, hr, he, hq, h1⟩ resends poison bad,
    fun k i n hk hd hpo hp hn => coreDispatch_answers s hs ha hk hd hpo hp hn,
    fun i l hl => ⟨fun hf hh hr he hq h1 => taskRelease_frees s hs ha hl ⟨hf, hh, hr, he, hq, h1⟩,
      fun n hf ho => taskRelease_waits s hs ha hl hf ho⟩⟩

end Sys2Proof.Machine
end

section
/-! PROOFS. The core ports: the read of HOI_CORE_NEXT, HOI_CORE_DONE, HOI_CORE_SUSPEND and a core that does not answer (R133 to R135). -/

namespace Sys2Proof.Machine

variable {c c' : Chip} {n i : Nat}

theorem fld_ofNat16 (h : i < 65536) : getBits (BitVec.ofNat 32 i) 0 16 = i := by
  simp only [getBits, BitVec.toNat_ofNat, Nat.shiftRight_zero]
  omega

/-! ### The registers of a port -/

section
variable {o : Nat} (hn : n < 8) (hlo : 0x034 ≤ o) (ho : o < 0x200)
include hn hlo ho

theorem rowAt_port {part : Part} (h : implemented part (portA n o) = true) : rowAt part (portA n o) = findRow hoiPortRows o := by
  have hrows : blockRows HOI (1 + n) = hoiPortRows := by simp [blockRows, HOI, show 1 + n < 9 by omega]
  rw [portA, rowAt_page part (by decide) (by omega) (by omega) h, if_neg (by omega), hrows]

theorem liveWord_port {m : Nat} {h : RegHit} (hrow : rowAt c.part (portA n o) = some h) (hwo : h.row.wo = false) (hper : h.row.per = false) :
    c.liveWord m (portA n o) = c.word (portA n o) := by
  have hkey : c.regKey m (portA n o) false = portA n o := regKey_page c m (by decide) (by omega) (by omega) (.inl (by decide)) (.inr (by omega))
  have hplain : perAt c.part (portA n o) = false := (perAt_row hrow).trans hper
  have hoff : offOf (portA n o) = o := offOf_pageAddr _ _ _ (by omega)
  have hblock : blockOf (portA n o) = HOI := blockOf_pageAddr _ _ _ (by decide) (by omega) (by omega)
  have hinst : instOf (portA n o) = 1 + n := instOf_pageAddr _ _ _ (by omega) (by omega)
  have hres := resultAt_below c.part (show offOf (portA n o) < 0x800 by omega)
  have htw : isTw (portA n o) = false := isTw_pageAddr _ _ _ (by omega) (by omega)
  generalize portA n o = a at *
  simp [Chip.liveWord, hres, hrow, hwo, htw, hoff, show ¬ o < 0x034 by omega, Chip.pageWord, hblock, HOI, hinst, hplain, hkey]

end

/-- A read of HOI_CORE_NEXT returns the register as it stands, and takes the task. -/
theorem read_next {m : Nat} (hn : n < 8) (h : c.gives m (portA n 0x100) = true) :
    (c.readWords m (portA n 0x100)).getD 0 0 = c.word (portA n 0x100) ∧ c.readEffect m (portA n 0x100) = c.takeNext n := by
  have hrow : rowAt c.part (portA n 0x100) = some ⟨ro 0x100 2, 0, 0⟩ :=
    (rowAt_port hn (by decide) (by decide) (gives_implemented h)).trans (by decide)
  have hlive := liveWord_port (c := c) (m := m) hn (by decide) (by decide) hrow rfl rfl
  have hoff : offOf (portA n 0x100) = 0x100 := offOf_pageAddr _ _ _ (by decide)
  have hblock : blockOf (portA n 0x100) = HOI := blockOf_pageAddr _ _ _ (by decide) (by omega) (by decide)
  have hinst : instOf (portA n 0x100) = 1 + n := instOf_pageAddr _ _ _ (by omega) (by decide)
  have hres := resultAt_below c.part (show offOf (portA n 0x100) < 0x800 by omega)
  have htw : isTw (portA n 0x100) = false := isTw_pageAddr _ _ _ (by omega) (by decide)
  have hlock : isLock (portA n 0x100) = false := by simp [isLock, hblock, HOI, MBX]
  have hbell : isBell (portA n 0x100) = false := by simp [isBell, hblock, HOI, MBX]
  constructor
  · rw [readWords_live c m _ hlock (by rw [hblock]; simp [HOI, TIM]), liveWords_getD_zero c m _ (by simp [valueWords, hres, hrow, ro]), hlive]
  · generalize portA n 0x100 = a at *
    simp [Chip.readEffect, hres, hrow, htw, hbell, hlock, hoff, hblock, hinst, ro, show 1 + n < 9 by omega]

/-- A read that the register window takes: the module shows what its effect made of it, and the master receives the lowest word. -/
theorem read_shows (s : State) (m : Nat) {a : Nat} {j : Instr} (hj : exec j s = s.read m a 4) (h : s.chip.gives m a = true) :
    Answers (exec j s) fun t =>
      (s.chip.readEffect m a).Shows t.chip ∧ t.chip.resp = { status := .done, data := [(s.chip.readWords m a).getD 0 0] } := by
  have hread : ∃ k, s.chip.readBy m a 4 =
      ({ s.chip.readEffect m a with caps := k } : Chip).answer .done [(s.chip.readWords m a).getD 0 0] := by
    rw [readBy_given s.chip m a h]
    dsimp only
    split
    · exact ⟨_, rfl⟩
    · exact ⟨_, rfl⟩
  obtain ⟨k, hread⟩ := hread
  refine ⟨_, hj, ⟨?_, ?_, ?_, ?_⟩, ?_⟩
  · rw [settle_words, hread]; rfl
  · rw [settle_hoi, hread]; rfl
  · rw [settle_posts, hread]; rfl
  · rw [settle_cor, hread]; rfl
  · rw [settle_resp, hread]; rfl

/-! ### The task taken (R133) -/

theorem takeNext_shows (hi : i < 65536) (hp : c.port n = { current := none, next := some i }) :
    (c.takeNext n).port n = { current := some i, next := none } ∧ (c.takeNext n).fld (portA n 0x110) 0 16 = i ∧
      ((c.takeNext n).inst i).phase = .running := by
  have htake : c.takeNext n = ((c.setPort n { current := some i }).setFld (portA n 0x110) 0 16 i).startRun i := by
    simp only [Chip.takeNext, hp]
  have hport (d : Chip) : (d.startRun i).port n = d.port n := (congrArg (fun x : Hoi => tab ({} : CorePort) x.ports n) (startRun_hoi d i)).trans rfl
  rw [htake]
  refine ⟨?_, ?_, ?_⟩
  · rw [hport, port_of_hoi (setFld_notes ..).hoi, port_setPort_same]
  · rw [(startRun_alters _ i).fld, Chip.fld_setFld_same _ _ _ _ _ (by decide)]
    · exact Nat.mod_eq_of_lt hi
    · intro _ _ _
      simp only [dK, elemKey, portA, pageAddr, HOI]
      omega
  · rw [startRun_inst]

/-! ### The core freed (R133, R134) -/

theorem freeCore_port (c : Chip) (n : Nat) : ((c.freeCore n).port n).current = none := by
  rw [Chip.freeCore, port_setPort_same]

theorem freeCore_inst (c : Chip) (n i : Nat) : (c.freeCore n).inst i = c.inst i := inst_setPort ..

theorem freeCore_ends (h : c.EndsPlainly i) : (c.freeCore n).EndsPlainly i := by
  refine ⟨?_, ?_, ?_, ?_, ?_, ?_⟩
  · rw [freeCore_inst]; exact h.flow
  · rw [freeCore_inst]; exact h.held
  · rw [freeCore_inst]; exact h.retiring
  · rw [freeCore_inst]; exact h.ending
  · rw [freeCore_inst]; exact h.queued
  · refine ((setPort_alters_portBits c n _).bit _ 27 ?_).trans h.oneshot
    simp only [portBits, dK, elemKey, portA, pageAddr, HOI]
    omega

theorem coreDone_waits {f : Nat} (hc : (c.port n).current = some i) (hf : (c.inst i).flow = some f) (ho : (c.flowOrder f).head? ≠ some i) :
    c.coreDone n i = (c.freeCore n).setInst i { c.inst i with phase := .waitOrder } := by
  have hinst := freeCore_inst c n i
  rw [Chip.coreDone, if_pos hc, finish_waits (n := f) (by rw [hinst, hf]) (by rwa [Chip.freeCore, flowOrder_setPort]), hinst]

theorem coreDone_plain (hc : (c.port n).current = some i) (h : c.EndsPlainly i) :
    ((c.coreDone n i).port n).current = none ∧ ((c.coreDone n i).inst i).phase = .idle ∧ (c.coreDone n i).outQ = c.outQ := by
  obtain ⟨hphase, -, hout, r, hhoi⟩ := finish_plain (freeCore_ends (n := n) h)
  rw [Chip.coreDone, if_pos hc]
  refine ⟨?_, hphase, hout.trans (setPort_hoists ..).outQ⟩
  exact (congrArg (fun x : Hoi => (tab ({} : CorePort) x.ports n).current) hhoi).trans (freeCore_port c n)

/-- A task suspended on request is ready again, and the core has none and is asked for nothing. -/
theorem suspend_shows (hc : (c.port n).current = some i) (hr : c.bit (portA n 0x110) 31 = true) :
    ((c.suspend n i).port n).current = none ∧ ((c.suspend n i).inst i).phase = .ready ∧ (c.suspend n i).bit (portA n 0x110) 31 = false ∧
      (c.suspend n i).nat (portA n 0x034) = min (2 ^ 32 - 1) (c.nat (portA n 0x034) + 1) ∧ (c.suspend n i).outQ = c.outQ := by
  have hsus : c.suspend n i = (((c.setInst i { c.inst i with phase := .ready }).count (portA n 0x034)).freeCore n).reofferAll := by
    simp [Chip.suspend, hc, hr]
  have hready := setInst_hoists c i { c.inst i with phase := .ready }
  have hword : (c.setInst i { c.inst i with phase := .ready }).nat (portA n 0x034) = c.nat (portA n 0x034) :=
    (setInst_alters_state ..).nat _ fun _ => by
      simp only [dK, elemKey, portA, pageAddr, HOI]
      omega
  have hinst : (c.setInst i { c.inst i with phase := .ready }).inst i = _ := inst_setInst_same ..
  generalize c.setInst i { c.inst i with phase := .ready } = d at *
  have hoffers := reofferAll_reoffers ((d.count (portA n 0x034)).freeCore n)
  have hport := freeCore_port (d.count (portA n 0x034)) n
  rw [hsus]
  refine ⟨(hoffers.current n).trans hport, ?_, hoffers.request n hport ?_, ?_, ?_⟩
  · rw [reofferAll_phase, freeCore_inst, inst_of_hoi (count_notes ..).hoi, hinst]
  · exact setPort_preempt ..
  · rw [hoffers.alters.nat, Chip.freeCore, (setPort_alters_portBits _ n _).nat, Chip.nat_count_same, hword]
    · intro j
      simp only [portBits, portA, pageAddr]
      omega
    · intro j
      simp only [offerBits, portBits, dK, elemKey, portA, pageAddr, HOI]
      omega
  · rw [hoffers.hoists.outQ, Chip.freeCore, (setPort_hoists ..).outQ, (count_notes ..).outQ, hready.outQ]

/-! ### A core that does not answer (R135, R540) -/

theorem Chip.Reoffers.poolOut (h : c.Reoffers c') : c'.hoi.poolOut = c.hoi.poolOut := by
  obtain ⟨_, _, h⟩ := h.rest
  exact (congrArg Hoi.poolOut h.hoi).trans rfl

/-- What shows of it before the Core Cluster is told. -/
def timeoutBits (n k j : Nat) : Prop :=
  (k = portA n 0x110 ∧ j = 29) ∨ k = pageAddr HOI 0 PG_EVT_RAW ∨ k = pageAddr HOI 0 PG_EVT_PEND ∨ offerBits k j

/-- TIMEOUT is set, the pool is out of dispatch, and what its cores were offered is withdrawn. -/
theorem preemptTimeout_shows (hn : n < 8) (hr : c.bit (portA n 0x110) 31 = true) :
    (c.preemptTimeout n).bit (portA n 0x110) 29 = true ∧ natBit (c.preemptTimeout n).hoi.poolOut (c.corePool n) = true ∧
      c.Hoists (c.preemptTimeout n) ∧ c.Alters (timeoutBits n) (c.preemptTimeout n) := by
  have hset := setBit_alters (S := timeoutBits n) c (portA n 0x110) 29 true (.inl ⟨rfl, rfl⟩)
  have hsetn := setBit_notes c (portA n 0x110) 29 true
  have hbit := Chip.bit_setBit_same c (portA n 0x110) 29 true (by decide)
  have hev := cause_alters (S := timeoutBits n) (c.setBit (portA n 0x110) 29 true) HOI 0 6 (.inr (.inl rfl)) (.inr (.inr (.inl rfl)))
  have hevbit := (cause_alters (S := fun k _ => k = pageAddr HOI 0 PG_EVT_RAW ∨ k = pageAddr HOI 0 PG_EVT_PEND)
    (c.setBit (portA n 0x110) 29 true) HOI 0 6 (.inl rfl) (.inr rfl)).bit (portA n 0x110) 29 (by
      simp only [portA, pageAddr, PG_EVT_RAW, PG_EVT_PEND]
      omega)
  have hevn := cause_notes (c.setBit (portA n 0x110) 29 true) HOI 0 6
  have htime : c.preemptTimeout n =
      ({ (c.setBit (portA n 0x110) 29 true).cause HOI 0 6 with
          hoi := { ((c.setBit (portA n 0x110) 29 true).cause HOI 0 6).hoi with
            poolOut := setNatBit ((c.setBit (portA n 0x110) 29 true).cause HOI 0 6).hoi.poolOut
              (((c.setBit (portA n 0x110) 29 true).cause HOI 0 6).corePool n) true } } : Chip).reofferAll := by
    simp [Chip.preemptTimeout, hn, hr]
  generalize (c.setBit (portA n 0x110) 29 true).cause HOI 0 6 = d at *
  have hcause := hset.trans hev
  have hpool : d.corePool n = c.corePool n := hcause.fld _ _ _ fun j _ _ => by
    simp only [timeoutBits, offerBits, portBits, hoiA, portA, dK, elemKey, pageAddr, HOI, PG_EVT_RAW, PG_EVT_PEND]
    omega
  rw [htime]
  generalize hd : ({ d with hoi := { d.hoi with poolOut := setNatBit d.hoi.poolOut (d.corePool n) true } } : Chip) = e
  have hwords : d.Alters (timeoutBits n) e := .of_words (by rw [← hd]) (by rw [← hd]) (by rw [← hd])
  have hoffers := reofferAll_reoffers e
  refine ⟨?_, ?_, ?_, ?_⟩
  · rw [hoffers.alters.bit _ 29, ← hd]
    · exact hevbit.trans hbit
    · simp only [offerBits, portBits, dK, elemKey, portA, pageAddr, HOI]
      omega
  · rw [hoffers.poolOut, ← hd, ← hpool]
    exact natBit_setNatBit_same d.hoi.poolOut (d.corePool n) true
  · exact ((hsetn.trans hevn).hoists.trans ⟨e.hoi, by rw [← hd]; exact .refl _⟩).trans hoffers.hoists
  · exact (hcause.trans hwords).trans (hoffers.alters.mono fun _ _ h => .inr (.inr (.inr h)))

theorem natBit_setNatBit_true (v k : Nat) {j : Nat} (h : natBit v j = true) : natBit (setNatBit v k true) j = true := by
  rw [natBit] at h
  simp [natBit, setNatBit, Nat.testBit_or, h]

/-- Setting the bits of a list sets each of them. -/
theorem foldl_setNatBit {l : List Nat} (h : n ∈ l) (v : Nat) : natBit (l.foldl (fun h k => setNatBit h k true) v) n = true := by
  have hstay (l : List Nat) (v : Nat) (hv : natBit v n = true) : natBit (l.foldl (fun h k => setNatBit h k true) v) n = true := by
    induction l generalizing v with
    | nil => exact hv
    | cons x r ih => exact ih _ (natBit_setNatBit_true v x hv)
  induction l generalizing v with
  | nil => simp at h
  | cons x r ih =>
    rcases List.mem_cons.1 h with rfl | h
    · exact hstay r _ (natBit_setNatBit_same ..)
    · exact ih h _

/-- The pool's cores are halted; a request for SS1, which may follow where the module does not lead, leaves Hoist and the cluster. -/
theorem preemptHalt_shows (hn : n < 8) (hr : c.bit (portA n 0x110) 31 = true) (hrole : c.role ≠ 3) :
    (c.preemptHalt n).bit (portA n 0x110) 29 = true ∧ natBit (c.preemptHalt n).hoi.poolOut (c.corePool n) = true ∧
      natBit (c.preemptHalt n).cor.halted n = true ∧ (c.preemptHalt n).outQ = c.outQ := by
  obtain ⟨hbit, hout, hh, halters⟩ := preemptTimeout_shows hn hr
  have hhalt : c.preemptHalt n =
      (let d := c.preemptTimeout n
       let e := d.setCor fun x => { x with halted := (d.poolCores (d.corePool n)).foldl (fun h k => setNatBit h k true) x.halted }
       let f := (e.cause COR 0 3).tally 0x0484 (d.corePool n)
       if f.role = 3 then f.paiSurrender 5
       else if f.role ≤ 2 && (d.poolCores (d.corePool n)).contains 0 then f.ss1Request else f) := by
    simp [Chip.preemptHalt, hn, hr]
  generalize c.preemptTimeout n = d at *
  dsimp only at hhalt
  have hmem : n ∈ d.poolCores (d.corePool n) := List.mem_filter.2 ⟨List.mem_range.2 hn, by simp⟩
  have hcores := foldl_setNatBit hmem d.cor.halted
  have hdrole : d.role = c.role := halters.fld _ _ _ fun j _ _ => by
    simp only [timeoutBits, offerBits, portBits, aPaiStat, portA, dK, elemKey, pageAddr, HOI, PAI, PG_EVT_RAW, PG_EVT_PEND]
    omega
  generalize he : (d.setCor fun x => { x with halted := (d.poolCores (d.corePool n)).foldl (fun h k => setNatBit h k true) x.halted }) = e at *
  have hev := cause_spares e (b := COR) (p := 0) 3 (by decide) (by decide) (by decide)
  have hfrole : ((e.cause COR 0 3).tally 0x0484 (d.corePool n)).role = d.role :=
    ((cause_alters (S := fun k _ => k = pageAddr COR 0 PG_EVT_RAW ∨ k = pageAddr COR 0 PG_EVT_PEND) e COR 0 3 (.inl rfl) (.inr rfl)).fld
      _ _ _ fun _ _ _ => by decide).trans (by rw [← he]; rfl)
  rw [hfrole, hdrole, if_neg hrole] at hhalt
  have hf : e.Spares (c.preemptHalt n) := by
    rw [hhalt]
    exact (hev.trans (tally_spares ..)).trans (.ite (ss1Request_spares _) (.refl _))
  have hword : hoistWord (portA n 0x110) := .inr (blockOf_pageAddr _ _ _ (by decide) (by omega) (by decide))
  refine ⟨?_, ?_, ?_, ?_⟩
  · rw [Chip.bit, hf.word _ hword, ← he]
    exact hbit
  · rw [hf.hoi, ← he]
    exact hout
  · rw [hf.cor, ← he]
    exact hcores
  · rw [hf.outQ, ← he]
    exact hh.outQ

/-! ### The commands -/

theorem exec_coreNextRead (s : State) (m n : Nat) : exec (.coreNextRead m n 4) s = s.read m (portA n 0x100) 4 := rfl
theorem exec_coreDone (s : State) (m n : Nat) (d : Word) : exec (.coreDone m n d) s = s.put m (portA n 0x108) d := rfl
theorem exec_coreSuspend (s : State) (m n : Nat) (d : Word) : exec (.coreSuspend m n d) s = s.put m (portA n 0x10C) d := rfl
theorem exec_preemptTimeout (s : State) (n : Nat) : exec (.preemptTimeout n) s = s.eventOut HOI 0 fun c => c.preemptHalt n := rfl

section
variable (s : State) (m : Nat) (hn : n < 8) (hi : i < 65536) (hs : s.settled = true)
include hn hi hs

/-- A write of HOI_CORE_DONE that names descriptor `i`. -/
theorem coreDone_put (h : s.chip.takes m (portA n 0x108) false = true) (hq : (s.chip.coreDone n i).outQ = s.chip.outQ) :
    Answers (exec (.coreDone m n (BitVec.ofNat 32 i)) s) fun t => (s.chip.coreDone n i).Shows t.chip ∧ t.chip.resp.status = .done := by
  obtain ⟨h0, -⟩ := settled_queues hs
  obtain ⟨hdone, -⟩ := hoiWrite_port s.chip m (BitVec.ofNat 32 i) false hn
  refine put_hoi (p := 1 + n) (o := 0x108) (by omega) (by decide) s m _ false (exec_coreDone s m n _) h (by decide) hs ?_ (hq.trans h0)
  rw [afterKey_false, ← portA, hdone, fld_ofNat16 hi]

/-- A write of HOI_CORE_SUSPEND that names descriptor `i`. -/
theorem suspend_put (h : s.chip.takes m (portA n 0x10C) false = true) (hq : (s.chip.suspend n i).outQ = s.chip.outQ) :
    Answers (exec (.coreSuspend m n (BitVec.ofNat 32 i)) s) fun t => (s.chip.suspend n i).Shows t.chip ∧ t.chip.resp.status = .done := by
  obtain ⟨h0, -⟩ := settled_queues hs
  obtain ⟨-, hsus⟩ := hoiWrite_port s.chip m (BitVec.ofNat 32 i) false hn
  refine put_hoi (p := 1 + n) (o := 0x10C) (by omega) (by decide) s m _ false (exec_coreSuspend s m n _) h (by decide) hs ?_ (hq.trans h0)
  rw [afterKey_false, ← portA, hsus, fld_ofNat16 hi]

end

/-- Settles O26: the read starts the task, the two writes free the core before the task goes on, and the core that does not answer takes
its pool with it. -/
theorem corePorts : Obligations.CorePorts := by
  unfold Obligations.CorePorts
  intro s m n i hn hi hs
  obtain ⟨h0, -⟩ := settled_queues hs
  refine ⟨fun h hp => ?_, fun f h hc hf ho => ?_, fun h hc hf hh hr he hq h1 => ?_, fun h hc hr => ?_, fun ha hr hrole _ => ?_⟩
  · obtain ⟨hword, htake⟩ := read_next hn h
    obtain ⟨hport, hcur, hphase⟩ := takeNext_shows hi hp
    obtain ⟨t, htt, hsh, hresp⟩ := read_shows s m (exec_coreNextRead s m n) h
    rw [htake] at hsh
    exact ⟨t, htt, by rw [hsh.port, hport], by rw [hsh.fld, hcur], by rw [hsh.inst, hphase], by rw [hresp, hword]⟩
  · have hdone := coreDone_waits hc hf ho
    obtain ⟨t, htt, hsh, hresp⟩ := coreDone_put s m hn hi hs h
      (by rw [hdone, (setInst_hoists ..).outQ]; exact (setPort_hoists ..).outQ)
    rw [hdone] at hsh
    exact ⟨t, htt, by rw [hsh.port, port_setInst, freeCore_port], by rw [hsh.inst, inst_setInst_same], hresp⟩
  · obtain ⟨hport, hphase, hout⟩ := coreDone_plain hc ⟨hf, hh, hr, he, hq, h1⟩
    obtain ⟨t, htt, hsh, -⟩ := coreDone_put s m hn hi hs h hout
    exact ⟨t, htt, by rw [hsh.port, hport], by rw [hsh.inst, hphase]⟩
  · obtain ⟨hport, hphase, hbit, hcount, hout⟩ := suspend_shows hc hr
    obtain ⟨t, htt, hsh, -⟩ := suspend_put s m hn hi hs h hout
    exact ⟨t, htt, by rw [hsh.port, hport], by rw [hsh.inst, hphase], by rw [hsh.bit, hbit], by rw [hsh.nat, hcount]⟩
  · obtain ⟨hbit, hpool, hhalt, hout⟩ := preemptHalt_shows hn hr hrole
    obtain ⟨t, htt, hsh⟩ := eventOut_shows s (exec_preemptTimeout s n) ha hs (by rw [hout, h0])
    exact ⟨t, htt, by rw [hsh.bit, hbit], by rw [hsh.hoi, hpool], by rw [hsh.cor, hhalt]⟩

end Sys2Proof.Machine
end

section
/-! PROOFS. Admission: requests join their queue, the one at the front ends, and the settings of admission are written (R127, R128,
R130, R140 to R144). -/

namespace Sys2Proof.Machine

variable {c c' : Chip}

/-! ### What keeps the admitted tasks -/

theorem each_admitted {α : Type} {f : Chip → α → Chip} (h : ∀ c x, (f c x).hoi.admitted = c.hoi.admitted) (l : List α) (c : Chip) :
    (c.each l f).hoi.admitted = c.hoi.admitted := by
  induction l generalizing c with
  | nil => rfl
  | cons x r ih => exact (ih _).trans (h c x)

theorem Chip.Notes.admitted (h : c.Notes c') : c'.hoi.admitted = c.hoi.admitted := by rw [h.hoi]

theorem setInst_admitted (c : Chip) (i : Nat) (x : Inst) : (c.setInst i x).hoi.admitted = c.hoi.admitted :=
  ((setFld_notes ..).admitted).trans rfl

theorem setAdmitted_admitted (c : Chip) (l : List Nat) : (c.setAdmitted l).hoi.admitted = l :=
  ((setFld_notes ..).admitted).trans rfl

theorem Chip.Reoffers.admitted (h : c.Reoffers c') : c'.hoi.admitted = c.hoi.admitted := by
  obtain ⟨_, _, h⟩ := h.rest
  exact h.admitted.trans rfl

theorem reloadTally_notes (c : Chip) (i : Nat) : c.Notes (c.reloadTally i) := setFld_notes ..

/-! ### A request (R141, R142) -/

section
variable {p op first a : Nat} (hb : c.bit (admStatK p) 31 = false)

/-- The request as it is queued. -/
def Chip.reqOf (c : Chip) (p op first : Nat) : AdmitReq :=
  { p := p, op := op, first := first, count := c.fld (viewKey p (hoiA 0x104)) 0 17 }

/-- The module with another queue of requests. -/
def Chip.withRequests (c : Chip) (l : List AdmitReq) : Chip := { c with hoi := { c.hoi with requests := l } }

theorem withRequests_words (c : Chip) (l : List AdmitReq) : (c.withRequests l).words = c.words := rfl

theorem withRequests_alters (S : Nat → Nat → Prop) (c : Chip) (l : List AdmitReq) : c.Alters S (c.withRequests l) := .of_words rfl rfl rfl

theorem withRequests_hoists (c : Chip) (l : List AdmitReq) : c.Hoists (c.withRequests l) := ⟨_, .refl _⟩

/-- BUSY is set and the request joins the queue. -/
def Chip.enqueued (c : Chip) (p op first : Nat) : Chip :=
  (c.setNat (admStatK p) (2 ^ 31)).withRequests (c.hoi.requests ++ [c.reqOf p op first])

theorem enqueued_words (c : Chip) (p op first : Nat) : (c.enqueued p op first).words = (c.setNat (admStatK p) (2 ^ 31)).words :=
  withRequests_words ..

theorem enqueued_alters (c : Chip) (p op first : Nat) : c.Alters (fun k _ => k = admStatK p) (c.enqueued p op first) :=
  (setNat_alters c _ _ fun _ => rfl).trans (withRequests_alters ..)

theorem enqueued_hoi (c : Chip) (p op first : Nat) :
    (c.enqueued p op first).hoi = { c.hoi with requests := c.hoi.requests ++ [c.reqOf p op first] } :=
  congrArg (fun x : Hoi => { x with requests := c.hoi.requests ++ [c.reqOf p op first] }) (setNat_notes ..).hoi

theorem enqueued_hoists (c : Chip) (p op first : Nat) : c.Hoists (c.enqueued p op first) :=
  (setNat_notes ..).hoists.trans (withRequests_hoists ..)

include hb

theorem request_eq :
    c.request p op first 0 a = if c.hoi.requests.isEmpty then (c.enqueued p op first).startRequest else c.enqueued p op first := by
  have hcount : (c.setNat (admStatK p) (2 ^ 31)).fld (viewKey p (hoiA 0x104)) 0 17 = c.fld (viewKey p (hoiA 0x104)) 0 17 :=
    (setNat_alters (S := fun k _ => k = admStatK p) c _ _ fun _ => rfl).fld _ _ _ fun _ _ _ => by
      simp only [admStatK, viewKey, hoiA, pageAddr]
      omega
  have hreq : (c.setNat (admStatK p) (2 ^ 31)).hoi.requests = c.hoi.requests := congrArg Hoi.requests (setNat_notes ..).hoi
  simp only [Chip.request, hb, Bool.false_eq_true, if_false, hcount, hreq, Chip.enqueued, Chip.withRequests, Chip.reqOf]

/-- A request that does not begin at once, as a RETIRE does that is first, only joins the queue. -/
theorem request_joins (h : op ≠ 2 ∨ c.hoi.requests ≠ []) : c.request p op first 0 a = c.enqueued p op first := by
  rw [request_eq hb]
  split
  · next he =>
    have hop : op ≠ 2 := h.resolve_right fun hne => hne (List.isEmpty_iff.1 he)
    have hq : (c.enqueued p op first).hoi.requests = [c.reqOf p op first] := by rw [enqueued_hoi, List.isEmpty_iff.1 he, List.nil_append]
    rw [Chip.startRequest, hq]
    exact if_neg hop
  · rfl

/-- A RETIRE of one descriptor that is first is carried out at once. -/
theorem request_retires (hreq : c.hoi.requests = []) (hone : c.fld (viewKey p (hoiA 0x104)) 0 17 = 1) (hf : first < 65536)
    (hv : c.bit (dK first 0) 31 = true) (ho : c.descOwner first = p) :
    c.request p 2 first 0 a = (c.enqueued p 2 first).retireOne first := by
  have halters := enqueued_alters c p 2 first
  have hv' : (c.enqueued p 2 first).bit (dK first 0) 31 = true := by
    rw [halters.bit _ 31, hv]
    simp only [dK, elemKey, admStatK, viewKey, hoiA, pageAddr, HOI]
    omega
  have ho' : (c.enqueued p 2 first).descOwner first = p := by
    rw [Chip.descOwner, Chip.ownWord, halters.fld]
    · exact ho
    · intro _ _ _
      simp only [twAddr, admStatK, viewKey, hoiA, pageAddr, HOI]
      omega
  have hq : (c.enqueued p 2 first).hoi.requests = [c.reqOf p 2 first] := by rw [enqueued_hoi, hreq, List.nil_append]
  have hrange : reqRange first 1 = [first] := rfl
  have hbad : ¬ first ≥ 65536 := by omega
  rw [request_eq hb, hreq, List.isEmpty_nil, if_pos rfl, Chip.startRequest, hq]
  simp [Chip.reqOf, hone, hrange, hv', ho', hbad, Chip.each]

end

/-- An idle task outside any flow gives up its admission (R141). -/
theorem retireOne_idle {i : Nat} (hadm : c.hoi.admitted.contains i = true) (hp : (c.inst i).phase = .idle) (hf : (c.inst i).flow = none) :
    (c.retireOne i).hoi.admitted = c.hoi.admitted.filter (· != i) ∧ (c.retireOne i).nat (dK i 11) = 0 ∧ c.Hoists (c.retireOne i) := by
  have hmem : i ∈ c.hoi.admitted := by simpa using hadm
  have hone : c.retireOne i = (c.unadmit i).reofferAll := by
    simp [Chip.retireOne, hmem, hp, hf, Chip.leaveFlow, Chip.flowMoves]
  have hoffers := reofferAll_reoffers (c.unadmit i)
  rw [hone]
  refine ⟨?_, ?_, ?_⟩
  · rw [hoffers.admitted]
    unfold Chip.unadmit
    dsimp only
    rw [setInst_admitted, (((reloadTally_notes ..).trans (setNat_notes ..)).trans (setNat_notes ..)).admitted, setAdmitted_admitted]
  · rw [hoffers.alters.nat]
    · unfold Chip.unadmit
      dsimp only
      rw [(setInst_alters_state ..).nat _ fun _ => dK_ne (by decide),
        (setNat_alters (S := fun k _ => k = dK i 12) _ _ _ fun _ => rfl).nat _ fun _ => dK_ne (by decide), Chip.nat_setNat_same _ _ _ (by decide)]
    · intro j
      simp only [offerBits, portBits, dK, elemKey, portA, pageAddr, HOI]
      omega
  · unfold Chip.unadmit
    dsimp only
    exact (((setAdmitted_hoists ..).trans (((reloadTally_notes ..).trans (setNat_notes ..)).trans (setNat_notes ..)).hoists).trans
      (setInst_hoists ..)).trans hoffers.hoists

/-! ### The end of a request (R142, R144) -/

theorem admitApply_admits (c : Chip) {req : List Nat} {i : Nat} (h : i ∈ req) : i ∈ (c.admitApply req).hoi.admitted := by
  unfold Chip.admitApply
  dsimp only
  rw [each_admitted fun _ _ => ((setNat_notes ..).trans (setNat_notes ..)).admitted,
    each_admitted fun _ _ => (setInst_admitted ..).trans (reloadTally_notes ..).admitted, setAdmitted_admitted]
  by_cases hin : c.hoi.admitted.contains i = true
  · exact List.mem_append_left _ (by simpa using hin)
  · exact List.mem_append_right _ (List.mem_filter.2 ⟨h, by simpa using hin⟩)

theorem admitApply_hoists (c : Chip) (req : List Nat) : c.Hoists (c.admitApply req) :=
  ((setAdmitted_hoists ..).trans (each_hoists _ (fun _ _ => (reloadTally_notes ..).hoists.trans (setInst_hoists ..)) _ _)).trans
    (each_hoists _ (fun _ _ => ((setNat_notes ..).trans (setNat_notes ..)).hoists) _ _)

/-- The test of a request stays within Hoist, and may draw what the spec leaves free. -/
theorem decideRequest_hoists (c : Chip) (q : AdmitReq) : ∃ k, Chip.Hoists { c with freeCount := k } (c.decideRequest q).2 := by
  unfold Chip.decideRequest
  split
  · exact ⟨_, .ite (setNat_notes ..).hoists (.refl c)⟩
  · split
    · exact ⟨_, .refl c⟩
    · split
      · exact ⟨_, .refl c⟩
      · dsimp only
        split
        · exact ⟨_, .refl _⟩
        · exact ⟨_, .ite (admitApply_hoists ..) (.refl c)⟩

/-- A successful ADMIT admits every member of the request. -/
theorem decideRequest_admits {q : AdmitReq} (hop : q.op = 1) (h : (c.decideRequest q).1.code = 0) {i : Nat} (hlo : q.first ≤ i)
    (hhi : i < q.first + q.count) : i ∈ (c.decideRequest q).2.hoi.admitted := by
  have hmem : i ∈ reqRange q.first q.count :=
    List.mem_map.2 ⟨i - q.first, List.mem_range.2 (by omega), by omega⟩
  unfold Chip.decideRequest at h ⊢
  rw [hop, if_neg (by decide), if_neg (by decide)] at h ⊢
  split at h
  · simp at h
  · next hrange =>
    rw [if_neg hrange]
    dsimp only at h ⊢
    split at h
    · simp at h
    · next hm =>
      rw [if_neg hm]
      dsimp only at h ⊢
      rw [h, if_pos (by decide)]
      exact admitApply_admits c hmem

/-- A successful raise of the cap stores it. -/
theorem decideRequest_raises {q : AdmitReq} (hop : q.op = 4) (h : (c.decideRequest q).1.code = 0) :
    (c.decideRequest q).2 = c.setNat (hoiA 0x11C) q.cap := by
  unfold Chip.decideRequest at h ⊢
  rw [hop, if_pos rfl] at h ⊢
  dsimp only at h ⊢
  rw [h, if_pos rfl]

/-- The request is taken from the queue and its end shows in the partition's own status. -/
def Chip.decided (c : Chip) (q : AdmitReq) (v : Verdict) : Chip :=
  (c.withRequests []).setNat (admStatK q.p) (2 ^ 30 + v.code % 16 * 2 ^ 24 + v.culprit % 2 ^ 16)

/-- What the end of a request shows beside its status. -/
def doneBits (p k _j : Nat) : Prop :=
  k = viewKey p (hoiA 0x120) ∨ k = viewKey p (hoiA 0x124) ∨ k = hoiA PG_EVT_RAW ∨ k = hoiA PG_EVT_PEND

/-- The end of the last request: its effect, its status, its bound and wait, and the cause. -/
theorem admissionDone_last {q : AdmitReq} (h : c.hoi.requests = [q]) :
    let d := (c.decideRequest q).2.decided q (c.decideRequest q).1
    d.Notes c.admissionDone ∧ d.Alters (doneBits q.p) c.admissionDone ∧ c.admissionDone.bit (hoiA PG_EVT_RAW) 0 = true := by
  intro d
  have hlast : c.admissionDone =
      (((if q.op = 2 || (q.op = 4 && (c.decideRequest q).1.code = 0) then d
          else (d.setNat (viewKey q.p (hoiA 0x120)) (c.decideRequest q).1.bound).setNat (viewKey q.p (hoiA 0x124))
            (c.decideRequest q).1.wait).cause HOI 0 0).startRequest : Chip) := by
    rw [Chip.admissionDone, h]
    rfl
  generalize hf : (if q.op = 2 || (q.op = 4 && (c.decideRequest q).1.code = 0) then d
      else (d.setNat (viewKey q.p (hoiA 0x120)) (c.decideRequest q).1.bound).setNat (viewKey q.p (hoiA 0x124))
        (c.decideRequest q).1.wait) = f at hlast
  have hnotes : d.Notes f := hf ▸ .ite (.refl d) ((setNat_notes ..).trans (setNat_notes ..))
  have halters : d.Alters (doneBits q.p) f :=
    hf ▸ .ite (.refl _ d) ((setNat_alters _ _ _ fun _ => .inl rfl).trans (setNat_alters _ _ _ fun _ => .inr (.inl rfl)))
  have hempty : (f.cause HOI 0 0).hoi.requests = [] := by
    rw [(cause_notes ..).hoi, hnotes.hoi]
    exact congrArg Hoi.requests (setNat_notes ..).hoi
  have hend : c.admissionDone = f.cause HOI 0 0 := by
    rw [hlast, Chip.startRequest, hempty]
  rw [hend]
  exact ⟨hnotes.trans (cause_notes ..),
    halters.trans (cause_alters _ HOI 0 0 (.inr (.inr (.inl rfl))) (.inr (.inr (.inr rfl)))), cause_raises f HOI 0 0 (by decide)⟩

/-! ### The settings of admission (R127, R128, R130, R140) -/

theorem capWrite_lower (m : Nat) {d : Word} (h : d.toNat ≤ c.nat (hoiA 0x11C)) :
    (c.capWrite m d).word (hoiA 0x11C) = d ∧ c.Hoists (c.capWrite m d) := by
  rw [Chip.capWrite, if_pos h]
  constructor
  · rw [(reofferAll_reoffers _).alters.word, Chip.word_setWord_same]
    intro j
    simp only [offerBits, portBits, dK, elemKey, hoiA, portA, pageAddr, HOI]
    omega
  · exact (setWord_notes ..).hoists.trans (reofferAll_hoists _)

theorem beEntriesWrite_fits (m : Nat) {d : Word} (h : getBits d 0 15 ≤ 16384) (hfit : c.hoi.admitted.length ≤ 16384 - getBits d 0 15) :
    c.beEntriesWrite m d = c.setNat (hoiA 0x118) (getBits d 0 15) := by
  have h1 : ¬ getBits d 0 15 > 16384 := by omega
  have h2 : ¬ 16384 - getBits d 0 15 < c.hoi.admitted.length := by omega
  simp [Chip.beEntriesWrite, h1, h2]

theorem corePoolWrite_free {d : Word} (h : ∀ i ∈ c.hoi.admitted, c.kind i ≠ 1) :
    (c.corePoolWrite d).nat (hoiA 0x108) = d.toNat % 2 ^ 16 ∧ (c.corePoolWrite d).bit (hoiA 0x128) 2 = false ∧ c.Hoists (c.corePoolWrite d) := by
  have hfree : c.corePoolWrite d = ((c.setNat (hoiA 0x108) (d.toNat % 2 ^ 16)).setBit (hoiA 0x128) 2 false).reofferAll := by
    unfold Chip.corePoolWrite
    dsimp only
    rw [if_neg]
    simp only [Bool.not_eq_true, List.any_eq_false, Bool.and_eq_true, not_and]
    intro n _ _
    exact fun i hi hk => absurd (of_decide_eq_true hk) (h i hi)
  have hout {o : Nat} (ho : o < 4096) (j : Nat) : ¬ offerBits (hoiA o) j := by
    simp only [offerBits, portBits, dK, elemKey, hoiA, portA, pageAddr, HOI]
    omega
  have hoffers := reofferAll_reoffers ((c.setNat (hoiA 0x108) (d.toNat % 2 ^ 16)).setBit (hoiA 0x128) 2 false)
  rw [hfree]
  refine ⟨?_, ?_, ((setNat_notes ..).trans (setBit_notes ..)).hoists.trans hoffers.hoists⟩
  · rw [hoffers.alters.nat _ (hout (by decide)),
      (setBit_alters (S := fun k _ => k = hoiA 0x128) _ _ _ _ rfl).nat _ fun _ => by decide, Chip.nat_setNat_same]
    omega
  · rw [hoffers.alters.bit _ 2 (hout (by decide) 2), Chip.bit_setBit_same _ _ _ _ (by decide)]

theorem flowWrite_free (m : Nat) {n : Nat} (d : Word)
    (h : ∀ i ∈ c.hoi.admitted, c.bit (dK i 0) 19 = true → c.fld (dK i 0) 0 12 ≠ n) :
    c.flowWrite m n d = c.setWord (flowK n) ((c.word (flowK n) &&& 0x1F00#32) ||| (d &&& 0x8000_00F0#32)) := by
  rw [Chip.flowWrite, if_neg]
  simp only [List.any_eq_true, Bool.and_eq_true, beq_iff_eq, not_exists, not_and]
  exact fun i hi hb hn => h i hi hb hn

/-! ### The commands -/

theorem exec_admitTasks (s : State) (m first : Nat) :
    exec (.admitTasks m first) s = s.put m (hoiA 0x100) (BitVec.ofNat 32 (1 * 2 ^ 30 + first % 65536)) := rfl
theorem exec_retire (s : State) (m first : Nat) :
    exec (.retire m first) s = s.put m (hoiA 0x100) (BitVec.ofNat 32 (2 * 2 ^ 30 + first % 65536)) := rfl
theorem exec_query (s : State) (m first : Nat) :
    exec (.query m first) s = s.put m (hoiA 0x100) (BitVec.ofNat 32 (3 * 2 ^ 30 + first % 65536)) := rfl
theorem exec_admissionDone (s : State) : exec .admissionDone s = s.eventOut HOI 0 fun c => c.admissionDone := rfl
theorem exec_beMaxCostWrite (s : State) (m : Nat) (d : Word) : exec (.beMaxCostWrite m d) s = s.put m (hoiA 0x11C) d := rfl
theorem exec_beEntriesWrite (s : State) (m : Nat) (d : Word) : exec (.beEntriesWrite m d) s = s.put m (hoiA 0x118) d := rfl
theorem exec_corePoolWrite (s : State) (m : Nat) (d : Word) : exec (.corePoolWrite m d) s = s.put m (hoiA 0x108) d := rfl
theorem exec_flowCfgWrite (s : State) (m n : Nat) (d : Word) : exec (.flowCfgWrite m n d) s = s.put m (flowK n) d := rfl

theorem afterKey_hoi (c : Chip) (m a : Nat) (key : Bool) : (c.afterKey m a key).hoi = c.hoi := by
  unfold Chip.afterKey
  split <;> rfl

section
variable (s : State) (m : Nat) (hs : s.settled = true)
include hs

/-- A request that is written to HOI_ADMIT_REQ. -/
theorem request_put {first : Nat} (hf : first < 65536) {op : Nat} (hop : op < 4) {j : Instr}
    (hj : exec j s = s.put m (hoiA 0x100) (BitVec.ofNat 32 (op * 2 ^ 30 + first % 65536)))
    (h : s.chip.takes m (hoiA 0x100) false = true) {n : Chip} (hn : s.chip.request m op first 0 (hoiA 0x100) = n)
    (hq : n.outQ = s.chip.outQ) : Answers (exec j s) fun t => n.Shows t.chip ∧ t.chip.resp.status = .done := by
  obtain ⟨h0, -⟩ := settled_queues hs
  obtain ⟨hreq, -⟩ := hoiWrite_control s.chip m (BitVec.ofNat 32 (op * 2 ^ 30 + first % 65536))
  have hop' : getBits (BitVec.ofNat 32 (op * 2 ^ 30 + first % 65536)) 30 2 = op := by
    simp only [getBits, BitVec.toNat_ofNat, Nat.shiftRight_eq_div_pow]
    omega
  have hfirst : getBits (BitVec.ofNat 32 (op * 2 ^ 30 + first % 65536)) 0 16 = first := by
    simp only [getBits, BitVec.toNat_ofNat, Nat.shiftRight_eq_div_pow]
    omega
  refine put_hoi (p := 0) (o := 0x100) (by decide) (by decide) s m _ false hj h (by decide) hs (n := n) ?_ (hq.trans h0)
  rw [afterKey_false, ← hoiA, hreq, Chip.admitReqWrite, hop', hfirst, hn]

/-- One that only joins the queue. -/
theorem request_joins_answers {first : Nat} (hf : first < 65536) {op : Nat} (hop : op < 4) {j : Instr}
    (hj : exec j s = s.put m (hoiA 0x100) (BitVec.ofNat 32 (op * 2 ^ 30 + first % 65536)))
    (h : s.chip.takes m (hoiA 0x100) false = true) (hb : s.chip.bit (admStatK m) 31 = false) (hjoin : op ≠ 2 ∨ s.chip.hoi.requests ≠ []) :
    Answers (exec j s) fun t =>
      t.chip.nat (admStatK m) = 2 ^ 31 ∧ t.chip.resp.status = .done ∧
      t.chip.hoi.requests = s.chip.hoi.requests ++ [{ p := m, op := op, first := first, count := s.chip.fld (viewKey m (hoiA 0x104)) 0 17 }] := by
  obtain ⟨t, htt, hsh, hresp⟩ := request_put s m hs hf hop hj h (request_joins hb hjoin) (enqueued_hoists ..).outQ
  refine ⟨t, htt, ?_, hresp, ?_⟩
  · rw [hsh.nat, nat_of_words (enqueued_words ..), Chip.nat_setNat_same _ _ _ (by decide)]
  · rw [hsh.hoi, enqueued_hoi]
    rfl

theorem retire_answers {first : Nat} (hf : first < 65536) (h : s.chip.takes m (hoiA 0x100) false = true)
    (hb : s.chip.bit (admStatK m) 31 = false) (hreq : s.chip.hoi.requests = []) (hone : s.chip.fld (viewKey m (hoiA 0x104)) 0 17 = 1)
    (hv : s.chip.bit (dK first 0) 31 = true) (ho : s.chip.descOwner first = m) (hadm : s.chip.hoi.admitted.contains first = true)
    (hp : (s.chip.inst first).phase = .idle) (hfl : (s.chip.inst first).flow = none) :
    Answers (exec (.retire m first) s) fun t =>
      t.chip.hoi.admitted = s.chip.hoi.admitted.filter (· != first) ∧ t.chip.nat (dK first 11) = 0 := by
  have hhoi := enqueued_hoi s.chip m 2 first
  have hinst : (s.chip.enqueued m 2 first).inst first = s.chip.inst first := by rw [Chip.inst, hhoi, Chip.inst]
  obtain ⟨hadm', hbound, hout⟩ := retireOne_idle (c := s.chip.enqueued m 2 first) (i := first) (by rw [hhoi]; exact hadm)
    (by rw [hinst, hp]) (by rw [hinst, hfl])
  obtain ⟨t, htt, hsh, -⟩ := request_put s m hs hf (by decide) (exec_retire s m first) h (request_retires hb hreq hone hf hv ho)
    ((enqueued_hoists ..).trans hout).outQ
  exact ⟨t, htt, by rw [hsh.hoi, hadm', hhoi], by rw [hsh.nat, hbound]⟩

theorem admissionDone_answers {q : AdmitReq} (ha : s.chip.acts HOI 0 = true) (hreq : s.chip.hoi.requests = [q]) :
    Answers (exec .admissionDone s) fun t =>
      let v := (s.chip.decideRequest q).1
      t.chip.hoi.requests = [] ∧ t.chip.nat (admStatK q.p) = 2 ^ 30 + v.code % 16 * 2 ^ 24 + v.culprit % 2 ^ 16 ∧
      t.chip.bit (hoiA PG_EVT_RAW) 0 = true ∧
      (q.op = 1 → v.code = 0 → ∀ i, q.first ≤ i → i < q.first + q.count → i ∈ t.chip.hoi.admitted) ∧
      (q.op = 4 → v.code = 0 → q.cap < 2 ^ 32 → t.chip.nat (hoiA 0x11C) = q.cap) := by
  obtain ⟨h0, -⟩ := settled_queues hs
  obtain ⟨hnotes, halters, hraw⟩ := admissionDone_last hreq
  obtain ⟨k, hdec⟩ := decideRequest_hoists s.chip q
  have hout : (s.chip.decideRequest q).2.outQ = s.chip.outQ := hdec.outQ
  generalize hv : (s.chip.decideRequest q).1 = v at *
  have hstat := setNat_alters (S := fun k _ => k = admStatK q.p)
    ((s.chip.decideRequest q).2.withRequests []) (admStatK q.p)
    (2 ^ 30 + v.code % 16 * 2 ^ 24 + v.culprit % 2 ^ 16) fun _ => rfl
  have hhoi : ((s.chip.decideRequest q).2.decided q v).hoi = { (s.chip.decideRequest q).2.hoi with requests := [] } := (setNat_notes ..).hoi
  obtain ⟨t, htt, hsh⟩ := eventOut_shows s (exec_admissionDone s) ha hs
    (by rw [hnotes.outQ]; exact (setNat_notes ..).outQ.trans (hout.trans h0))
  refine ⟨t, htt, ?_, ?_, ?_, fun hop hc i hlo hhi => ?_, fun hop hc hcap => ?_⟩
  · rw [hsh.hoi, hnotes.hoi, hhoi]
  · rw [hsh.nat, halters.nat, Chip.decided, Chip.nat_setNat_same]
    · omega
    · intro j
      simp only [doneBits, admStatK, viewKey, hoiA, pageAddr, HOI, PG_EVT_RAW, PG_EVT_PEND]
      omega
  · rw [hsh.bit, hraw]
  · rw [hsh.hoi, hnotes.hoi, hhoi]
    exact decideRequest_admits hop (by rw [hv, hc]) hlo hhi
  · have hcode : (s.chip.decideRequest q).1.code = 0 := by rw [hv, hc]
    rw [hsh.nat, halters.nat, Chip.decided, hstat.nat, decideRequest_raises hop hcode]
    · exact Chip.nat_setNat_same _ _ _ hcap
    · intro j
      simp only [admStatK, viewKey, hoiA, pageAddr, HOI]
      omega
    · intro j
      simp only [doneBits, viewKey, hoiA, pageAddr, HOI, PG_EVT_RAW, PG_EVT_PEND]
      omega

/-- A keyed write to a register of Hoist's control page that stays within Hoist. -/
theorem control_put {o : Nat} (hlo : 0x034 ≤ o) (ho : o < 0x200) {d : Word} {j : Instr} (hj : exec j s = s.put m (hoiA o) d)
    (h : s.chip.takes m (hoiA o) true = true) {n : Chip} (hn : (s.chip.afterKey m (hoiA o) true).hoiWrite m (hoiA o) [d] true = n)
    (hh : (s.chip.afterKey m (hoiA o) true).Hoists n) : Answers (exec j s) fun t => n.Shows t.chip := by
  obtain ⟨h0, -⟩ := settled_queues hs
  obtain ⟨t, htt, hsh, -⟩ := put_hoi (p := 0) (by decide) ho s m d true hj h hlo hs hn (by rw [hh.outQ, afterKey_outQ, h0])
  exact ⟨t, htt, hsh⟩

theorem flowCfgWrite_answers {n : Nat} (d : Word) (hn : n < 4096) (h : s.chip.takes m (flowK n) false = true)
    (hfree : ∀ i ∈ s.chip.hoi.admitted, s.chip.bit (dK i 0) 19 = true → s.chip.fld (dK i 0) 0 12 ≠ n) :
    Answers (exec (.flowCfgWrite m n d) s) fun t =>
      t.chip.word (flowK n) = ((s.chip.word (flowK n) &&& 0x1F00#32) ||| (d &&& 0x8000_00F0#32)) := by
  obtain ⟨h0, -⟩ := settled_queues hs
  have htw : isTw (flowK n) = true := isTw_twAddr _ _ (by omega)
  have hblock : blockOf (flowK n) = HOI := blockOf_twAddr _ _ (by decide) (by omega)
  have hof : twOf (flowK n) = 4 * n := twOf_twAddr _ _ (by omega)
  have hdiv : 4 * n / 4 = n := by omega
  have hwrite : s.chip.twWrite (s.meets {}) m (flowK n) [d] = s.chip.flowWrite m n d := by
    simp [Chip.twWrite, hblock, HOI, hof, hdiv, show 4 * n < 16384 by omega]
  obtain ⟨t, htt, hsh, -⟩ := put_shows s m (flowK n) d false (exec_flowCfgWrite s m n d) h (.inr (.inl htw)) hs
    (n := s.chip.setWord (flowK n) ((s.chip.word (flowK n) &&& 0x1F00#32) ||| (d &&& 0x8000_00F0#32)))
    (by rw [afterKey_false, applyWrite_tw _ _ _ _ _ htw, hwrite, flowWrite_free m d hfree]) h0
  exact ⟨t, htt, (hsh.word _).trans (Chip.word_setWord_same ..)⟩

end

/-- Settles O27: a request joins the queue, and a first RETIRE retires at once; the last request's end is its test's; each setting is
written where its own check lets it. -/
theorem hoistAdmission : Obligations.HoistAdmission := by
  unfold Obligations.HoistAdmission
  intro s m hs
  refine ⟨fun first hf h hb => ⟨?_, ?_, fun hne => ?_⟩, fun first hf h hb hreq hone hv ho hadm hp hfl => ?_, fun q ha hreq _ => ?_,
    fun d h hle => ?_, fun d h hle hfit => ?_, fun d h hfree => ?_, fun n d hn h hfree => ?_⟩
  · exact request_joins_answers s m hs hf (by decide) (exec_admitTasks s m first) h hb (.inl (by decide))
  · exact request_joins_answers s m hs hf (by decide) (exec_query s m first) h hb (.inl (by decide))
  · exact request_joins_answers s m hs hf (by decide) (exec_retire s m first) h hb (.inr hne)
  · exact retire_answers s m hs hf h hb hreq hone hv ho hadm hp hfl
  · exact admissionDone_answers s hs ha hreq
  · obtain ⟨-, -, -, -, hw⟩ := hoiWrite_control (s.chip.afterKey m (hoiA 0x11C) true) m d
    obtain ⟨hcap, hh⟩ := capWrite_lower (c := s.chip.afterKey m (hoiA 0x11C) true) m (d := d) (by rwa [Chip.nat, afterKey_word])
    obtain ⟨t, htt, hsh⟩ := control_put s m hs (by decide) (by decide) (exec_beMaxCostWrite s m d) h hw hh
    exact ⟨t, htt, (hsh.word _).trans hcap⟩
  · obtain ⟨-, -, -, hw, -⟩ := hoiWrite_control (s.chip.afterKey m (hoiA 0x118) true) m d
    have hset := beEntriesWrite_fits (c := s.chip.afterKey m (hoiA 0x118) true) m hle (by rw [afterKey_hoi]; exact hfit)
    obtain ⟨t, htt, hsh⟩ := control_put s m hs (by decide) (by decide) (exec_beEntriesWrite s m d) h (hw.trans hset) (setNat_notes ..).hoists
    exact ⟨t, htt, (hsh.nat _).trans (Chip.nat_setNat_same _ _ _ (by omega))⟩
  · obtain ⟨-, -, hw, -⟩ := hoiWrite_control (s.chip.afterKey m (hoiA 0x108) true) m d
    obtain ⟨hpool, hbit, hh⟩ := corePoolWrite_free (c := s.chip.afterKey m (hoiA 0x108) true) (d := d) (by
      simpa only [afterKey_hoi, Chip.kind, Chip.fld, afterKey_word] using hfree)
    obtain ⟨t, htt, hsh⟩ := control_put s m hs (by decide) (by decide) (exec_corePoolWrite s m d) h hw hh
    exact ⟨t, htt, by rw [hsh.nat, hpool], by rw [hsh.bit, hbit]⟩
  · exact flowCfgWrite_answers s m hs d hn h hfree

end Sys2Proof.Machine
end

section
/-! PROOFS. Tracks: how the next step is shown, and the commands of the owner (R149, R152, R153). -/

namespace Sys2Proof.Machine

variable {c c' : Chip}

/-! ### Values of 64 bits -/

theorem u64_setU64 (c : Chip) (k v : Nat) : (c.setU64 k v).u64 k = v % 2 ^ 64 := by
  have hlo : (c.setU64 k v).word k = BitVec.ofNat 32 v :=
    (Chip.word_setWord_ne _ _ (by omega)).trans (Chip.word_setWord_same ..)
  have hhi : (c.setU64 k v).word (k + 4) = BitVec.ofNat 32 (v / 2 ^ 32) := Chip.word_setWord_same ..
  simp only [Chip.u64, Chip.wide, hlo, hhi, BitVec.toNat_ofNat]
  omega

theorem Chip.Alters.u64 {S : Nat → Nat → Prop} (h : c.Alters S c') (k : Nat) (hk : ∀ j, ¬ S k j) (hk' : ∀ j, ¬ S (k + 4) j) :
    c'.u64 k = c.u64 k := by
  simp only [Chip.u64, Chip.wide, h.word k hk, h.word (k + 4) hk']

theorem setU64_notes (c : Chip) (k v : Nat) : c.Notes (c.setU64 k v) := (setWord_notes ..).trans (setWord_notes ..)

/-! ### The next step shown (R153) -/

/-- The register NEXT_AT. -/
def nextAtBits (t k _j : Nat) : Prop := k = trkA t 0x118 ∨ k = trkA t 0x118 + 4

theorem showNextAt_alters (c : Chip) (t : Nat) : c.Alters (nextAtBits t) (c.showNextAt t) :=
  setU64_alters c _ _ (fun _ => .inl rfl) fun _ => .inr rfl

theorem showNextAt_notes (c : Chip) (t : Nat) : c.Notes (c.showNextAt t) := setU64_notes ..

theorem setTrack_alters (S : Nat → Nat → Prop) (c : Chip) (t : Nat) (x : Track) : c.Alters S (c.setTrack t x) := .of_words rfl rfl rfl

theorem showStep_alters (c : Chip) (t : Nat) : c.Alters (nextAtBits t) (c.showStep t) :=
  (showNextAt_alters c t).trans (setTrack_alters ..)

theorem showStep_hoists (c : Chip) (t : Nat) : c.Hoists (c.showStep t) := (showNextAt_notes c t).hoists.trans (setTrack_hoists ..)

theorem showStep_track (c : Chip) (t : Nat) : (c.showStep t).track t = { c.track t with since := c.nowNs } := track_setTrack_same ..

theorem not_nextAtBits {t o j : Nat} (h : o < 0x118 ∨ 0x120 ≤ o) : ¬ nextAtBits t (trkA t o) j := by
  simp only [nextAtBits, trkA, pageAddr]
  omega

/-- STATE and POS stand when the next step is shown. -/
theorem showStep_stat (c : Chip) (t : Nat) : (c.showStep t).trkState t = c.trkState t ∧ (c.showStep t).trkPos t = c.trkPos t := by
  have hout (j : Nat) : ¬ nextAtBits t (trkA t 0x114) j := not_nextAtBits (.inl (by decide))
  exact ⟨(showStep_alters c t).fld _ _ _ fun j _ _ => hout j, (showStep_alters c t).fld _ _ _ fun j _ _ => hout j⟩

/-- POS and STATE are fields of one word. -/
theorem setPos_stat (c : Chip) (t i : Nat) :
    (c.setFld (trkA t 0x114) 0 16 i).trkState t = c.trkState t ∧ (c.setFld (trkA t 0x114) 0 16 i).trkPos t = i % 2 ^ 16 :=
  ⟨(setFld_alters (S := fun _ j => j < 16) c _ 0 16 i fun _ _ hj => hj).fld _ _ _ fun _ _ _ => by omega,
    Chip.fld_setFld_same _ _ _ _ _ (by decide)⟩

theorem setTrkState_stat (c : Chip) (t v : Nat) :
    (c.setTrkState t v).trkState t = v % 2 ^ 4 ∧ (c.setTrkState t v).trkPos t = c.trkPos t :=
  ⟨Chip.fld_setFld_same _ _ _ _ _ (by decide),
    (setFld_alters (S := fun _ j => 28 ≤ j) c _ 28 4 v fun _ hj _ => hj).fld _ _ _ fun _ _ _ => by omega⟩

theorem nextStep_stat (c : Chip) (t i : Nat) : (c.nextStep t i).trkState t = c.trkState t ∧ (c.nextStep t i).trkPos t = i % 2 ^ 16 := by
  obtain ⟨hst, hpos⟩ := showStep_stat (c.setFld (trkA t 0x114) 0 16 i) t
  obtain ⟨hst', hpos'⟩ := setPos_stat c t i
  exact ⟨hst.trans hst', hpos.trans hpos'⟩

theorem nextStep_track (c : Chip) (t i : Nat) : (c.nextStep t i).track t = { c.track t with since := c.nowNs } :=
  showStep_track (c.setFld (trkA t 0x114) 0 16 i) t

theorem nextStep_hoists (c : Chip) (t i : Nat) : c.Hoists (c.nextStep t i) := (setFld_notes ..).hoists.trans (showStep_hoists ..)

/-! ### The commands (R152, R153) -/

/-- CMD_IGNORED is clear. -/
def Chip.heard (c : Chip) (t : Nat) : Chip := c.setBit (trkA t 0x114) 27 false

theorem heard_alters (c : Chip) (t : Nat) : c.Alters (fun k _ => k = trkA t 0x114) (c.heard t) := setBit_alters c _ 27 false rfl

theorem heard_hoists (c : Chip) (t : Nat) : c.Hoists (c.heard t) := (setBit_notes ..).hoists

theorem trkCommand_arm {t : Nat} (h : c.trkTakes t 1 = true) :
    c.trkCommand t 1 = (((c.heard t).setTrack t {}).setNat (trkA t 0x114) (2 ^ 28)).nextStep t ((c.heard t).fld (trkA t 0x110) 0 16) := by
  have hcmd : getBits (1 : Word) 0 3 = 1 := by decide
  simp only [Chip.trkCommand, hcmd, h, Bool.not_true, Bool.false_eq_true, if_false]
  rfl

theorem trkCommand_pause {t : Nat} (h : c.trkTakes t 2 = true) :
    c.trkCommand t 2 = ((c.heard t).setTrkState t 4).setTrack t { c.track t with pausedAt := c.nowNs } := by
  have hcmd : getBits (2 : Word) 0 3 = 2 := by decide
  simp only [Chip.trkCommand, hcmd, h, Bool.not_true, Bool.false_eq_true, if_false]
  rfl

/-- RESUME and CONTINUE advance START by the time that passed since `at0`. -/
def Chip.goesOn (c : Chip) (t at0 : Nat) : Chip :=
  (((c.heard t).trkAdvance t (ceilUs (c.nowNs - at0))).setTrkState t 2).showStep t

theorem trkCommand_resume {t : Nat} (h : c.trkTakes t 3 = true) : c.trkCommand t 3 = c.goesOn t (c.track t).pausedAt := by
  have hcmd : getBits (3 : Word) 0 3 = 3 := by decide
  simp only [Chip.trkCommand, hcmd, h, Bool.not_true, Bool.false_eq_true, if_false]
  rfl

theorem trkCommand_abort {t : Nat} (h : c.trkTakes t 4 = true) : c.trkCommand t 4 = ((c.heard t).setTrkState t 0).setTrack t {} := by
  have hcmd : getBits (4 : Word) 0 3 = 4 := by decide
  simp only [Chip.trkCommand, hcmd, h, Bool.not_true, Bool.false_eq_true, if_false]
  rfl

theorem trkCommand_continue {t : Nat} (h : c.trkTakes t 5 = true) : c.trkCommand t 5 = c.goesOn t (c.track t).waitAt := by
  have hcmd : getBits (5 : Word) 0 3 = 5 := by decide
  simp only [Chip.trkCommand, hcmd, h, Bool.not_true, Bool.false_eq_true, if_false]
  rfl

/-- An armed track stands before its first step, with nothing prefetched. -/
theorem arm_shows {t : Nat} (h : c.trkTakes t 1 = true) :
    (c.trkCommand t 1).trkState t = 1 ∧ (c.trkCommand t 1).trkPos t = c.fld (trkA t 0x110) 0 16 ∧
      ((c.trkCommand t 1).track t).buf = [] ∧ c.Hoists (c.trkCommand t 1) := by
  have hfirst : (c.heard t).fld (trkA t 0x110) 0 16 = c.fld (trkA t 0x110) 0 16 := (heard_alters c t).fld _ _ _ fun _ _ _ => by
    simp only [trkA, pageAddr]
    omega
  have hlt := fld_lt c (trkA t 0x110) 0 16
  rw [trkCommand_arm h, hfirst]
  obtain ⟨hst, hpos⟩ := nextStep_stat (((c.heard t).setTrack t {}).setNat (trkA t 0x114) (2 ^ 28)) t (c.fld (trkA t 0x110) 0 16)
  have hstate : (((c.heard t).setTrack t {}).setNat (trkA t 0x114) (2 ^ 28)).trkState t = 1 := by
    rw [Chip.trkState, Chip.fld, Chip.setNat, Chip.word_setWord_same]
    decide
  refine ⟨hst.trans hstate, by rw [hpos, Nat.mod_eq_of_lt hlt], ?_, ?_⟩
  · rw [nextStep_track, track_of_hoi (setNat_notes ..).hoi, track_setTrack_same]
  · exact (((heard_hoists c t).trans (setTrack_hoists ..)).trans (setNat_notes ..).hoists).trans (nextStep_hoists ..)

theorem goesOn_shows (c : Chip) (t at0 : Nat) :
    (c.goesOn t at0).trkState t = 2 ∧
      (c.goesOn t at0).u64 (trkA t 0x108) = (c.u64 (trkA t 0x108) + ceilUs (c.nowNs - at0)) % 2 ^ 64 ∧ c.Hoists (c.goesOn t at0) := by
  have hstart : (c.heard t).trkStart t = c.u64 (trkA t 0x108) := (heard_alters c t).u64 _
    (fun _ => by simp only [trkA, pageAddr]; omega) (fun _ => by simp only [trkA, pageAddr]; omega)
  have hset := setFld_alters (S := fun k _ => k = trkA t 0x114) ((c.heard t).trkAdvance t (ceilUs (c.nowNs - at0))) (trkA t 0x114) 28 4 2
    fun _ _ _ => rfl
  refine ⟨(showStep_stat _ t).1.trans (setTrkState_stat _ t 2).1, ?_, ?_⟩
  · refine ((showStep_alters _ t).u64 _ (fun _ => ?_) fun _ => ?_).trans
      ((hset.u64 _ (fun _ => ?_) fun _ => ?_).trans ((u64_setU64 ..).trans (by rw [hstart])))
    · exact not_nextAtBits (.inl (by decide))
    · exact not_nextAtBits (o := 0x108 + 4) (.inl (by decide))
    · simp only [trkA, pageAddr]
      omega
    · simp only [trkA, pageAddr]
      omega
  · exact (((heard_hoists c t).trans (setU64_notes ..).hoists).trans (setFld_notes ..).hoists).trans (showStep_hoists ..)

/-! ### The commands of the host -/

theorem exec_trackArm (s : State) (m t : Nat) : exec (.trackArm m t) s = s.put m (trkA t 0x104) 1 := rfl
theorem exec_trackPause (s : State) (m t : Nat) : exec (.trackPause m t) s = s.put m (trkA t 0x104) 2 := rfl
theorem exec_trackResume (s : State) (m t : Nat) : exec (.trackResume m t) s = s.put m (trkA t 0x104) 3 := rfl
theorem exec_trackAbort (s : State) (m t : Nat) : exec (.trackAbort m t) s = s.put m (trkA t 0x104) 4 := rfl
theorem exec_trackContinue (s : State) (m t : Nat) : exec (.trackContinue m t) s = s.put m (trkA t 0x104) 5 := rfl

/-- A write of HOI_TRK_CMD is the track's command. -/
theorem trkCommand_put (s : State) (m : Nat) {t : Nat} (ht : t < 64) (hs : s.settled = true) (h : s.chip.takes m (trkA t 0x104) false = true)
    {d : Word} {j : Instr} (hj : exec j s = s.put m (trkA t 0x104) d) {n : Chip} (hn : s.chip.trkCommand t d = n) (hh : s.chip.Hoists n) :
    Answers (exec j s) fun u => n.Shows u.chip ∧ u.chip.resp.status = .done := by
  obtain ⟨h0, -⟩ := settled_queues hs
  have hw := hoiWrite_track s.chip m d false ht
  refine put_hoi (p := 16 + t) (by omega) (by decide) s m d false hj h (by decide) hs ?_ (hh.outQ.trans h0)
  rw [afterKey_false, ← trkA, hw, hn]

/-- Settles O28: each command by what it makes of STATE, POS, START and what the track holds. -/
theorem trackCommands : Obligations.TrackCommands := by
  unfold Obligations.TrackCommands
  intro s m t ht hs h
  have hheard := heard_hoists s.chip t
  refine ⟨fun htk => ?_, fun htk => ?_, fun htk => ?_, fun htk => ?_, fun htk => ?_⟩
  · obtain ⟨hst, hpos, hbuf, hh⟩ := arm_shows htk
    obtain ⟨u, hu, hsh, hresp⟩ := trkCommand_put s m ht hs h (exec_trackArm s m t) rfl hh
    exact ⟨u, hu, (hsh.fld ..).trans hst, (hsh.fld ..).trans hpos, by rw [hsh.track, hbuf], hresp⟩
  · obtain ⟨u, hu, hsh, -⟩ := trkCommand_put s m ht hs h (exec_trackPause s m t) (trkCommand_pause htk)
      ((hheard.trans (setFld_notes ..).hoists).trans (setTrack_hoists ..))
    exact ⟨u, hu, (hsh.fld ..).trans (setTrkState_stat (s.chip.heard t) t 4).1, by rw [hsh.track, track_setTrack_same]⟩
  · obtain ⟨hst, hstart, hh⟩ := goesOn_shows s.chip t (s.chip.track t).pausedAt
    obtain ⟨u, hu, hsh, -⟩ := trkCommand_put s m ht hs h (exec_trackResume s m t) (trkCommand_resume htk) hh
    exact ⟨u, hu, (hsh.fld ..).trans hst, (hsh.u64 _).trans hstart⟩
  · obtain ⟨u, hu, hsh, -⟩ := trkCommand_put s m ht hs h (exec_trackAbort s m t) (trkCommand_abort htk)
      ((hheard.trans (setFld_notes ..).hoists).trans (setTrack_hoists ..))
    exact ⟨u, hu, (hsh.fld ..).trans (setTrkState_stat (s.chip.heard t) t 0).1, by rw [hsh.track, track_setTrack_same]⟩
  · obtain ⟨hst, hstart, hh⟩ := goesOn_shows s.chip t (s.chip.track t).waitAt
    obtain ⟨u, hu, hsh, -⟩ := trkCommand_put s m ht hs h (exec_trackContinue s m t) (trkCommand_continue htk) hh
    exact ⟨u, hu, (hsh.fld ..).trans hst, (hsh.u64 _).trans hstart⟩

end Sys2Proof.Machine
end

section
/-! PROOFS. Steps of a track: the prefetch, a due step without actions by its OP, and the limit of a wait (R149, R150, R152). -/

namespace Sys2Proof.Machine

variable {c c' : Chip} {t : Nat} {p : Prefetched}

/-! ### The prefetch (R150) -/

/-- A prefetch that is in time joins the buffer. -/
theorem prefetch_joins {i : Nat} (ht : t < 64) (h1 : 1 ≤ c.trkState t) (h4 : c.trkState t ≤ 4) (hb : (c.track t).buf.length < 16)
    (hlate : c.trkState t ≤ 2 → i = c.trkPos t → c.stepLate t (c.stepWords t i) = true ∨ c.nowNs ≤ c.stepInstant t (c.stepWords t i))
    (hi : i < 65536) (hf : c.nextFetch t = i) (hr : c.running = true) (rr : Nat) :
    ∃ x : Prefetched, x.idx = i ∧ ((c.prefetch t i rr).track t).buf = (c.track t).buf ++ [x] := by
  have hintime : ¬ (decide (i = c.trkPos t) && !c.stepLate t (c.stepWords t i) && decide (c.trkState t ≤ 2) &&
      decide (c.stepInstant t (c.stepWords t i) < c.nowNs)) = true := by
    simp only [Bool.and_eq_true, decide_eq_true_eq, Bool.not_eq_true']
    rintro ⟨⟨⟨hpos, hl⟩, hst⟩, hpast⟩
    rcases hlate hst hpos with h | h
    · rw [hl] at h
      cases h
    · omega
  have htakes : ¬ (decide (t ≥ 64) || !(decide (1 ≤ c.trkState t) && decide (c.trkState t ≤ 4)) || decide ((c.track t).buf.length ≥ 16) ||
      decide (i ≥ 65536) || i != c.nextFetch t || !c.running) = true := by
    simp [ht, h1, h4, hb, hi, hf, hr]
  unfold Chip.prefetch
  dsimp only
  rw [if_neg htakes, if_neg hintime, track_of_hoi (showNextAt_notes ..).hoi, track_setTrack_same]
  exact ⟨_, rfl, rfl⟩

/-! ### A due step (R152) -/

/-- What a step that is due shows of itself: STATE, LATE, STEP_CNT, the causes, and the pending bits they raise. -/
def stepBits (t k j : Nat) : Prop :=
  (k = trkA t 0x114 ∧ 28 ≤ j) ∨ k = trkA t 0x034 ∨ k = trkA t 0x038 ∨ k = trkA t PG_EVT_RAW ∨ k = trkA t PG_EVT_PEND

theorem trkCause_alters (c : Chip) (t i : Nat) : c.Alters (stepBits t) (c.cause HOI (16 + t) i) :=
  cause_alters c HOI (16 + t) i (.inr (.inr (.inr (.inl rfl)))) (.inr (.inr (.inr (.inr rfl))))

theorem setTrkState_notes (c : Chip) (t v : Nat) : c.Notes (c.setTrkState t v) := setFld_notes ..

/-- A cause leaves STATE and POS. -/
theorem trkCause_stat (c : Chip) (t i : Nat) :
    (c.cause HOI (16 + t) i).trkState t = c.trkState t ∧ (c.cause HOI (16 + t) i).trkPos t = c.trkPos t := by
  have hword : (c.cause HOI (16 + t) i).word (trkA t 0x114) = c.word (trkA t 0x114) :=
    (cause_alters (S := fun k _ => k = trkA t PG_EVT_RAW ∨ k = trkA t PG_EVT_PEND) c HOI (16 + t) i (.inl rfl) (.inr rfl)).word _ fun _ => by
      simp only [trkA, pageAddr, PG_EVT_RAW, PG_EVT_PEND]
      omega
  exact ⟨by rw [Chip.trkState, Chip.fld, hword]; rfl, by rw [Chip.trkPos, Chip.fld, hword]; rfl⟩

theorem trkCount_stat (c : Chip) (t : Nat) {o : Nat} (h : o < 0x114) : (c.count (trkA t o)).trkState t = c.trkState t := by
  have hword : (c.count (trkA t o)).word (trkA t 0x114) = c.word (trkA t 0x114) :=
    (count_alters (S := fun k _ => k = trkA t o) c _ 1 fun _ => rfl).word _ fun _ => by
      simp only [trkA, pageAddr]
      omega
  rw [Chip.trkState, Chip.fld, hword]
  rfl

/-- The step has run its actions, of which it has none, and has left the buffer. -/
def Chip.stepDone (c : Chip) (t : Nat) (p : Prefetched) : Chip :=
  (((c.stepBegin t p).count (trkA t 0x038)).cause HOI (16 + t) 0).setTrack t
    { c.track t with buf := (c.track t).buf.drop 1, last := some (stepAt p.data) }

theorem stepBegin_notes (c : Chip) (t : Nat) (p : Prefetched) : c.Notes (c.stepBegin t p) :=
  (setTrkState_notes c t 2).trans (.ite ((count_notes ..).trans (cause_notes ..)) (.refl _))

theorem stepBegin_alters (c : Chip) (t : Nat) (p : Prefetched) : c.Alters (stepBits t) (c.stepBegin t p) :=
  (setFld_alters c (trkA t 0x114) 28 4 2 fun _ h _ => .inl ⟨rfl, h⟩).trans
    (.ite ((count_alters _ _ 1 fun _ => .inr (.inl rfl)).trans (trkCause_alters ..)) (.refl _ _))

theorem stepBegin_state (c : Chip) (t : Nat) (p : Prefetched) : (c.stepBegin t p).trkState t = 2 := by
  have hset := (setTrkState_stat c t 2).1
  unfold Chip.stepBegin
  dsimp only
  split
  · exact ((trkCause_stat ..).1.trans (trkCount_stat _ _ (by decide))).trans hset
  · exact hset

theorem stepDone_hoists (c : Chip) (t : Nat) (p : Prefetched) : c.Hoists (c.stepDone t p) :=
  (((stepBegin_notes c t p).trans (count_notes ..)).trans (cause_notes ..)).hoists.trans (setTrack_hoists ..)

theorem stepDone_alters (c : Chip) (t : Nat) (p : Prefetched) : c.Alters (stepBits t) (c.stepDone t p) :=
  (((stepBegin_alters c t p).trans (count_alters _ _ 1 fun _ => .inr (.inr (.inl rfl)))).trans (trkCause_alters ..)).trans (setTrack_alters ..)

/-- STATE before the track leaves the step. -/
theorem stepDone_state (c : Chip) (t : Nat) (p : Prefetched) : (c.stepDone t p).trkState t = 2 :=
  ((trkCause_stat ..).1.trans (trkCount_stat _ _ (by decide))).trans (stepBegin_state c t p)

theorem stepDone_track (c : Chip) (t : Nat) (p : Prefetched) :
    (c.stepDone t p).track t = { c.track t with buf := (c.track t).buf.drop 1, last := some (stepAt p.data) } := track_setTrack_same ..

/-- The instant is the same after the step. -/
theorem stepDone_now (c : Chip) (t : Nat) (p : Prefetched) : (c.stepDone t p).now = c.now :=
  now_congr (stepDone_hoists c t p).tim ((stepDone_alters c t p).word _ fun _ => by
    simp only [stepBits, aTimStat, trkA, pageAddr, TIM, HOI, PG_EVT_RAW, PG_EVT_PEND]
    omega)

/-- What OP makes of the step, once its actions are done. -/
def Chip.stepOps (d : Chip) (t op : Nat) (p : Prefetched) (at' : Nat) : Chip :=
  match op with
  | 2 => (d.post (getBits (stepArg p.data) 0 17) d.now).nextStep t (p.idx + 1)
  | 3 =>
    let c := d.nextStep t (p.idx + 1)
    ((c.setTrack t { c.track t with waitAt := at', waitLimit := 1000 * (stepArg p.data).toNat, waitIdx := p.idx }).setTrkState
        t 3).cause HOI (16 + t) 4
  | 4 => d.stepJump t p at'
  | 0xF => ((d.nextStep t (p.idx + 1)).setTrkState t 6).cause HOI (16 + t) 1
  | _ => d.nextStep t (p.idx + 1)

theorem dueStep_op {op : Nat} (h : c.dueStep t op = .applies p) : stepOp p.data = op := by
  unfold Chip.dueStep at h
  dsimp only at h
  split at h
  · cases h
  · split at h
    · split at h <;> cases h
    · split_ifs at h with h1 h2 h3 h4
      cases h
      simpa using h3

/-- A due step without actions. -/
theorem recipeStep_applies {op : Nat} (h : c.dueStep t op = .applies p) (hn : stepNact p.data = 0) :
    ∃ at', c.recipeStep t op = (c.stepDone t p).stepOps t op p at' := by
  have hstep : c.recipeStep t op = (c.stepBegin t p).stepEnd t p := by
    rw [Chip.recipeStep, h]
    dsimp only
    rw [hn]
    rfl
  have hstate : (((c.stepBegin t p).count (trkA t 0x038)).cause HOI (16 + t) 0).trkState t = 2 := stepDone_state c t p
  have htrack : (((c.stepBegin t p).count (trkA t 0x038)).cause HOI (16 + t) 0).track t = c.track t :=
    track_of_hoi (((stepBegin_notes c t p).trans (count_notes ..)).trans (cause_notes ..)).hoi t
  refine ⟨(c.stepBegin t p).stepInstant t p.data, ?_⟩
  rw [hstep, Chip.stepEnd]
  dsimp only
  rw [hstate, if_neg (by decide), htrack, dueStep_op h, ← Chip.stepDone]
  rfl

/-! ### The OPs (R149) -/

/-- A jump to `tgt` that comes at `at0`. -/
def Chip.jumpTo (d : Chip) (t : Nat) (p : Prefetched) (at0 tgt : Nat) : Chip :=
  let c := d.setU64 (trkA t 0x108) (unsigned 64 ((at0 + 1000 * (actVal p.data 0).toNat : Nat) - (1000 * stepAt (d.stepWords t tgt) : Nat)))
  (c.setTrack t { c.track t with buf := [], last := none }).nextStep t tgt

theorem jumpTo_stat (d : Chip) (p : Prefetched) (at0 : Nat) {tgt : Nat} (h : tgt < 2 ^ 16) :
    (d.jumpTo t p at0 tgt).trkState t = d.trkState t ∧ (d.jumpTo t p at0 tgt).trkPos t = tgt := by
  obtain ⟨hst, hpos⟩ := nextStep_stat
    ((d.setU64 (trkA t 0x108) (unsigned 64 ((at0 + 1000 * (actVal p.data 0).toNat : Nat) - (1000 * stepAt (d.stepWords t tgt) : Nat)))).setTrack t
      { (d.setU64 (trkA t 0x108) (unsigned 64 ((at0 + 1000 * (actVal p.data 0).toNat : Nat) -
          (1000 * stepAt (d.stepWords t tgt) : Nat)))).track t with buf := [], last := none }) t tgt
  refine ⟨hst.trans ?_, by rw [Chip.jumpTo, hpos, Nat.mod_eq_of_lt h]⟩
  exact (setU64_alters (S := fun k _ => k = trkA t 0x108 ∨ k = trkA t 0x108 + 4) d _ _ (fun _ => .inl rfl) fun _ => .inr rfl).fld _ _ _
    fun _ _ _ => by
      simp only [trkA, pageAddr]
      omega

theorem jumpTo_hoists (d : Chip) (p : Prefetched) (at0 tgt : Nat) : d.Hoists (d.jumpTo t p at0 tgt) :=
  ((setU64_notes ..).hoists.trans (setTrack_hoists ..)).trans (nextStep_hoists ..)

/-- The count that a JUMP has left is shown. -/
theorem showCount_state (d : Chip) (t v : Nat) : (d.setFld (trkA t 0x114) 16 8 v).trkState t = d.trkState t :=
  (setFld_alters (S := fun _ j => j < 24) d _ 16 8 v fun _ _ hj => hj).fld _ _ _ fun _ _ _ => by omega

/-- A JUMP goes to its target while it has no count or some of it is left, and moves on otherwise. -/
theorem stepJump_stat (d : Chip) (at0 : Nat) (hi : p.idx < 65535) :
    (d.stepJump t p at0).trkState t = d.trkState t ∧
      (d.stepJump t p at0).trkPos t =
        (if getBits (stepArg p.data) 16 16 = 0 ∨ (tab none (d.track t).jumps p.idx).getD (getBits (stepArg p.data) 16 16) ≠ 0
         then getBits (stepArg p.data) 0 16 else p.idx + 1) ∧
      d.Hoists (d.stepJump t p at0) := by
  have htgt : getBits (stepArg p.data) 0 16 < 2 ^ 16 := getBits_lt ..
  unfold Chip.stepJump
  dsimp only
  by_cases hn : getBits (stepArg p.data) 16 16 = 0
  · rw [if_pos hn, if_pos (.inl hn)]
    obtain ⟨hst, hpos⟩ := jumpTo_stat (t := t) d p at0 htgt
    exact ⟨hst, hpos, jumpTo_hoists ..⟩
  · rw [if_neg hn]
    generalize (tab none (d.track t).jumps p.idx).getD (getBits (stepArg p.data) 16 16) = rem
    have hcount := showCount_state d t (rem - 1)
    have hh := (setFld_notes d (trkA t 0x114) 16 8 (rem - 1)).hoists
    generalize d.setFld (trkA t 0x114) 16 8 (rem - 1) = e at *
    by_cases hr : rem = 0
    · rw [if_pos hr, if_neg (by simp [hn, hr])]
      obtain ⟨hst, hpos⟩ := nextStep_stat (e.setTrack t { e.track t with jumps := tabPut none (d.track t).jumps p.idx none }) t (p.idx + 1)
      exact ⟨hst.trans hcount, by rw [hpos, Nat.mod_eq_of_lt (by omega)], (hh.trans (setTrack_hoists ..)).trans (nextStep_hoists ..)⟩
    · rw [if_neg hr, if_pos (.inr hr)]
      obtain ⟨hst, hpos⟩ := jumpTo_stat (t := t)
        (e.setTrack t { e.track t with jumps := tabPut none (d.track t).jumps p.idx (some (rem - 1)) }) p at0 htgt
      exact ⟨hst.trans hcount, hpos, (hh.trans (setTrack_hoists ..)).trans (jumpTo_hoists ..)⟩

/-- After a step that moves on: the track runs at the next index, and the step has left the buffer. -/
theorem movesOn_shows (c : Chip) (t : Nat) (hi : p.idx < 65535) :
    ((c.stepDone t p).nextStep t (p.idx + 1)).trkState t = 2 ∧ ((c.stepDone t p).nextStep t (p.idx + 1)).trkPos t = p.idx + 1 ∧
      (((c.stepDone t p).nextStep t (p.idx + 1)).track t).buf = (c.track t).buf.drop 1 ∧
      c.Hoists ((c.stepDone t p).nextStep t (p.idx + 1)) := by
  obtain ⟨hst, hpos⟩ := nextStep_stat (c.stepDone t p) t (p.idx + 1)
  exact ⟨hst.trans (stepDone_state ..), by rw [hpos, Nat.mod_eq_of_lt (by omega)], by rw [nextStep_track, stepDone_track],
    (stepDone_hoists ..).trans (nextStep_hoists ..)⟩

/-! ### The limit of a wait (R149, R152) -/

theorem postIf_keeps (c : Chip) (en : Bool) (head : Nat) (s : Stamp) :
    (c.postIf en head s).words = c.words ∧ (c.postIf en head s).hoi = c.hoi := by
  cases en
  · exact ⟨rfl, rfl⟩
  · exact ⟨rfl, rfl⟩

/-- The track in HOLD with FAULT `v`, before the cause. -/
def Chip.holding (c : Chip) (t v : Nat) : Chip :=
  ((c.setTrkState t 5).setNat (trkA t 0x120) v).setTrack t { ((c.setTrkState t 5).setNat (trkA t 0x120) v).track t with buf := [] }

theorem holding_shows (c : Chip) (t : Nat) {v : Nat} (hv : v < 2 ^ 32) :
    (c.holding t v).trkState t = 5 ∧ (c.holding t v).nat (trkA t 0x120) = v ∧ ((c.holding t v).track t).buf = [] := by
  refine ⟨?_, Chip.nat_setNat_same _ _ _ hv, ?_⟩
  · refine ((setNat_alters (S := fun k _ => k = trkA t 0x120) (c.setTrkState t 5) _ v fun _ => rfl).fld (trkA t 0x114) 28 4
      fun _ _ _ => ?_).trans (setTrkState_stat c t 5).1
    simp only [trkA, pageAddr]
    omega
  · rw [Chip.holding, track_setTrack_same]

theorem trkHold_eq (c : Chip) (t code i : Nat) :
    ∃ en head s, c.trkHold t code i = ((c.holding t (code * 2 ^ 28 + i % 2 ^ 16)).cause HOI (16 + t) 2).postIf en head s := ⟨_, _, _, rfl⟩

/-- A track on HOLD shows its fault, and holds no prefetched step. -/
theorem trkHold_shows (c : Chip) (t : Nat) {code i : Nat} (hc : code < 16) (hi : i < 65536) :
    (c.trkHold t code i).trkState t = 5 ∧ (c.trkHold t code i).nat (trkA t 0x120) = code * 2 ^ 28 + i ∧
      ((c.trkHold t code i).track t).buf = [] := by
  obtain ⟨en, head, s, hhold⟩ := trkHold_eq c t code i
  rw [Nat.mod_eq_of_lt (show i < 2 ^ 16 from hi)] at hhold
  have hv : code * 2 ^ 28 + i < 2 ^ 32 := by omega
  generalize code * 2 ^ 28 + i = v at *
  obtain ⟨hst, hnat, hbuf⟩ := holding_shows c t hv
  obtain ⟨hwords, hhoi⟩ := postIf_keeps ((c.holding t v).cause HOI (16 + t) 2) en head s
  rw [hhold]
  refine ⟨?_, ?_, ?_⟩
  · exact (fld_of_words hwords ..).trans ((trkCause_stat ..).1.trans hst)
  · refine (nat_of_words hwords _).trans (((trkCause_alters ..).nat _ fun _ => ?_).trans hnat)
    simp only [stepBits, trkA, pageAddr, PG_EVT_RAW, PG_EVT_PEND]
    omega
  · rw [track_of_hoi (hhoi.trans (cause_notes ..).hoi), hbuf]

/-! ### The commands -/

theorem exec_stepPrefetch (s : State) (t i rr : Nat) :
    exec (.stepPrefetch t i rr) s = s.enabledEvent HOI (16 + t) fun c => c.prefetch t i rr := rfl
theorem exec_recipeStepSet (s : State) (t : Nat) : exec (.recipeStepSet t) s = s.eventOut HOI (16 + t) fun c => c.recipeStep t 1 := rfl
theorem exec_recipeStepPost (s : State) (t : Nat) : exec (.recipeStepPost t) s = s.eventOut HOI (16 + t) fun c => c.recipeStep t 2 := rfl
theorem exec_recipeStepWait (s : State) (t : Nat) : exec (.recipeStepWait t) s = s.eventOut HOI (16 + t) fun c => c.recipeStep t 3 := rfl
theorem exec_recipeStepJump (s : State) (t : Nat) : exec (.recipeStepJump t) s = s.eventOut HOI (16 + t) fun c => c.recipeStep t 4 := rfl
theorem exec_recipeStepEnd (s : State) (t : Nat) : exec (.recipeStepEnd t) s = s.eventOut HOI (16 + t) fun c => c.recipeStep t 0xF := rfl
theorem exec_waitLimitExpiry (s : State) (t : Nat) : exec (.waitLimitExpiry t) s = s.enabledEvent HOI (16 + t) fun c => c.waitOver t := rfl

section
variable (s : State) (hs : s.settled = true) (ha : s.chip.acts HOI (16 + t) = true)
include hs ha

/-- A due step without actions: the module shows what its OP made of it. -/
theorem step_shows {op : Nat} {j : Instr} (hj : exec j s = s.eventOut HOI (16 + t) fun c => c.recipeStep t op)
    (hn : stepNact p.data = 0) (h : s.chip.dueStep t op = .applies p)
    (hq : ∀ at0, ((s.chip.stepDone t p).stepOps t op p at0).outQ = s.chip.outQ) :
    Answers (exec j s) fun u => ∃ at0, ((s.chip.stepDone t p).stepOps t op p at0).Shows u.chip := by
  obtain ⟨h0, -⟩ := settled_queues hs
  obtain ⟨at0, hstep⟩ := recipeStep_applies h hn
  obtain ⟨u, hu, hsh⟩ := eventOut_shows s hj ha hs (by rw [hstep, hq, h0])
  rw [hstep] at hsh
  exact ⟨u, hu, at0, hsh⟩

variable (hn : stepNact p.data = 0) (hi : p.idx < 65535)
include hn hi

theorem stepSet_answers (h : s.chip.dueStep t 1 = .applies p) : Answers (exec (.recipeStepSet t) s) fun u =>
    u.chip.trkState t = 2 ∧ u.chip.trkPos t = p.idx + 1 ∧ (u.chip.track t).buf = (s.chip.track t).buf.drop 1 := by
  have hop (at0 : Nat) : (s.chip.stepDone t p).stepOps t 1 p at0 = (s.chip.stepDone t p).nextStep t (p.idx + 1) := rfl
  obtain ⟨hst, hpos, hbuf, hh⟩ := movesOn_shows (p := p) s.chip t hi
  obtain ⟨u, hu, at0, hsh⟩ := step_shows s hs ha (exec_recipeStepSet s t) hn h fun at0 => by rw [hop, hh.outQ]
  rw [hop] at hsh
  exact ⟨u, hu, (hsh.fld ..).trans hst, (hsh.fld ..).trans hpos, by rw [hsh.track, hbuf]⟩

theorem stepPost_answers (h : s.chip.dueStep t 2 = .applies p) : Answers (exec (.recipeStepPost t) s) fun u =>
    u.chip.trkState t = 2 ∧ u.chip.trkPos t = p.idx + 1 ∧
      u.chip.posts = s.chip.posts ++ [{ head := getBits (stepArg p.data) 0 17, stamp := s.chip.now }] := by
  have hop (at0 : Nat) : (s.chip.stepDone t p).stepOps t 2 p at0 =
      ((s.chip.stepDone t p).post (getBits (stepArg p.data) 0 17) s.chip.now).nextStep t (p.idx + 1) := by
    rw [← stepDone_now s.chip t p]
    rfl
  have hdone := stepDone_hoists s.chip t p
  have hnext := nextStep_hoists ((s.chip.stepDone t p).post (getBits (stepArg p.data) 0 17) s.chip.now) t (p.idx + 1)
  obtain ⟨hst, hpos⟩ := nextStep_stat ((s.chip.stepDone t p).post (getBits (stepArg p.data) 0 17) s.chip.now) t (p.idx + 1)
  obtain ⟨u, hu, at0, hsh⟩ := step_shows s hs ha (exec_recipeStepPost s t) hn h fun at0 => by
    rw [hop, hnext.outQ]
    exact hdone.outQ
  rw [hop] at hsh
  refine ⟨u, hu, (hsh.fld ..).trans (hst.trans (stepDone_state ..)), ?_, ?_⟩
  · exact (hsh.fld ..).trans (hpos.trans (Nat.mod_eq_of_lt (by omega)))
  · rw [hsh.posts, hnext.posts, ← hdone.posts]
    rfl

theorem stepWait_answers (h : s.chip.dueStep t 3 = .applies p) : Answers (exec (.recipeStepWait t) s) fun u =>
    u.chip.trkState t = 3 ∧ u.chip.trkPos t = p.idx + 1 ∧ (u.chip.track t).waitLimit = 1000 * (stepArg p.data).toNat ∧
      u.chip.bit (trkA t PG_EVT_RAW) 4 = true := by
  obtain ⟨-, hpos, -, hh⟩ := movesOn_shows (p := p) s.chip t hi
  generalize hd : (s.chip.stepDone t p).nextStep t (p.idx + 1) = d at *
  have hop (at0 : Nat) : (s.chip.stepDone t p).stepOps t 3 p at0 =
      ((d.setTrack t { d.track t with waitAt := at0, waitLimit := 1000 * (stepArg p.data).toNat, waitIdx := p.idx }).setTrkState t 3).cause
        HOI (16 + t) 4 := by
    rw [← hd]
    rfl
  obtain ⟨u, hu, at0, hsh⟩ := step_shows s hs ha (exec_recipeStepWait s t) hn h fun at0 => by
    rw [hop, (cause_notes ..).outQ, ← hh.outQ]
    exact (setTrkState_notes ..).outQ
  rw [hop] at hsh
  obtain ⟨hst', hpos'⟩ := setTrkState_stat
    (d.setTrack t { d.track t with waitAt := at0, waitLimit := 1000 * (stepArg p.data).toNat, waitIdx := p.idx }) t 3
  refine ⟨u, hu, (hsh.fld ..).trans ((trkCause_stat ..).1.trans hst'), (hsh.fld ..).trans ((trkCause_stat ..).2.trans (hpos'.trans hpos)), ?_,
    (hsh.bit ..).trans (cause_raises _ HOI (16 + t) 4 (by decide))⟩
  rw [hsh.track, track_of_hoi ((setTrkState_notes ..).trans (cause_notes ..)).hoi, track_setTrack_same]

theorem stepJump_answers (h : s.chip.dueStep t 4 = .applies p) : Answers (exec (.recipeStepJump t) s) fun u =>
    let n := getBits (stepArg p.data) 16 16
    let left := (tab none (s.chip.track t).jumps p.idx).getD n
    u.chip.trkState t = 2 ∧ u.chip.trkPos t = if n = 0 ∨ left ≠ 0 then getBits (stepArg p.data) 0 16 else p.idx + 1 := by
  have hop (at0 : Nat) : (s.chip.stepDone t p).stepOps t 4 p at0 = (s.chip.stepDone t p).stepJump t p at0 := rfl
  have hjump (at0 : Nat) := stepJump_stat (t := t) (s.chip.stepDone t p) at0 hi
  have hdone := stepDone_hoists s.chip t p
  obtain ⟨u, hu, at0, hsh⟩ := step_shows s hs ha (exec_recipeStepJump s t) hn h fun at0 => by
    rw [hop, (hjump at0).2.2.outQ, hdone.outQ]
  rw [hop] at hsh
  obtain ⟨hst, hpos, -⟩ := hjump at0
  rw [stepDone_track] at hpos
  exact ⟨u, hu, (hsh.fld ..).trans (hst.trans (stepDone_state ..)), (hsh.fld ..).trans hpos⟩

theorem stepEnd_answers (h : s.chip.dueStep t 0xF = .applies p) : Answers (exec (.recipeStepEnd t) s) fun u =>
    u.chip.trkState t = 6 ∧ u.chip.bit (trkA t PG_EVT_RAW) 1 = true := by
  obtain ⟨-, -, -, hh⟩ := movesOn_shows (p := p) s.chip t hi
  generalize hd : (s.chip.stepDone t p).nextStep t (p.idx + 1) = d at *
  have hop (at0 : Nat) : (s.chip.stepDone t p).stepOps t 0xF p at0 = (d.setTrkState t 6).cause HOI (16 + t) 1 := by
    rw [← hd]
    rfl
  obtain ⟨u, hu, at0, hsh⟩ := step_shows s hs ha (exec_recipeStepEnd s t) hn h fun at0 => by
    rw [hop, ((setTrkState_notes ..).trans (cause_notes ..)).outQ, hh.outQ]
  rw [hop] at hsh
  exact ⟨u, hu, (hsh.fld ..).trans ((trkCause_stat ..).1.trans (setTrkState_stat ..).1),
    (hsh.bit ..).trans (cause_raises _ HOI (16 + t) 1 (by decide))⟩

end

/-- The configuration of the step with one action: its VALUE reaches LOOP_PARAM. -/
theorem oneAction_answers :
    let d := [0, 0x1_0100, 0, 0, BitVec.ofNat 32 (twAddr LOOP 0x1_0054), 77]
    let r := State.ready [(pageAddr HOI 16 8, 1), (trkA 0 0x114, 2 * 2 ^ 28), (twAddr LOOP 0x1_0054, 1)]
    Answers (exec (.recipeStepSet 0) { r with chip := r.chip.setTrack 0 { buf := [{ idx := 0, data := d, code := 0 }] } }) fun t =>
      t.chip.nat (twAddr LOOP 0x1_0054) = 77 ∧ t.chip.trkPos 0 = 1 := by
  intro d r
  refine ⟨_, (exec_recipeStepSet _ 0).trans (eventOut_acts _ HOI (16 + 0) _ ?_), ?_⟩
  · decide +kernel
  · decide +kernel

/-- Settles O29: a prefetch in time joins the buffer, a due step without actions leaves the track as its OP says, and a wait past its limit
holds it. -/
theorem trackSteps : Obligations.TrackSteps := by
  unfold Obligations.TrackSteps
  intro s t ht hs ha
  refine ⟨fun i h1 h4 hb hlate hi hf hr rr => ?_, fun p hn hi => ?_, oneAction_answers, fun hst hl hpast hi => ?_⟩
  · obtain ⟨x, hx, hbuf⟩ := prefetch_joins ht h1 h4 hb hlate hi hf hr rr
    obtain ⟨u, hu, hsh⟩ := enabledEvent_shows s (exec_stepPrefetch s t i rr) ha
    exact ⟨u, hu, by rw [hsh.track, hbuf, List.length_append]; rfl, by rw [hsh.track, hbuf, List.getLast?_concat, Option.map_some, hx]⟩
  · exact ⟨stepSet_answers s hs ha hn hi, stepPost_answers s hs ha hn hi, stepWait_answers s hs ha hn hi, stepJump_answers s hs ha hn hi,
      stepEnd_answers s hs ha hn hi⟩
  · have hover : s.chip.waitOver t = s.chip.trkHold t 6 (s.chip.track t).waitIdx := by
      simp [Chip.waitOver, ht, hst, hl, hpast]
    obtain ⟨hst', hnat, hbuf⟩ := trkHold_shows s.chip t (code := 6) (by decide) hi
    obtain ⟨u, hu, hsh⟩ := enabledEvent_shows s (exec_waitLimitExpiry s t) ha
    rw [hover] at hsh
    exact ⟨u, hu, (hsh.fld ..).trans hst', by rw [hsh.nat, hnat], by rw [hsh.track, hbuf]⟩

end Sys2Proof.Machine
end

section
/-! PROOFS. Nothing stays on its way between two commands (R131, R174): every command answers a state with no released loop output and no
write to DRAM under way. That each command ends so is the model's choice (log 31, log 32). -/

namespace Sys2Proof.Machine

/-! ### How a command meets the machine -/

theorem settled_iff (s : State) : s.settled = true ↔ s.chip.outQ = [] ∧ s.chip.dramQ = [] := by simp [State.settled]

/-- A command ends in a state with nothing on its way. -/
def Settles (o : Host.Outcome State Fault Refusal) : Prop := Answers o fun t => t.settled = true

/-- The writes to DRAM arrive, and the command itself releases no output. -/
theorem settle_settled (s : State) (f : Chip → Chip) (h : s.chip.outQ = []) : (s.settle f).settled = true :=
  (settled_iff _).2 ⟨(settle_outQ s f).trans h, settle_dramQ s f⟩

/-- Released outputs are delivered, and then the writes to DRAM arrive. -/
theorem settleOut_settled (s : State) (f : Chip → Chip) : (s.settleOut f).settled = true :=
  (settled_iff _).2 ⟨settleOut_outQ s f, settleOut_dramQ s f⟩

theorem settleOut_settles (s : State) (f : Chip → Chip) : Settles (.next (s.settleOut f)) := ⟨_, rfl, settleOut_settled s f⟩

theorem loseDram_settled (s : State) : s.loseDram.settled = s.settled := by
  unfold State.loseDram
  split <;> rfl

section
variable (s : State) (hs : s.settled = true)
include hs

/-- Where the precondition of a command does not stand, the machine stays as it is (log 18). -/
theorem ite_settles (p : Prop) [Decidable p] {o : Host.Outcome State Fault Refusal} (h : Settles o) :
    Settles (if p then o else .next s) := by
  split
  · exact h
  · exact ⟨s, rfl, hs⟩

theorem act_settles (f : Chip → Chip) : Settles (s.act f) := ⟨_, rfl, settle_settled s f (settled_queues hs).1⟩

theorem actIf_settles (p : Bool) (f : Chip → Chip) : Settles (s.actIf p f) := ite_settles s hs _ (act_settles s hs f)

theorem eventOut_settles (b i : Nat) (f : Chip → Chip) : Settles (s.eventOut b i f) :=
  ite_settles s hs _ (settleOut_settles s f)

theorem power_settles (f : Chip → Chip) : Settles (s.power f) :=
  ⟨_, rfl, (loseDram_settled _).trans (settle_settled s f (settled_queues hs).1)⟩

theorem write_settles_queues (x : Meets) (m a size : Nat) (data : List Word) (hops : Nat) : Settles (s.write x m a size data hops) := by
  refine ⟨_, rfl, ?_⟩
  split
  · exact settleOut_settled s _
  · exact settle_settled s _ (settled_queues hs).1

theorem put_settles (m a : Nat) (d : Word) (x : Meets) : Settles (s.put m a d x) := write_settles_queues s hs ..

/-- A command that reads or writes DRAM itself lets its writes arrive; it must release no output. -/
theorem memory_settles (p : Prop) [Decidable p] {t : State} (h : t.chip.outQ = s.chip.outQ) :
    Settles (if p then t.act id else .next s) :=
  ite_settles s hs p ⟨_, rfl, settle_settled t id (h.trans (settled_queues hs).1)⟩

end

/-! ### Accesses to DRAM release no output (R47, R87 to R89) -/

theorem setPoison_outQ (s : State) (b : Nat) (v : Bool) : (s.setPoison b v).chip.outQ = s.chip.outQ := by
  unfold State.setPoison
  split <;> rfl

theorem ite_outQ {p : Prop} [Decidable p] {s t u : State} (h : t.chip.outQ = s.chip.outQ) (h' : u.chip.outQ = s.chip.outQ) :
    (if p then t else u).chip.outQ = s.chip.outQ := by
  split
  · exact h
  · exact h'

theorem foldl_outQ {α : Type} (f : State → α → State) (hf : ∀ t x, (f t x).chip.outQ = t.chip.outQ) (l : List α) (s : State) :
    (l.foldl f s).chip.outQ = s.chip.outQ := by
  induction l generalizing s with
  | nil => rfl
  | cons x r ih => exact (ih _).trans (hf s x)

theorem memRereads_outQ (c : Chip) (n : Nat) : (c.memRereads n).outQ = c.outQ := (memRereads_counts c n).notes.outQ

theorem memPoison_notes (c : Chip) (a : Nat) : c.Notes (c.memPoison a) :=
  ((count_notes ..).trans (setU64_notes ..)).trans (cause_notes ..)

theorem readFault_outQ (s : State) (b rr : Nat) : (s.readFault b rr).chip.outQ = s.chip.outQ := by
  have hcount : (s.chip.memRereads (min rr 3)).outQ = s.chip.outQ := (memRereads_counts ..).notes.outQ
  have hfault := (memPoison_notes (s.chip.memRereads (min rr 3)) (64 * b)).outQ.trans hcount
  unfold State.readFault
  dsimp only
  split
  · exact hcount
  · rw [setPoison_outQ]
    dsimp only
    split
    · exact hfault
    · exact hfault

theorem readFaults_outQ (s : State) (a n : Nat) (rr : List Nat) : (s.readFaults a n rr).chip.outQ = s.chip.outQ :=
  foldl_outQ (fun t (e : Nat × Nat) => t.readFault e.1 (rr.getD e.2 0)) (fun t e => readFault_outQ t e.1 _) _ s

theorem dramRead_outQ (s : State) (a n : Nat) (rr : List Nat) (hops : Nat) (bad : RespStatus) :
    (s.dramRead a n rr hops bad).chip.outQ = s.chip.outQ := by
  have h := (hopSends_notes (s.readFaults a n rr).chip hops).outQ.trans (readFaults_outQ s a n rr)
  exact ite_outQ h h

theorem mirrorOut_outQ (c : Chip) (a : Nat) (data : List Byte) : (c.mirrorOut a data).outQ = c.outQ := by
  unfold Chip.mirrorOut
  split <;> rfl

theorem recPoke_outQ (c : Chip) (a : Nat) (b : Byte) : (c.recPoke a b).outQ = c.outQ := by
  unfold Chip.recPoke
  split <;> rfl

theorem dramWrite_outQ (s : State) (a : Nat) (data : List Byte) : (s.dramWrite a data).chip.outQ = s.chip.outQ :=
  (each_keeps Chip.outQ _ (fun _ _ => recPoke_outQ ..) data.zipIdx _).trans
    ((mirrorOut_outQ ..).trans (foldl_outQ _ (fun t b => setPoison_outQ t b false) _ s))

theorem sharedWrite_outQ (s : State) (p a : Nat) (data : List Byte) (hops : Nat) :
    (s.sharedWrite p a data hops).chip.outQ = s.chip.outQ := by
  have hsent := (hopSends_notes s.chip hops).outQ
  exact ite_outQ ((logErr_notes ..).outQ.trans hsent) ((dramWrite_outQ { s with chip := s.chip.hopSends hops } a data).trans hsent)

theorem bar2Read_outQ (s : State) (p off len : Nat) (rr : List Nat) (hops : Nat) :
    (s.bar2Read p off len rr hops).chip.outQ = s.chip.outQ :=
  ite_outQ rfl (ite_outQ (shmRefuse_notes ..).outQ (dramRead_outQ ..))

theorem bar2Write_outQ (s : State) (p off : Nat) (data : List Byte) (hops : Nat) :
    (s.bar2Write p off data hops).chip.outQ = s.chip.outQ :=
  ite_outQ rfl (ite_outQ (shmRefuse_notes ..).outQ (sharedWrite_outQ ..))

theorem coreDram_outQ (s : State) (m : Nat) (island wr : Bool) (addr len : Nat) (data : List Byte) (rr : List Nat) (hops : Nat) :
    (s.coreDram m island wr addr len data rr hops).chip.outQ = s.chip.outQ :=
  ite_outQ rfl (ite_outQ rfl (ite_outQ (ite_outQ rfl rfl) (ite_outQ (dramRead_outQ ..) (sharedWrite_outQ ..))))

theorem repairEnd_outQ (c : Chip) (ok : Bool) (a : Nat) : (c.repairEnd ok a).outQ = c.outQ := by
  unfold Chip.repairEnd
  split
  · exact ((count_notes ..).trans (cause_notes ..)).outQ
  · exact ((count_notes ..).trans (cause_notes ..)).outQ

theorem repairBlock_outQ (s : State) (b : Nat) (data : List Word) (ok : Bool) :
    (s.repairBlock b data ok).chip.outQ = s.chip.outQ :=
  ite_outQ rfl (ite_outQ (repairEnd_outQ ..) (repairEnd_outQ ..))

/-! ### Nor do the host rings (R388) -/

theorem dramPut_outQ (c : Chip) (a : Nat) (data : List Byte) : (c.dramPut a data).outQ = c.outQ := rfl

theorem toDram_outQ (c : Chip) (l : List (Nat × List Byte)) : (c.toDram l).outQ = c.outQ :=
  each_keeps Chip.outQ (fun c (e : Nat × List Byte) => (c.mirrorOut e.1 e.2).dramPut e.1 e.2)
    (fun c e => (dramPut_outQ ..).trans (mirrorOut_outQ c e.1 e.2)) l c

theorem ringAdvance_notes (c : Chip) (p : Nat) (q : Option Nat) : c.Notes (c.ringAdvance p q) := setFld_notes ..

theorem hostRx_outQ (c : Chip) (p a buf : Nat) (bytes : List Byte) : (c.hostRx p a buf bytes).outQ = c.outQ :=
  ((ringAdvance_notes ..).trans (cause_notes ..)).outQ.trans (toDram_outQ ..)

theorem hostTx_outQ (c : Chip) (rd : Nat → Byte) (p q a : Nat) (sent : Bool) : (c.hostTx rd p q a sent).outQ = c.outQ := by
  refine ((ringAdvance_notes ..).trans (cause_notes ..)).outQ.trans ((toDram_outQ ..).trans ?_)
  split <;> rfl

theorem hostRxDrop_notes (c : Chip) (p : Nat) : c.Notes (c.hostRxDrop p) := (count_notes ..).trans (cause_notes ..)
theorem hostTxLost_notes (c : Chip) (p q : Nat) : c.Notes (c.hostTxLost p q) := (ringAdvance_notes ..).trans (cause_notes ..)
theorem gateDropped_notes (c : Chip) (p : Nat) : c.Notes (c.gateDropped p) := (count_notes ..).trans (cause_notes ..)
theorem ptpDiscard_notes (c : Chip) (p : Nat) : c.Notes (c.ptpDiscard p) := (count_notes ..).trans (cause_notes ..)

theorem ringFetch_outQ (s : State) (a n : Nat) (rr : List Nat) : (s.ringFetch a n rr).2.chip.outQ = s.chip.outQ := readFaults_outQ ..

theorem ringRx_outQ (s : State) (p : Nat) (bytes : List Byte) (rr : List Nat) : (s.ringRx p bytes rr).chip.outQ = s.chip.outQ := by
  unfold State.ringRx
  split
  · exact (hostRxDrop_notes ..).outQ
  · next a _ =>
    have h := ringFetch_outQ s a 16 rr
    exact ite_outQ ((hostRxDrop_notes ..).outQ.trans h) ((hostRx_outQ ..).trans h)

theorem ringTx_outQ (s : State) (p q : Nat) (sent : Bool) (rr : List Nat) : (s.ringTx p q sent rr).chip.outQ = s.chip.outQ := by
  unfold State.ringTx
  split
  · rfl
  · next a _ =>
    have h := ringFetch_outQ s a 16 (rr.take 1)
    refine ite_outQ ((hostTxLost_notes ..).outQ.trans h) ((hostTx_outQ ..).trans ?_)
    cases sent
    · exact h
    · exact (ringFetch_outQ ..).trans h

/-- A frame that arrives is counted, queued for the engine, or left to the host ring. -/
theorem ethRx_outQ (c : Chip) (p : Nat) (bytes : List Byte) (fcsOk : Bool) : (c.ethRx p bytes fcsOk).2.outQ = c.outQ := by
  have hcount (k n : Nat) := (count_notes c k n).outQ
  simp only [Chip.ethRx, apply_ite Prod.snd, apply_ite Chip.outQ, hcount, (ptpDiscard_notes c p).outQ, ite_self]

/-! ### Every command -/

section
variable (s : State) (hs : s.settled = true)
include hs

theorem portMemory_settles (p : Nat) {f : State → State} (h : (f s).chip.outQ = s.chip.outQ) : Settles (s.portMemory p f) :=
  memory_settles s hs _ h

theorem ethFrameRx_settles (p : Nat) (bytes : List Byte) (fcsOk : Bool) (rr : List Nat) :
    Settles (execEthFrameRx p bytes fcsOk s rr) := by
  have hrx := ethRx_outQ s.chip p bytes fcsOk
  exact portMemory_settles s hs p (ite_outQ ((ringRx_outQ ..).trans hrx) hrx)

theorem gateDrop_settles (p q : Nat) (rr : List Nat) : Settles (execGateDrop p q s rr) := by
  refine portMemory_settles s hs p (ite_outQ rfl ?_)
  split
  · exact (gateDropped_notes ..).outQ
  · exact ite_outQ ((gateDropped_notes ..).outQ.trans (ringTx_outQ ..)) rfl

theorem hostFrameTxDone_settles (p q : Nat) (rr : List Nat) : Settles (execHostFrameTxDone p q s rr) :=
  portMemory_settles s hs p (ite_outQ (ringTx_outQ ..) rfl)

theorem powerfailFlushDone_settles : Settles (execPowerfailFlushDone s) := by
  unfold execPowerfailFlushDone
  split
  · exact power_settles { s with dram := [], dramPoison := [] } hs _
  · exact power_settles s hs _

theorem canWakeEvent_settles (ch width : Nat) (frame : Option CanFrame) : Settles (execCanWakeEvent ch width frame s) := by
  unfold execCanWakeEvent
  split
  · exact ⟨s, rfl, hs⟩
  · exact power_settles s hs _

/-- From a state with nothing on its way every command answers another. Most are writes of a master, and events of the module's blocks
that release no output. -/
theorem exec_settles (i : Instr) : Settles (exec i s) := by
  cases i with
  | dipTargetWrite | iwinRead | iwinWrite | pageEnable | pageSoftReset | debugFreezeWrite | pgOwnerWrite | pgKeyWrite
  | evtPendClear | routeWrite | msixUnmask | bindingWrite | bellSend | bucketPost | bucketTake | lockRelease
  | lockForceRelease | hoiSubmit | coreDone | coreSuspend | admitTasks | retire | query | beMaxCostWrite
  | beEntriesWrite | corePoolWrite | flowCfgWrite | trackArm | trackPause | trackResume | trackAbort | trackContinue
  | slotEnable | slotDisable | slotResetState | slotClearStat | slotCtlWrite | hoGroupWrite | learnClear
  | learnGainWrite | axisEnable | axisDisable | moveAbs | moveRel | velocity | gearIn | camIn | supMove | stop
  | qstop | loadLimits | axisSetPos | resetFault | stateLostClear | tripClear | tripCfgWrite | fbkSetPos | refArm
  | cnvSoftTrigger | cnvAbort | cnvModeWrite | cnvEntryWrite | cnvSeqCfgWrite | plausClear | plausCfgWrite
  | timStepGo | timReacq | triggerEnable | triggerDisable | ptpCfgWrite | gclSwap | cycEnable | txRingTailWrite
  | rxRingTailWrite | mdioFrameStart | canTxRequest | canTxAbort | canSleep | canWake | canRecover | canAbortAll
  | streamEnable | streamDisable | adtClearStats | adtSetPolicy | adtSetAndClear | adtEnable | adtTrgCfgWrite
  | tlyPost32 | tallyClear | tallyFlush | tallyCfgWrite | qlossClear | commission | verify | abort | safConfirm
  | safSs1Req | safStoReq | safResetReq | pairEnable | pairDisable | handover | resync | dissolve | surrender
  | stageCheck | writeSlot | confirm | keyOrder | restart | attestGo | powerRequest | pwrStatClear => exact put_settles s hs ..
  | registerWrite | vecPendClear | shmEntryWrite | shadowWrite | shadowWriteArm | pwmArm | gpioOutWrite | gpioSet
  | gpioClr | pulseAtWrite | netTxPut | canData0Write | streamRdWrite | tlyPost64 => exact write_settles_queues s hs ..
  | wideValueLowWordRead | rcRegisterRead | lockRead | coreNextRead | latchCaptureRead | cnvResultRead | capturePop
  | canResultRead | adtTrgResultRead | resultAliasRead | tamper | regAccessCapture => exact act_settles s hs _
  | completionPost | taskDispatch | taskRelease | preemptTimeout | admissionDone | recipeStepSet | recipeStepPost
  | recipeStepWait | recipeStepJump | recipeStepEnd | pairLinkBlockRx => exact eventOut_settles s hs ..
  | powerRungEntered | wakeEvent | rtcAlarm | resetPin | resetRelease | supplyChange | powerFailDetect
  | thermalSample | tapReset | extest | samplePreload | idcode | highz | clamp | extestPulse | extestTrain
  | regAccess | modReset | freeze | bypass | tapTestExit => exact power_settles s hs _
  | unimplementedAccess m addr wr =>
    cases wr
    · exact act_settles s hs _
    · exact put_settles s hs ..
  | bellTake m ch size ok => cases ok <;> exact act_settles s hs _
  | bellInRead m ch ok => cases ok <;> exact act_settles s hs _
  | axisTick => exact ite_settles s hs _ (settleOut_settles s _)
  | bootComplete => exact ite_settles s hs _ (settleOut_settles s _)
  | regAccessUpdate => exact settleOut_settles s _
  | canWakeEvent => exact canWakeEvent_settles s hs ..
  | powerfailFlushDone => exact powerfailFlushDone_settles s hs
  | bar2Read => exact memory_settles s hs _ (bar2Read_outQ ..)
  | bar2Write => exact memory_settles s hs _ (bar2Write_outQ ..)
  | coreDramAccess => exact memory_settles s hs _ (coreDram_outQ ..)
  | repairComplete elem key data ok =>
    cases elem
    · exact memory_settles s hs _ (repairBlock_outQ ..)
    · exact actIf_settles s hs ..
  | ethFrameRx => exact ethFrameRx_settles s hs ..
  | gateDrop => exact gateDrop_settles s hs ..
  | hostFrameTxDone => exact hostFrameTxDone_settles s hs ..
  | _ => exact actIf_settles s hs ..

end

/-- Time alone sets nothing on its way. -/
theorem idle_queues (c : Chip) : c.idle.outQ = c.outQ ∧ c.idle.dramQ = c.dramQ := by
  unfold Chip.idle
  split
  · exact ⟨rfl, rfl⟩
  · exact ⟨rfl, rfl⟩

/-- Settles O6: every way in which a command meets the machine ends with the two queues empty, and time alone leaves them so. -/
theorem settledKept : Obligations.SettledKept := by
  unfold Obligations.SettledKept
  intro s hs
  cases hp : s.pending with
  | nil =>
    obtain ⟨hout, hdram⟩ := settled_queues hs
    obtain ⟨hout', hdram'⟩ := idle_queues s.chip
    exact ⟨{ s with chip := s.chip.idle }, by simp [step, hp], (settled_iff _).2 ⟨hout'.trans hout, hdram'.trans hdram⟩⟩
  | cons i r =>
    have hstep : step s = exec i { s with pending := r } := by simp [step, hp]
    rw [hstep]
    exact exec_settles { s with pending := r } hs i

end Sys2Proof.Machine
end

section
/-! PROOFS. What a command that acts on the Loop Array comes to: an accepted write to one of its registers, and an event of its page (R67,
R194). -/

namespace Sys2Proof.Machine

/-- In `t` the registers and the Loop Array stand as in `n`. -/
structure Chip.ShowsLoop (n t : Chip) : Prop where
  words : t.words = n.words
  loop : t.loop = n.loop

namespace Chip.ShowsLoop

variable {n t : Chip} (h : n.ShowsLoop t)
include h

theorem word (k : Nat) : t.word k = n.word k := word_of_words h.words k
theorem nat (k : Nat) : t.nat k = n.nat k := nat_of_words h.words k
theorem bit (k j : Nat) : t.bit k j = n.bit k j := bit_of_words h.words k j
theorem fld (k lo w : Nat) : t.fld k lo w = n.fld k lo w := fld_of_words h.words k lo w

end Chip.ShowsLoop

/-- An accepted write of one word without the key: the module shows what the write made of it, and the master sees it done. -/
theorem put_showsLoop (s : State) (m a : Nat) (d : Word) {i : Instr} (hi : exec i s = s.put m a d) (h : s.chip.takes m a false = true)
    (ho : isTw a = true ∨ offOf a ≠ PG_KEY) (hb : blockOf a = LOOP) {n : Chip} (hn : s.chip.applyWrite (s.meets {}) m a [d] false = n) :
    Answers (exec i s) fun t => n.ShowsLoop t.chip ∧ t.chip.resp.status = .done := by
  obtain ⟨o, hw⟩ := writeBy_completes s.chip (s.meets {}) m a d false h rfl rfl (.inr ho)
  rw [afterKey_false, Bool.false_and, hn] at hw
  refine ⟨_, hi.trans (put_taken s {} m a d false h rfl rfl (.inr ho) (by rw [hb]; decide)), ⟨?_, ?_⟩, ?_⟩
  · rw [settle_words, hw]
  · rw [settle_loop, hw]
  · rw [settle_resp, hw]

/-- The same in the table window. -/
theorem put_loopTw (s : State) (m : Nat) {o : Nat} (d : Word) {i : Instr} (ho : o < 0x8_0000) (hi : exec i s = s.put m (twAddr LOOP o) d)
    (h : s.chip.takes m (twAddr LOOP o) false = true) {n : Chip} (hn : s.chip.twWrite (s.meets {}) m (twAddr LOOP o) [d] = n) :
    Answers (exec i s) fun t => n.ShowsLoop t.chip ∧ t.chip.resp.status = .done := by
  have htw : isTw (twAddr LOOP o) = true := isTw_twAddr _ _ ho
  exact put_showsLoop s m _ d hi h (.inl htw) (blockOf_twAddr _ _ (by decide) ho) (by rw [applyWrite_tw _ _ _ _ _ htw, hn])

/-- An event of the Loop Array's page. -/
theorem event_showsLoop (s : State) {f : Chip → Chip} {i : Instr} (hi : exec i s = s.event LOOP 0 f) (h : s.chip.acts LOOP 0 = true) :
    Answers (exec i s) fun t => (f s.chip).ShowsLoop t.chip :=
  ⟨_, hi.trans (event_acts s LOOP 0 f h), rfl, rfl⟩

end Sys2Proof.Machine
end

section
/-! PROOFS. Slot commands (R194, R195): the queue and BUSY, the code and the effect of the command whose turn begins (log 43), and its end. -/

namespace Sys2Proof.Machine

variable {c c' : Chip}

/-! ### The keys of a slot's words -/

theorem slotK_ne_view {p : Nat} (hp : p < 16) (s sel w : Nat) : slotK s sel w ≠ slotRespK p := by
  simp only [slotK, elemKey, slotRespK, viewKey, loopA, pageAddr, LOOP]
  omega

theorem dK_ne_view {p : Nat} (hp : p < 16) (i w : Nat) : dK i w ≠ slotRespK p := by
  simp only [dK, elemKey, slotRespK, viewKey, loopA, pageAddr, LOOP]
  omega

theorem lrnK_ne_view {p s w : Nat} (h : s < 4096 ∧ w < 16 ∨ w = 0) : lrnK s w ≠ slotRespK p := by
  simp only [lrnK, twAddr, slotRespK, viewKey, loopA, pageAddr, LOOP]
  omega

/-- No partition's own copy of the answer decides on a write of a table window. -/
theorem not_decides_view (p : Nat) : ¬ decides (slotRespK p) := by
  simp only [decides, isTw, offOf, aPwrStat, slotRespK, viewKey, loopA, pageAddr, LOOP, PG_OWNER, PG_CTL, PWR, TST, beq_iff_eq]
  omega

/-! ### What a code is drawn from (R195) -/

section
variable {p : Nat} (hp : p < 16) (hw : ∀ k, k ≠ slotRespK p → c'.word k = c.word k)
include hw

theorem slotOwner_congr (s : Nat) (hs : s < 4096) : c'.slotOwner s = c.slotOwner s :=
  ownWord_congr (fun k hk => hw k fun e => not_decides_view p (e ▸ hk)) (by omega)

theorem ownerAt_congr (a : Nat) : c'.ownerAt a = c.ownerAt a := by
  have hd (k : Nat) (hk : decides k) : c'.word k = c.word k := hw k fun e => not_decides_view p (e ▸ hk)
  have ho : twOf a < 0x8_0000 := Nat.mod_lt a (by decide)
  simp only [Chip.ownerAt, twOwner_congr hd _ ho, pageOwner_congr hd]

include hp

theorem slotWord_congr (s sel w : Nat) : c'.word (slotK s sel w) = c.word (slotK s sel w) := hw _ (slotK_ne_view hp s sel w)

theorem slotHdr_congr (s : Nat) : c'.slotHdr s = c.slotHdr s := by
  simp only [Chip.slotHdr, Chip.bit, Chip.fld, hdrK, slotWord_congr hp hw]

theorem slotAdmitted_congr (ha : c'.hoi.admitted = c.hoi.admitted) (s : Nat) : c'.slotAdmitted s = c.slotAdmitted s := by
  have hd (i w : Nat) : c'.word (dK i w) = c.word (dK i w) := hw _ (dK_ne_view hp i w)
  simp only [Chip.slotAdmitted, Chip.kind, Chip.fld, hd, ha]
  rfl

theorem plainCode_congr (hpart : c'.part = c.part) (ha : c'.hoi.admitted = c.hoi.admitted) (q s : Nat) (hs : s < 4096) (check7 : Bool) :
    c'.plainCode q s check7 = c.plainCode q s check7 := by
  simp only [Chip.plainCode, hpart, slotOwner_congr hw s hs, slotAdmitted_congr hp hw ha]

theorem structureBad_congr (s : Nat) (hs : s < 4096) : c'.structureBad s = c.structureBad s := by
  have hl (w : Nat) (h : w < 16) : c'.word (lrnK s w) = c.word (lrnK s w) := hw _ (lrnK_ne_view (.inl ⟨hs, h⟩))
  simp (disch := decide) only [Chip.structureBad, Chip.fetched, Chip.lrnErrOp, Chip.lrnAngle, Chip.opMode, Chip.opBit, outK, Chip.fld,
    Chip.bit, slotHdr_congr hp hw, slotWord_congr hp hw, hl]
  rfl

theorem destBad_congr (s : Nat) (hs : s < 4096) : c'.destBad s = c.destBad s := by
  simp only [Chip.destBad, outK, Chip.fld, slotHdr_congr hp hw, slotWord_congr hp hw, ownerAt_congr hw, slotOwner_congr hw s hs]
  rfl

section
variable (he : c'.loop.enabled = c.loop.enabled)
include he

theorem groupBad_congr (s : Nat) : c'.groupBad s = c.groupBad s := by
  simp only [Chip.groupBad, Chip.dcBad, Chip.bq, outK, Chip.fld, slotHdr_congr hp hw, slotWord_congr hp hw, he]
  rfl

theorem learnBad_congr (s : Nat) (hs : s < 4096) : c'.learnBad s = c.learnBad s := by
  have hl (w : Nat) (h : w < 16) : c'.word (lrnK s w) = c.word (lrnK s w) := hw _ (lrnK_ne_view (.inl ⟨hs, h⟩))
  have hl0 (t : Nat) : c'.word (lrnK t 0) = c.word (lrnK t 0) := hw _ (lrnK_ne_view (.inr rfl))
  simp (disch := decide) only [Chip.learnBad, Chip.nbins, Chip.lrnErrOp, Chip.lrnAngle, Chip.opMode, Chip.opBit, hdrK, Chip.fld, Chip.bit,
    Chip.nat, slotHdr_congr hp hw, slotWord_congr hp hw, hl, hl0, he]
  rfl

theorem dramRate_congr (s : Nat) : c'.dramRate s = c.dramRate s := by
  simp only [Chip.dramRate, outK, Chip.fld, slotHdr_congr hp hw, slotWord_congr hp hw, he]
  rfl

theorem enableCode_congr (hpart : c'.part = c.part) (q s : Nat) (hs : s < 4096) : c'.enableCode q s = c.enableCode q s := by
  simp only [Chip.enableCode, Chip.fastSlots, hpart, he, slotHdr_congr hp hw, slotOwner_congr hw s hs, structureBad_congr hp hw s hs,
    destBad_congr hp hw s hs, groupBad_congr hp hw he, learnBad_congr hp hw he s hs, dramRate_congr hp hw he]
  rfl

end

end

/-! ### The effects (R192, R195) -/

/-- What an effect on slot `s` changes of the registers: the stores, the counts of enabled slots, and the learning status. -/
def slotBits (s k _j : Nat) : Prop := 2 ^ 80 ≤ k ∨ k = loopA 0x108 ∨ k = loopA 0x10C ∨ k = lrnK s 11

theorem slotBits_slotK (s t sel w j : Nat) : slotBits s (slotK t sel w) j := .inl (by simp only [slotK, elemKey]; omega)

theorem not_slotBits_view {s p : Nat} (hp : p < 16) (j : Nat) : ¬ slotBits s (slotRespK p) j := by
  simp only [slotBits, lrnK, twAddr, slotRespK, viewKey, loopA, pageAddr, LOOP]
  omega

theorem syncSlots_alters (s : Nat) (c : Chip) : c.Alters (slotBits s) c.syncSlots :=
  (setNat_alters c _ _ fun _ => .inr (.inl rfl)).trans (setNat_alters _ _ _ fun _ => .inr (.inr (.inl rfl)))

theorem syncSlots_slotHdr (c : Chip) (s : Nat) : c.syncSlots.slotHdr s = c.slotHdr s := by
  have hk (w : Nat) : c.syncSlots.word (hdrK s w) = c.word (hdrK s w) := by
    rw [Chip.syncSlots, Chip.word_setNat, if_neg, Chip.word_setNat, if_neg]
    all_goals simp only [hdrK, slotK, elemKey, loopA, pageAddr, LOOP]; omega
  simp only [Chip.slotHdr, Chip.bit, Chip.fld, hk]

theorem slotHdr_of_words (h : c'.words = c.words) (s : Nat) : c'.slotHdr s = c.slotHdr s := by
  simp only [Chip.slotHdr, bit_of_words h, fld_of_words h]

theorem enabled_of_words {s : Nat} {b : Bool} (h : c'.words = (c.setBit (hdrK s 0) 31 b).words) : (c'.slotHdr s).enabled = b :=
  (bit_of_words h _ _).trans (Chip.bit_setBit_same _ _ _ _ (by decide))

theorem slotOn_enables (c : Chip) (s : Nat) : ((c.slotOn s).slotHdr s).enabled = true := by
  unfold Chip.slotOn
  split
  · assumption
  · rw [syncSlots_slotHdr]
    exact enabled_of_words (c := (c.setFld (hdrK s 4) 0 24 (c.slotCost s)).setFld (hdrK s 5) 0 24 (c.costOut0 s)) rfl

theorem hdrFld_alters (c : Chip) (s w lo n v : Nat) : c.Alters (slotBits s) (c.setFld (hdrK s w) lo n v) :=
  setFld_alters c _ lo n v fun _ _ _ => slotBits_slotK ..

theorem hdrBit_alters (c : Chip) (s w i : Nat) (b : Bool) : c.Alters (slotBits s) (c.setBit (hdrK s w) i b) := hdrFld_alters ..

theorem slotOn_alters (c : Chip) (s : Nat) : c.Alters (slotBits s) (c.slotOn s) := by
  have hcost := ((hdrFld_alters c s 4 0 24 (c.slotCost s)).trans (hdrFld_alters _ s 5 0 24 (c.costOut0 s))).trans (hdrBit_alters _ s 0 31 true)
  exact .ite (.refl _ c) (.after (syncSlots_alters s _) (hcost.keep rfl rfl rfl))

theorem slotOff_disables (c : Chip) (s : Nat) : ((c.slotOff s).slotHdr s).enabled = false := by
  have hne (w : Nat) (h : w = 4 ∨ w = 5) : hdrK s 0 ≠ hdrK s w := by
    simp only [hdrK, slotK, elemKey]
    omega
  rw [Chip.slotOff, syncSlots_slotHdr]
  simp only [Chip.slotHdr, Chip.bit]
  rw [Chip.word_setFld, if_neg (hne 5 (.inr rfl)), Chip.word_setFld, if_neg (hne 4 (.inl rfl))]
  exact Chip.bit_setBit_same _ (hdrK s 0) 31 false (by decide)

theorem slotOff_alters (c : Chip) (s : Nat) : c.Alters (slotBits s) (c.slotOff s) := by
  have hout : c.Alters (slotBits s) { c with loop := { c.loop with enabled := c.loop.enabled.filter (· != s) } } := .of_words rfl rfl rfl
  exact (((hout.trans (hdrBit_alters _ s 0 31 false)).trans (hdrFld_alters _ s 4 0 24 _)).trans (hdrFld_alters _ s 5 0 24 _)).trans
    (syncSlots_alters s _)

/-- A state word that nothing has written reads 0 (R192). -/
theorem wordReset_state {s k : Nat} (hs : s < 4096) (hk : k < 16) : wordReset (slotK s 0x08 k) = 0 := by
  have hkey : ¬ slotK s 0x08 k < 2 ^ 80 := by
    simp only [slotK, elemKey]
    omega
  have hstore : slotK s 0x08 k / 2 ^ 80 - 1 = storeOf LOOP 0x08 := by
    simp only [slotK, elemKey, storeOf, LOOP]
    omega
  rw [wordReset, if_neg hkey, hstore]
  rfl

theorem slotClearState_zero (c : Chip) {s k : Nat} (hs : s < 4096) (hk : k < 16) : (c.slotClearState s).word (slotK s 0x08 k) = 0 := by
  have hin : slotK s 0x08 0 ≤ slotK s 0x08 k ∧ slotK s 0x08 k < slotK s 0x08 16 := by
    simp only [slotK, elemKey]
    omega
  have hclear : (c.slotClearState s).word (slotK s 0x08 k) = wordReset (slotK s 0x08 k) :=
    tabGet_filter_out wordReset c.words (fun x => decide (x < slotK s 0x08 0) || decide (slotK s 0x08 16 ≤ x)) (by simp [hin])
  rw [hclear, wordReset_state hs hk]

theorem slotClearState_alters (c : Chip) (s : Nat) : c.Alters (slotBits s) (c.slotClearState s) := by
  refine (clearWords_alters c fun k _ h => .inl (le_trans ?_ h.1)).keep rfl rfl rfl
  simp only [slotK, elemKey]
  omega

theorem slotClearStat_clears (c : Chip) {s : Nat} (hs : s < 4096) :
    (c.slotClearStat s).fld (hdrK s 6) 0 10 = 0 ∧ ∀ w, w = 7 ∨ w = 8 ∨ w = 9 → (c.slotClearStat s).nat (hdrK s w) = 0 := by
  have hlrn (w : Nat) : hdrK s w ≠ lrnK s 11 := by
    simp only [hdrK, slotK, elemKey, lrnK, twAddr, LOOP]
    omega
  have hne {w w' : Nat} (h : w < 16) (h' : w' < 16) : hdrK s w = hdrK s w' ↔ w = w' := by
    simp only [hdrK, slotK, elemKey]
    omega
  constructor
  · simp [Chip.slotClearStat, Chip.fld, Chip.setBit, Chip.word_setFld, Chip.word_setNat, hlrn, hne, getBits_putBits_same]
  · rintro w (rfl | rfl | rfl) <;>
    simp [Chip.slotClearStat, Chip.nat, Chip.setBit, Chip.word_setFld, Chip.word_setNat, hlrn, hne]

theorem slotClearStat_alters (c : Chip) (s : Nat) : c.Alters (slotBits s) (c.slotClearStat s) :=
  ((((setFld_alters c _ 0 10 _ fun _ _ _ => slotBits_slotK ..).trans (setNat_alters _ _ _ fun _ => slotBits_slotK ..)).trans
    (setNat_alters _ _ _ fun _ => slotBits_slotK ..)).trans (setNat_alters _ _ _ fun _ => slotBits_slotK ..)).trans
    (setBit_alters _ _ 25 false (.inr (.inr (.inr rfl))))

/-! ### The command whose turn begins (R194, R195) -/

/-- The code of a command (R195). -/
def Chip.slotCode (c : Chip) (q : SlotCmd) : Nat :=
  match q.cmd with
  | 1 => c.enableCode q.p q.slot
  | 2 => if slotPresent c.part q.slot && c.slotOwner q.slot == q.p && !(c.slotHdr q.slot).enabled then 0 else c.plainCode q.p q.slot true
  | 3 => c.plainCode q.p q.slot true
  | _ => c.plainCode q.p q.slot false

/-- The effect of a command that passes its checks (R192, R195). -/
def Chip.slotEffect (c : Chip) (cmd s : Nat) : Chip :=
  match cmd with
  | 1 => c.slotOn s
  | 2 => if (c.slotHdr s).enabled then c.slotOff s else c
  | 3 => c.slotClearState s
  | 4 => c.slotClearStat s
  | _ => c

/-- The module with another queue of slot commands. -/
def Chip.withSlotCmds (c : Chip) (l : List SlotCmd) : Chip := { c with loop := { c.loop with cmds := l } }

theorem withSlotCmds_words (c : Chip) (l : List SlotCmd) : (c.withSlotCmds l).words = c.words := rfl

theorem withSlotCmds_keeps (c : Chip) (l : List SlotCmd) :
    (c.withSlotCmds l).part = c.part ∧ (c.withSlotCmds l).loop.enabled = c.loop.enabled ∧ (c.withSlotCmds l).hoi = c.hoi := ⟨rfl, rfl, rfl⟩

theorem setNat_keeps (c : Chip) (k v : Nat) :
    (c.setNat k v).part = c.part ∧ (c.setNat k v).loop = c.loop ∧ (c.setNat k v).hoi = c.hoi :=
  ⟨Chip.setWord_part .., Chip.setWord_loop .., Chip.setWord_hoi ..⟩

theorem setNat_loop (c : Chip) (k v : Nat) : (c.setNat k v).loop = c.loop := Chip.setWord_loop ..

theorem startSlotCmd_first {q : SlotCmd} {r : List SlotCmd} (h : c.loop.cmds = q :: r) :
    c.startSlotCmd =
      (if c.slotCode q = 0 then c.slotEffect q.cmd q.slot else c).withSlotCmds ({ q with code := c.slotCode q } :: r) := by
  rw [Chip.startSlotCmd, h]
  rfl

theorem slotEffect_alters (c : Chip) (cmd s : Nat) : c.Alters (slotBits s) (c.slotEffect cmd s) := by
  unfold Chip.slotEffect
  split
  · exact slotOn_alters ..
  · exact .ite (slotOff_alters ..) (.refl _ c)
  · exact slotClearState_alters ..
  · exact slotClearStat_alters ..
  · exact .refl _ c

theorem slotEffect_enables (c : Chip) (s : Nat) : ((c.slotEffect 1 s).slotHdr s).enabled = true := slotOn_enables c s

/-- DISABLE leaves the slot disabled, whether or not it was enabled. -/
theorem slotEffect_disables (c : Chip) (s : Nat) : ((c.slotEffect 2 s).slotHdr s).enabled = false := by
  simp only [Chip.slotEffect]
  split
  · exact slotOff_disables ..
  · next h => exact eq_false_of_ne_true h

theorem slotEffect_zero (c : Chip) {s k : Nat} (hs : s < 4096) (hk : k < 16) : (c.slotEffect 3 s).word (slotK s 0x08 k) = 0 :=
  slotClearState_zero c hs hk

theorem slotEffect_clears (c : Chip) {s : Nat} (hs : s < 4096) :
    (c.slotEffect 4 s).fld (hdrK s 6) 0 10 = 0 ∧ ∀ w, w = 7 ∨ w = 8 ∨ w = 9 → (c.slotEffect 4 s).nat (hdrK s w) = 0 :=
  slotClearStat_clears c hs

theorem slotCode_enable (c : Chip) (p s : Nat) : c.slotCode { p := p, cmd := 1, slot := s } = c.enableCode p s := rfl

theorem slotCode_disable (c : Chip) {p s : Nat} (h : c.plainCode p s true = 0) : c.slotCode { p := p, cmd := 2, slot := s } = 0 := by
  simp only [Chip.slotCode, h, ite_self]

theorem slotCode_resetState (c : Chip) (p s : Nat) : c.slotCode { p := p, cmd := 3, slot := s } = c.plainCode p s true := rfl

theorem slotCode_clearStat (c : Chip) (p s : Nat) : c.slotCode { p := p, cmd := 4, slot := s } = c.plainCode p s false := rfl

/-! ### A command is written (R194) -/

/-- BUSY is set with the slot, and the command joins the queue. -/
def Chip.slotQueued (c : Chip) (p cmd s : Nat) : Chip :=
  (c.setNat (slotRespK p) (2 ^ 31 + s)).withSlotCmds (c.loop.cmds ++ [{ p := p, cmd := cmd, slot := s }])

theorem slotCmd_op {cmd s : Nat} (hcmd : cmd < 16) : getBits (BitVec.ofNat 32 (cmd * 2 ^ 28 + s % 4096)) 28 4 = cmd := by
  simp only [getBits, BitVec.toNat_ofNat, Nat.shiftRight_eq_div_pow]
  omega

theorem slotCmd_slot {cmd s : Nat} (hs : s < 4096) : getBits (BitVec.ofNat 32 (cmd * 2 ^ 28 + s % 4096)) 0 12 = s := by
  simp only [getBits, BitVec.toNat_ofNat, Nat.shiftRight_eq_div_pow]
  omega

theorem slotCmdWrite_eq {p cmd s : Nat} (hb : c.bit (slotRespK p) 31 = false) {d : Word} (hcmd : getBits d 28 4 = cmd) (hs : getBits d 0 12 = s) :
    c.slotCmdWrite p d = if c.loop.cmds.isEmpty then (c.slotQueued p cmd s).startSlotCmd else c.slotQueued p cmd s := by
  rw [Chip.slotCmdWrite, hb, if_neg (by decide)]
  dsimp only
  have hloop := setNat_loop c (slotRespK p) (2 ^ 31 + s)
  simp only [hcmd, hs, Chip.slotQueued, Chip.withSlotCmds]
  generalize c.setNat (slotRespK p) (2 ^ 31 + s) = d at *
  rw [hloop]

theorem slotQueued_words (c : Chip) (p cmd s : Nat) : (c.slotQueued p cmd s).words = (c.setNat (slotRespK p) (2 ^ 31 + s)).words :=
  withSlotCmds_words ..

theorem slotQueued_word (c : Chip) {p cmd s k : Nat} (h : k ≠ slotRespK p) : (c.slotQueued p cmd s).word k = c.word k :=
  (word_of_words (slotQueued_words ..) k).trans (Chip.word_setWord_ne c _ h)

theorem slotQueued_busy (c : Chip) {p cmd s : Nat} (hs : s < 4096) : (c.slotQueued p cmd s).nat (slotRespK p) = 2 ^ 31 + s :=
  (nat_of_words (slotQueued_words ..) _).trans (Chip.nat_setNat_same c _ _ (by omega))

/-- What identifies a command in the queue: its partition, its OP and its slot. -/
def cmdKey (q : SlotCmd) : Nat × Nat × Nat := (q.p, q.cmd, q.slot)

section
variable {p cmd s : Nat} (hb : c.bit (slotRespK p) 31 = false) (hcmd : cmd < 16) (hs : s < 4096)
include hb hcmd hs

/-- A command that does not wait takes its turn at once (log 43). -/
theorem slotCmdWrite_starts (he : c.loop.cmds = []) :
    let q : SlotCmd := { p := p, cmd := cmd, slot := s }
    let d := c.slotQueued p cmd s
    c.slotCmdWrite p (BitVec.ofNat 32 (cmd * 2 ^ 28 + s % 4096)) =
      (if d.slotCode q = 0 then d.slotEffect cmd s else d).withSlotCmds [{ q with code := d.slotCode q }] := by
  intro q d
  have hq : d.loop.cmds = [q] := congrArg (· ++ [q]) he
  rw [slotCmdWrite_eq hb (slotCmd_op hcmd) (slotCmd_slot hs), he, List.isEmpty_nil, if_pos rfl]
  exact startSlotCmd_first hq

/-- Whether it waits or not, BUSY shows with the slot, and it is the last in the queue. -/
theorem slotCmdWrite_queues (hp : p < 16) :
    let n := c.slotCmdWrite p (BitVec.ofNat 32 (cmd * 2 ^ 28 + s % 4096))
    n.nat (slotRespK p) = 2 ^ 31 + s ∧ n.loop.cmds.map cmdKey = c.loop.cmds.map cmdKey ++ [(p, cmd, s)] := by
  have hbusy := slotQueued_busy c (p := p) (cmd := cmd) hs
  by_cases he : c.loop.cmds = []
  · rw [slotCmdWrite_starts hb hcmd hs he, he]
    have heffect : (c.slotQueued p cmd s).Alters (slotBits s)
        (if (c.slotQueued p cmd s).slotCode { p := p, cmd := cmd, slot := s } = 0 then (c.slotQueued p cmd s).slotEffect cmd s
          else c.slotQueued p cmd s) := .ite (slotEffect_alters ..) (.refl _ _)
    exact ⟨(heffect.nat _ (not_slotBits_view hp)).trans hbusy, rfl⟩
  · rw [slotCmdWrite_eq hb (slotCmd_op hcmd) (slotCmd_slot hs), if_neg (by simpa using he)]
    exact ⟨hbusy, List.map_append⟩

end

theorem applyWrite_slotCmd (c : Chip) (x : Meets) (m : Nat) (d : Word) :
    c.applyWrite x m (loopA 0x100) [d] false = c.slotCmdWrite m d := by
  have hoff : offOf (loopA 0x100) = 0x100 := rfl
  have hres := resultAt_below c.part (show offOf (loopA 0x100) < 0x800 by decide)
  have htw : isTw (loopA 0x100) = false := rfl
  have hwin : isWindow (loopA 0x100) = false := by decide
  have hblock : blockOf (loopA 0x100) = 0x05 := rfl
  have hinst : instOf (loopA 0x100) = 0 := rfl
  simp [Chip.applyWrite, hres, htw, hoff, Chip.blockWrite, hwin, hblock, hinst]

section
variable (s : State) {m n : Nat} (hm : m < 16) (hn : n < 4096) (h : s.chip.takes m (loopA 0x100) false = true)
variable (hb : s.chip.bit (slotRespK m) 31 = false)
include hm hn h hb

/-- A command as its partition writes it; at an empty queue it has acted on slot `n` where its code is 0. -/
theorem slotCmd_answers {cmd : Nat} (hcmd : cmd < 16) {j : Instr}
    (hj : exec j s = s.put m (loopA 0x100) (BitVec.ofNat 32 (cmd * 2 ^ 28 + n % 4096))) {P : Chip → Prop}
    (hP : ∀ c c' : Chip, c'.words = c.words → P c → P c')
    (hacts : s.chip.loop.cmds = [] → (s.chip.slotQueued m cmd n).slotCode { p := m, cmd := cmd, slot := n } = 0 →
      P ((s.chip.slotQueued m cmd n).slotEffect cmd n)) :
    Answers (exec j s) fun t =>
      t.chip.nat (slotRespK m) = 2 ^ 31 + n ∧ t.chip.resp.status = .done ∧
      t.chip.loop.cmds.map cmdKey = s.chip.loop.cmds.map cmdKey ++ [(m, cmd, n)] ∧
      (s.chip.loop.cmds = [] → (s.chip.slotQueued m cmd n).slotCode { p := m, cmd := cmd, slot := n } = 0 → P t.chip) := by
  obtain ⟨hbusy, hcmds⟩ := slotCmdWrite_queues hb hcmd hn hm
  obtain ⟨t, ht, hsh, hresp⟩ := put_showsLoop s m (loopA 0x100) _ hj h (.inr (by decide)) rfl (applyWrite_slotCmd ..)
  refine ⟨t, ht, (hsh.nat _).trans hbusy, hresp, by rw [hsh.loop, hcmds], fun he hcode => hP _ _ ?_ (hacts he hcode)⟩
  rw [hsh.words, slotCmdWrite_starts hb hcmd hn he, if_pos hcode]
  rfl

end

/-! ### The four commands -/

theorem exec_slotEnable (s : State) (m n : Nat) :
    exec (.slotEnable m n) s = s.put m (loopA 0x100) (BitVec.ofNat 32 (1 * 2 ^ 28 + n % 4096)) := rfl
theorem exec_slotDisable (s : State) (m n : Nat) :
    exec (.slotDisable m n) s = s.put m (loopA 0x100) (BitVec.ofNat 32 (2 * 2 ^ 28 + n % 4096)) := rfl
theorem exec_slotResetState (s : State) (m n : Nat) :
    exec (.slotResetState m n) s = s.put m (loopA 0x100) (BitVec.ofNat 32 (3 * 2 ^ 28 + n % 4096)) := rfl
theorem exec_slotClearStat (s : State) (m n : Nat) :
    exec (.slotClearStat m n) s = s.put m (loopA 0x100) (BitVec.ofNat 32 (4 * 2 ^ 28 + n % 4096)) := rfl

/-- Queueing a command changes neither the part, nor the enabled slots, nor the admitted tasks. -/
theorem slotQueued_keeps (c : Chip) (p cmd s : Nat) :
    (c.slotQueued p cmd s).part = c.part ∧ (c.slotQueued p cmd s).loop.enabled = c.loop.enabled ∧
      (c.slotQueued p cmd s).hoi.admitted = c.hoi.admitted := by
  have hset := setNat_keeps c (slotRespK p) (2 ^ 31 + s)
  have hqueue := withSlotCmds_keeps (c.setNat (slotRespK p) (2 ^ 31 + s)) (c.loop.cmds ++ [{ p := p, cmd := cmd, slot := s }])
  obtain ⟨hpart, hloop, hhoi⟩ := hset
  obtain ⟨hpart', hen', hhoi'⟩ := hqueue
  exact ⟨hpart'.trans hpart, hen'.trans (congrArg Loop.enabled hloop), congrArg Hoi.admitted (hhoi'.trans hhoi)⟩

theorem slotQueued_enableCode (c : Chip) {p cmd s : Nat} (hp : p < 16) (hs : s < 4096) :
    (c.slotQueued p cmd s).enableCode p s = c.enableCode p s := by
  obtain ⟨hpart, hen, -⟩ := slotQueued_keeps c p cmd s
  exact enableCode_congr hp (fun _ hk => slotQueued_word c hk) hen hpart p s hs

theorem slotQueued_plainCode (c : Chip) {p cmd s : Nat} (hp : p < 16) (hs : s < 4096) (check7 : Bool) :
    (c.slotQueued p cmd s).plainCode p s check7 = c.plainCode p s check7 := by
  obtain ⟨hpart, -, hadm⟩ := slotQueued_keeps c p cmd s
  exact plainCode_congr hp (fun _ hk => slotQueued_word c hk) hpart hadm p s hs check7

/-! ### The end of a command (R194) -/

theorem exec_slotCmdDone (s : State) : exec .slotCmdDone s = s.event LOOP 0 fun c => c.slotCmdDone := rfl

theorem startSlotCmd_none (h : c.loop.cmds = []) : c.startSlotCmd = c := by rw [Chip.startSlotCmd, h]

theorem Chip.Notes.loop (h : c.Notes c') : c'.loop = c.loop := by
  obtain ⟨w, n, l, rfl⟩ := h
  rfl

/-- The answer to a command is set at `k`, and the page's cause 0 occurs. -/
def Chip.slotAnswered (c : Chip) (k v : Nat) : Chip := ((c.withSlotCmds []).setNat k v).cause LOOP 0 0

theorem slotAnswered_cmds (c : Chip) (k v : Nat) : (c.slotAnswered k v).loop.cmds = [] := by
  rw [Chip.slotAnswered, (cause_notes ..).loop, setNat_loop]
  rfl

theorem slotAnswered_shows (c : Chip) (p : Nat) {v : Nat} (hv : v < 2 ^ 32) :
    (c.slotAnswered (slotRespK p) v).nat (slotRespK p) = v ∧ (c.slotAnswered (slotRespK p) v).bit (loopA PG_EVT_RAW) 0 = true := by
  have hcause := cause_alters (S := fun k _ => k = loopA PG_EVT_RAW ∨ k = loopA PG_EVT_PEND)
    ((c.withSlotCmds []).setNat (slotRespK p) v) LOOP 0 0 (.inl rfl) (.inr rfl)
  refine ⟨(hcause.nat _ fun j => ?_).trans (Chip.nat_setNat_same _ _ _ hv), cause_raises _ LOOP 0 0 (by decide)⟩
  simp only [loopA, slotRespK, viewKey, pageAddr, LOOP, PG_EVT_RAW, PG_EVT_PEND]
  omega

/-- With no other command waiting, nothing follows the answer. -/
theorem slotCmdDone_last {q : SlotCmd} (h : c.loop.cmds = [q]) :
    c.slotCmdDone = c.slotAnswered (slotRespK q.p) (2 ^ 30 + q.code * 2 ^ 24 + q.slot) := by
  simp only [Chip.slotCmdDone, h]
  generalize slotRespK q.p = k
  generalize 2 ^ 30 + q.code * 2 ^ 24 + q.slot = v
  exact startSlotCmd_none (slotAnswered_cmds c k v)

theorem slotCmdDone_answers (s : State) {q : SlotCmd} (ha : s.chip.acts LOOP 0 = true) (h : s.chip.loop.cmds = [q])
    (hs : q.slot < 4096) (hc : q.code < 16) :
    Answers (exec .slotCmdDone s) fun t =>
      t.chip.loop.cmds = [] ∧ t.chip.nat (slotRespK q.p) = 2 ^ 30 + q.code * 2 ^ 24 + q.slot ∧ t.chip.bit (loopA PG_EVT_RAW) 0 = true := by
  obtain ⟨hnat, hraw⟩ := slotAnswered_shows s.chip q.p (v := 2 ^ 30 + q.code * 2 ^ 24 + q.slot) (by omega)
  obtain ⟨t, ht, hsh⟩ := event_showsLoop s (exec_slotCmdDone s) ha
  rw [slotCmdDone_last h] at hsh
  exact ⟨t, ht, by rw [hsh.loop, slotAnswered_cmds], (hsh.nat _).trans hnat, (hsh.bit ..).trans hraw⟩

/-- Settles O30: a command joins the queue with BUSY, and one that does not wait acts at once (log 43); the end of the last shows its answer. -/
theorem slotCommands : Obligations.SlotCommands := by
  unfold Obligations.SlotCommands
  intro s m n hm hn _
  refine ⟨fun h hb => ⟨?_, ?_, ?_, ?_⟩, fun q ha hq _ hs hc => slotCmdDone_answers s ha hq hs hc⟩
  · obtain ⟨t, ht, hbusy, hresp, hcmds, hP⟩ := slotCmd_answers s hm hn h hb (by decide) (exec_slotEnable s m n)
      (P := fun c => (c.slotHdr n).enabled = true) (fun _ _ hw hc => by rwa [slotHdr_of_words hw]) fun _ _ => slotEffect_enables ..
    refine ⟨t, ht, hbusy, hresp, hcmds, fun he hcode => hP he ?_⟩
    rw [slotCode_enable, slotQueued_enableCode s.chip hm hn, hcode]
  · obtain ⟨t, ht, hbusy, hresp, hcmds, hP⟩ := slotCmd_answers s hm hn h hb (by decide) (exec_slotDisable s m n)
      (P := fun c => (c.slotHdr n).enabled = false) (fun _ _ hw hc => by rwa [slotHdr_of_words hw]) fun _ _ => slotEffect_disables ..
    refine ⟨t, ht, hbusy, hresp, hcmds, fun he hcode => hP he (slotCode_disable _ ?_)⟩
    rw [slotQueued_plainCode s.chip hm hn, hcode]
  · obtain ⟨t, ht, hbusy, hresp, hcmds, hP⟩ := slotCmd_answers s hm hn h hb (by decide) (exec_slotResetState s m n)
      (P := fun c => ∀ k, k < 16 → c.word (slotK n 0x08 k) = 0) (fun _ _ hw hc k hk => (word_of_words hw _).trans (hc k hk))
      fun _ _ k hk => slotEffect_zero _ hn hk
    refine ⟨t, ht, hbusy, hresp, hcmds, fun he hcode => hP he ?_⟩
    rw [slotCode_resetState, slotQueued_plainCode s.chip hm hn, hcode]
  · obtain ⟨t, ht, hbusy, hresp, hcmds, hP⟩ := slotCmd_answers s hm hn h hb (by decide) (exec_slotClearStat s m n)
      (P := fun c => c.fld (hdrK n 6) 0 10 = 0 ∧ ∀ w, w = 7 ∨ w = 8 ∨ w = 9 → c.nat (hdrK n w) = 0)
      (fun _ _ hw ⟨hflags, hcounts⟩ => ⟨(fld_of_words hw ..).trans hflags, fun w h => (nat_of_words hw _).trans (hcounts w h)⟩)
      fun _ _ => slotEffect_clears _ hn
    refine ⟨t, ht, hbusy, hresp, hcmds, fun he hcode => ?_⟩
    obtain ⟨hflags, hcounts⟩ := hP he (by rw [slotCode_clearStat, slotQueued_plainCode s.chip hm hn, hcode])
    exact ⟨hflags, hcounts 7 (by simp), hcounts 8 (by simp), hcounts 9 (by simp)⟩

end Sys2Proof.Machine
end

section
/-! PROOFS. Slot control, hand-over groups and the registers of learning (R180, R182, R187, R203, R204, R215). -/

namespace Sys2Proof.Machine

variable {c : Chip}

/-! ### What a write in the table window of the Loop Array reaches -/

theorem twWrite_ctl (c : Chip) (x : Meets) (m : Nat) {n : Nat} (d : Word) (hn : n < 4096) :
    c.twWrite x m (ctlK n) [d] = c.slotCtlWrite n d := by
  have ho : 0x1_0000 + 16 * n < 0x8_0000 := by omega
  have hblock : blockOf (ctlK n) = 0x05 := blockOf_twAddr _ _ (by decide) ho
  have hof : twOf (ctlK n) = 0x1_0000 + 16 * n := twOf_twAddr _ _ ho
  simp [Chip.twWrite, hblock, hof, show ¬ 65536 + 16 * n < 5120 by omega, show 65536 + 16 * n < 131072 by omega,
    show (65536 + 16 * n) % 16 = 0 by omega]

theorem twWrite_group (c : Chip) (x : Meets) {m g k : Nat} (d : Word) (hm : m < 16) (hg : g < 256) (hk : k < 4) :
    c.twWrite x m (grpK g k) [d] = c.groupWrite m g k d := by
  have ho : 0x400 + 16 * g + 4 * k < 0x8_0000 := by omega
  have hblock : blockOf (grpK g k) = 0x05 := blockOf_twAddr _ _ (by decide) ho
  have hof : twOf (grpK g k) = 0x400 + 16 * g + 4 * k := twOf_twAddr _ _ ho
  have hgroup : (0x400 + 16 * g + 4 * k - 0x400) / 16 = g := by omega
  have hword : (0x400 + 16 * g + 4 * k) % 16 / 4 = k := by omega
  simp [Chip.twWrite, hblock, hof, hgroup, hword, show 1024 ≤ 1024 + 16 * g + 4 * k by omega, show 1024 + 16 * g + 4 * k < 5120 by omega,
    show m ≠ 16 by omega]

/-- The words of a learning block that act when written (R203, R204). -/
theorem twWrite_lrn (c : Chip) (x : Meets) (m : Nat) {n w : Nat} (d : Word) (hn : n < 4096) (hw : w < 16) :
    c.twWrite x m (lrnK n w) [d] =
      if w < 8 then c.lrnCfgWrite n w d else if w = 8 then c.lrnCtlWrite n d else if w = 9 then c.lrnGainWrite m n false d
      else if w = 10 then c.lrnGainWrite m n true d else c := by
  have ho : 0x2_0000 + 64 * n + 4 * w < 0x8_0000 := by omega
  have hblock : blockOf (lrnK n w) = 0x05 := blockOf_twAddr _ _ (by decide) ho
  have hof : twOf (lrnK n w) = 0x2_0000 + 64 * n + 4 * w := twOf_twAddr _ _ ho
  have hslot : (0x2_0000 + 64 * n + 4 * w - 0x2_0000) / 64 = n := by omega
  have hword : (0x2_0000 + 64 * n + 4 * w) % 64 / 4 = w := by omega
  simp [Chip.twWrite, Chip.each, hblock, hof, hslot, hword, show ¬ 131072 + 64 * n + 4 * w < 5120 by omega,
    show ¬ 131072 + 64 * n + 4 * w < 131072 by omega, show 131072 ≤ 131072 + 64 * n + 4 * w by omega]

/-! ### Slot control (R180, R215) -/

theorem lrnK_eq_lrnK (s w w' : Nat) : lrnK s w = lrnK s w' ↔ w = w' := by
  simp only [lrnK, twAddr]
  omega

/-- The freeze of a mode change. -/
theorem modeChange_freezes (c : Chip) (s : Nat) : (c.modeChange s).fld (lrnK s 11) 0 8 = c.fld (lrnK s 1) 16 8 := by
  rw [Chip.modeChange, Chip.fld_setFld_same _ _ _ _ _ (by decide), Nat.mod_eq_of_lt (fld_lt ..)]

theorem modeChange_word (c : Chip) {s k : Nat} (h : k ≠ lrnK s 11) : (c.modeChange s).word k = c.word k := by
  rw [Chip.modeChange, Chip.word_setFld, if_neg h]

/-- A word written with a mode change beside it. -/
theorem setWord_modeChange (c : Chip) {s k : Nat} (d : Word) (h1 : k ≠ lrnK s 1) (h11 : k ≠ lrnK s 11) :
    ((c.setWord k d).modeChange s).word k = d ∧ ((c.setWord k d).modeChange s).fld (lrnK s 11) 0 8 = c.fld (lrnK s 1) 16 8 := by
  rw [modeChange_word _ h11, Chip.word_setWord_same, modeChange_freezes, Chip.fld_setWord_ne _ _ _ _ h1.symm]
  exact ⟨rfl, rfl⟩

theorem ctlK_ne_lrnK {n : Nat} (hn : n < 4096) (s w : Nat) : ctlK n ≠ lrnK s w := by
  simp only [ctlK, lrnK, twAddr]
  omega

theorem slotCtlWrite_shows (c : Chip) {n : Nat} (d : Word) (hn : n < 4096) :
    (c.slotCtlWrite n d).word (ctlK n) = (d &&& 0xE000_0000#32) ∧ (c.slotCtlWrite n d).fld (lrnK n 11) 0 8 = c.fld (lrnK n 1) 16 8 :=
  setWord_modeChange c _ (ctlK_ne_lrnK hn _ _) (ctlK_ne_lrnK hn _ _)

/-! ### Hand-over groups (R182, R187) -/

/-- Word 0 of a group with EN and REQ as written. -/
def Chip.groupAsked (c : Chip) (g : Nat) (d : Word) : Chip :=
  (c.setBit (grpK g 0) 31 (d.getLsbD 31)).setFld (grpK g 0) 12 12 (getBits d 12 12)

/-- The token given at once to the slot REQ names. -/
def Chip.groupGiven (c : Chip) (g req : Nat) : Chip :=
  (c.when (c.fld (grpK g 0) 0 12 != req) fun c => c.setSlotRun req { c.slotRun req with noPrev := true }).setFld (grpK g 0) 0 12 req

/-- A write of word 0 whose REQ is a member: only a rise of EN gives the token, and PENDING shows whether it is still to be passed on. -/
theorem groupWrite_member (c : Chip) (m g : Nat) (d : Word) (h : c.memberOf g (getBits d 12 12) = true) :
    c.groupWrite m g 0 d =
      let n := if d.getLsbD 31 && !c.bit (grpK g 0) 31 then (c.groupAsked g d).groupGiven g (getBits d 12 12) else c.groupAsked g d
      n.setBit (grpK g 0) 30 (d.getLsbD 31 && n.fld (grpK g 0) 0 12 != getBits d 12 12) := by
  rw [Chip.groupWrite, if_pos rfl]
  dsimp only
  rw [if_neg (by simp [h])]
  rfl

theorem groupAsked_shows (c : Chip) (g : Nat) (d : Word) :
    (c.groupAsked g d).bit (grpK g 0) 31 = d.getLsbD 31 ∧ (c.groupAsked g d).fld (grpK g 0) 12 12 = getBits d 12 12 := by
  constructor
  · rw [Chip.groupAsked, Chip.bit_setFld, if_neg (by omega), Chip.bit_setBit_same _ _ _ _ (by decide)]
  · rw [Chip.groupAsked, Chip.fld_setFld_same _ _ _ _ _ (by decide), Nat.mod_eq_of_lt (getBits_lt ..)]

theorem groupGiven_words (c : Chip) (g req : Nat) : (c.groupGiven g req).words = (c.setFld (grpK g 0) 0 12 req).words := by
  unfold Chip.groupGiven Chip.when
  split <;> rfl

/-- A REQ that is a member is taken, and holds the token at once when EN rises. -/
theorem groupWrite_request (c : Chip) (m g : Nat) (d : Word) (h : c.memberOf g (getBits d 12 12) = true) :
    let n := c.groupWrite m g 0 d
    n.bit (grpK g 0) 31 = d.getLsbD 31 ∧ n.fld (grpK g 0) 12 12 = getBits d 12 12 ∧
      (d.getLsbD 31 = true → c.bit (grpK g 0) 31 = false → n.fld (grpK g 0) 0 12 = getBits d 12 12 ∧ n.bit (grpK g 0) 30 = false) := by
  intro n
  obtain ⟨hen, hreq⟩ := groupAsked_shows c g d
  have hgiven := groupGiven_words (c.groupAsked g d) g (getBits d 12 12)
  have hn : n = _ := groupWrite_member c m g d h
  refine ⟨?_, ?_, fun hrise hwas => ?_⟩
  · rw [hn, Chip.bit_setBit _ _ _ _ _ _ (by decide), if_neg (by omega)]
    split
    · rw [bit_of_words hgiven, Chip.bit_setFld, if_neg (by omega), hen]
    · exact hen
  · rw [hn, Chip.setBit, Chip.fld_setFld_field _ _ _ _ _ _ _ (by decide)]
    split
    · rw [fld_of_words hgiven, Chip.fld_setFld_field _ _ _ _ _ _ _ (by decide), hreq]
    · exact hreq
  · have hholder : ((c.groupAsked g d).groupGiven g (getBits d 12 12)).fld (grpK g 0) 0 12 = getBits d 12 12 := by
      rw [fld_of_words hgiven, Chip.fld_setFld_same _ _ _ _ _ (by decide), Nat.mod_eq_of_lt (getBits_lt ..)]
    rw [hn, hrise, hwas, Bool.not_false, Bool.and_self, if_pos rfl]
    dsimp only
    rw [hholder]
    constructor
    · rw [Chip.setBit, Chip.fld_setFld_field _ _ _ _ _ _ _ (by decide), hholder]
    · rw [Chip.bit_setBit_same _ _ _ _ (by decide), bne_self_eq_false, Bool.and_false]

/-- Word 1 takes its settings and keeps BLEND_LEFT. -/
theorem groupWrite_settings (c : Chip) (m g : Nat) (d : Word) :
    (c.groupWrite m g 1 d).fld (grpK g 1) 0 24 = getBits d 0 24 ∧ (c.groupWrite m g 1 d).fld (grpK g 1) 24 8 = c.fld (grpK g 1) 24 8 := by
  have hset : c.groupWrite m g 1 d = c.setFld (grpK g 1) 0 24 (getBits d 0 24) := rfl
  rw [hset, Chip.fld_setFld_same _ _ _ _ _ (by decide), Nat.mod_eq_of_lt (getBits_lt ..), Chip.fld_setFld_field _ _ _ _ _ _ _ (by decide)]
  exact ⟨rfl, rfl⟩

/-! ### CLEAR begins (R203) -/

/-- LOOP_LRN_CTL with FREEZE as written and CLEAR kept or set. -/
def Chip.lrnAsked (c : Chip) (n : Nat) (d : Word) : Chip :=
  (c.setWord (lrnK n 8) (d &&& 0x8000_0000#32)).setBit (lrnK n 8) 30 (c.bit (lrnK n 8) 30 || d.getLsbD 30)

theorem lrnAsked_shows (c : Chip) (n : Nat) (d : Word) :
    (c.lrnAsked n d).bit (lrnK n 8) 31 = d.getLsbD 31 ∧
      (c.lrnAsked n d).bit (lrnK n 8) 30 = (c.bit (lrnK n 8) 30 || d.getLsbD 30) ∧
      (c.lrnAsked n d).bit (lrnK n 11) 24 = c.bit (lrnK n 11) 24 := by
  refine ⟨?_, Chip.bit_setBit_same _ _ _ _ (by decide), ?_⟩
  · rw [Chip.lrnAsked, Chip.bit_setBit _ _ _ _ _ _ (by decide), if_neg (by omega), Chip.bit, Chip.word_setWord_same]
    simp
  · rw [Chip.lrnAsked, Chip.bit, Chip.word_setBit_ne _ _ _ (by simp [lrnK_eq_lrnK]), Chip.word_setWord_ne _ _ (by simp [lrnK_eq_lrnK])]
    rfl

theorem lrnCtlWrite_words (c : Chip) (n : Nat) (d : Word) :
    (c.lrnCtlWrite n d).words = (if d.getLsbD 30 then (c.lrnAsked n d).setBit (lrnK n 11) 24 true else c.lrnAsked n d).words := by
  unfold Chip.lrnCtlWrite
  dsimp only
  split <;> rfl

theorem lrnCtlWrite_shows (c : Chip) (n : Nat) (d : Word) :
    (c.lrnCtlWrite n d).bit (lrnK n 8) 31 = d.getLsbD 31 ∧
      (c.lrnCtlWrite n d).bit (lrnK n 8) 30 = (c.bit (lrnK n 8) 30 || d.getLsbD 30) ∧
      (c.lrnCtlWrite n d).bit (lrnK n 11) 24 = (c.bit (lrnK n 11) 24 || d.getLsbD 30) := by
  obtain ⟨hfreeze, hclear, hrun⟩ := lrnAsked_shows c n d
  simp only [bit_of_words (lrnCtlWrite_words c n d)]
  cases hd : d.getLsbD 30 with
  | false =>
    rw [hd] at hclear
    exact ⟨hfreeze, hclear, by simpa using hrun⟩
  | true =>
    have hother (j : Nat) : ((c.lrnAsked n d).setBit (lrnK n 11) 24 true).bit (lrnK n 8) j = (c.lrnAsked n d).bit (lrnK n 8) j := by
      rw [Chip.bit_setBit _ _ _ _ _ _ (by decide), if_neg (by simp [lrnK_eq_lrnK])]
    rw [hd] at hclear
    refine ⟨(hother 31).trans hfreeze, (hother 30).trans hclear, ?_⟩
    rw [if_pos rfl, Chip.bit_setBit_same _ _ _ _ (by decide), Bool.or_true]

/-! ### Clearing the learning store (R203) -/

/-- Two samples stand in different words, or in the two halves of one (R198). -/
theorem sampleK_eq {a b : Nat} (h : sampleK a = sampleK b) (hne : a ≠ b) : a % 2 ≠ b % 2 := by
  simp only [sampleK, elemKey] at h
  omega

theorem lrnSample_setSample_ne (c : Chip) {a b : Nat} (v : Int) (h : b ≠ a) : (c.setSample a v).lrnSample b = c.lrnSample b := by
  simp only [Chip.lrnSample, Chip.setSample]
  by_cases hk : sampleK b = sampleK a
  · have hhalf := sampleK_eq hk h
    rw [hk, Chip.fld_setFld_field _ _ _ _ _ _ _ (by omega)]
  · rw [Chip.fld_setFld_ne _ _ _ _ _ _ hk]

theorem lrnSample_setSample_zero (c : Chip) (a : Nat) : (c.setSample a 0).lrnSample a = 0 := by
  rw [Chip.lrnSample, Chip.setSample, Chip.fld_setFld_same _ _ _ _ _ (by omega)]
  decide

theorem clearBins_zero (c : Chip) (s : Nat) {b : Nat} (hb : b < c.nbins s) : (c.clearBins s).lrnSample (c.firstSample s + b) = 0 := by
  refine each_establishes (P := fun b c' => c'.lrnSample (c.firstSample s + b) = 0) _ (List.range (c.nbins s)) ?_ ?_ c b (List.mem_range.2 hb)
  · intro c' a _
    split
    · assumption
    · exact lrnSample_setSample_zero ..
  · intro c' a y _ _ hy
    split
    · exact hy
    · by_cases hya : y = a
      · exact hya ▸ lrnSample_setSample_zero ..
      · rw [lrnSample_setSample_ne _ _ (by omega), hy]

theorem sampleK_ne_lrnK (a : Nat) {s w : Nat} (hs : s < 4096) (hw : w < 16) : sampleK a ≠ lrnK s w := by
  simp only [sampleK, elemKey, lrnK, twAddr, LOOP]
  omega

/-- A clear under way ends with CLEAR and its mark gone, and every bin at 0. -/
theorem lrnClearDone_shows (c : Chip) {n : Nat} (hn : n < 4096) (h : c.bit (lrnK n 11) 24 = true) :
    (c.lrnClearDone n).bit (lrnK n 8) 30 = false ∧ (c.lrnClearDone n).bit (lrnK n 11) 24 = false ∧
      ∀ b, b < c.nbins n → (c.lrnClearDone n).lrnSample (c.firstSample n + b) = 0 := by
  rw [Chip.lrnClearDone, if_pos h]
  refine ⟨?_, Chip.bit_setBit_same _ _ _ _ (by decide), fun b hb => ?_⟩
  · rw [Chip.bit_setBit _ _ _ _ _ _ (by decide), if_neg (by simp [lrnK_eq_lrnK]), Chip.bit_setBit_same _ _ _ _ (by decide)]
  · have hcleared := clearBins_zero c n hb
    rw [Chip.lrnSample, Chip.setBit, Chip.fld_setFld_ne _ _ _ _ _ _ (sampleK_ne_lrnK _ hn (by decide)), Chip.setBit,
      Chip.fld_setFld_ne _ _ _ _ _ _ (sampleK_ne_lrnK _ hn (by decide))]
    exact hcleared

/-! ### GAMMA and RHO (R204, R215) -/

/-- The range that R204 gives RHO (`rho`) or GAMMA. -/
def gainInRange (rho : Bool) (v : Rat) : Prop := if rho then 1 / 2 ≤ v ∧ v ≤ 1 else 0 < v ∧ v < 2

/-- The register of RHO (`rho`) or GAMMA of slot `s`. -/
def gainK (s : Nat) (rho : Bool) : Nat := lrnK s (if rho then 10 else 9)

theorem gainK_ne_lrnK (s : Nat) (rho : Bool) {w : Nat} (h : w ≠ 9 ∧ w ≠ 10) : gainK s rho ≠ lrnK s w := by
  rw [gainK, Ne, lrnK_eq_lrnK]
  cases rho <;> simp <;> omega

/-- What a write of a gain does, by whether the slot is enabled and the value in its range. -/
theorem lrnGainWrite_cases (c : Chip) (m s : Nat) (rho : Bool) (d : Word) :
    ((c.slotHdr s).enabled = false → c.lrnGainWrite m s rho d = c.setWord (gainK s rho) (d &&& 0xF_FFFF#32)) ∧
      ((c.slotHdr s).enabled = true → gainInRange rho (coefRat (d &&& 0xF_FFFF#32)) →
        c.lrnGainWrite m s rho d = (c.setWord (gainK s rho) (d &&& 0xF_FFFF#32)).modeChange s) ∧
      ((c.slotHdr s).enabled = true → ¬ gainInRange rho (coefRat (d &&& 0xF_FFFF#32)) →
        c.lrnGainWrite m s rho d = c.logErr ecNoKey m (gainK s rho)) := by
  have hbad (v : Rat) : (if rho then decide (v < 1 / 2) || decide (v > 1) else decide (v ≤ 0) || decide (v ≥ 2)) = true ↔
      ¬ gainInRange rho v := by
    cases rho <;> simp only [gainInRange, Bool.or_eq_true, decide_eq_true_eq, Bool.false_eq_true, if_true, if_false, not_and_or, not_le, not_lt]
  refine ⟨fun he => ?_, fun he hr => ?_, fun he hr => ?_⟩
  · rw [Chip.lrnGainWrite, he, if_neg (by decide)]
    rfl
  · rw [Chip.lrnGainWrite, he, if_pos rfl, if_neg (fun hb => (hbad _).1 hb hr)]
    rfl
  · rw [Chip.lrnGainWrite, he, if_pos rfl, if_pos ((hbad _).2 hr)]
    rfl

/-- A value that may be written stands in its register, on an enabled slot with the freeze of a mode change. -/
theorem lrnGainWrite_takes (c : Chip) (m s : Nat) (rho : Bool) (d : Word)
    (h : (c.slotHdr s).enabled = false ∨ gainInRange rho (coefRat (d &&& 0xF_FFFF#32))) :
    (c.lrnGainWrite m s rho d).word (gainK s rho) = (d &&& 0xF_FFFF#32) ∧
      ((c.slotHdr s).enabled = true → (c.lrnGainWrite m s rho d).fld (lrnK s 11) 0 8 = c.fld (lrnK s 1) 16 8) := by
  obtain ⟨hoff, hin, -⟩ := lrnGainWrite_cases c m s rho d
  cases he : (c.slotHdr s).enabled with
  | false =>
    rw [hoff he]
    exact ⟨Chip.word_setWord_same .., nofun⟩
  | true =>
    rw [hin he (h.resolve_left (by simp [he]))]
    obtain ⟨hword, hfreeze⟩ := setWord_modeChange c (d &&& 0xF_FFFF#32) (gainK_ne_lrnK s rho (by decide)) (gainK_ne_lrnK s rho (by decide))
    exact ⟨hword, fun _ => hfreeze⟩

/-- A value out of range is refused on an enabled slot. -/
theorem lrnGainWrite_refuses (c : Chip) (m : Nat) {s : Nat} (rho : Bool) (d : Word) (hs : s < 4096) (he : (c.slotHdr s).enabled = true)
    (h : ¬ gainInRange rho (coefRat (d &&& 0xF_FFFF#32))) : (c.lrnGainWrite m s rho d).word (gainK s rho) = c.word (gainK s rho) := by
  obtain ⟨-, -, hout⟩ := lrnGainWrite_cases c m s rho d
  have htw : isTw (gainK s rho) = true := isTw_twAddr _ _ (by split <;> omega)
  have hlt : gainK s rho < 2 ^ 25 := by
    simp only [gainK, lrnK, twAddr, LOOP]
    split <;> omega
  rw [hout he h]
  exact (logErr_alters ..).word _ (not_errorBits_tw htw htw hlt)

/-! ### The instructions -/

theorem exec_slotCtlWrite (s : State) (m n : Nat) (d : Word) : exec (.slotCtlWrite m n d) s = s.put m (ctlK n) d := rfl
theorem exec_hoGroupWrite (s : State) (m g k : Nat) (d : Word) : exec (.hoGroupWrite m g k d) s = s.put m (grpK g k) d := rfl
theorem exec_learnClear (s : State) (m n : Nat) (d : Word) : exec (.learnClear m n d) s = s.put m (lrnK n 8) d := rfl
theorem exec_learnClearDone (s : State) (n : Nat) : exec (.learnClearDone n) s = s.event LOOP 0 fun c => c.lrnClearDone n := rfl
theorem exec_learnGainWrite (s : State) (m n : Nat) (rho : Bool) (d : Word) :
    exec (.learnGainWrite m n rho d) s = s.put m (gainK n rho) d := rfl

theorem twWrite_gain (c : Chip) (x : Meets) (m : Nat) {n : Nat} (rho : Bool) (d : Word) (hn : n < 4096) :
    c.twWrite x m (gainK n rho) [d] = c.lrnGainWrite m n rho d := by
  cases rho
  · exact twWrite_lrn c x m d hn (by decide)
  · exact twWrite_lrn c x m d hn (by decide)

/-- Settles O31: each register is written through the table window, and `slotCtlWrite_shows`, `groupWrite_request`, `groupWrite_settings`,
`lrnCtlWrite_shows` and the two `lrnGainWrite` lemmas say what the write leaves; LEARN_CLEAR_DONE is `lrnClearDone_shows`. -/
theorem loopControl : Obligations.LoopControl := by
  unfold Obligations.LoopControl
  intro s m n d hn _
  refine ⟨fun h => ?_, fun g hg hm h hmember => ?_, fun g hg hm h => ?_, fun h => ?_, fun hact hclear => ?_, fun rho h => ?_⟩
  · obtain ⟨t, ht, hsh, hdone⟩ := put_loopTw s m d (by omega) (exec_slotCtlWrite ..) h (twWrite_ctl _ _ _ _ hn)
    obtain ⟨hword, hfreeze⟩ := slotCtlWrite_shows s.chip d hn
    exact ⟨t, ht, (hsh.word _).trans hword, hdone, (hsh.fld ..).trans hfreeze⟩
  · obtain ⟨t, ht, hsh, hdone⟩ := put_loopTw s m d (by omega) (exec_hoGroupWrite ..) h (twWrite_group _ _ _ hm hg (by decide))
    obtain ⟨hen, hreq, hgive⟩ := groupWrite_request s.chip m g d hmember
    refine ⟨t, ht, (hsh.bit ..).trans hen, (hsh.fld ..).trans hreq, fun hrise hwas => ?_, hdone⟩
    obtain ⟨hholder, hpending⟩ := hgive hrise hwas
    exact ⟨(hsh.fld ..).trans hholder, (hsh.bit ..).trans hpending⟩
  · obtain ⟨t, ht, hsh, hdone⟩ := put_loopTw s m d (by omega) (exec_hoGroupWrite ..) h (twWrite_group _ _ _ hm hg (by decide))
    obtain ⟨hset, hleft⟩ := groupWrite_settings s.chip m g d
    exact ⟨t, ht, (hsh.fld ..).trans hset, (hsh.fld ..).trans hleft, hdone⟩
  · obtain ⟨t, ht, hsh, -⟩ := put_loopTw s m d (by omega) (exec_learnClear ..) h (twWrite_lrn _ _ _ _ hn (by decide))
    obtain ⟨hfreeze, hclear, hrun⟩ := lrnCtlWrite_shows s.chip n d
    exact ⟨t, ht, (hsh.bit ..).trans hfreeze, (hsh.bit ..).trans hclear, (hsh.bit ..).trans hrun⟩
  · obtain ⟨t, ht, hsh⟩ := event_showsLoop s (exec_learnClearDone ..) hact
    obtain ⟨hoff, hdone, hbins⟩ := lrnClearDone_shows s.chip hn hclear
    exact ⟨t, ht, (hsh.bit ..).trans hoff, (hsh.bit ..).trans hdone, fun b hb =>
      (congrArg (signed 16) (hsh.fld ..)).trans (hbins b hb)⟩
  · obtain ⟨t, ht, hsh, hdone⟩ :=
      put_loopTw s m d (by split <;> omega) (exec_learnGainWrite s m n rho d) h (twWrite_gain _ _ _ _ _ hn)
    refine ⟨fun hok => ?_, fun hen hout => ?_⟩
    · obtain ⟨hword, hfreeze⟩ := lrnGainWrite_takes s.chip m n rho d hok
      exact ⟨t, ht, (hsh.word _).trans hword, hdone, fun hen => (hsh.fld ..).trans (hfreeze hen)⟩
    · exact ⟨t, ht, (hsh.word _).trans (lrnGainWrite_refuses s.chip m rho d hn hen hout), hdone⟩

end Sys2Proof.Machine
end

section
/-! PROOFS. Commands of an axis written to PRF_AX_CMD, and PRF_STAT_CLR (R229, R230, R259). -/

namespace Sys2Proof.Machine

/-! ### What a state shows of the Profile Generator -/

/-- In `t` the registers and the Profile Generator stand as in `n`. -/
structure Chip.ShowsProfile (n t : Chip) : Prop where
  words : t.words = n.words
  prf : t.prf = n.prf

namespace Chip.ShowsProfile

variable {n t : Chip} (h : n.ShowsProfile t)
include h

theorem bit (k j : Nat) : t.bit k j = n.bit k j := bit_of_words h.words k j
theorem fld (k lo w : Nat) : t.fld k lo w = n.fld k lo w := fld_of_words h.words k lo w
theorem axis (a : Nat) : t.axis a = n.axis a := by rw [Chip.axis, h.prf, Chip.axis]

end Chip.ShowsProfile

/-- An accepted write of one word without the key: the module shows what the write made of it, and the master sees it done. -/
theorem put_showsProfile (s : State) (m a : Nat) (d : Word) {i : Instr} (hi : exec i s = s.put m a d) (h : s.chip.takes m a false = true)
    (ho : isTw a = true ∨ offOf a ≠ PG_KEY) (hb : blockOf a = PRF) {n : Chip} (hn : s.chip.applyWrite (s.meets {}) m a [d] false = n) :
    Answers (exec i s) fun t => n.ShowsProfile t.chip ∧ t.chip.resp.status = .done := by
  obtain ⟨o, hw⟩ := writeBy_completes s.chip (s.meets {}) m a d false h rfl rfl (.inr ho)
  rw [afterKey_false, Bool.false_and, hn] at hw
  refine ⟨_, hi.trans (put_taken s {} m a d false h rfl rfl (.inr ho) (by rw [hb]; decide)), ⟨?_, ?_⟩, ?_⟩
  · rw [settle_words, hw]
  · rw [settle_prf, hw]
  · rw [settle_resp, hw]

/-! ### A command that passes the checks of R230 -/

/-- A code of 0 needs the axis to be present. -/
theorem axisPresent_of_axisCode {c : Chip} {p a code : Nat} (h : c.axisCode p a code = 0) : axisPresent c.part a = true := by
  cases hp : axisPresent c.part a with
  | true => rfl
  | false => simp [Chip.axisCode, hp] at h

/-- What a command loads does not rest on PRF_AX_STAT. -/
theorem staged_setStat (c : Chip) (a lo n v code : Nat) (gearAt : Bool) :
    (c.setFld (axK a 8) lo n v).staged a code gearAt = c.staged a code gearAt := by
  have hword (o : Nat) (ho : o ≠ 8) : (c.setFld (axK a 8) lo n v).word (axK a o) = c.word (axK a o) := by
    rw [Chip.word_setFld, if_neg (by simp only [axK, twAddr]; omega)]
  have hwide (o : Nat) (ho : o ≠ 8) (ho4 : o + 4 ≠ 8) : (c.setFld (axK a 8) lo n v).s64 (axK a o) = c.s64 (axK a o) := by
    have hnext : axK a o + 4 = axK a (o + 4) := by simp only [axK, twAddr]; omega
    simp only [Chip.s64, Chip.wide, hnext, hword o ho, hword (o + 4) ho4]
  simp [Chip.staged, Chip.qstopLimits, Chip.stagedLimits, Chip.nat, Chip.fld, hword, hwide]

/-- An accepted command shows CODE 0 and waits in place of any earlier one. -/
theorem axisCommand_loads (c : Chip) {p a code : Nat} (gearAt : Bool) (h : c.axisCode p a code = 0) :
    ((c.axisCommand p a code gearAt).axis a).pending = some (c.staged a code gearAt) ∧
      (c.axisCommand p a code gearAt).fld (axK a 8) 24 4 = 0 := by
  have hn : c.axisCommand p a code gearAt =
      (c.setFld (axK a 8) 24 4 0).setAxis a { c.axis a with pending := some (c.staged a code gearAt) } := by
    simp only [Chip.axisCommand, h, axisPresent_of_axisCode h, when_true, bne_self_eq_false, Bool.false_eq_true, if_false, staged_setStat]
    rfl
  rw [hn]
  constructor
  · rw [Chip.axis, Chip.setAxis, tab_tabPut_same]
  · exact Chip.fld_setFld_same c (axK a 8) 24 4 0 (by decide)

/-! ### The register window -/

section
variable {a : Nat} (ha : a < 1152)
include ha

theorem isTw_axCmdK : isTw (axCmdK a) = true := isTw_twAddr _ _ (by omega)
theorem blockOf_axCmdK : blockOf (axCmdK a) = PRF := blockOf_twAddr _ _ (by decide) (by omega)

/-- A write of PRF_AX_CMD gives the command in the writer's own right. -/
theorem applyWrite_axCmd (c : Chip) (x : Meets) {m : Nat} (d : Word) (keyed : Bool) (hm : m < 16) :
    c.applyWrite x m (axCmdK a) [d] keyed = c.axisCommand m a (getBits d 0 4) (d.getLsbD 4) := by
  have hof : twOf (axCmdK a) = 0x100 * a + 4 := twOf_twAddr _ _ (by omega)
  have hdiv : (0x100 * a + 4) / 0x100 = a := by omega
  have hmod : (0x100 * a + 4) % 0x100 = 4 := by omega
  rw [applyWrite_tw c x m [d] keyed (isTw_axCmdK ha)]
  unfold Chip.twWrite
  rw [blockOf_axCmdK ha, hof]
  simp [PRF, Chip.each, Chip.prfTwWrite, hdiv, hmod, show m ≠ 16 by omega, show 256 * a + 4 < 0x4_8000 by omega,
    show 256 * a + 4 < 0x6_0000 by omega]

/-- A command that the register window takes and R230 lets pass is pending for the next tick, with CODE 0. -/
theorem axisCommand_answers (s : State) {m : Nat} (d : Word) {i : Instr} (hi : exec i s = s.put m (axCmdK a) d) (hm : m < 16)
    (h : s.chip.takes m (axCmdK a) false = true) {code : Nat} {gearAt : Bool} (hd : getBits d 0 4 = code ∧ d.getLsbD 4 = gearAt)
    (hcode : s.chip.axisCode m a code = 0) : Answers (exec i s) fun t =>
      (t.chip.axis a).pending = some (s.chip.staged a code gearAt) ∧ t.chip.fld (axK a 8) 24 4 = 0 ∧ t.chip.resp.status = .done := by
  obtain ⟨rfl, rfl⟩ := hd
  obtain ⟨t, ht, hsh, hdone⟩ := put_showsProfile s m (axCmdK a) d hi h (.inl (isTw_axCmdK ha)) (blockOf_axCmdK ha)
    (applyWrite_axCmd ha s.chip (s.meets {}) d false hm)
  obtain ⟨hpending, hstat⟩ := axisCommand_loads s.chip (d.getLsbD 4) hcode
  exact ⟨t, ht, (congrArg Axis.pending (hsh.axis a)).trans hpending, (hsh.fld ..).trans hstat, hdone⟩

end

theorem exec_axisEnable (s : State) (m a : Nat) : exec (.axisEnable m a) s = s.put m (axCmdK a) 1 := rfl
theorem exec_axisDisable (s : State) (m a : Nat) : exec (.axisDisable m a) s = s.put m (axCmdK a) 2 := rfl
theorem exec_moveAbs (s : State) (m a : Nat) : exec (.moveAbs m a) s = s.put m (axCmdK a) 3 := rfl
theorem exec_moveRel (s : State) (m a : Nat) : exec (.moveRel m a) s = s.put m (axCmdK a) 4 := rfl
theorem exec_velocity (s : State) (m a : Nat) : exec (.velocity m a) s = s.put m (axCmdK a) 5 := rfl
theorem exec_gearIn (s : State) (m a : Nat) (p : Bool) : exec (.gearIn m a p) s = s.put m (axCmdK a) (if p then 22 else 6) := rfl
theorem exec_camIn (s : State) (m a : Nat) : exec (.camIn m a) s = s.put m (axCmdK a) 7 := rfl
theorem exec_supMove (s : State) (m a : Nat) : exec (.supMove m a) s = s.put m (axCmdK a) 8 := rfl
theorem exec_stop (s : State) (m a : Nat) : exec (.stop m a) s = s.put m (axCmdK a) 9 := rfl
theorem exec_qstop (s : State) (m a : Nat) : exec (.qstop m a) s = s.put m (axCmdK a) 10 := rfl
theorem exec_loadLimits (s : State) (m a : Nat) : exec (.loadLimits m a) s = s.put m (axCmdK a) 11 := rfl
theorem exec_axisSetPos (s : State) (m a : Nat) : exec (.axisSetPos m a) s = s.put m (axCmdK a) 12 := rfl
theorem exec_resetFault (s : State) (m a : Nat) : exec (.resetFault m a) s = s.put m (axCmdK a) 13 := rfl

/-! ### PRF_STAT_CLR (R259) -/

theorem exec_stateLostClear (s : State) (m : Nat) (d : Word) : exec (.stateLostClear m d) s = s.put m (pageAddr PRF 0 0x104) d := rfl

theorem applyWrite_statClr (c : Chip) (x : Meets) (m : Nat) (d : Word) (keyed : Bool) :
    c.applyWrite x m (pageAddr PRF 0 0x104) [d] keyed = c.stateLostClear d := by
  have hoff : offOf (pageAddr PRF 0 0x104) = 0x104 := rfl
  have hres := resultAt_below c.part (show offOf (pageAddr PRF 0 0x104) < 0x800 by decide)
  have htw : isTw (pageAddr PRF 0 0x104) = false := rfl
  have hwin : isWindow (pageAddr PRF 0 0x104) = false := rfl
  have hblock : blockOf (pageAddr PRF 0 0x104) = 0x06 := rfl
  have hinst : instOf (pageAddr PRF 0 0x104) = 0 := rfl
  simp [Chip.applyWrite, hres, htw, hoff, Chip.blockWrite, hwin, hblock, hinst]

/-- Bit 31 written as 1 clears STATE_LOST. -/
theorem stateLostClear_clears (c : Chip) (d : Word) :
    (c.stateLostClear d).bit (pageAddr PRF 0 0x100) 31 = (c.bit (pageAddr PRF 0 0x100) 31 && !d.getLsbD 31) := by
  unfold Chip.stateLostClear
  cases d.getLsbD 31 with
  | false => rw [if_neg (by decide), Bool.not_false, Bool.and_true]
  | true => rw [if_pos rfl, Chip.bit_setBit_same _ _ _ _ (by decide), Bool.not_true, Bool.and_false]

theorem stateLostClear_answers (s : State) (m : Nat) (d : Word) (h : s.chip.takes m (pageAddr PRF 0 0x104) false = true) :
    Answers (exec (.stateLostClear m d) s) fun t =>
      t.chip.bit (pageAddr PRF 0 0x100) 31 = (s.chip.bit (pageAddr PRF 0 0x100) 31 && !d.getLsbD 31) ∧ t.chip.resp.status = .done := by
  obtain ⟨t, ht, hsh, hdone⟩ := put_showsProfile s m _ d (exec_stateLostClear s m d) h (.inr (by decide)) rfl (applyWrite_statClr ..)
  exact ⟨t, ht, (hsh.bit ..).trans (stateLostClear_clears s.chip d), hdone⟩

end Sys2Proof.Machine
end

section
/-! PROOFS. Ticks of an axis: one that comes to nothing, one with DISABLE pending, and four configurations (R224, R229, R231). -/

namespace Sys2Proof.Machine

variable {c c' c'' : Chip}

/-! ### Effects within the Profile Generator -/

/-- From `c` to `c'` only axes, words, notices to the router and the count of logged errors change. -/
def Chip.Profiles (c c' : Chip) : Prop := ∃ x e, ({ c with prf := { c.prf with axes := x, enabled := e } } : Chip).Notes c'

theorem Chip.Notes.profiles (h : c.Notes c') : c.Profiles c' := ⟨c.prf.axes, c.prf.enabled, h⟩

theorem Chip.Profiles.trans (h : c.Profiles c') (h' : c'.Profiles c'') : c.Profiles c'' := by
  obtain ⟨x, e, w, n, l, rfl⟩ := h
  obtain ⟨x', e', w', n', l', rfl⟩ := h'
  exact ⟨x', e', w', n', l', rfl⟩

theorem each_profiles {α : Type} (f : Chip → α → Chip) (h : ∀ c x, Chip.Profiles c (f c x)) (l : List α) (c : Chip) :
    c.Profiles (c.each l f) := by
  induction l generalizing c with
  | nil => exact (Chip.Notes.refl c).profiles
  | cons x r ih => exact (h c x).trans (ih _)

/-- Neither the ticks that are due nor the outputs on their way change. -/
theorem Chip.Profiles.queues (h : c.Profiles c') : c'.prf.due = c.prf.due ∧ c'.outQ = c.outQ := by
  obtain ⟨x, e, w, n, l, rfl⟩ := h
  exact ⟨rfl, rfl⟩

theorem setAxis_profiles (c : Chip) (a : Nat) (x : Axis) : c.Profiles (c.setAxis a x) := ⟨_, _, .refl _⟩
theorem leaveGear_notes (c : Chip) (a : Nat) : c.Notes (c.leaveGear a) :=
  ((setBit_notes ..).trans (setBit_notes ..)).trans (setBit_notes ..)

/-- The coils are de-energised in words alone. -/
theorem coilOff_notes (c : Chip) (a : Nat) : c.Notes (c.coilOff a) := by
  unfold Chip.coilOff
  cases c.coilOf a with
  | none => exact .refl c
  | some l =>
    have hoff := (setBit_notes c (coilK l 0x1C) 27 false).trans (setBit_notes _ (coilK l 0x1C) 30 true)
    exact .ite (.ite (hoff.trans ((setBit_notes ..).trans (setBit_notes ..))) hoff) (.refl c)

/-! ### What spares an axis -/

/-- From `c` to `c'` axis `a` keeps its enable, its STATE and what it holds outside its block. -/
structure Chip.SparesAxis (a : Nat) (c c' : Chip) : Prop where
  on : c'.axisOn a = c.axisOn a
  state : c'.axState a = c.axState a
  axis : c'.axis a = c.axis a

variable {a b : Nat}

theorem Chip.SparesAxis.trans (h : c.SparesAxis a c') (h' : c'.SparesAxis a c'') : c.SparesAxis a c'' :=
  ⟨h'.on.trans h.on, h'.state.trans h.state, h'.axis.trans h.axis⟩

/-- A field of another word, or of PRF_AX_STAT below STATE. -/
theorem setFld_sparesAxis (c : Chip) {k lo n : Nat} (v : Nat) (h0 : k ≠ axK a 0) (h8 : k = axK a 8 → lo + n ≤ 28) :
    c.SparesAxis a (c.setFld k lo n v) where
  on := by rw [Chip.axisOn, Chip.bit_setFld, if_neg fun h => h0 h.1.symm]; rfl
  state := by
    by_cases hk : k = axK a 8
    · subst hk
      exact Chip.fld_setFld_field _ _ _ _ _ _ _ (.inr (h8 rfl))
    · exact Chip.fld_setFld_ne _ _ _ _ _ _ (Ne.symm hk)
  axis := rfl

theorem setAxis_sparesAxis (c : Chip) (x : Axis) (h : b ≠ a) : c.SparesAxis a (c.setAxis b x) :=
  ⟨rfl, rfl, tab_tabPut_ne _ _ _ h.symm⟩

/-- A flag of any axis. -/
theorem axFlag_sparesAxis (c : Chip) (b : Nat) {j : Nat} (v : Bool) (hj : j < 28) : c.SparesAxis a (c.axFlag b j v) :=
  setFld_sparesAxis c _ (by simp only [axK, twAddr]; omega) fun _ => by omega

theorem leaveGear_sparesAxis (c : Chip) (b : Nat) : c.SparesAxis a (c.leaveGear b) :=
  ((axFlag_sparesAxis _ _ _ (by decide)).trans (axFlag_sparesAxis _ _ _ (by decide))).trans (axFlag_sparesAxis _ _ _ (by decide))

theorem setAxState_sparesAxis (c : Chip) (st : Nat) (h : b ≠ a) : c.SparesAxis a (c.setAxState b st) :=
  setFld_sparesAxis c _ (by simp only [axK, twAddr]; omega) fun hk => absurd hk (by simp only [axK, twAddr]; omega)

/-- PRF_STAT.RATE is no word of an axis block. -/
theorem syncRate_sparesAxis (c : Chip) : c.SparesAxis a c.syncRate :=
  setFld_sparesAxis c _ (by simp only [axK, twAddr, pageAddr]; omega) fun _ => by omega

/-! ### DISABLE (R231, R240) -/

/-- The axis itself is disabled: nothing is pending and its outputs end where they stand. -/
def Chip.axisEnds (c : Chip) (a : Nat) : Chip :=
  let c := { c with prf := { c.prf with enabled := c.prf.enabled.filter (· != a) } }
  let c := ((c.leaveGear a).setBit (axK a 0) 31 false).setAxState a 0
  let x := c.axis a
  c.setAxis a { x with base := { s := x.base.s }, sup := { s := x.sup.s }, supTarget := x.sup.s,
                       pending := none, waiting := none, follow := .none, stopping := false, dir := 0 }

/-- A follower of it stops. -/
def Chip.followerStops (c : Chip) (f : Nat) : Chip :=
  (((c.setAxis f { c.axis f with follow := .none, waiting := none, stopping := true, lim := c.ownLimits f }).axFlag f 14
    true).leaveGear f).setAxState f 5

/-- DISABLE in its parts: the coils, the axis, RATE, and the axes that followed. -/
theorem axisDisable_eq (c : Chip) (a : Nat) :
    c.axisDisable a =
      let n := (((c.coilOff a).axisEnds a).axFlag a 12 false).syncRate
      n.each (n.prf.enabled.filter fun f => (n.axis f).master = a && (n.axis f).follow != .none) Chip.followerStops := rfl

theorem axisEnds_profiles (c : Chip) (a : Nat) : c.Profiles (c.axisEnds a) := by
  let e : Chip := { c with prf := { c.prf with enabled := c.prf.enabled.filter (· != a) } }
  have hwords : e.Notes (((e.leaveGear a).setBit (axK a 0) 31 false).setAxState a 0) :=
    ((leaveGear_notes ..).trans (setBit_notes ..)).trans (setFld_notes ..)
  exact Chip.Profiles.trans ⟨_, _, hwords⟩ (setAxis_profiles ..)

theorem axisEnds_shows (c : Chip) (a : Nat) :
    (c.axisEnds a).axisOn a = false ∧ (c.axisEnds a).axState a = 0 ∧ ((c.axisEnds a).axis a).pending = none := by
  refine ⟨?_, Chip.fld_setFld_same _ (axK a 8) 28 4 0 (by decide), ?_⟩
  · refine Eq.trans (Chip.bit_setFld _ (axK a 8) 28 4 0 (axK a 0) 31) ?_
    rw [if_neg (by simp only [axK, twAddr]; omega), Chip.bit_setBit_same _ _ _ _ (by decide)]
  · rw [Chip.axisEnds, Chip.axis, Chip.setAxis, tab_tabPut_same]

theorem followerStops_profiles (c : Chip) (f : Nat) : c.Profiles (c.followerStops f) :=
  (setAxis_profiles ..).trans (((setBit_notes ..).trans (leaveGear_notes ..)).trans (setFld_notes ..)).profiles

theorem followerStops_sparesAxis (c : Chip) {f : Nat} (h : f ≠ a) : c.SparesAxis a (c.followerStops f) :=
  (((setAxis_sparesAxis _ _ h).trans (axFlag_sparesAxis _ _ _ (by decide))).trans (leaveGear_sparesAxis ..)).trans
    (setAxState_sparesAxis _ _ h)

/-- Followers stop without a change to the axis that they followed. -/
theorem each_followerStops_sparesAxis (l : List Nat) (h : ∀ f ∈ l, f ≠ a) (c : Chip) : c.SparesAxis a (c.each l Chip.followerStops) := by
  induction l generalizing c with
  | nil => exact ⟨rfl, rfl, rfl⟩
  | cons f r ih =>
    exact (followerStops_sparesAxis c (h f (by simp))).trans (ih (fun g hg => h g (by simp [hg])) _)

/-- DISABLE leaves the axis disabled with nothing pending, and the ticks due and the outputs on their way as they were. -/
theorem axisDisable_shows (c : Chip) (a : Nat) :
    let n := c.axisDisable a
    n.axisOn a = false ∧ n.axState a = 0 ∧ (n.axis a).pending = none ∧ n.prf.due = c.prf.due ∧ n.outQ = c.outQ := by
  rw [axisDisable_eq]
  intro n
  let d := (c.coilOff a).axisEnds a
  let e := (d.axFlag a 12 false).syncRate
  have hfollowers (f : Nat) (hf : f ∈ e.prf.enabled.filter fun f => (e.axis f).master = a && (e.axis f).follow != .none) : f ≠ a := by
    have hin : f ∈ (c.coilOff a).prf.enabled.filter (· != a) := (List.mem_filter.1 hf).1
    simpa using (List.mem_filter.1 hin).2
  have hspares : d.SparesAxis a n :=
    ((axFlag_sparesAxis d a false (by decide)).trans (syncRate_sparesAxis _)).trans (each_followerStops_sparesAxis _ hfollowers e)
  have hrate : d.Notes e := (setBit_notes ..).trans (setFld_notes ..)
  have hqueues : c.Profiles n := (((coilOff_notes c a).profiles.trans (axisEnds_profiles ..)).trans hrate.profiles).trans
    (each_profiles _ followerStops_profiles _ _)
  obtain ⟨hon, hstate, hpending⟩ := axisEnds_shows (c.coilOff a) a
  exact ⟨hspares.on.trans hon, hspares.state.trans hstate, (congrArg Axis.pending hspares.axis).trans hpending, hqueues.queues⟩

/-! ### The tick that is due first (R224) -/

/-- The pending command of an axis is taken up. -/
def Chip.takesUp (c : Chip) (a : Nat) : Chip := c.setAxis a { c.axis a with pending := none }

/-- A pending DISABLE takes effect. -/
theorem applyPending_disable {q : AxisCmd} (hp : (c.axis a).pending = some q) (hq : q.code = 2) :
    c.applyPending a = (c.takesUp a).axisDisable a := by
  simp only [Chip.applyPending, hp, hq]
  rfl

/-- Outside STO the tick of an axis ends with its command where that leaves the axis disabled. -/
theorem tickAxis_ends (rr : Nat) (trg : Stamp) (hsto : c.axState a ≠ 7) (hoff : (c.applyPending a).axisOn a = false) :
    c.tickAxis a rr trg = (c.applyPending a, []) := by
  simp [Chip.tickAxis, hsto, hoff]

/-- The module with a tick used up and `r` still due. -/
def Chip.tickUsed (c : Chip) (r : List TickDue) : Chip := { c with prf := { c.prf with due := r } }

section
variable {d : TickDue} {r : List TickDue} (hd : c.prf.due = d :: r)
include hd

theorem axisTick_eq (rr : Nat) : c.axisTick rr =
    if c.axTicks d.axis && c.modState = 0 then (c.tickUsed r).tickAxis d.axis rr d.stamp else (c.tickUsed r, []) := by
  rw [Chip.axisTick, hd]
  rfl

/-- Outside FLOW, and for an axis that does not tick, it has no other effect. -/
theorem axisTick_idle (rr : Nat) (h : c.axTicks d.axis = false ∨ c.modState ≠ 0) : c.axisTick rr = (c.tickUsed r, []) := by
  rw [axisTick_eq hd, if_neg]
  rcases h with h | h
  · simp [h]
  · simp [h]

/-- With DISABLE pending, outside STO, it disables the axis and writes nothing. -/
theorem axisTick_disable (rr : Nat) {q : AxisCmd} (hon : c.axisOn d.axis = true) (hflow : c.modState = 0) (hsto : c.axState d.axis ≠ 7)
    (hp : (c.axis d.axis).pending = some q) (hq : q.code = 2) :
    c.axisTick rr = (((c.tickUsed r).takesUp d.axis).axisDisable d.axis, []) := by
  have happly : (c.tickUsed r).applyPending d.axis = ((c.tickUsed r).takesUp d.axis).axisDisable d.axis := applyPending_disable hp hq
  obtain ⟨hoff, -⟩ := axisDisable_shows ((c.tickUsed r).takesUp d.axis) d.axis
  rw [← happly] at hoff ⊢
  rw [axisTick_eq hd, if_pos (by simp [Chip.axTicks, hon, hflow])]
  exact tickAxis_ends rr d.stamp hsto hoff

end

/-! ### The command -/

/-- Ticks are governed by ENABLE (R67). -/
theorem pageOn_of_acts_prf (h : c.acts PRF 0 = true) : c.pageOn PRF 0 = true := by
  have hu : ungated PRF 0 = false := by decide
  simp only [Chip.acts, hu, Bool.and_eq_true, Bool.false_or] at h
  exact h.2

theorem exec_axisTick (s : State) (rr : Nat) (h : s.chip.acts PRF 0 = true) :
    exec (.axisTick rr) s = .next (s.settleOut fun c => Chip.axisWrites (c.axisTick rr)) := by
  have hboth : (s.chip.acts PRF 0 && s.chip.pageOn PRF 0) = true := by rw [h, pageOn_of_acts_prf h, Bool.and_self]
  exact if_pos hboth

/-- A tick that writes nothing and releases no output leaves the module as the axis leaves it. -/
theorem axisTick_shows (s : State) (rr : Nat) {n : Chip} (h : s.chip.acts PRF 0 = true) (hn : s.chip.axisTick rr = (n, []))
    (hq : n.outQ = []) : Answers (exec (.axisTick rr) s) fun t => n.ShowsProfile t.chip := by
  have hw : Chip.axisWrites (s.chip.axisTick rr) = n := by rw [hn]; rfl
  refine ⟨_, exec_axisTick s rr h, ?_⟩
  rw [settleOut_of_nil _ _ (by rw [hw, hq]), hw]
  exact ⟨rfl, rfl⟩

section
variable (s : State) {d : TickDue} {r : List TickDue} (rr : Nat)
variable (hs : s.settled = true) (ha : s.chip.acts PRF 0 = true) (hd : s.chip.prf.due = d :: r)
include hs ha hd

theorem axisTick_idle_answers (h : s.chip.axTicks d.axis = false ∨ s.chip.modState ≠ 0) :
    Answers (exec (.axisTick rr) s) fun t => t.chip.prf.due = r ∧ t.chip.words = s.chip.words := by
  obtain ⟨h0, -⟩ := settled_queues hs
  obtain ⟨t, ht, hsh⟩ := axisTick_shows s rr ha (axisTick_idle hd rr h) h0
  exact ⟨t, ht, congrArg Prf.due hsh.prf, hsh.words⟩

theorem axisTick_disable_answers {q : AxisCmd} (hon : s.chip.axisOn d.axis = true) (hflow : s.chip.modState = 0)
    (hsto : s.chip.axState d.axis ≠ 7) (hp : (s.chip.axis d.axis).pending = some q) (hq : q.code = 2) :
    Answers (exec (.axisTick rr) s) fun t =>
      t.chip.prf.due = r ∧ t.chip.axisOn d.axis = false ∧ t.chip.axState d.axis = 0 ∧ (t.chip.axis d.axis).pending = none := by
  obtain ⟨h0, -⟩ := settled_queues hs
  obtain ⟨hoff, hstate, hpending, hdue, hout⟩ := axisDisable_shows ((s.chip.tickUsed r).takesUp d.axis) d.axis
  obtain ⟨t, ht, hsh⟩ := axisTick_shows s rr ha (axisTick_disable hd rr hon hflow hsto hp hq) (hout.trans h0)
  exact ⟨t, ht, (congrArg Prf.due hsh.prf).trans hdue, (hsh.bit ..).trans hoff, (hsh.fld ..).trans hstate,
    (congrArg Axis.pending (hsh.axis _)).trans hpending⟩

end

/-! ### One configuration each (R229) -/

/-- FLOW with the trigger of axis 0 at 1 ms, its tick due and `q` pending, with the words `l` set. -/
def tickReady (l : List (Nat × Nat)) (q : AxisCmd) : State :=
  let w := State.ready ([(pageAddr PRF 0 8, 1), (twAddr TIM 4, 1000000)] ++ l)
  let c : Chip := { w.chip with prf := { w.chip.prf with enabled := [0], due := [{ axis := 0, stamp := 0 }] } }
  { w with chip := c.setAxis 0 { pending := some q } }

/-- A command with limits of one unit and the target 5. -/
def sampleCmd (code : Nat) : AxisCmd :=
  { code := code, lim := { v := 2 ^ 32, a := 2 ^ 32, d := 2 ^ 32, j := 2 ^ 40 }, target := 5 * 2 ^ 32, num := 0, den := 0, master := 0,
    cam := 0, engageAt := 0 }

/-- The words of axis 0 enabled in STATE `st`. -/
def axisInState (st : Nat) : List (Nat × Nat) := [(axK 0 0, 2 ^ 31), (axK 0 8, st * 2 ^ 28)]

/-- The state that the tick of axis 0 answers. -/
def ticked (l : List (Nat × Nat)) (q : AxisCmd) : State := (tickReady l q).settleOut fun c => Chip.axisWrites (c.axisTick 0)

theorem exec_tickReady {l : List (Nat × Nat)} {q : AxisCmd} (h : (tickReady l q).chip.acts PRF 0 = true) :
    exec (.axisTick 0) (tickReady l q) = .next (ticked l q) := exec_axisTick _ 0 h

theorem setPos_ticks : Answers (exec (.axisTick 0) (tickReady (axisInState 1) (sampleCmd 12))) fun t =>
    (t.chip.s64 (axK 0 0x90) = 5 * 2 ^ 32 ∧ t.chip.axState 0 = 1) ∧ (t.chip.axis 0).pending = none ∧ t.chip.prf.due = [] :=
  ⟨_, exec_tickReady (by decide +kernel), by decide +kernel⟩

theorem moveAbs_ticks : Answers (exec (.axisTick 0) (tickReady (axisInState 1) (sampleCmd 3))) fun t =>
    (t.chip.axState 0 = 2 ∧ 0 < t.chip.s64 (axK 0 0x98) ∧ 0 < t.chip.s64 (axK 0 0xA0)) ∧ (t.chip.axis 0).pending = none ∧
      t.chip.prf.due = [] :=
  ⟨_, exec_tickReady (by decide +kernel), by decide +kernel⟩

theorem resetFault_ticks : Answers (exec (.axisTick 0) (tickReady (axisInState 8) (sampleCmd 13))) fun t =>
    (t.chip.axState 0 = 1 ∧ t.chip.fld (axK 0 8) 0 4 = 0) ∧ (t.chip.axis 0).pending = none ∧ t.chip.prf.due = [] :=
  ⟨_, exec_tickReady (by decide +kernel), by decide +kernel⟩

theorem enable_ticks : Answers (exec (.axisTick 0) (tickReady [] (sampleCmd 1))) fun t =>
    (t.chip.axisOn 0 = true ∧ t.chip.axState 0 = 1) ∧ (t.chip.axis 0).pending = none ∧ t.chip.prf.due = [] :=
  ⟨_, exec_tickReady (by decide +kernel), by decide +kernel⟩

/-! ### The obligation -/

/-- Settles O32: each command is `axisCommand_answers` with its own code; a tick is used up without effect, or disables the axis, by
`axisTick_idle` and `axisDisable_shows`; and the four configurations are evaluated. -/
theorem axisCommands : Obligations.AxisCommands := by
  unfold Obligations.AxisCommands
  refine ⟨fun s m a hm ha _ h => ?_, fun s d r rr hs hact hd => ?_, ⟨setPos_ticks, moveAbs_ticks, resetFault_ticks, enable_ticks⟩,
    stateLostClear_answers⟩
  · refine ⟨axisCommand_answers ha s 1 (exec_axisEnable ..) hm h (by decide), axisCommand_answers ha s 2 (exec_axisDisable ..) hm h (by decide),
      axisCommand_answers ha s 3 (exec_moveAbs ..) hm h (by decide), axisCommand_answers ha s 4 (exec_moveRel ..) hm h (by decide),
      axisCommand_answers ha s 5 (exec_velocity ..) hm h (by decide), fun p => axisCommand_answers ha s _ (exec_gearIn ..) hm h ?_,
      axisCommand_answers ha s 7 (exec_camIn ..) hm h (by decide), axisCommand_answers ha s 8 (exec_supMove ..) hm h (by decide),
      axisCommand_answers ha s 9 (exec_stop ..) hm h (by decide), axisCommand_answers ha s 10 (exec_qstop ..) hm h (by decide),
      axisCommand_answers ha s 11 (exec_loadLimits ..) hm h (by decide), axisCommand_answers ha s 12 (exec_axisSetPos ..) hm h (by decide),
      axisCommand_answers ha s 13 (exec_resetFault ..) hm h (by decide)⟩
    cases p <;> decide
  · exact ⟨axisTick_idle_answers s rr hs hact hd, fun q hon hflow hsto hp hq =>
      axisTick_disable_answers s rr hs hact hd hon hflow hsto hp hq⟩

end Sys2Proof.Machine
end

section
/-! PROOFS. Accepted writes to the pages of the PWM Array, at once or after re-sends on the fabric (R24, R70). -/

namespace Sys2Proof.Machine

variable {c c' : Chip}

/-! ### Re-sends bear on no write to a page of the PWM Array (R24) -/

theorem hopSends_word (c : Chip) (n : Nat) {k : Nat} (h : ∀ j, ¬ hopBits k j) : (c.hopSends n).word k = c.word k :=
  (hopSends_alters c n).word k h

theorem hopSends_sends (c : Chip) (n m : Nat) : (c.hopSends n).sends m = c.sends m := by
  have hlink (e : Nat) (he : e < 2) : (c.hopSends n).word (pageAddr HST 0 (0x108 + 4 * e)) = c.word (pageAddr HST 0 (0x108 + 4 * e)) :=
    hopSends_word c n fun j => by
      simp only [hopBits, dipA, pageAddr, HST, DIP, PG_EVT_RAW, PG_EVT_PEND]
      omega
  have hpower : (c.hopSends n).word aPwrStat = c.word aPwrStat := hopSends_word c n (not_hopBits (.inr (.inr (.inl rfl))))
  have hdown : (c.hopSends n).masterDown m = c.masterDown m := by
    obtain ⟨w, l, g, e⟩ := hopSends_notes c n
    have hhst : (c.hopSends n).hst = c.hst := by rw [e]
    unfold Chip.masterDown
    split
    · rw [hhst]
    · split
      · simp only [Chip.bit, hlink _ (show (m - 8) / 4 < 2 by omega)]
      · rfl
  obtain ⟨w, l, g, e⟩ := hopSends_notes c n
  have hpwr : (c.hopSends n).pwr = c.pwr := by rw [e]
  have hcor : (c.hopSends n).cor = c.cor := by rw [e]
  have hmod : (c.hopSends n).modState = c.modState := by simp only [Chip.modState, Chip.fld, hpower]
  rw [Chip.sends, Chip.sends, hdown, hmod, hpwr, hcor]

section
variable {m a : Nat} (htw : isTw a = false) (hb : blockOf a = PWM)
include htw hb

theorem hopSends_accessCause (c : Chip) (n m : Nat) : (c.hopSends n).accessCause m a true = c.accessCause m a true := by
  have hword (k : Nat) (hk : decides k) : (c.hopSends n).word k = c.word k := hopSends_word c n (not_hopBits hk)
  obtain ⟨w, l, g, e⟩ := hopSends_notes c n
  have hpart : (c.hopSends n).part = c.part := by rw [e]
  have htap : (c.hopSends n).tapAccess = c.tapAccess := by
    have htap : (c.hopSends n).tap = c.tap := by rw [e]
    simp only [Chip.tapAccess, Chip.bit, htap, hword _ (.inr (.inr (.inr (.inr rfl))))]
  have hbound : isBound a = false := by simp [isBound, hb, PWM, MBX]
  have howner : (c.hopSends n).word (pageOf a + PG_OWNER) = c.word (pageOf a + PG_OWNER) :=
    hword _ (.inr (.inl (by simp only [offOf, pageOf, PG_OWNER]; omega)))
  have hwrite (per : Bool) : (c.hopSends n).mayWrite m a per = c.mayWrite m a per := by
    simp [Chip.mayWrite, htw, hb, PWM, MBX, Chip.owner, Chip.fld, howner]
  have hctl : (c.hopSends n).word (pageAddr PWM (instOf a) PG_CTL) = c.word (pageAddr PWM (instOf a) PG_CTL) :=
    hword _ (.inr (.inr (.inr (.inl (by simp only [offOf, pageAddr, PG_CTL]; omega)))))
  have hmod : (c.hopSends n).modState = c.modState := by
    simp only [Chip.modState, Chip.fld, hword _ (.inr (.inr (.inl rfl)))]
  have hdomain : (c.hopSends n).domain PWM (instOf a) = c.domain PWM (instOf a) := by
    have hmbx : PWM ≠ MBX := by decide
    simp [Chip.domain, hmod, hmbx]
  have hpage : (c.hopSends n).pageCause a = c.pageCause a := by
    simp only [Chip.pageCause, htw, hb, hbound, hdomain, Chip.resetting, Chip.bit, hctl, Bool.false_and, Bool.false_eq_true, if_false]
  simp only [Chip.accessCause, Chip.permitted, hpart, htap, hwrite, hbound, hpage, Bool.not_true, Bool.false_and, Bool.false_eq_true,
    if_false, if_true]

theorem takes_hopSends {key : Bool} (n : Nat) (h : c.takes m a key = true) : (c.hopSends n).takes m a key = true := by
  obtain ⟨w, l, g, e⟩ := hopSends_notes c n
  have hpart : (c.hopSends n).part = c.part := by rw [e]
  have hkeys : (c.hopSends n).keySt (pageOf a) m = c.keySt (pageOf a) m := by rw [e]; rfl
  have hrole : (c.hopSends n).word aPaiStat = c.word aPaiStat := hopSends_word c n fun j => by simp only [hopBits]; decide
  have hstandby : (c.hopSends n).standby = c.standby := by rw [Chip.standby, Chip.role, Chip.fld, hrole]; rfl
  rw [← h]
  simp only [Chip.takes, hopSends_sends, hopSends_accessCause htw hb, hpart, hkeys, hstandby]

end

/-- At most three re-sends only show on the Dipstick page. -/
theorem writeBy_fewHops (c : Chip) (x : Meets) {m hops : Nat} (a : Nat) (d : Word) (hs : c.sends m = true) (hh : hops ≤ 3) :
    c.writeBy x m a 4 [d] hops = (c.hopSends hops).writeBy x m a 4 [d] := by
  have hf : hopFails hops = false := decide_eq_false (by omega)
  simp [Chip.writeBy, hs, hopSends_sends, hf]

/-! ### What a state shows of the PWM Array -/

/-- In `t` the registers, the PWM Array and the trigger lines stand as in `n`. -/
structure Chip.ShowsPwm (n t : Chip) : Prop where
  words : t.words = n.words
  pwm : t.pwm = n.pwm
  strobes : t.strobes = n.strobes

namespace Chip.ShowsPwm

variable {n t : Chip} (h : n.ShowsPwm t)
include h

theorem word (k : Nat) : t.word k = n.word k := word_of_words h.words k
theorem nat (k : Nat) : t.nat k = n.nat k := nat_of_words h.words k
theorem bit (k j : Nat) : t.bit k j = n.bit k j := bit_of_words h.words k j
theorem fld (k lo w : Nat) : t.fld k lo w = n.fld k lo w := fld_of_words h.words k lo w
theorem pair (p : Nat) : t.pair p = n.pair p := by rw [Chip.pair, h.pwm, Chip.pair]
theorem trans {u : Chip} (h' : t.ShowsPwm u) : n.ShowsPwm u :=
  ⟨h'.words.trans h.words, h'.pwm.trans h.pwm, h'.strobes.trans h.strobes⟩

end Chip.ShowsPwm

theorem settle_showsPwm (s : State) (f : Chip → Chip) : (f s.chip).ShowsPwm (s.settle f).chip := ⟨rfl, rfl, rfl⟩

/-- The module as a write to a page of the PWM Array finds it, after the re-sends and the key sequence. -/
def Chip.writeArrives (c : Chip) (m a : Nat) (key : Bool) (hops : Nat) : Chip := (c.hopSends hops).afterKey m a key

theorem writeArrives_word (c : Chip) (m a : Nat) (key : Bool) (hops : Nat) {k : Nat} (h : ∀ j, ¬ hopBits k j) :
    (c.writeArrives m a key hops).word k = c.word k := (afterKey_word ..).trans (hopSends_word c hops h)

theorem hopSends_pwm (c : Chip) (n : Nat) : (c.hopSends n).pwm = c.pwm ∧ (c.hopSends n).tim = c.tim := by
  obtain ⟨w, l, g, e⟩ := hopSends_notes c n
  rw [e]
  exact ⟨rfl, rfl⟩

theorem writeArrives_pwm (c : Chip) (m a : Nat) (key : Bool) (hops : Nat) :
    (c.writeArrives m a key hops).pwm = c.pwm ∧ (c.writeArrives m a key hops).tim = c.tim := by
  have hafter : (c.writeArrives m a key hops).pwm = (c.hopSends hops).pwm ∧
      (c.writeArrives m a key hops).tim = (c.hopSends hops).tim := by
    unfold Chip.writeArrives Chip.afterKey
    split
    · exact ⟨rfl, rfl⟩
    · exact ⟨rfl, rfl⟩
  obtain ⟨hpwm, htim⟩ := hopSends_pwm c hops
  exact ⟨hafter.1.trans hpwm, hafter.2.trans htim⟩

section
variable {i o : Nat} (hi : i < 128) (ho : o < 0x800)
include hi ho

/-- A register of a page of the PWM Array behind its header. -/
theorem applyWrite_pwm (c : Chip) (x : Meets) (m : Nat) (d : Word) (keyed : Bool) (hlo : 0x034 ≤ o) :
    c.applyWrite x m (pageAddr PWM i o) [d] keyed = c.pwmWrite x m (pageAddr PWM i o) [d] keyed := by
  have hoff := offOf_pageAddr PWM i o (by omega)
  have hblock := blockOf_pageAddr PWM i o (by decide) hi (by omega)
  have hres := resultAt_below c.part (show offOf (pageAddr PWM i o) < 0x800 by omega)
  have htw := isTw_pageAddr PWM i o hi (by omega)
  generalize pageAddr PWM i o = a at *
  have hwin : isWindow a = false := by simp [isWindow, hblock, windowPages, PWM, HOI, LOOP, PRF, ADT, TLY, NET, PWR]
  simp [Chip.applyWrite, hres, htw, hoff, show ¬ o < 0x034 by omega, Chip.blockWrite, hwin, hblock, PWM]

/-- What the register window takes there as a write is what the page's registers make of it, and the master sees it done. -/
theorem write_pwm (s : State) (m : Nat) (d : Word) (key : Bool) {hops : Nat} {j : Instr}
    (hj : exec j s = s.write {} m (pageAddr PWM i o) 4 [d] hops) (h : s.chip.takes m (pageAddr PWM i o) key = true)
    (hh : hops ≤ 3) (hlo : 0x034 ≤ o) :
    Answers (exec j s) fun t =>
      ((s.chip.writeArrives m (pageAddr PWM i o) key hops).pwmWrite (s.meets {}) m (pageAddr PWM i o) [d] key).ShowsPwm t.chip ∧
        t.chip.resp.status = .done := by
  have htw := isTw_pageAddr PWM i o hi (by omega)
  have hblock := blockOf_pageAddr PWM i o (by decide) hi (by omega)
  have hkey : offOf (pageAddr PWM i o) ≠ PG_KEY := by
    rw [offOf_pageAddr PWM i o (by omega), PG_KEY]
    omega
  obtain ⟨hs, ha, -⟩ := takes_parts h
  obtain ⟨q, hw⟩ := writeBy_completes (s.chip.hopSends hops) (s.meets {}) m _ d key (takes_hopSends htw hblock hops h) rfl rfl
    (.inr (.inr hkey))
  rw [← writeBy_fewHops s.chip (s.meets {}) _ d hs hh, htw, Bool.not_false, Bool.and_true,
    applyWrite_pwm hi ho _ _ m d key hlo] at hw
  refine ⟨_, hj.trans (write_settles s m d hops ha (by rw [hblock]; decide)), ⟨?_, ?_, ?_⟩, ?_⟩
  · rw [settle_words, hw]; rfl
  · rw [settle_pwm, hw]; rfl
  · rw [settle_strobes, hw]; rfl
  · rw [settle_resp, hw]

end

end Sys2Proof.Machine
end

section
/-! PROOFS. Shadow writes and arms of the pairs (R263, R264, R268 to R270). -/

namespace Sys2Proof.Machine

variable {c c' : Chip}

/-! ### Where the registers of the PWM Array lie -/

theorem pwmK_not_hopBits {p o : Nat} (hp : p < 96) (ho : o < 4096) (j : Nat) : ¬ hopBits (pwmK p o) j := by
  simp only [hopBits, dipA, pwmK, pageAddr, PWM, DIP, PG_EVT_RAW, PG_EVT_PEND]
  omega

theorem pwmK_ne_of_offset (p : Nat) {o o' : Nat} (h : o ≠ o') : pwmK p o ≠ pwmK p o' := by
  simp only [pwmK, pageAddr]
  omega

theorem pwmK_ne_pwmA (p : Nat) {o o' : Nat} (ho' : o' < 4096) : pwmK p o ≠ pwmA o' := by
  simp only [pwmK, pwmA, pageAddr]
  omega

@[simp] theorem pair_setPair_same (c : Chip) (p : Nat) (x : Pair) : (c.setPair p x).pair p = x := tab_tabPut_same ..

/-! ### Wide values and ARMED -/

theorem setWide_alters {S : Nat → Nat → Prop} (c : Chip) (k n v : Nat) (h : ∀ i < n, ∀ j, S (k + 4 * i) j) :
    c.Alters S (c.setWide k n v) := by
  induction n generalizing c k v with
  | zero => exact .refl S c
  | succ n ih =>
    refine (setWord_alters c k _ fun j => h 0 (by omega) j).trans (ih _ _ _ fun i hi j => ?_)
    have hnext := h (i + 1) (by omega) j
    rwa [show k + 4 * (i + 1) = k + 4 + 4 * i by omega] at hnext

theorem setStamp_alters {S : Nat → Nat → Prop} (c : Chip) (k : Nat) (s : Stamp) (h : ∀ i < 3, ∀ j, S (k + 4 * i) j) :
    c.Alters S (c.setStamp k s) := setWide_alters c k 3 _ h

theorem setWide_notes (c : Chip) (k n v : Nat) : c.Notes (c.setWide k n v) := by
  induction n generalizing c k v with
  | zero => exact .refl c
  | succ n ih => exact (setWord_notes ..).trans (ih ..)

theorem setStamp_notes (c : Chip) (k : Nat) (s : Stamp) : c.Notes (c.setStamp k s) := setWide_notes ..

/-- ARMED of a pair, in both places. -/
def armedBits (p k j : Nat) : Prop := k = pwmK p 0x108 ∧ j = 20 ∨ k = pwmA (0x510 + 4 * (p / 32)) ∧ j = p % 32

theorem setArmed_alters (c : Chip) (p : Nat) (b : Bool) : c.Alters (armedBits p) (c.setArmed p b) :=
  (setBit_alters c _ 20 b (.inl ⟨rfl, rfl⟩)).trans (setBit_alters _ _ (p % 32) b (.inr ⟨rfl, rfl⟩))

theorem setArmed_notes (c : Chip) (p : Nat) (b : Bool) : c.Notes (c.setArmed p b) := (setBit_notes ..).trans (setBit_notes ..)

theorem setArmed_armed (c : Chip) {p : Nat} (hp : p < 96) (b : Bool) : (c.setArmed p b).bit (pwmK p 0x108) 20 = b := by
  rw [Chip.setArmed, Chip.bit_setBit _ _ _ _ _ _ (by omega), if_neg fun h => pwmK_ne_pwmA p (by omega) h.1,
    Chip.bit_setBit_same _ _ _ _ (by decide)]

/-! ### The guard window (R269) -/

/-- From `c` to `c'` all by which the counter of pair `p` and its guard window go stands. -/
structure Chip.SameClock (p : Nat) (c c' : Chip) : Prop where
  pair : c'.pair p = c.pair p
  tim : c'.tim = c.tim
  word : ∀ o ∈ [PG_CTL, 0x100, 0x180, 0x184], c'.word (pwmK p o) = c.word (pwmK p o)
  waits : c'.bit (pwmK p 0x108) 17 = c.bit (pwmK p 0x108) 17
  power : c'.word aPwrStat = c.word aPwrStat

section
variable {p : Nat} (h : Chip.SameClock p c c')
include h

theorem pairRuns_congr : c'.pairRuns p = c.pairRuns p := by
  have hon : c'.pageOn PWM (1 + p) = c.pageOn PWM (1 + p) := congrArg (BitVec.getLsbD · 0) (h.word PG_CTL (by simp))
  have hrunning : c'.running = c.running := by rw [Chip.running, Chip.modState, Chip.fld, Chip.flushing, Chip.bit, h.power]; rfl
  rw [Chip.pairRuns, hon, h.waits, hrunning, Chip.pairRuns]

theorem inGuard_congr : c'.inGuard p = c.inGuard p := by
  have hnow : c'.now250 = c.now250 := by rw [Chip.now250, h.tim, Chip.now250]
  have hlow : c'.word (pwmK p 0x180) = c.word (pwmK p 0x180) := h.word 0x180 (by simp)
  have hhigh : c'.word (pwmK p 0x180 + 4) = c.word (pwmK p 0x180 + 4) := h.word 0x184 (by simp)
  have hcfg : c'.word (pwmK p 0x100) = c.word (pwmK p 0x100) := h.word 0x100 (by simp)
  have hper : c'.pairPer p = c.pairPer p := by simp only [Chip.pairPer, Chip.u64, Chip.wide, hlow, hhigh]
  have hend : c'.pairEnd p = c.pairEnd p := by rw [Chip.pairEnd, h.pair, hper, Chip.pairEnd]
  unfold Chip.inGuard
  rw [hnow, hper, hend, h.pair, pairRuns_congr h, Chip.bit, Chip.fld, hcfg]
  rfl

end

theorem writeArrives_sameClock (c : Chip) (m a : Nat) (key : Bool) (hops : Nat) {p : Nat} (hp : p < 96) :
    c.SameClock p (c.writeArrives m a key hops) := by
  obtain ⟨hpwm, htim⟩ := writeArrives_pwm c m a key hops
  have hword {o : Nat} (ho : o < 4096) : (c.writeArrives m a key hops).word (pwmK p o) = c.word (pwmK p o) :=
    writeArrives_word c m a key hops (pwmK_not_hopBits hp ho)
  refine ⟨by rw [Chip.pair, hpwm, Chip.pair], htim, fun o ho => hword ?_, ?_, ?_⟩
  · simp only [List.mem_cons, List.not_mem_nil, or_false, PG_CTL] at ho
    omega
  · exact congrArg (BitVec.getLsbD · 17) (hword (o := 0x108) (by decide))
  · exact writeArrives_word c m a key hops (not_hopBits (.inr (.inr (.inl rfl))))

/-- Arming another or the same pair leaves the counter of a pair. -/
theorem setArmed_sameClock (c : Chip) (q : Nat) (b : Bool) (p : Nat) (hq : q < 96) : c.SameClock p (c.setArmed q b) := by
  have halters := setArmed_alters c q b
  obtain ⟨w, n, l, e⟩ := setArmed_notes c q b
  refine ⟨by rw [e]; rfl, by rw [e], fun o ho => halters.word _ fun j => ?_, halters.bit _ _ ?_, halters.word _ fun j => ?_⟩
  · simp only [List.mem_cons, List.not_mem_nil, or_false, PG_CTL] at ho
    simp only [armedBits, pwmK, pwmA, pageAddr]
    omega
  · simp only [armedBits, pwmK, pwmA, pageAddr]
    omega
  · simp only [armedBits, pwmK, pwmA, aPwrStat, pageAddr, PWM, PWR]
    omega

/-! ### A shadow register takes its word (R263) -/

/-- The offsets of the shadow registers (R286). -/
def shadowRegs : List Nat := [0x110, 0x114, 0x118, 0x11C, 0x120, 0x128, 0x12C, 0x130, 0x134]

/-- The fields of a shadow register (R263). -/
def shadowMask (off : Nat) : Word :=
  if off = 0x114 ∨ off = 0x11C then 7#32 else if off = 0x120 then 0x0FFF_0FFF#32 else 0xFFFF_FFFF#32

/-- A shadow write with its stamp (R263, R273). -/
def Chip.shadowed (c : Chip) (p off : Nat) (d : Word) (s : Stamp) : Chip :=
  (c.shadowWord p off [d]).setStamp (pwmK p 0x138) s

/-- The words that a shadow write and its stamp alter. -/
def shadowBits (p k _j : Nat) : Prop := pwmK p 0x110 ≤ k ∧ k < pwmK p 0x144

theorem lateIn_shadow (c : Chip) (p off : Nat) (d : Word) (s : Stamp) (arm : Bool) :
    c.lateIn p { off := off, words := [d], stamp := s, arm := arm } =
      if arm then (c.shadowed p off d s).setArmed p true else c.shadowed p off d s := rfl

section
variable {off : Nat} (hoff : off ∈ shadowRegs)
include hoff

theorem shadowRegs_range : 0x110 ≤ off ∧ off < 0x138 := by
  simp only [shadowRegs, List.mem_cons, List.not_mem_nil, or_false] at hoff
  omega

/-- A write of the lower word of PERIOD or DUTY clears the upper one; any other 32-bit write reaches one word alone. -/
theorem shadowWord_one (c : Chip) (p : Nat) (d : Word) :
    c.shadowWord p off [d] =
      if off = 0x110 ∨ off = 0x118 then (c.setWord (pwmK p off) d).setWord (pwmK p (off + 4)) 0
      else c.setWord (pwmK p off) (d &&& shadowMask off) := by
  have hones : d &&& 0xFFFF_FFFF#32 = d := BitVec.and_allOnes
  simp only [shadowRegs, List.mem_cons, List.not_mem_nil, or_false] at hoff
  rcases hoff with rfl | rfl | rfl | rfl | rfl | rfl | rfl | rfl | rfl <;> simp [Chip.shadowWord, shadowMask, hones]

theorem shadowWord_alters (c : Chip) (p : Nat) (d : Word) : c.Alters (shadowBits p) (c.shadowWord p off [d]) := by
  have hrange := shadowRegs_range hoff
  have hat {o : Nat} (ho : 0x110 ≤ o ∧ o < 0x144) (j : Nat) : shadowBits p (pwmK p o) j := by
    simp only [shadowBits, pwmK, pageAddr]
    omega
  rw [shadowWord_one hoff]
  exact .ite ((setWord_alters c _ d (hat (by omega))).trans (setWord_alters _ _ 0 (hat (by omega))))
    (setWord_alters c _ _ (hat (by omega)))

theorem shadowed_alters (c : Chip) (p : Nat) (d : Word) (s : Stamp) : c.Alters (shadowBits p) (c.shadowed p off d s) := by
  refine (shadowWord_alters hoff c p d).trans (setStamp_alters _ _ s fun i hi j => ?_)
  simp only [shadowBits, pwmK, pageAddr]
  omega

omit hoff in
/-- The stamp and ARMED lie behind the shadow registers and before them. -/
theorem lateIn_word (c : Chip) (p : Nat) (d : Word) (s : Stamp) (arm : Bool) {o : Nat} (ho : 0x110 ≤ o ∧ o < 0x138) :
    (c.lateIn p { off := off, words := [d], stamp := s, arm := arm }).word (pwmK p o) = (c.shadowWord p off [d]).word (pwmK p o) := by
  have hstamp : (c.shadowed p off d s).word (pwmK p o) = (c.shadowWord p off [d]).word (pwmK p o) := by
    refine (setStamp_alters (S := fun k _ => pwmK p 0x138 ≤ k) _ _ s fun i _ _ => Nat.le_add_right ..).word _ fun j => ?_
    simp only [pwmK, pageAddr]
    omega
  rw [lateIn_shadow]
  split
  · refine ((setArmed_alters _ p true).word _ fun j => ?_).trans hstamp
    simp only [armedBits, pwmK, pwmA, pageAddr]
    omega
  · exact hstamp

theorem shadowWord_word (c : Chip) (p : Nat) (d : Word) : (c.shadowWord p off [d]).word (pwmK p off) = d &&& shadowMask off := by
  rw [shadowWord_one hoff]
  split
  next h =>
    have hmask : shadowMask off = BitVec.allOnes 32 := by rcases h with rfl | rfl <;> rfl
    rw [Chip.word_setWord_ne _ _ (pwmK_ne_of_offset p (by omega)), Chip.word_setWord_same, hmask, BitVec.and_allOnes]
  · exact Chip.word_setWord_same ..

/-- ARMED after a shadow write that arms, or does not. -/
theorem lateIn_armed (c : Chip) {p : Nat} (hp : p < 96) (d : Word) (s : Stamp) (arm : Bool) :
    (c.lateIn p { off := off, words := [d], stamp := s, arm := arm }).bit (pwmK p 0x108) 20 =
      (arm || c.bit (pwmK p 0x108) 20) := by
  rw [lateIn_shadow]
  cases arm with
  | true => exact setArmed_armed _ hp true
  | false =>
    refine (shadowed_alters hoff c p d s).bit _ 20 ?_
    simp only [shadowBits, pwmK, pageAddr]
    omega

/-! ### PERIOD keeps its range (R264) -/

/-- The write leaves PERIOD between 100 ns and 1 s. -/
def Chip.periodStays (c : Chip) (p off : Nat) (d : Word) : Prop :=
  (off = 0x110 → periodBad d.toNat = false) ∧
  (off = 0x114 → (c.pair p).late = [] ∧ periodBad (getBits d 0 3 * 2 ^ 32 + c.nat (pwmK p 0x110)) = false)

theorem shadowWrite_accepts {p : Nat} {d : Word} (h : c.periodStays p off d) (m : Nat) (s : Stamp) (arm late : Bool) :
    c.shadowWrite m p off [d] s arm late = c.lateOr p late { off := off, words := [d], stamp := s, arm := arm } := by
  obtain ⟨hlower, hupper⟩ := h
  have hwide (c : Chip) : c.u64 (pwmK p 0x110) = c.nat (pwmK p 0x110) + 2 ^ 32 * c.nat (pwmK p 0x114) := rfl
  unfold Chip.shadowWrite
  refine if_neg fun hbad => ?_
  simp only [Bool.and_eq_true, decide_eq_true_eq] at hbad
  obtain ⟨hlt, hbad⟩ := hbad
  rw [hwide, Chip.nat, Chip.nat, lateIn_word _ p d s arm (by decide), lateIn_word _ p d s arm (by decide), shadowWord_one hoff] at hbad
  have hcase : off = 0x110 ∨ off = 0x114 := by
    simp only [shadowRegs, List.mem_cons, List.not_mem_nil, or_false] at hoff
    omega
  rcases hcase with rfl | rfl
  · rw [if_pos (.inl rfl), Chip.word_setWord_ne _ _ (pwmK_ne_of_offset p (by decide)), Chip.word_setWord_same,
      Chip.word_setWord_same] at hbad
    simp [hlower rfl] at hbad
  · obtain ⟨hlate, hgood⟩ := hupper rfl
    have hbits : (d &&& shadowMask 0x114).toNat = getBits d 0 3 := by
      rw [BitVec.toNat_and, getBits, Nat.shiftRight_zero]
      exact Nat.and_two_pow_sub_one_eq_mod d.toNat 3
    rw [if_neg (by decide), hlate, Chip.word_setWord_same, hbits,
      Chip.word_setWord_ne _ _ (pwmK_ne_of_offset p (by decide)), Nat.mul_comm, Nat.add_comm] at hbad
    exact absurd hbad (by rw [Bool.not_eq_true]; exact hgood)

end

/-! ### SHADOW_LATE (R269) -/

/-- Inside the guard window what was written waits, and is counted. -/
theorem shadowLate_shows (c : Chip) (p : Nat) (q : PwmLate) :
    let n := c.lateOr p true q
    (∀ o, 0x100 ≤ o → n.word (pwmK p o) = c.word (pwmK p o)) ∧ (n.pair p).late.length = (c.pair p).late.length + 1 ∧
      n.nat (pwmK p 0x034) = min (2 ^ 32 - 1) (c.nat (pwmK p 0x034) + 1) := by
  let w := c.setPair p { c.pair p with late := (c.pair p).late ++ [q] }
  have hcause := cause_alters (S := fun k _ => k = pwmK p PG_EVT_RAW ∨ k = pwmK p PG_EVT_PEND) (w.count (pwmK p 0x034)) PWM (1 + p) 3
    (.inl rfl) (.inr rfl)
  have hoff {o : Nat} (h : 0x020 < o) (j : Nat) : ¬ (pwmK p o = pwmK p PG_EVT_RAW ∨ pwmK p o = pwmK p PG_EVT_PEND) := by
    simp only [pwmK, pageAddr, PG_EVT_RAW, PG_EVT_PEND]
    omega
  refine ⟨fun o ho => ?_, ?_, ?_⟩
  · refine (hcause.word _ (hoff (by omega))).trans ?_
    exact Chip.word_setWord_ne w _ (pwmK_ne_of_offset p (by omega))
  · obtain ⟨g, l, e, hnotes⟩ := (count_notes w (pwmK p 0x034) 1).trans (cause_notes _ PWM (1 + p) 3)
    have hpair : (c.lateOr p true q).pair p = w.pair p := by
      rw [Chip.lateOr, if_pos rfl, Chip.shadowLate, hnotes]
      rfl
    rw [hpair, pair_setPair_same, List.length_append, List.length_singleton]
  · exact (hcause.nat _ (hoff (by decide))).trans (Chip.nat_count_same w _)

end Sys2Proof.Machine
end

section
/-! PROOFS. The commands SHADOW_WRITE, SHADOW_WRITE_ARM and PWM_ARM (R263, R268 to R270). -/

namespace Sys2Proof.Machine

variable {c c' : Chip}

/-! ### What a write to a pair page reaches (R286) -/

/-- A shadow register, or the address at which a write of it also arms. -/
def shadowAt (off : Nat) (arm : Bool) : Nat := if arm then off + 0x100 else off

section
variable {p off : Nat} (hp : p < 96) (hoff : off ∈ shadowRegs)
include hp hoff

/-- A lead may also forward the write (R284). -/
theorem pwmWrite_shadow (c : Chip) (x : Meets) (m : Nat) (d : Word) (keyed arm : Bool) (hx : x.own = false) :
    (c.shadowWrite m p off [d] (x.at' c) arm (c.inGuard p)).ShowsPwm (c.pwmWrite x m (pwmK p (shadowAt off arm)) [d] keyed) := by
  have hrange := shadowRegs_range hoff
  have hlt : shadowAt off arm < 4096 := by unfold shadowAt; split <;> omega
  have hinst : instOf (pwmK p (shadowAt off arm)) = 1 + p := instOf_pageAddr _ _ _ (by omega) hlt
  have hoffset : offOf (pwmK p (shadowAt off arm)) = shadowAt off arm := offOf_pageAddr _ _ _ hlt
  have hpage : c.pwmWrite x m (pwmK p (shadowAt off arm)) [d] keyed =
      let n := c.shadowWrite m p off [d] (x.at' c) arm (c.inGuard p)
      if c.role = 3 && c.linkUp && !(8 ≤ m && m < 16) then
        n.out (.pair (.shadow p off [d] (x.at' c) arm (c.shadowFrom p))) else n := by
    unfold Chip.pwmWrite
    cases arm with
    | false =>
      have hoffset : offOf (pwmK p (shadowAt off false)) = off := hoffset
      have h210 : ¬ 0x210 ≤ off := by omega
      simp [hinst, hoffset, hx, h210, show off ≠ 0x100 by omega, show off ≠ 0x104 by omega, show off ≠ 0x10C by omega,
        show 0x110 ≤ off by omega, show off < 0x138 by omega]
    | true =>
      have hoffset : offOf (pwmK p (shadowAt off true)) = off + 0x100 := hoffset
      simp [hinst, hoffset, hx, show off ≠ 0 by omega, show off ≠ 4 by omega, show off ≠ 12 by omega,
        show 0x210 ≤ off + 0x100 by omega, show off + 0x100 < 0x238 by omega]
  rw [hpage]
  dsimp only
  split
  · exact ⟨rfl, rfl, rfl⟩
  · exact ⟨rfl, rfl, rfl⟩

/-- A shadow write that arrives is accepted, or deferred inside the guard window, as it stands on arrival. -/
theorem shadowWrite_arrives (s : State) (m : Nat) {d : Word} {hops : Nat} (arm : Bool) {i : Instr}
    (hi : exec i s = s.write {} m (pwmK p (shadowAt off arm)) 4 [d] hops) (hh : hops ≤ 3)
    (h : s.chip.takes m (pwmK p (shadowAt off arm)) false = true) (hper : s.chip.periodStays p off d) :
    ∃ (c : Chip) (st : Stamp), s.chip.SameClock p c ∧ (∀ o < 4096, c.word (pwmK p o) = s.chip.word (pwmK p o)) ∧
      Answers (exec i s) fun t =>
        (c.lateOr p (s.chip.inGuard p) { off := off, words := [d], stamp := st, arm := arm }).ShowsPwm t.chip ∧
          t.chip.resp.status = .done := by
  have hrange := shadowRegs_range hoff
  have hlt : shadowAt off arm < 0x800 := by unfold shadowAt; split <;> omega
  have hlo : 0x034 ≤ shadowAt off arm := by unfold shadowAt; split <;> omega
  let c := s.chip.writeArrives m (pwmK p (shadowAt off arm)) false hops
  have hclock : s.chip.SameClock p c := writeArrives_sameClock s.chip m _ false hops hp
  have hword (o : Nat) (ho : o < 4096) : c.word (pwmK p o) = s.chip.word (pwmK p o) :=
    writeArrives_word s.chip m _ false hops (pwmK_not_hopBits hp ho)
  have hstays : c.periodStays p off d := by
    rw [Chip.periodStays, hclock.pair, Chip.nat, hword _ (by decide)]
    exact hper
  obtain ⟨t, ht, hshow, hdone⟩ := write_pwm (i := 1 + p) (by omega) hlt s m d false hi h hh hlo
  have hpage := pwmWrite_shadow hp hoff c (s.meets {}) m d false arm rfl
  rw [shadowWrite_accepts hoff hstays, inGuard_congr hclock] at hpage
  exact ⟨c, _, hclock, hword, t, ht, hpage.trans hshow, hdone⟩

theorem shadowWrite_answers (s : State) (m : Nat) {d : Word} {hops : Nat} (arm : Bool) {i : Instr}
    (hi : exec i s = s.write {} m (pwmK p (shadowAt off arm)) 4 [d] hops) (hh : hops ≤ 3)
    (h : s.chip.takes m (pwmK p (shadowAt off arm)) false = true) (hper : s.chip.periodStays p off d)
    (hg : s.chip.inGuard p = false) : Answers (exec i s) fun t =>
      t.chip.word (pwmK p off) = (d &&& shadowMask off) ∧
      t.chip.bit (pwmK p 0x108) 20 = (arm || s.chip.bit (pwmK p 0x108) 20) ∧ t.chip.resp.status = .done := by
  obtain ⟨c, st, -, hword, t, ht, hshow, hdone⟩ := shadowWrite_arrives hp hoff s m arm hi hh h hper
  rw [hg, Chip.lateOr, if_neg (by decide)] at hshow
  refine ⟨t, ht, ?_, ?_, hdone⟩
  · rw [hshow.word, lateIn_word c p d st arm (shadowRegs_range hoff), shadowWord_word hoff]
  · rw [hshow.bit, lateIn_armed hoff c hp, Chip.bit, hword _ (by decide), Chip.bit]

theorem shadowWrite_late (s : State) (m : Nat) {d : Word} {hops : Nat} (arm : Bool) {i : Instr}
    (hi : exec i s = s.write {} m (pwmK p (shadowAt off arm)) 4 [d] hops) (hh : hops ≤ 3)
    (h : s.chip.takes m (pwmK p (shadowAt off arm)) false = true) (hper : s.chip.periodStays p off d)
    (hg : s.chip.inGuard p = true) : Answers (exec i s) fun t =>
      t.chip.word (pwmK p off) = s.chip.word (pwmK p off) ∧ (t.chip.pair p).late.length = (s.chip.pair p).late.length + 1 ∧
      t.chip.nat (pwmK p 0x034) = min (2 ^ 32 - 1) (s.chip.nat (pwmK p 0x034) + 1) := by
  obtain ⟨c, st, hclock, hword, t, ht, hshow, -⟩ := shadowWrite_arrives hp hoff s m arm hi hh h hper
  have hrange := shadowRegs_range hoff
  rw [hg] at hshow
  obtain ⟨hstands, hlate, hcount⟩ := shadowLate_shows c p { off := off, words := [d], stamp := st, arm := arm }
  refine ⟨t, ht, ?_, ?_, ?_⟩
  · rw [hshow.word, hstands off (by omega), hword off (by omega)]
  · rw [hshow.pair, hlate, hclock.pair]
  · rw [hshow.nat, hcount, Chip.nat, hword _ (by decide), Chip.nat]

end

/-! ### PWM_ARM (R268, R270) -/

theorem armPair_open (c : Chip) (p : Nat) : c.armPair p false = c.setArmed p true := rfl

/-- Outside the guard windows each pair of a list is armed, and no other. -/
theorem each_arm (k : Nat) (l : List Nat) (hl : ∀ j ∈ l, 32 * k + j < 96) (c : Chip)
    (hg : ∀ j ∈ l, c.inGuard (32 * k + j) = false) {i : Nat} (hi : 32 * k + i < 96) :
    (c.each l fun c j => c.armPair (32 * k + j) (c.inGuard (32 * k + j))).bit (pwmK (32 * k + i) 0x108) 20 =
      (c.bit (pwmK (32 * k + i) 0x108) 20 || decide (i ∈ l)) := by
  induction l generalizing c with
  | nil => simp [Chip.each]
  | cons j r ih =>
    have hj : 32 * k + j < 96 := hl j (by simp)
    have hstep : c.armPair (32 * k + j) (c.inGuard (32 * k + j)) = c.setArmed (32 * k + j) true := by
      rw [hg j (by simp), armPair_open]
    have hrest := ih (fun x hx => hl x (by simp [hx])) (c.setArmed (32 * k + j) true) fun x hx =>
      (inGuard_congr (setArmed_sameClock c _ true _ hj)).trans (hg x (by simp [hx]))
    change (Chip.each (c.armPair (32 * k + j) (c.inGuard (32 * k + j))) r _).bit _ _ = _
    rw [hstep, hrest]
    by_cases hij : i = j
    · subst hij
      simp [setArmed_armed c hi]
    · have hother : (c.setArmed (32 * k + j) true).bit (pwmK (32 * k + i) 0x108) 20 = c.bit (pwmK (32 * k + i) 0x108) 20 :=
        (setArmed_alters c _ true).bit _ 20 (by simp only [armedBits, pwmK, pwmA, pageAddr]; omega)
      simp [hother, hij]

/-- A write of PWM_ARM_k by the owner of its pairs. -/
theorem armWrite_arms (c : Chip) (m : Nat) {k : Nat} (d : Word) (hk : k < 3)
    (h : ∀ j < 32, c.pageOwner PWM (1 + (32 * k + j)) = m ∧ c.inGuard (32 * k + j) = false) {i : Nat} (hi : i < 32) :
    (c.armWrite m k d).bit (pwmK (32 * k + i) 0x108) 20 = (c.bit (pwmK (32 * k + i) 0x108) 20 || d.getLsbD i) := by
  have hall (j : Nat) (hj : j ∈ (List.range 32).filter (d.getLsbD ·)) : j < 32 := List.mem_range.1 (List.mem_filter.1 hj).1
  have hmine : ∀ j ∈ (List.range 32).filter (d.getLsbD ·),
      (m = 16 || c.pageOwner PWM (1 + (32 * k + j)) = m : Bool) = true := fun j hj => by simp [(h j (hall j hj)).1]
  unfold Chip.armWrite
  dsimp only
  rw [List.filter_eq_self.2 hmine, if_pos (List.all_eq_true.2 hmine),
    each_arm k _ (fun j hj => by have := hall j hj; omega) c (fun j hj => (h j (hall j hj)).2) (by omega)]
  simp [hi]

theorem pwmWrite_arm (c : Chip) (x : Meets) (m : Nat) {k : Nat} (d : Word) (keyed : Bool) (hk : k < 3) (hx : x.own = false) :
    (c.armWrite m k d).words = (c.pwmWrite x m (pwmA (0x500 + 4 * k)) [d] keyed).words := by
  have hinst : instOf (pwmA (0x500 + 4 * k)) = 0 := instOf_pageAddr _ _ _ (by decide) (by omega)
  have hoffset : offOf (pwmA (0x500 + 4 * k)) = 0x500 + 4 * k := offOf_pageAddr _ _ _ (by omega)
  have hnumber : (0x500 + 4 * k - 0x500) / 4 = k := by omega
  have hsent (l : List Nat) (o : Nat → Out) (c : Chip) : (c.each l fun n j => n.out (o j)).words = c.words :=
    each_keeps Chip.words (fun (c : Chip) j => c.out (o j)) (fun _ _ => rfl) l c
  unfold Chip.pwmWrite
  dsimp only
  rw [hinst, hoffset, hnumber, hx, if_pos rfl, if_neg (by simp; omega), if_pos (by simp; omega), Bool.false_and, if_neg (by decide)]
  unfold Chip.when
  split
  · exact (hsent _ _ _).symm
  · rfl

theorem exec_pwmArm (s : State) (m k : Nat) (d : Word) (hops : Nat) :
    exec (.pwmArm m k d hops) s = s.write {} m (pwmA (0x500 + 4 * k)) 4 [d] hops := rfl
theorem exec_shadowWrite (s : State) (m p off : Nat) (d : Word) (hops : Nat) :
    exec (.shadowWrite m p off [d] hops) s = s.write {} m (pwmK p (shadowAt off false)) 4 [d] hops := rfl
theorem exec_shadowWriteArm (s : State) (m p off : Nat) (d : Word) (hops : Nat) :
    exec (.shadowWriteArm m p off [d] hops) s = s.write {} m (pwmK p (shadowAt off true)) 4 [d] hops := rfl

theorem pwmArm_answers (s : State) (m : Nat) {k hops : Nat} (d : Word) (hk : k < 3) (hh : hops ≤ 3)
    (ht : s.chip.takes m (pwmA (0x500 + 4 * k)) false = true)
    (h : ∀ j < 32, s.chip.pageOwner PWM (1 + (32 * k + j)) = m ∧ s.chip.inGuard (32 * k + j) = false) :
    Answers (exec (.pwmArm m k d hops) s) fun t =>
      ∀ j < 32, t.chip.bit (pwmK (32 * k + j) 0x108) 20 = (s.chip.bit (pwmK (32 * k + j) 0x108) 20 || d.getLsbD j) := by
  let c := s.chip.writeArrives m (pwmA (0x500 + 4 * k)) false hops
  have hword {p o : Nat} (hp : p < 96) (ho : o < 4096) : c.word (pwmK p o) = s.chip.word (pwmK p o) :=
    writeArrives_word s.chip m _ false hops (pwmK_not_hopBits hp ho)
  have howned (j : Nat) (hj : j < 32) : c.pageOwner PWM (1 + (32 * k + j)) = m ∧ c.inGuard (32 * k + j) = false := by
    have howner : c.word (pageAddr PWM (1 + (32 * k + j)) 0 + PG_OWNER) = s.chip.word (pageAddr PWM (1 + (32 * k + j)) 0 + PG_OWNER) := by
      rw [pageAddr_zero_add]
      exact hword (p := 32 * k + j) (by omega) (by decide)
    obtain ⟨hm, hg⟩ := h j hj
    refine ⟨?_, (inGuard_congr (writeArrives_sameClock s.chip m _ false hops (by omega))).trans hg⟩
    rw [Chip.pageOwner, Chip.owner, Chip.fld, howner]
    exact hm
  obtain ⟨t, he, hshow, -⟩ := write_pwm (i := 0) (by decide) (by omega) s m d false (exec_pwmArm ..) ht hh (by omega)
  refine ⟨t, he, fun j hj => ?_⟩
  refine ((hshow.bit ..).trans (bit_of_words (pwmWrite_arm c (s.meets {}) m d false hk rfl).symm ..)).trans ?_
  rw [armWrite_arms c m d hk howned hj, Chip.bit, hword (by omega) (by decide), Chip.bit]

end Sys2Proof.Machine
end

section
/-! PROOFS. What the coils, the latch and the state of a pair leave of the PWM Array (R254, R256, R278, R286). -/

namespace Sys2Proof.Machine

variable {c c' : Chip}

/-! ### Coils lie below the PWM Array (R253, R256) -/

/-- A register below the pages of the PWM Array. -/
def belowPwm (k _j : Nat) : Prop := k < pwmA 0

/-- The coils alter words of the Profile Generator and what axes hold. -/
structure Chip.CoilsMove (c c' : Chip) : Prop where
  alters : c.Alters belowPwm c'
  profiles : c.Profiles c'

theorem Chip.CoilsMove.refl (c : Chip) : c.CoilsMove c := ⟨.refl _ c, (Chip.Notes.refl c).profiles⟩

theorem each_coilsMove {α : Type} (f : Chip → α → Chip) (l : List α) (h : ∀ c, ∀ x ∈ l, Chip.CoilsMove c (f c x)) (c : Chip) :
    c.CoilsMove (c.each l f) := by
  induction l generalizing c with
  | nil => exact .refl c
  | cons x r ih =>
    have hx := h c x (by simp)
    have hr := ih (fun c y hy => h c y (by simp [hy])) (f c x)
    exact ⟨hx.alters.trans hr.alters, hx.profiles.trans hr.profiles⟩

theorem coilOf_some {a l : Nat} (h : c.coilOf a = some l) : a < 1088 ∧ l < 32 := by
  unfold Chip.coilOf at h
  split at h
  next hin =>
    simp only [Bool.and_eq_true, decide_eq_true_eq] at hin
    simp only [Option.some.injEq] at h
    omega
  · exact absurd h (by simp)

theorem belowPwm_coilK {l o : Nat} (hl : l < 32) (ho : o < 0x40) (j : Nat) : belowPwm (coilK l o) j := by
  simp only [belowPwm, coilK, twAddr, pwmA, pageAddr, PRF, PWM]
  omega

theorem coilUnsure_alters (c : Chip) {a l : Nat} (ha : a < 1088) (hl : l < 32) : c.Alters belowPwm (c.coilUnsure a l) :=
  (setBit_alters c _ 29 true (belowPwm_coilK hl (by decide) 29)).trans (setBit_alters _ (axK a 8) 13 true (by
    simp only [belowPwm, axK, twAddr, pwmA, pageAddr, PRF, PWM]
    omega))

theorem coilUnsure_notes (c : Chip) (a l : Nat) : c.Notes (c.coilUnsure a l) := (setBit_notes ..).trans (setBit_notes ..)

theorem coilOff_coilsMove (c : Chip) (a : Nat) : c.CoilsMove (c.coilOff a) := by
  refine ⟨?_, (coilOff_notes c a).profiles⟩
  unfold Chip.coilOff
  split
  · exact .refl _ c
  next l hl =>
    obtain ⟨ha, hl⟩ := coilOf_some hl
    have hoff := (setBit_alters c (coilK l 0x1C) 27 false (belowPwm_coilK hl (by decide) 27)).trans
      (setBit_alters _ (coilK l 0x1C) 30 true (belowPwm_coilK hl (by decide) 30))
    exact .ite (.ite (hoff.trans (coilUnsure_alters _ ha hl)) hoff) (.refl _ c)

theorem coilOn_coilsMove (c : Chip) (a : Nat) : c.CoilsMove (c.coilOn a) := by
  unfold Chip.coilOn
  split
  · exact .refl c
  next l hl =>
    obtain ⟨ha, hl⟩ := coilOf_some hl
    dsimp only
    generalize (c.bit (coilK l 0x1C) 30 && _) = far
    have halters : c.Alters belowPwm (((c.when far (·.coilUnsure a l)).setBit (coilK l 0x1C) 27 true).setBit (coilK l 0x1C) 30 false) :=
      ((Chip.Alters.when (coilUnsure_alters c ha hl)).trans (setBit_alters _ _ 27 true (belowPwm_coilK hl (by decide) 27))).trans
        (setBit_alters _ _ 30 false (belowPwm_coilK hl (by decide) 30))
    have hnotes : c.Notes (((c.when far (·.coilUnsure a l)).setBit (coilK l 0x1C) 27 true).setBit (coilK l 0x1C) 30 false) :=
      ((Chip.Notes.when (coilUnsure_notes c a l)).trans (setBit_notes ..)).trans (setBit_notes ..)
    exact ⟨halters.keep rfl rfl rfl, hnotes.profiles.trans (setAxis_profiles ..)⟩

theorem coilBack_coilsMove (c : Chip) (l : Nat) : c.CoilsMove (c.coilBack l) := by
  unfold Chip.coilBack
  dsimp only
  split
  · exact .refl c
  · exact coilOn_coilsMove ..

theorem Chip.Profiles.pwm (h : c.Profiles c') : c'.pwm = c.pwm := by
  obtain ⟨x, e, w, n, l, rfl⟩ := h
  rfl

theorem Chip.Notes.pwm (h : c.Notes c') : c'.pwm = c.pwm := h.profiles.pwm

theorem pair_of_pwm (h : c'.pwm = c.pwm) (p : Nat) : c'.pair p = c.pair p := by rw [Chip.pair, h, Chip.pair]

/-! ### The status word of a pair (R286) -/

/-- Bits of PWM_PAIR_STAT, the event registers of the pair, and the coils. -/
def statBits (p : Nat) (P : Nat → Prop) (k j : Nat) : Prop :=
  belowPwm k j ∨ k = pwmK p 0x108 ∧ P j ∨ k = pwmK p PG_EVT_RAW ∨ k = pwmK p PG_EVT_PEND

section
variable {p : Nat} {P Q : Nat → Prop}

theorem statBits_mono (h : ∀ j, P j → Q j) (k j : Nat) (hk : statBits p P k j) : statBits p Q k j :=
  hk.imp_right fun hk => hk.imp_left fun hk => ⟨hk.1, h j hk.2⟩

theorem not_statBits_stat {j : Nat} (h : ¬ P j) : ¬ statBits p P (pwmK p 0x108) j := by
  rintro (hk | hk | hk | hk)
  · simp only [belowPwm, pwmK, pwmA, pageAddr] at hk
    omega
  · exact h hk.2
  · exact absurd hk (pwmK_ne_of_offset p (by decide))
  · exact absurd hk (pwmK_ne_of_offset p (by decide))

theorem not_statBits_pwmK {o : Nat} (ho : 0x020 < o) (h : o ≠ 0x108) (j : Nat) : ¬ statBits p P (pwmK p o) j := by
  rintro (hk | hk | hk | hk)
  · simp only [belowPwm, pwmK, pwmA, pageAddr] at hk
    omega
  · exact absurd hk.1 (pwmK_ne_of_offset p h)
  · exact absurd hk (pwmK_ne_of_offset p (by simp only [PG_EVT_RAW]; omega))
  · exact absurd hk (pwmK_ne_of_offset p (by simp only [PG_EVT_PEND]; omega))

theorem statBit_alters (c : Chip) (p i : Nat) (b : Bool) (h : P i) : c.Alters (statBits p P) (c.setBit (pwmK p 0x108) i b) :=
  setBit_alters c _ i b (.inr (.inl ⟨rfl, h⟩))

theorem pairCause_alters (c : Chip) (p i : Nat) : c.Alters (statBits p P) (c.cause PWM (1 + p) i) :=
  cause_alters c PWM (1 + p) i (.inr (.inr (.inl rfl))) (.inr (.inr (.inr rfl)))

/-- The state of a pair shows in STATE and in its event registers. -/
theorem refreshPair_alters_state (c : Chip) (p : Nat) (h : ∀ j, 28 ≤ j → P j) : c.Alters (statBits p P) (c.refreshPair p) :=
  (setFld_alters c _ 28 4 _ fun j hj _ => .inr (.inl ⟨rfl, h j hj⟩)).trans
    (level_alters _ PWM (1 + p) 5 _ (.inr (.inr (.inl rfl))) (.inr (.inr (.inr rfl))))

theorem Chip.CoilsMove.stat (h : c.CoilsMove c') : c.Alters (statBits p P) c' := h.alters.mono fun _ _ => .inl

theorem setPair_alters {S : Nat → Nat → Prop} (c : Chip) (p : Nat) (x : Pair) : c.Alters S (c.setPair p x) := .of_words rfl rfl rfl

/-- The latch clears in its bit, in STATE and at the coils (R278). -/
theorem tripUnlatch_alters (c : Chip) (p : Nat) : c.Alters (statBits p fun j => j = 21 ∨ 28 ≤ j) (c.tripUnlatch p) :=
  ((((setPair_alters c p _).trans (statBit_alters _ p 21 false (.inl rfl))).trans (pairCause_alters _ p 1)).trans
    (refreshPair_alters_state _ p fun _ => .inr)).trans (each_coilsMove _ _ (fun c l _ => coilBack_coilsMove c l) _).stat

theorem tripUnlatch_pair (c : Chip) (p : Nat) : (c.tripUnlatch p).pair p = { c.pair p with srcs := 0, hold := true } := by
  let x : Pair := { c.pair p with srcs := 0, hold := true }
  let r := (((c.setPair p x).setBit (pwmK p 0x108) 21 false).cause PWM (1 + p) 1).refreshPair p
  have hnotes : (c.setPair p x).Notes r := ((setBit_notes ..).trans (cause_notes ..)).trans (refreshPair_notes ..)
  have hback := (each_coilsMove Chip.coilBack ((List.range 32).filter fun l => (r.coilPairs l).contains p)
    (fun c l _ => coilBack_coilsMove c l) r).profiles
  exact (pair_of_pwm (hback.pwm.trans hnotes.pwm) p).trans (pair_setPair_same ..)

end

end Sys2Proof.Machine
end

section
/-! PROOFS. Period boundaries and half boundaries (R264, R268, R271, R272). -/

namespace Sys2Proof.Machine

variable {c c' : Chip}

/-! ### A transfer (R268, R273) -/

theorem loadActive_notes (c : Chip) (p : Nat) : c.Notes (c.loadActive p) :=
  (each_notes _ (fun _ _ => setWord_notes ..) _ _).trans (setStamp_notes ..)

theorem transfer_notes (c : Chip) (p : Nat) : c.Notes (c.transfer p) :=
  ((loadActive_notes c p).trans (setArmed_notes ..)).trans (cause_notes ..)

theorem clampCheck_notes (c : Chip) (p : Nat) : c.Notes (c.clampCheck p) :=
  .ite (((setBit_notes ..).trans (count_notes ..)).trans (cause_notes ..)) (setBit_notes ..)

/-- Every shadow register is copied, each from the shadows as they stood. -/
theorem loadActive_copies (c : Chip) (p : Nat) {o : Nat} (ho : o ∈ shadowRegs) :
    (c.loadActive p).word (pwmK p (o + 0x70)) = c.word (pwmK p o) := by
  let f (c : Chip) (o : Nat) : Chip := c.setWord (pwmK p (o + 0x70)) (c.word (pwmK p o))
  have hne {x y : Nat} (hx : x ∈ shadowRegs) (hy : y ∈ shadowRegs) : pwmK p y ≠ pwmK p (x + 0x70) :=
    pwmK_ne_of_offset p (by have := shadowRegs_range hx; have := shadowRegs_range hy; omega)
  have hcopied : ∀ o ∈ shadowRegs, (c.each shadowRegs f).word (pwmK p (o + 0x70)) = (c.each shadowRegs f).word (pwmK p o) := by
    refine each_establishes (P := fun o c => c.word (pwmK p (o + 0x70)) = c.word (pwmK p o)) f shadowRegs (fun c x hx => ?_)
      (fun c x y hx hy h => ?_) c
    · rw [Chip.word_setWord_same, Chip.word_setWord_ne _ _ (hne hx hx)]
    · by_cases hxy : y = x
      · rw [hxy, Chip.word_setWord_same, Chip.word_setWord_ne _ _ (hne hx hx)]
      · rw [Chip.word_setWord_ne _ _ (pwmK_ne_of_offset p (by omega)), Chip.word_setWord_ne _ _ (hne hx hy), h]
  have hshadow : (c.each shadowRegs f).word (pwmK p o) = c.word (pwmK p o) :=
    (each_alters (S := fun k _ => k ≠ pwmK p o) f shadowRegs
      (fun c x hx => setWord_alters c _ _ fun _ => (hne hx ho).symm) c).word _ fun _ h => h rfl
  have hstamp (c : Chip) (s : Stamp) : (c.setStamp (pwmK p 0x1A8) s).word (pwmK p (o + 0x70)) = c.word (pwmK p (o + 0x70)) :=
    (setStamp_alters (S := fun k _ => pwmK p 0x1A8 ≤ k) c _ s fun _ _ _ => Nat.le_add_right ..).word _ fun _ => by
      have := shadowRegs_range ho
      simp only [pwmK, pageAddr]
      omega
  exact ((hstamp _ _).trans (hcopied o ho)).trans hshadow

/-- The active registers take the shadows, and the pair is no longer armed. -/
theorem transfer_shows (c : Chip) {p : Nat} (hp : p < 96) :
    (∀ o ∈ shadowRegs, (c.transfer p).word (pwmK p (o + 0x70)) = c.word (pwmK p o)) ∧ (c.transfer p).bit (pwmK p 0x108) 20 = false := by
  have hcause (c : Chip) := pairCause_alters (P := fun _ => False) c p 4
  refine ⟨fun o ho => ?_, ?_⟩
  · have hrange := shadowRegs_range ho
    refine ((hcause _).word _ (not_statBits_pwmK (by omega) (by omega))).trans (Eq.trans ?_ (loadActive_copies c p ho))
    refine (setArmed_alters _ p false).word _ fun j => ?_
    simp only [armedBits, pwmK, pwmA, pageAddr]
    omega
  · exact ((hcause _).bit _ 20 (not_statBits_stat id)).trans (setArmed_armed _ hp false)

/-! ### A period boundary -/

/-- What a boundary alters after its transfer: the status word but for ARMED, the clamped periods, and the coils. -/
def boundaryBits (p k j : Nat) : Prop := statBits p (· ≠ 20) k j ∨ k = pwmK p 0x038

theorem not_boundaryBits_armed (p : Nat) : ¬ boundaryBits p (pwmK p 0x108) 20 := by
  rintro (h | h)
  · exact not_statBits_stat (by decide) h
  · exact absurd h (pwmK_ne_of_offset p (by decide))

theorem not_boundaryBits_pwmK (p : Nat) {o : Nat} (ho : 0x108 < o) (j : Nat) : ¬ boundaryBits p (pwmK p o) j := by
  rintro (h | h)
  · exact not_statBits_pwmK (by omega) (by omega) j h
  · exact absurd h (pwmK_ne_of_offset p (by omega))

/-- The transfer of a boundary, where the pair is armed or AUTO (R268). -/
def Chip.boundaryTransfer (c : Chip) (p : Nat) : Chip := if c.transfers p then c.transfer p else c

/-- DUTY_CLAMP, and the end of a cycle-by-cycle trip (R271, R278). -/
def Chip.boundaryRelease (c : Chip) (p : Nat) : Chip :=
  let c := c.clampCheck p
  if c.bit (pwmK p 0x100) 25 && c.bit (pwmK p 0x108) 21 && c.clearable p then c.tripUnlatch p else c

theorem boundaryTransfer_pair (c : Chip) (p : Nat) : (c.boundaryTransfer p).pair p = c.pair p :=
  pair_of_pwm (Chip.Notes.ite (transfer_notes c p) (.refl c)).pwm p

theorem boundaryRelease_late (c : Chip) (p : Nat) : ((c.boundaryRelease p).pair p).late = (c.pair p).late := by
  have hclamp : (c.clampCheck p).pair p = c.pair p := pair_of_pwm (clampCheck_notes c p).pwm p
  unfold Chip.boundaryRelease
  dsimp only
  split
  · rw [tripUnlatch_pair, hclamp]
  · rw [hclamp]

theorem clampCheck_alters (c : Chip) (p : Nat) : c.Alters (boundaryBits p) (c.clampCheck p) := by
  have hbit (b : Bool) : c.Alters (boundaryBits p) (c.setBit (pwmK p 0x108) 19 b) := (statBit_alters c p 19 b (by decide)).mono fun _ _ => .inl
  exact .ite (((hbit true).trans (count_alters _ _ 1 fun _ => .inr rfl)).trans ((pairCause_alters _ p 2).mono fun _ _ => .inl)) (hbit false)

theorem boundaryRelease_alters (c : Chip) (p : Nat) : c.Alters (boundaryBits p) (c.boundaryRelease p) := by
  have hunlatch (c : Chip) : c.Alters (boundaryBits p) (c.tripUnlatch p) :=
    (tripUnlatch_alters c p).mono fun k j h => .inl (statBits_mono (fun j hj => by omega) k j h)
  exact .ite ((clampCheck_alters c p).trans (hunlatch _)) (clampCheck_alters c p)

/-- With nothing deferred only the list of what waits is emptied. -/
theorem shadowCatchUp_none {p : Nat} (h : (c.pair p).late = []) : c.shadowCatchUp p = c.setPair p { c.pair p with late := [] } := by
  rw [Chip.shadowCatchUp, h]
  rfl

/-- The edges of a period leave its beginning and what waits. -/
theorem placeEdges_setPair (c : Chip) (p len : Nat) (first : Bool) : ∃ y : Pair,
    c.placeEdges p len first = c.setPair p y ∧ y.late = (c.pair p).late ∧ y.bAt = (c.pair p).bAt := by
  unfold Chip.placeEdges
  exact ⟨_, rfl, rfl, rfl⟩

/-- A boundary by its parts: transfer, release, the new period and its edges, and what was deferred. -/
theorem periodBoundary_parts {p : Nat} (t : Int) (hr : c.pairRuns p = true) : ∃ (x : Pair) (len : Nat),
    c.periodBoundary p t =
      (((((c.boundaryTransfer p).boundaryRelease p).setPair p x).placeEdges p len false).shadowCatchUp p).refreshPair p ∧
    x.late = (((c.boundaryTransfer p).boundaryRelease p).pair p).late ∧ x.bAt = t := by
  unfold Chip.periodBoundary
  rw [if_neg (by simp [hr])]
  exact ⟨_, _, rfl, rfl, rfl⟩

/-- A boundary with nothing deferred: the period begins at its instant, and after the transfer only the status changes. -/
theorem periodBoundary_shows {p : Nat} (t : Int) (hr : c.pairRuns p = true) (hl : (c.pair p).late = []) :
    (c.boundaryTransfer p).Alters (boundaryBits p) (c.periodBoundary p t) ∧ ((c.periodBoundary p t).pair p).bAt = t := by
  let r := (c.boundaryTransfer p).boundaryRelease p
  obtain ⟨x, len, heq, hxl, hx⟩ := periodBoundary_parts t hr
  obtain ⟨y, hy, hyl, hyt⟩ := placeEdges_setPair (r.setPair p x) p len false
  rw [pair_setPair_same] at hyl hyt
  have hnone : (((r.setPair p x).setPair p y).pair p).late = [] := by
    rw [pair_setPair_same, hyl, hxl, boundaryRelease_late, boundaryTransfer_pair, hl]
  rw [heq, hy, shadowCatchUp_none hnone]
  refine ⟨(boundaryRelease_alters _ p).trans ?_, ?_⟩
  · exact (((setPair_alters r p x).trans (setPair_alters _ p y)).trans (setPair_alters _ p _)).trans
      ((refreshPair_alters_state _ p fun j hj => by omega).mono fun _ _ => .inl)
  · rw [pair_of_pwm (refreshPair_notes _ p).pwm, pair_setPair_same, pair_setPair_same, hyt, hx]

/-- A half boundary of a centre-aligned pair that transfers, with nothing deferred. -/
theorem halfBoundary_words {p : Nat} (hr : c.pairRuns p = true) (hl : (c.pair p).late = []) (ht : c.transfers p = true)
    (hh : c.bit (pwmK p 0x100) 28 = true) (ha : c.fld (pwmK p 0x100) 29 2 = 2) :
    (c.halfBoundary p).words = (c.transfer p).words := by
  have heq : ∃ x : Pair, c.halfBoundary p = ((c.transfer p).setPair p x).shadowCatchUp p ∧ x.late = ((c.transfer p).pair p).late := by
    unfold Chip.halfBoundary
    dsimp only
    rw [if_neg (by simp [hr, hh, ha]), if_pos ht]
    exact ⟨_, rfl, rfl⟩
  obtain ⟨x, heq, hx⟩ := heq
  rw [heq, shadowCatchUp_none]
  · rfl
  · rw [pair_setPair_same, hx, pair_of_pwm (transfer_notes c p).pwm, hl]

/-! ### The commands -/

theorem exec_pwmPeriodBoundary (s : State) (p sub : Nat) :
    exec (.pwmPeriodBoundary p sub) s = s.enabledEvent PWM (1 + p) fun c => c.periodBoundary p (c.now250 + sub) := rfl
theorem exec_pwmHalfBoundary (s : State) (p : Nat) :
    exec (.pwmHalfBoundary p) s = s.enabledEvent PWM (1 + p) fun c => c.halfBoundary p := rfl
theorem exec_pwmCompareMatch (s : State) (p n : Nat) :
    exec (.pwmCompareMatch p n) s = s.enabledEvent PWM (1 + p) fun c => c.compareMatch p n := rfl

theorem pageOn_of_pairRuns {p : Nat} (h : c.pairRuns p = true) : c.pageOn PWM (1 + p) = true := by
  simp only [Chip.pairRuns, Bool.and_eq_true] at h
  exact h.1.1

section
variable (s : State) {p : Nat} (hp : p < 96) (ha : s.chip.acts PWM (1 + p) = true) (hr : s.chip.pairRuns p = true)
include ha hr

/-- An event of a running pair. -/
theorem pairEvent_shows {f : Chip → Chip} {i : Instr} (hi : exec i s = s.enabledEvent PWM (1 + p) f) :
    Answers (exec i s) fun t => (f s.chip).ShowsPwm t.chip :=
  ⟨_, hi.trans (enabledEvent_acts s PWM (1 + p) f ha (pageOn_of_pairRuns hr)), settle_showsPwm s f⟩

theorem pwmCompareMatch_answers {n : Nat} (hn : n < 4) (hen : s.chip.bit (pwmK p (0x198 + 4 * n)) 31 = true)
    (hin : s.chip.fld (pwmK p (0x198 + 4 * n)) 0 31 * 8 < s.chip.u64 (pwmK p 0x180)) :
    Answers (exec (.pwmCompareMatch p n) s) fun t =>
      natBit (t.chip.pair p).fired n = true ∧ t.chip.words = s.chip.words ∧
      t.chip.strobes = s.chip.strobes ++ (if natBit (s.chip.pair p).fired n then [] else [(256 + 4 * p + n, s.chip.now)]) := by
  obtain ⟨t, ht, hshow⟩ := pairEvent_shows s ha hr (exec_pwmCompareMatch ..)
  have hen : (s.chip.word (pwmK p (0x198 + 4 * n))).getLsbD 31 = true := hen
  have hin : getBits (s.chip.word (pwmK p (0x198 + 4 * n))) 0 31 * 8 < s.chip.u64 (pwmK p 0x180) := hin
  refine ⟨t, ht, ?_⟩
  beta_reduce
  rw [hshow.pair, hshow.words, hshow.strobes]
  cases hfired : natBit (s.chip.pair p).fired n with
  | true =>
    have heq : s.chip.compareMatch p n = s.chip := by
      simp only [Chip.compareMatch, hfired, Bool.not_true, Bool.and_false, Bool.false_eq_true, if_false]
    rw [heq]
    exact ⟨hfired, rfl, (List.append_nil _).symm⟩
  | false =>
    let x : Pair := { s.chip.pair p with fired := setNatBit (s.chip.pair p).fired n true }
    have hfires : (n < 4 && s.chip.pairRuns p && (s.chip.word (pwmK p (0x198 + 4 * n))).getLsbD 31 &&
        getBits (s.chip.word (pwmK p (0x198 + 4 * n))) 0 31 * 8 < s.chip.u64 (pwmK p 0x180) && !natBit (s.chip.pair p).fired n) = true := by
      simp only [hn, hr, hen, hin, hfired, decide_true, Bool.not_false, Bool.and_self]
    have heq : s.chip.compareMatch p n =
        { s.chip.setPair p x with strobes := s.chip.strobes ++ [(256 + 4 * p + n, s.chip.now)] } := if_pos hfires
    have hpair : (s.chip.compareMatch p n).pair p = x := by rw [heq]; exact pair_setPair_same ..
    rw [hpair, heq]
    exact ⟨natBit_setNatBit_same (s.chip.pair p).fired n true, rfl, rfl⟩

include hp

theorem pwmPeriodBoundary_answers (sub : Nat) (hl : (s.chip.pair p).late = []) : Answers (exec (.pwmPeriodBoundary p sub) s) fun t =>
    (t.chip.pair p).bAt = (s.chip.now250 + sub : Nat) ∧
    (s.chip.transfers p = true →
      (∀ o ∈ shadowRegs, t.chip.word (pwmK p (o + 0x70)) = s.chip.word (pwmK p o)) ∧ t.chip.bit (pwmK p 0x108) 20 = false) ∧
    (s.chip.transfers p = false → ∀ o ∈ shadowRegs, t.chip.word (pwmK p (o + 0x70)) = s.chip.word (pwmK p (o + 0x70))) := by
  obtain ⟨t, ht, hshow⟩ := pairEvent_shows s ha hr (exec_pwmPeriodBoundary ..)
  obtain ⟨halters, hinstant⟩ := periodBoundary_shows (c := s.chip) (s.chip.now250 + sub : Nat) hr hl
  have hactive {o : Nat} (ho : o ∈ shadowRegs) : t.chip.word (pwmK p (o + 0x70)) = (s.chip.boundaryTransfer p).word (pwmK p (o + 0x70)) :=
    (hshow.word _).trans (halters.word _ (not_boundaryBits_pwmK p (by have := shadowRegs_range ho; omega)))
  refine ⟨t, ht, (congrArg Pair.bAt (hshow.pair p)).trans hinstant, fun htr => ?_, fun htr o ho => ?_⟩
  · obtain ⟨hcopied, harmed⟩ := transfer_shows s.chip hp
    have heq : s.chip.boundaryTransfer p = s.chip.transfer p := if_pos htr
    refine ⟨fun o ho => ?_, ?_⟩
    · rw [hactive ho, heq, hcopied o ho]
    · rw [hshow.bit]
      exact (halters.bit _ _ (not_boundaryBits_armed p)).trans (heq ▸ harmed)
  · rw [hactive ho, Chip.boundaryTransfer, if_neg (by simp [htr])]

theorem pwmHalfBoundary_answers (hl : (s.chip.pair p).late = []) (ht : s.chip.transfers p = true)
    (hh : s.chip.bit (pwmK p 0x100) 28 = true) (hal : s.chip.fld (pwmK p 0x100) 29 2 = 2) :
    Answers (exec (.pwmHalfBoundary p) s) fun t =>
      (∀ o ∈ shadowRegs, t.chip.word (pwmK p (o + 0x70)) = s.chip.word (pwmK p o)) ∧ t.chip.bit (pwmK p 0x108) 20 = false := by
  obtain ⟨t, he, hshow⟩ := pairEvent_shows s ha hr (exec_pwmHalfBoundary ..)
  obtain ⟨hcopied, harmed⟩ := transfer_shows s.chip hp
  have hwords : t.chip.words = (s.chip.transfer p).words := hshow.words.trans (halfBoundary_words hr hl ht hh hal)
  exact ⟨t, he, fun o ho => (word_of_words hwords _).trans (hcopied o ho), (bit_of_words hwords ..).trans harmed⟩

end

/-! ### Enabling a pair (R267) -/

theorem pairEnable_waits {p : Nat} (ha : c.fld (pwmK p 0x100) 29 2 ≠ 3) (hoff : c.bit (pwmK p PG_CTL) 0 = false) :
    (c.pairEnable p true).bit (pwmK p 0x108) 17 = true := by
  have heq : c.pairEnable p true = ((c.setBit (pwmK p PG_CTL) 0 true).setBit (pwmK p 0x108) 17 true).refreshPair p := by
    have hoff : c.bit (pageAddr PWM (1 + p) PG_CTL) 0 = false := hoff
    unfold Chip.pairEnable
    dsimp only
    rw [if_neg (by simp [ha]), hoff]
    rfl
  rw [heq]
  exact ((refreshPair_alters_state _ p fun _ => id).bit _ 17 (not_statBits_stat (by decide))).trans (Chip.bit_setBit_same _ _ _ _ (by decide))

theorem pairEnable_answers (s : State) (m : Nat) {p : Nat} (hp : p < 96) (hs : s.settled = true)
    (h : s.chip.takes m (pageAddr PWM (1 + p) PG_CTL) true = true) (ha : s.chip.fld (pwmK p 0x100) 29 2 ≠ 3)
    (hoff : s.chip.pageOn PWM (1 + p) = false) : Answers (exec (.pageEnable m PWM (1 + p) 1) s) fun t =>
      t.chip.pageOn PWM (1 + p) = true ∧ t.chip.bit (pwmK p 0x108) 17 = true := by
  let c := s.chip.afterKey m (pageAddr PWM (1 + p) PG_CTL) true
  have hblock : blockOf (pageAddr PWM (1 + p) PG_CTL) = PWM := blockOf_pageAddr _ _ _ (by decide) (by omega) (by decide)
  have hinst : instOf (pageAddr PWM (1 + p) PG_CTL) = 1 + p := instOf_pageAddr _ _ _ (by omega) (by decide)
  obtain ⟨u, hu, hon, -⟩ := pageEnable_answers s m 1 (b := PWM) (i := 1 + p) (by decide) (by omega) hs h (by decide) fun _ _ =>
    ⟨fun _ _ => by rwa [Nat.add_sub_cancel_left], fun h => absurd h (by decide), fun h => absurd h (by decide)⟩
  obtain ⟨t, ht, hshow⟩ := put_ctl s m 1 true (exec_pageEnable ..) h (isTw_pageAddr _ _ _ (by omega) (by decide))
    (offOf_pageAddr _ _ _ (by decide)) fun hh => absurd (hblock.symm.trans hh) (by decide)
  obtain rfl : u = t := by simpa using hu.symm.trans ht
  refine ⟨u, hu, hon, (bit_of_words hshow.words ..).trans ?_⟩
  have hctl : c.bit (pageAddr PWM (1 + p) PG_CTL) 0 = false := by rw [Chip.bit, afterKey_word]; exact hoff
  have hfreeze : c.Alters (fun k j => k = pwmK p PG_CTL ∧ j = 2) (c.setBit (pwmK p PG_CTL) 2 false) := setBit_alters c _ 2 false ⟨rfl, rfl⟩
  rw [ctlWrite_keyed _ m 1 (by decide), hblock, hinst, hctl]
  change (((c.setBit (pwmK p PG_CTL) 2 false)).enablePage PWM (1 + p) true).bit (pwmK p 0x108) 17 = true
  rw [Chip.enablePage, if_pos (by simp), Nat.add_sub_cancel_left]
  refine pairEnable_waits ?_ ((hfreeze.bit _ 0 (by simp)).trans hctl)
  rw [hfreeze.fld _ 29 2 fun j _ _ h => absurd h.1 (pwmK_ne_of_offset p (by decide)), Chip.fld, afterKey_word]
  exact ha

end Sys2Proof.Machine
end

section
/-! PROOFS. The obligation on the shadow registers. -/

namespace Sys2Proof.Machine

/-- Settles O33: each clause is what the command's own lemma says, with the shadow registers and their fields by name. -/
theorem pwmShadows : Obligations.PwmShadows := by
  unfold Obligations.PwmShadows
  intro s m p hops d hp hh hs
  refine ⟨fun off hoff hlower hupper => ⟨fun ht => ⟨fun hg => ?_, fun hg => ?_⟩, fun ht hg => ?_⟩,
    fun k hk _ ht h => pwmArm_answers s m d hk hh ht h,
    fun ha hr hl => ⟨fun sub => pwmPeriodBoundary_answers s hp ha hr sub hl,
      fun ht hhalf hal => pwmHalfBoundary_answers s hp ha hr hl ht hhalf hal⟩,
    fun n hn ha hr hen hin => pwmCompareMatch_answers s ha hr hn hen hin,
    fun ht hal hoff => pairEnable_answers s m hp hs ht hal hoff⟩
  · exact shadowWrite_answers hp hoff s m false (exec_shadowWrite ..) hh ht ⟨hlower, hupper⟩ hg
  · exact shadowWrite_late hp hoff s m false (exec_shadowWrite ..) hh ht ⟨hlower, hupper⟩ hg
  · exact shadowWrite_answers hp hoff s m true (exec_shadowWriteArm ..) hh ht ⟨hlower, hupper⟩ hg

end Sys2Proof.Machine
end

section
/-! PROOFS. What trips of the inputs change, and what they leave (R275, R277 to R279). -/

namespace Sys2Proof.Machine

variable {c c' : Chip}

/-! ### The levels at the balls -/

theorem testBit_sub_two_pow {v k j : Nat} (hv : v.testBit k = true) (h : j ≠ k) : (v - 2 ^ k).testBit j = v.testBit j := by
  rcases Nat.lt_or_gt_of_ne h with hlt | hgt
  · have hle : 2 ^ k ≤ v := Nat.ge_two_pow_of_testBit hv
    have hback := Nat.testBit_two_pow_add_gt hlt (v - 2 ^ k)
    rwa [Nat.add_sub_cancel' hle, eq_comm] at hback
  · have hodd : v / 2 ^ k % 2 = 1 := by simpa [Nat.testBit_eq_decide_div_mod_eq] using hv
    have hdiv : (v - 2 ^ k) / 2 ^ k = v / 2 ^ k - 1 := by simpa using Nat.sub_mul_div v (2 ^ k) 1
    have habove (x : Nat) : x.testBit j = (x / 2 ^ k / 2).testBit (j - k - 1) := by
      rw [← Nat.testBit_succ, Nat.testBit_div_two_pow, show j - k - 1 + 1 + k = j by omega]
    have hhalf : (v / 2 ^ k - 1) / 2 = v / 2 ^ k / 2 := by
      generalize v / 2 ^ k = q at hodd
      omega
    rw [habove, habove, hdiv, hhalf]

theorem natBit_setNatBit_ne (v : Nat) {k j : Nat} (b : Bool) (h : j ≠ k) : natBit (setNatBit v k b) j = natBit v j := by
  have hset : (v ||| 2 ^ k).testBit j = v.testBit j := by simp [Nat.testBit_or, Nat.testBit_two_pow_of_ne h.symm]
  simp only [natBit, setNatBit, Nat.one_shiftLeft]
  cases b with
  | true => exact hset
  | false =>
    have hk : (v ||| 2 ^ k).testBit k = true := by simp [Nat.testBit_or]
    exact (testBit_sub_two_pow hk h).trans hset

/-- A ball that moves comes to its new level. -/
theorem movedBalls_natBit {l : List Nat} {i : Nat} (h : i ∈ l) (high v : Nat) :
    natBit (l.foldl (fun b i => setNatBit b i (natBit high i)) v) i = natBit high i := by
  have hstay (l : List Nat) (v : Nat) (hv : natBit v i = natBit high i) :
      natBit (l.foldl (fun b i => setNatBit b i (natBit high i)) v) i = natBit high i := by
    induction l generalizing v with
    | nil => exact hv
    | cons x r ih =>
      refine ih _ ?_
      by_cases hx : i = x
      · rw [← hx, natBit_setNatBit_same]
      · rw [natBit_setNatBit_ne v _ hx, hv]
  induction l generalizing v with
  | nil => exact absurd h (by simp)
  | cons x r ih =>
    rcases List.mem_cons.1 h with rfl | h
    · exact hstay r _ (natBit_setNatBit_same ..)
    · exact ih h _

/-! ### A pair trips (R278) -/

/-- Bits outside the common page of the PWM Array. -/
def offCommon (k _j : Nat) : Prop := k < pwmA 0 ∨ pwmA 0x1000 ≤ k

/-- What a trip of a pair alters, but for the latch. -/
def tripBits (p k j : Nat) : Prop :=
  statBits p (· ≠ 21) k j ∨ k = pwmK p 0x03C ∨ (pwmK p 0x1C0 ≤ k ∧ k < pwmK p 0x1CC)

theorem offCommon_pwmK (p o j : Nat) : offCommon (pwmK p o) j := by
  simp only [offCommon, pwmK, pwmA, pageAddr]
  omega

theorem not_offCommon_pwmA {o : Nat} (ho : o < 4096) (j : Nat) : ¬ offCommon (pwmA o) j := by
  simp only [offCommon, pwmA, pageAddr]
  omega

theorem tripBits_offCommon {p k j : Nat} (h : tripBits p k j) : offCommon k j := by
  rcases h with (hbelow | ⟨rfl, -⟩ | rfl | rfl) | rfl | h
  · exact .inl hbelow
  · exact offCommon_pwmK ..
  · exact offCommon_pwmK ..
  · exact offCommon_pwmK ..
  · exact offCommon_pwmK ..
  · simp only [offCommon, pwmK, pwmA, pageAddr] at h ⊢
    omega

theorem not_tripBits_latch (p q : Nat) : ¬ tripBits p (pwmK q 0x108) 21 := by
  rintro ((hbelow | ⟨-, h⟩ | h | h) | h | h)
  · simp only [belowPwm, pwmK, pwmA, pageAddr] at hbelow
    omega
  · exact h rfl
  · exact absurd h (pwmK_ne (by decide) (by decide) (by decide))
  · exact absurd h (pwmK_ne (by decide) (by decide) (by decide))
  · exact absurd h (pwmK_ne (by decide) (by decide) (by decide))
  · simp only [pwmK, pageAddr] at h
    omega

theorem coilsOfPair_coilsMove (c : Chip) (p : Nat) : c.CoilsMove (c.coilsOfPair p) :=
  each_coilsMove _ _ (fun c l _ => coilOff_coilsMove c (1056 + l)) c

/-- Inputs trip pairs: the common page and the balls stand, and no latch clears. -/
structure Chip.Trips (c c' : Chip) : Prop where
  common : c.Alters offCommon c'
  latched : ∀ q, c.bit (pwmK q 0x108) 21 = true → c'.bit (pwmK q 0x108) 21 = true
  balls : c'.pwm.balls = c.pwm.balls

theorem Chip.Trips.refl (c : Chip) : c.Trips c := ⟨.refl _ c, fun _ h => h, rfl⟩

theorem Chip.Trips.trans {c'' : Chip} (h : c.Trips c') (h' : c'.Trips c'') : c.Trips c'' :=
  ⟨h.common.trans h'.common, fun q hq => h'.latched q (h.latched q hq), h'.balls.trans h.balls⟩

theorem setPair_trips (c : Chip) (p : Nat) (x : Pair) : c.Trips (c.setPair p x) := ⟨setPair_alters c p x, fun _ h => h, rfl⟩

/-- A pair that an input trips: the source is kept, and the latch takes the input, the stamp and the coils where it was clear. -/
theorem tripPair_cases (c : Chip) (p i : Nat) (s : Stamp) :
    let n := c.setPair p { c.pair p with srcs := setNatBit (c.pair p).srcs i true }
    (n.bit (pwmK p 0x108) 21 = true ∧ c.tripPair p i s = n) ∨
    ((n.setBit (pwmK p 0x108) 21 true).Alters (tripBits p) (c.tripPair p i s) ∧ (c.tripPair p i s).pwm.balls = n.pwm.balls) := by
  intro n
  unfold Chip.tripPair
  dsimp only
  split
  next h => exact .inl ⟨h, rfl⟩
  · have hcause (c : Chip) : c.Alters (tripBits p) (c.cause PWM (1 + p) 0) := (pairCause_alters c p 0).mono fun _ _ => .inl
    have hcoils (c : Chip) : c.Alters (tripBits p) (c.coilsOfPair p) := (coilsOfPair_coilsMove c p).stat.mono fun _ _ => .inl
    have hstate (c : Chip) : c.Alters (tripBits p) (c.refreshPair p) :=
      (refreshPair_alters_state c p fun j hj => by omega).mono fun _ _ => .inl
    have hinput : (n.setBit (pwmK p 0x108) 21 true).Alters (tripBits p) ((n.setBit (pwmK p 0x108) 21 true).setFld (pwmK p 0x108) 22 6 i) :=
      setFld_alters _ _ 22 6 i fun j hj _ => .inl (.inr (.inl ⟨rfl, by omega⟩))
    have hstamp (c : Chip) : c.Alters (tripBits p) (c.setStamp (pwmK p 0x1C0) s) := setStamp_alters c _ s fun j hj _ => .inr (.inr (by
      simp only [pwmK, pageAddr]
      omega))
    have hcount (c : Chip) : c.Alters (tripBits p) (c.count (pwmK p 0x03C)) := count_alters c _ 1 fun _ => .inr (.inl rfl)
    refine .inr ⟨(((((hinput.trans (hstamp _)).trans (hcount _)).trans (hcause _)).trans (hcoils _)).trans (hstate _)), ?_⟩
    have hnotes (c : Chip) : c.Notes (((((c.setBit (pwmK p 0x108) 21 true).setFld (pwmK p 0x108) 22 6 i).setStamp (pwmK p 0x1C0) s).count
        (pwmK p 0x03C)).cause PWM (1 + p) 0) :=
      ((((setBit_notes ..).trans (setFld_notes ..)).trans (setStamp_notes ..)).trans (count_notes ..)).trans (cause_notes ..)
    exact congrArg Pwm.balls ((refreshPair_notes _ p).pwm.trans ((coilsOfPair_coilsMove _ p).profiles.pwm.trans (hnotes n).pwm))

theorem tripPair_latch (c : Chip) (p i : Nat) (s : Stamp) : (c.tripPair p i s).bit (pwmK p 0x108) 21 = true := by
  rcases tripPair_cases c p i s with ⟨h, heq⟩ | ⟨halters, -⟩
  · exact heq ▸ h
  · exact (halters.bit _ 21 (not_tripBits_latch p p)).trans (Chip.bit_setBit_same _ _ _ _ (by decide))

theorem tripPair_trips (c : Chip) (p i : Nat) (s : Stamp) : c.Trips (c.tripPair p i s) := by
  rcases tripPair_cases c p i s with ⟨-, heq⟩ | ⟨halters, hballs⟩
  · exact heq ▸ setPair_trips c p _
  · refine ⟨((setPair_alters c p _).trans (setBit_alters _ _ 21 true (offCommon_pwmK ..))).trans
      (halters.mono fun _ _ => tripBits_offCommon), fun q hq => ?_, hballs⟩
    rw [halters.bit _ 21 (not_tripBits_latch p q), Chip.bit_setBit _ _ _ _ _ _ (by decide)]
    split
    · rfl
    · exact hq

/-! ### Several trips -/

section
variable {α : Type} {f : Chip → α → Chip} {l : List α}

theorem each_trips (h : ∀ c, ∀ x ∈ l, Chip.Trips c (f c x)) (c : Chip) : c.Trips (c.each l f) := by
  induction l generalizing c with
  | nil => exact .refl c
  | cons x r ih => exact (h c x (by simp)).trans (ih (fun c y hy => h c y (by simp [hy])) _)

/-- Among trips the one of an item that latches a pair leaves it latched. -/
theorem each_latches (h : ∀ c, ∀ x ∈ l, Chip.Trips c (f c x)) {x : α} (hx : x ∈ l) {p : Nat} (c : Chip)
    (hlatch : ∀ c', c.Trips c' → (f c' x).bit (pwmK p 0x108) 21 = true) : (c.each l f).bit (pwmK p 0x108) 21 = true := by
  induction l generalizing c with
  | nil => exact absurd hx (by simp)
  | cons y r ih =>
    have hrest : ∀ c, ∀ x ∈ r, Chip.Trips c (f c x) := fun c z hz => h c z (by simp [hz])
    rcases List.mem_cons.1 hx with rfl | hx
    · exact (each_trips hrest _).latched p (hlatch c (.refl c))
    · exact ih hrest hx _ fun c' hc' => hlatch c' ((h c y (by simp)).trans hc')

end

theorem tripGate_trips (c : Chip) (g : Bool) (i : Nat) : c.Trips (c.tripGate g i) :=
  each_trips (fun c p _ => tripPair_trips c p i _) c

theorem tripGate_latches (c : Chip) {g : Bool} {i p : Nat} (hp : p ∈ c.tripPairs g i) : (c.tripGate g i).bit (pwmK p 0x108) 21 = true :=
  each_latches (fun c p _ => tripPair_trips c p i _) hp c fun _ _ => tripPair_latch ..

theorem tripInput_trips (c : Chip) (i : Nat) (t : Int) : c.Trips (c.tripInput i t) :=
  each_trips (fun c g _ => tripGate_trips c g i) c

/-! ### What gate A goes by (R275, R276) -/

theorem tripCopy_gateA (c : Chip) (i w : Nat) : c.tripCopy false i w = c.word (pwmA (0x100 + 16 * i + 4 * w)) := rfl

theorem tripPairs_congr {i : Nat} (h : ∀ w, w < 4 → c'.word (pwmA (0x100 + 16 * i + 4 * w)) = c.word (pwmA (0x100 + 16 * i + 4 * w))) :
    c'.tripPairs false i = c.tripPairs false i := by
  refine List.filter_congr fun p hp => ?_
  have hp := List.mem_range.1 hp
  rw [tripCopy_gateA, tripCopy_gateA, h _ (by omega)]

/-- No window of gate A is open for an input without one. -/
theorem blanked_of_none (c : Chip) {i : Nat} (t : Int)
    (h : 96 ≤ getBits (c.tripCopy false i 0) 16 7 ∨ getBits (c.tripCopy false i 0) 0 10 = 0) : c.blanked false i t = false := by
  refine if_pos ?_
  rw [Bool.or_eq_true, decide_eq_true_eq, decide_eq_true_eq]
  omega

section
variable {i p : Nat} (hi : i < 48)
include hi

theorem Chip.Trips.tripPairs (h : c.Trips c') : c'.tripPairs false i = c.tripPairs false i :=
  tripPairs_congr fun _ hw => h.common.word _ (not_offCommon_pwmA (by omega))

theorem tripInput_latches {t : Int} (hseen : c.tripSeen false i = true) (hopen : c.blanked false i t = false)
    (hp : p ∈ c.tripPairs false i) : (c.tripInput i t).bit (pwmK p 0x108) 21 = true :=
  each_latches (x := false) (fun c g _ => tripGate_trips c g i) (by simp [hseen, hopen]) c fun c' h =>
    tripGate_latches c' (h.tripPairs hi ▸ hp)

end

/-- The levels of an input show at the top of its status word. -/
theorem tripLevels_alters {S : Nat → Nat → Prop} {i : Nat} (c : Chip) (h : ∀ j, 30 ≤ j → S (pwmA (0x400 + 4 * i)) j) :
    c.Alters S (c.tripLevels i) :=
  (setBit_alters c _ 31 _ (h 31 (by decide))).trans (setBit_alters _ _ 30 _ (h 30 (by decide)))

theorem tripLevels_notes (c : Chip) (i : Nat) : c.Notes (c.tripLevels i) := (setBit_notes ..).trans (setBit_notes ..)

/-! ### The commands -/

theorem exec_tripInputActive (s : State) (high low sub : Nat) :
    exec (.tripInputActive high low sub) s = s.anytime fun c => c.tripBalls high low sub := rfl
theorem exec_blankWindowClose (s : State) (i sub : Nat) :
    exec (.blankWindowClose i sub) s = s.anytime fun c => c.blankClose i sub := rfl
theorem exec_cfgMismatchExpiry (s : State) (i : Nat) (copy : List Word) :
    exec (.cfgMismatchExpiry i copy) s = s.anytime fun c => c.cfgMismatch i copy := rfl

end Sys2Proof.Machine
end

section
/-! PROOFS. The commands of the trip path (R275 to R281, R288). -/

namespace Sys2Proof.Machine

variable {c c' : Chip}

/-! ### Inputs that act: TRIP_INPUT_ACTIVE and BLANK_WINDOW_CLOSE (R275, R276) -/

theorem running_congr (h : c'.word aPwrStat = c.word aPwrStat) : c'.running = c.running := by
  rw [Chip.running, Chip.modState, Chip.fld, Chip.flushing, Chip.bit, h]
  rfl

/-- The configuration and mask words of the inputs, and the power state, stand. -/
structure Chip.SameTripCfg (c c' : Chip) : Prop where
  cfg : ∀ i w, i < 48 → w < 4 → c'.word (pwmA (0x100 + 16 * i + 4 * w)) = c.word (pwmA (0x100 + 16 * i + 4 * w))
  power : c'.word aPwrStat = c.word aPwrStat

theorem each_tripLevels_sameTripCfg (c : Chip) : c.SameTripCfg (c.each (List.range 48) Chip.tripLevels) := by
  have halters : c.Alters (fun k _ => pwmA 0x400 ≤ k ∧ k < pwmA 0x4C0) (c.each (List.range 48) Chip.tripLevels) :=
    each_alters _ _ (fun c i hi => tripLevels_alters c fun _ _ => by
      have := List.mem_range.1 hi
      simp only [pwmA, pageAddr]
      omega) c
  refine ⟨fun i w hi hw => halters.word _ fun _ => ?_, halters.word _ fun _ => ?_⟩
  · simp only [pwmA, pageAddr]
    omega
  · simp only [pwmA, aPwrStat, pageAddr, PWM, PWR]
    omega

/-- The balls as they stand once those of `high` and `low` have moved. -/
def Chip.movedBalls (c : Chip) (high low : Nat) : Nat :=
  ((List.range 48).filter fun i => (natBit high i && !natBit c.pwm.balls i) || (natBit low i && !natBit high i && natBit c.pwm.balls i)).foldl
    (fun b i => setNatBit b i (natBit high i)) c.pwm.balls

/-- An input that rises and becomes active outside its window is among those that trip. -/
theorem tripBalls_parts (c : Chip) (high low sub : Nat) (hrun : c.running = true) : ∃ (n : Chip) (l : List (Bool × Nat)),
    c.tripBalls high low sub = n.each l (fun c x => c.tripGate x.1 x.2) ∧ c.SameTripCfg n ∧ n.pwm.balls = c.movedBalls high low ∧
    ∀ i < 48, c.tripSeen false i = false → n.tripSeen false i = true → (∀ t, n.blanked false i t = false) → (false, i) ∈ l := by
  unfold Chip.tripBalls
  dsimp only
  generalize hm : ({ c with pwm := _ } : Chip) = m
  have hcfg : c.SameTripCfg (m.each (List.range 48) Chip.tripLevels) := by
    obtain ⟨hcfg, hpower⟩ := each_tripLevels_sameTripCfg m
    subst hm
    exact ⟨hcfg, hpower⟩
  have hballs : (m.each (List.range 48) Chip.tripLevels).pwm.balls = c.movedBalls high low := by
    rw [(each_notes _ (fun _ _ => tripLevels_notes ..) _ m).pwm, ← hm]
    rfl
  rw [if_neg (by rw [running_congr hcfg.power, hrun]; decide)]
  refine ⟨_, _, rfl, hcfg, hballs, fun i hi hwas hseen hopen => ?_⟩
  simp [hi, hwas, hseen, hopen]

section
variable (s : State) {i p : Nat} (hi : i < 48) (hheld : s.chip.pwr.held = none)
include hi hheld

theorem tripInputActive_answers {high : Nat} (low sub : Nat) (hrun : s.chip.running = true) (hhigh : natBit high i = true)
    (hball : natBit s.chip.pwm.balls i = false) (hen : (s.chip.tripCopy false i 0).getLsbD 31 = true)
    (hpol : (s.chip.tripCopy false i 0).getLsbD 30 = false)
    (hwin : 96 ≤ getBits (s.chip.tripCopy false i 0) 16 7 ∨ getBits (s.chip.tripCopy false i 0) 0 10 = 0)
    (hp : p ∈ s.chip.tripPairs false i) : Answers (exec (.tripInputActive high low sub) s) fun t =>
      t.chip.bit (pwmK p 0x108) 21 = true ∧ natBit t.chip.pwm.balls i = true := by
  obtain ⟨n, l, heq, ⟨hcfg, -⟩, hballs, hacts⟩ := tripBalls_parts s.chip high low sub hrun
  have hcopy : n.tripCopy false i 0 = s.chip.tripCopy false i 0 := hcfg i 0 hi (by decide)
  have hmoved : natBit n.pwm.balls i = true := by
    rw [hballs, Chip.movedBalls, movedBalls_natBit (by simp [hi, hhigh, hball]), hhigh]
  have hmem : (false, i) ∈ l := by
    refine hacts i hi ?_ ?_ fun t => blanked_of_none n t (hcopy ▸ hwin)
    · rw [Chip.tripSeen, hball, hpol]
      exact Bool.and_false _
    · rw [Chip.tripSeen, hcopy, hmoved, hen, hpol]
      rfl
  have htrips : ∀ (c : Chip), ∀ x ∈ l, c.Trips (c.tripGate x.1 x.2) := fun c x _ => tripGate_trips c x.1 x.2
  refine ⟨_, (exec_tripInputActive ..).trans (anytime_acts _ _ hheld), ?_, ?_⟩
  · refine (bit_of_words (settle_words ..) ..).trans ?_
    rw [heq]
    refine each_latches htrips hmem n fun c' h => tripGate_latches c' ?_
    rwa [h.tripPairs hi, tripPairs_congr fun w hw => hcfg i w hi hw]
  · rw [settle_pwm, heq, (each_trips htrips n).balls, hmoved]

theorem blankWindowClose_answers (sub : Nat) (hrun : s.chip.running = true) (hseen : s.chip.tripSeen false i = true)
    (hopen : s.chip.blanked false i (s.chip.now250 + sub : Nat) = false) (hp : p ∈ s.chip.tripPairs false i) :
    Answers (exec (.blankWindowClose i sub) s) fun t => t.chip.bit (pwmK p 0x108) 21 = true := by
  have heq : s.chip.blankClose i sub = s.chip.tripInput i (s.chip.now250 + sub) := if_pos (by simp [hi, hrun])
  refine ⟨_, (exec_blankWindowClose ..).trans (anytime_acts _ _ hheld), (bit_of_words (settle_words ..) ..).trans ?_⟩
  rw [heq]
  exact tripInput_latches hi hseen (by exact_mod_cast hopen) hp

/-! ### CFG_MISMATCH_EXPIRY (R277) -/

theorem cfgMismatchExpiry_answers {copy : List Word} (h : ∃ w < 4, copy.getD w 0 ≠ s.chip.tripCopy false i w) :
    Answers (exec (.cfgMismatchExpiry i copy) s) fun t => t.chip.bit (pwmA (0x400 + 4 * i)) 26 = true := by
  have hcond : (i < 48 && (List.range 4).any fun w => copy.getD w 0 != s.chip.tripCopy false i w : Bool) = true := by
    obtain ⟨w, hw, hne⟩ := h
    rw [Bool.and_eq_true, decide_eq_true_eq, List.any_eq_true]
    exact ⟨hi, w, List.mem_range.2 hw, bne_iff_ne.2 hne⟩
  have hshown (c : Chip) : ((c.setBit (pwmA (0x400 + 4 * i)) 26 true).cause PWM 0 2).bit (pwmA (0x400 + 4 * i)) 26 = true := by
    refine ((cause_alters (S := fun k _ => k < pwmA 0x400) _ PWM 0 2 ?_ ?_).bit _ 26 ?_).trans (Chip.bit_setBit_same _ _ _ _ (by decide))
    · simp only [pwmA, pageAddr, PG_EVT_RAW]
      omega
    · simp only [pwmA, pageAddr, PG_EVT_PEND]
      omega
    · simp only [pwmA, pageAddr]
      omega
  refine ⟨_, (exec_cfgMismatchExpiry ..).trans (anytime_acts _ _ hheld), (bit_of_words (settle_words ..) ..).trans ?_⟩
  unfold Chip.cfgMismatch
  rw [if_pos hcond]
  dsimp only
  split
  · exact ((tripInput_trips _ i _).common.bit _ 26 (not_offCommon_pwmA (by omega) 26)).trans (hshown _)
  · exact hshown _

end

/-! ### TRIP_CLEAR (R278) -/

/-- What an input and the pairs that it tripped go by stands. -/
theorem clearable_congr {p : Nat} (hsrcs : (c'.pair p).srcs = (c.pair p).srcs) (hfault : (c'.pair p).faultTrip = (c.pair p).faultTrip)
    (hballs : c'.pwm.balls = c.pwm.balls) (hgate : c'.pwm.gateB = c.pwm.gateB)
    (hcfg : ∀ i < 48, c'.word (pwmA (0x100 + 16 * i)) = c.word (pwmA (0x100 + 16 * i))) : c'.clearable p = c.clearable p := by
  have hcopy (g : Bool) (i : Nat) (hi : i < 48) : c'.tripCopy g i 0 = c.tripCopy g i 0 := by
    have hword : c'.word (pwmA (0x100 + 16 * i + 4 * 0)) = c.word (pwmA (0x100 + 16 * i + 4 * 0)) := hcfg i hi
    unfold Chip.tripCopy
    dsimp only
    rw [hgate, hword]
  have hall : ((List.range 48).all fun i => !(natBit (c'.pair p).srcs i && c'.tripActive i)) =
      (List.range 48).all fun i => !(natBit (c.pair p).srcs i && c.tripActive i) := by
    rw [Bool.eq_iff_iff, List.all_eq_true, List.all_eq_true]
    refine forall₂_congr fun i hi => ?_
    have hi := List.mem_range.1 hi
    simp only [hsrcs, Chip.tripActive, Chip.tripSeen, hcopy _ i hi, hballs]
  simp only [Chip.clearable, hfault, hall]

theorem tripUnlatch_latch (c : Chip) (p : Nat) : (c.tripUnlatch p).bit (pwmK p 0x108) 21 = false := by
  refine ((((pairCause_alters (P := fun j => 28 ≤ j) _ p 1).trans (refreshPair_alters_state _ p fun _ => id)).trans
    (each_coilsMove _ _ (fun c l _ => coilBack_coilsMove c l) _).stat).bit _ 21 (not_statBits_stat (by decide))).trans
    (Chip.bit_setBit_same _ _ _ _ (by decide))

theorem tripClear_clears {p : Nat} (h : c.clearable p = true) :
    (c.tripClear p).bit (pwmK p 0x108) 21 = false ∧ (c.tripClear p).bit (pwmK p 0x108) 18 = false ∧
      (c.tripClear p).word (pwmK p 0x104) = c.word (pwmK p 0x104) := by
  let n := c.setBit (pwmK p 0x108) 18 false
  have hfail : n.bit (pwmK p 0x108) 18 = false := Chip.bit_setBit_same _ _ _ _ (by decide)
  have hword : n.word (pwmK p 0x104) = c.word (pwmK p 0x104) :=
    (statBit_alters (P := (· = 18)) c p 18 false rfl).word _ (not_statBits_pwmK (by decide) (by decide))
  have heq : c.tripClear p = if n.bit (pwmK p 0x108) 21 then n.tripUnlatch p else n := if_pos h
  rw [heq]
  split
  · have halters := tripUnlatch_alters n p
    exact ⟨tripUnlatch_latch n p, (halters.bit _ 18 (not_statBits_stat (by decide))).trans hfail,
      (halters.word _ (not_statBits_pwmK (by decide) (by decide))).trans hword⟩
  next hlatch => exact ⟨by simpa using hlatch, hfail, hword⟩

theorem tripClear_fails {p : Nat} (h : c.clearable p = false) :
    (c.tripClear p).bit (pwmK p 0x108) 21 = c.bit (pwmK p 0x108) 21 ∧ (c.tripClear p).bit (pwmK p 0x108) 18 = true := by
  have heq : c.tripClear p = c.setBit (pwmK p 0x108) 18 true := if_neg (by simp [h])
  rw [heq]
  exact ⟨(statBit_alters (P := (· = 18)) c p 18 true rfl).bit _ 21 (not_statBits_stat (by decide)), Chip.bit_setBit_same _ _ _ _ (by decide)⟩

/-- A write of PWM_PAIR_CTL with TRIP_CLR clears the latch as the pair then stands, and refreshes the state. -/
theorem pairCtlWrite_clears (c : Chip) (p : Nat) {d : Word} (hd : d.getLsbD 1 = true) : ∃ n : Chip,
    c.pairCtlWrite p d = (n.tripClear p).refreshPair p ∧ n.clearable p = c.clearable p ∧
      n.word (pwmK p 0x104) = (d &&& 0x8000_0001#32) ∧ n.bit (pwmK p 0x108) 21 = c.bit (pwmK p 0x108) 21 := by
  let w := c.setWord (pwmK p 0x104) (d &&& 0x8000_0001#32)
  have hwords {o : Nat} (ho : o ≠ 0x104) : w.word (pwmK p o) = c.word (pwmK p o) := Chip.word_setWord_ne _ _ (pwmK_ne_of_offset p ho)
  obtain ⟨force, heq⟩ : ∃ force : Option Int, c.pairCtlWrite p d =
      ((w.setPair p { w.pair p with forceAt := force }).tripClear p).refreshPair p := by
    unfold Chip.pairCtlWrite
    dsimp only
    rw [if_pos hd]
    exact ⟨_, rfl⟩
  refine ⟨_, heq, clearable_congr ?_ ?_ rfl rfl fun i hi => ?_, Chip.word_setWord_same ..,
    congrArg (BitVec.getLsbD · 21) (hwords (o := 0x108) (by decide))⟩
  · rw [pair_setPair_same]
    rfl
  · rw [pair_setPair_same]
    rfl
  · exact Chip.word_setWord_ne _ _ (by simp only [pwmK, pwmA, pageAddr]; omega)

theorem exec_tripClear (s : State) (m p : Nat) (d : Word) :
    exec (.tripClear m p d) s = s.write {} m (pwmK p 0x104) 4 [d] 0 := rfl
theorem exec_tripCfgWrite (s : State) (m i w : Nat) (d : Word) :
    exec (.tripCfgWrite m i w d) s = s.write {} m (pwmA (0x100 + 16 * i + 4 * w)) 4 [d] 0 := rfl

section
variable (s : State) (m : Nat)

theorem tripClear_shows {p : Nat} {d : Word} (hp : p < 96) (h : s.chip.takes m (pwmK p 0x104) false = true) (hd : d.getLsbD 1 = true) :
    ∃ n : Chip, n.clearable p = s.chip.clearable p ∧ n.word (pwmK p 0x104) = (d &&& 0x8000_0001#32) ∧
      n.bit (pwmK p 0x108) 21 = s.chip.bit (pwmK p 0x108) 21 ∧
      Answers (exec (.tripClear m p d) s) fun t => ((n.tripClear p).refreshPair p).ShowsPwm t.chip := by
  let c := s.chip.writeArrives m (pwmK p 0x104) false 0
  have hword (k : Nat) : c.word k = s.chip.word k := afterKey_word ..
  obtain ⟨hpwm, -⟩ := writeArrives_pwm s.chip m (pwmK p 0x104) false 0
  have hpair : c.pair p = s.chip.pair p := pair_of_pwm hpwm p
  have hinst : instOf (pwmK p 0x104) = 1 + p := instOf_pageAddr _ _ _ (by omega) (by decide)
  have hoff : offOf (pwmK p 0x104) = 0x104 := offOf_pageAddr _ _ _ (by decide)
  have hpage (x : Meets) : c.pwmWrite x m (pwmK p 0x104) [d] false = c.pairCtlWrite p d := by
    simp [Chip.pwmWrite, hinst, hoff]
  obtain ⟨n, heq, hclear, hctl, hlatch⟩ := pairCtlWrite_clears c p hd
  obtain ⟨t, ht, hshow, -⟩ := write_pwm (i := 1 + p) (by omega) (by decide) s m d false (exec_tripClear ..) h (by decide) (by decide)
  refine ⟨n, ?_, hctl, ?_, t, ht, heq ▸ hpage _ ▸ hshow⟩
  · rw [hclear, clearable_congr (by rw [hpair]) (by rw [hpair]) (congrArg Pwm.balls hpwm) (congrArg Pwm.gateB hpwm) fun i _ => hword _]
  · rw [hlatch, Chip.bit, hword, Chip.bit]

theorem tripClear_answers {p : Nat} {d : Word} (hp : p < 96) (h : s.chip.takes m (pwmK p 0x104) false = true) (hd : d.getLsbD 1 = true) :
    (s.chip.clearable p = true → Answers (exec (.tripClear m p d) s) fun t =>
      t.chip.bit (pwmK p 0x108) 21 = false ∧ t.chip.bit (pwmK p 0x108) 18 = false ∧ t.chip.word (pwmK p 0x104) = (d &&& 0x8000_0001#32)) ∧
    (s.chip.clearable p = false → Answers (exec (.tripClear m p d) s) fun t =>
      t.chip.bit (pwmK p 0x108) 21 = s.chip.bit (pwmK p 0x108) 21 ∧ t.chip.bit (pwmK p 0x108) 18 = true) := by
  obtain ⟨n, hclear, hctl, hlatch, t, ht, hshow⟩ := tripClear_shows s m hp h hd
  have hstate := refreshPair_alters_state (P := fun j => 28 ≤ j) (n.tripClear p) p fun _ => id
  have hbit (j : Nat) (hj : j < 28) : t.chip.bit (pwmK p 0x108) j = (n.tripClear p).bit (pwmK p 0x108) j :=
    (hshow.bit ..).trans (hstate.bit _ j (not_statBits_stat (by omega)))
  rw [← hclear]
  refine ⟨fun hc => ⟨t, ht, ?_⟩, fun hc => ⟨t, ht, ?_⟩⟩
  · obtain ⟨hl, hf, hw⟩ := tripClear_clears hc
    refine ⟨(hbit 21 (by decide)).trans hl, (hbit 18 (by decide)).trans hf, ?_⟩
    rw [hshow.word, hstate.word _ (not_statBits_pwmK (by decide) (by decide)), hw, hctl]
  · obtain ⟨hl, hf⟩ := tripClear_fails hc
    exact ⟨((hbit 21 (by decide)).trans hl).trans hlatch, (hbit 18 (by decide)).trans hf⟩

/-! ### TRIP_CFG_WRITE (R276, R277) -/

/-- A stored configuration word stands through what the inputs then do. -/
theorem tripCfgWrite_word (c : Chip) {i w : Nat} {d : Word} (hi : i < 48) (hw : w < 4)
    (h : w = 0 → getBits d 16 7 < 96 ∨ getBits d 16 7 = 127) :
    (c.tripCfgWrite i w d).word (pwmA (0x100 + 16 * i + 4 * w)) = if w = 0 then d &&& 0xE07F_03FF#32 else d := by
  let S (k j : Nat) : Prop := pwmA 0x400 ≤ k ∨ offCommon k j
  have hstatus (j : Nat) : S (pwmA (0x400 + 4 * i)) j := .inl (by simp only [pwmA, pageAddr]; omega)
  have hnot (j : Nat) : ¬ S (pwmA (0x100 + 16 * i + 4 * w)) j := by
    rintro (hle | hoff)
    · simp only [pwmA, pageAddr] at hle
      omega
    · exact not_offCommon_pwmA (by omega) j hoff
  have hinput (c : Chip) : c.Alters S (if c.running then c.tripInput i c.now250 else c) :=
    .ite ((tripInput_trips c i _).common.mono fun _ _ => .inr) (.refl S c)
  unfold Chip.tripCfgWrite
  dsimp only
  rw [if_neg (by simp; omega)]
  refine ((((Chip.Alters.when (setBit_alters _ _ 26 false (hstatus 26))).trans (tripLevels_alters _ fun j _ => hstatus j)).trans
    (hinput _)).word _ hnot).trans ?_
  exact Chip.word_setWord_same ..

theorem tripCfgWrite_answers {i w : Nat} {d : Word} (hi : i < 48) (hw : w < 4)
    (h : s.chip.takes m (pwmA (0x100 + 16 * i + 4 * w)) true = true) :
    ((w = 0 → getBits d 16 7 < 96 ∨ getBits d 16 7 = 127) → Answers (exec (.tripCfgWrite m i w d) s) fun t =>
      t.chip.word (pwmA (0x100 + 16 * i + 4 * w)) = (if w = 0 then d &&& 0xE07F_03FF#32 else d) ∧ t.chip.resp.status = .done) ∧
    (w = 0 → 96 ≤ getBits d 16 7 → getBits d 16 7 ≠ 127 → Answers (exec (.tripCfgWrite m i w d) s) fun t =>
      t.chip.words = s.chip.words) := by
  let c := s.chip.writeArrives m (pwmA (0x100 + 16 * i + 4 * w)) true 0
  have hwords : c.words = s.chip.words := by
    change (Chip.afterKey _ _ _ _).words = _
    unfold Chip.afterKey
    split
    · rfl
    · rfl
  have hinst : instOf (pwmA (0x100 + 16 * i + 4 * w)) = 0 := instOf_pageAddr _ _ _ (by decide) (by omega)
  have hoff : offOf (pwmA (0x100 + 16 * i + 4 * w)) = 0x100 + 16 * i + 4 * w := offOf_pageAddr _ _ _ (by omega)
  have hpage (x : Meets) : c.pwmWrite x m (pwmA (0x100 + 16 * i + 4 * w)) [d] true = c.tripCfgWrite i w d := by
    have hi' : (0x100 + 16 * i + 4 * w - 0x100) / 16 = i := by omega
    have hw' : (0x100 + 16 * i + 4 * w - 0x100) / 4 % 4 = w := by omega
    unfold Chip.pwmWrite
    dsimp only
    rw [hinst, hoff, if_pos rfl, if_pos (by simp; omega), hi', hw']
    rfl
  obtain ⟨t, ht, hshow, hdone⟩ := write_pwm (i := 0) (by decide) (by omega) s m d true (exec_tripCfgWrite ..) h (by decide) (by omega)
  have hshow : (c.tripCfgWrite i w d).ShowsPwm t.chip := hpage _ ▸ hshow
  refine ⟨fun hgood => ⟨t, ht, (hshow.word _).trans (tripCfgWrite_word c hi hw hgood), hdone⟩, fun h0 hge hne => ⟨t, ht, ?_⟩⟩
  have hlt := getBits_lt d 16 7
  have heq : c.tripCfgWrite i w d = c := if_pos (by simp; omega)
  rw [heq] at hshow
  exact hshow.words.trans hwords

end

end Sys2Proof.Machine
end

section
/-! PROOFS. The self-test of the trip paths, and two configurations (R276, R279 to R281). -/

namespace Sys2Proof.Machine

variable {c c' : Chip}

/-! ### TRIP_SELF_TEST (R280, R281) -/

theorem exec_tripSelfTest (s : State) (i : Nat) (pass : Bool) :
    exec (.tripSelfTest i pass) s = s.event PWM 0 fun c => c.selfTest i pass := rfl
theorem exec_testStaleExpiry (s : State) (i : Nat) : exec (.testStaleExpiry i) s = s.event PWM 0 fun c => c.testStale i := rfl

/-- A field that counts stops at its top. -/
theorem fld_countFld_same (c : Chip) (k lo n : Nat) (h : lo + n ≤ 32) :
    (c.countFld k lo n).fld k lo n = min (2 ^ n - 1) (c.fld k lo n + 1) := by
  have hpos := Nat.two_pow_pos n
  rw [Chip.countFld, Chip.fld_setFld_same _ _ _ _ _ h, satAdd, Nat.mod_eq_of_lt (by omega)]

/-- What a self-test that failed alters after its counts: the fault of a gate, the events of the common page, and pairs. -/
def pathFaultBits (i k j : Nat) : Prop :=
  (k = pwmA (0x400 + 4 * i) ∧ 28 ≤ j) ∨ k = pwmA PG_EVT_RAW ∨ k = pwmA PG_EVT_PEND ∨ offCommon k j

theorem not_pathFaultBits_pwmA {i o j : Nat} (ho : o < 4096) (h : 0x020 < o) (hj : o = 0x400 + 4 * i → j < 28) :
    ¬ pathFaultBits i (pwmA o) j := by
  rintro (hk | hk | hk | hk)
  · simp only [pwmA, pageAddr] at hk
    omega
  · simp only [pwmA, pageAddr, PG_EVT_RAW] at hk
    omega
  · simp only [pwmA, pageAddr, PG_EVT_PEND] at hk
    omega
  · exact not_offCommon_pwmA ho j hk

theorem commonCause_alters (c : Chip) (i n : Nat) : c.Alters (pathFaultBits i) (c.cause PWM 0 n) :=
  cause_alters c PWM 0 n (.inr (.inl rfl)) (.inr (.inr (.inl rfl)))

/-- The counts of a self-test that failed. -/
def Chip.testFailed (c : Chip) (i : Nat) : Chip := ((c.countFld (pwmA (0x400 + 4 * i)) 16 8).count (pwmA 0x034)).cause PWM 0 0

/-- The bit of TRIP_STAT that shows the fault of gate `g` (R281, R288). -/
def pathFault (g : Nat) : Nat := if g = 0 then 29 else 28

section
variable {i : Nat} (hi : i < 48)
include hi

theorem testFailed_shows (c : Chip) : (c.testFailed i).fld (pwmA (0x400 + 4 * i)) 16 8 = min 255 (c.fld (pwmA (0x400 + 4 * i)) 16 8 + 1) ∧
    (c.testFailed i).nat (pwmA 0x034) = min (2 ^ 32 - 1) (c.nat (pwmA 0x034) + 1) := by
  have hne : pwmA 0x034 ≠ pwmA (0x400 + 4 * i) := by
    simp only [pwmA, pageAddr]
    omega
  have hcause (c : Chip) := commonCause_alters c i 0
  have hcount (c : Chip) : c.Alters (fun k _ => k = pwmA 0x034) (c.count (pwmA 0x034)) := count_alters c _ 1 fun _ => rfl
  have hfails : c.Alters (fun k _ => k = pwmA (0x400 + 4 * i)) (c.countFld (pwmA (0x400 + 4 * i)) 16 8) :=
    setFld_alters c _ 16 8 _ fun _ _ _ => rfl
  constructor
  · refine ((hcause _).fld _ 16 8 fun j _ _ => not_pathFaultBits_pwmA (by omega) (by omega) (by omega)).trans ?_
    exact ((hcount _).fld _ 16 8 fun _ _ _ => hne.symm).trans (fld_countFld_same c _ 16 8 (by decide))
  · refine ((hcause _).nat _ fun j => not_pathFaultBits_pwmA (by decide) (by decide) (by omega)).trans ?_
    rw [Chip.nat_count_same, hfails.nat _ fun _ => hne]

/-- The third failure in a row shows the fault of the gate tested, and trips pairs where the configuration has it so. -/
theorem selfTest_fails (c : Chip) (h : c.testable i = true) :
    (c.testFailed i).Alters (pathFaultBits i) (c.selfTest i false) ∧
    ((c.testFailed i).fld (pwmA (0x400 + 4 * i)) 16 8 = 3 →
      (c.selfTest i false).bit (pwmA (0x400 + 4 * i)) (pathFault (tab 0 c.pwm.testGate i)) = true) := by
  let g := tab 0 c.pwm.testGate i
  have hbit : 28 ≤ pathFault g ∧ pathFault g < 32 := by
    unfold pathFault
    split <;> decide
  let n := ((c.testFailed i).setBit (pwmA (0x400 + 4 * i)) (pathFault g) true).cause PWM 0 1
  have hshown : n.bit (pwmA (0x400 + 4 * i)) (pathFault g) = true := by
    refine ((cause_alters (S := fun k _ => k < pwmA 0x400) _ PWM 0 1 ?_ ?_).bit _ _ ?_).trans (Chip.bit_setBit_same _ _ _ _ hbit.2)
    · simp only [pwmA, pageAddr, PG_EVT_RAW]
      omega
    · simp only [pwmA, pageAddr, PG_EVT_PEND]
      omega
    · simp only [pwmA, pageAddr]
      omega
  have hfault : (c.testFailed i).Alters (pathFaultBits i) n :=
    (setBit_alters _ _ _ true (.inl ⟨rfl, hbit.1⟩)).trans (commonCause_alters _ i 1)
  have htrips (c : Chip) (l : List Nat) : c.Trips (c.each l fun c p =>
      let c := c.tripPair p i c.now
      c.setPair p { c.pair p with faultTrip := true }) :=
    each_trips (fun c p _ => (tripPair_trips c p i c.now).trans (setPair_trips ..)) c
  have heq : c.selfTest i false = if (c.testFailed i).fld (pwmA (0x400 + 4 * i)) 16 8 = 3 then
      (if n.bit (pwmA 0x520) 31 then n.each (n.tripPairs (g = 0) i) fun c p =>
        let c := c.tripPair p i c.now
        c.setPair p { c.pair p with faultTrip := true } else n) else c.testFailed i := by
    unfold Chip.selfTest
    rw [if_neg (by simp [h])]
    rfl
  rw [heq]
  split
  next h3 =>
    split
    · have hpairs := htrips n (n.tripPairs (g = 0) i)
      refine ⟨hfault.trans (hpairs.common.mono fun _ _ h => .inr (.inr (.inr h))), fun _ => ?_⟩
      exact (hpairs.common.bit _ _ (not_offCommon_pwmA (by omega) _)).trans hshown
    · exact ⟨hfault, fun _ => hshown⟩
  next h3 => exact ⟨.refl _ _, fun h => absurd h h3⟩

section
variable (s : State) (ha : s.chip.acts PWM 0 = true)
include ha

omit hi in
theorem tripSelfTest_pass_answers (h : s.chip.testable i = true) : Answers (exec (.tripSelfTest i true) s) fun t =>
    t.chip.fld (pwmA (0x400 + 4 * i)) 0 16 = min 65535 (s.chip.fld (pwmA (0x400 + 4 * i)) 0 16 + 1) ∧
    t.chip.fld (pwmA (0x400 + 4 * i)) 16 8 = 0 ∧ t.chip.bit (pwmA (0x400 + 4 * i)) 27 = false := by
  let k := pwmA (0x400 + 4 * i)
  let n := ((s.chip.countFld k 0 16).setFld k 16 8 0).setBit k 27 false
  have hwords : (s.chip.selfTest i true).words = n.words := by
    unfold Chip.selfTest
    rw [if_neg (by simp [h])]
    rfl
  have hstale (c : Chip) : c.Alters (fun _ j => j = 27) (c.setBit k 27 false) := setBit_alters c _ 27 false rfl
  refine ⟨_, (exec_tripSelfTest ..).trans (event_acts _ _ _ _ ha), ?_, ?_, ?_⟩
  · refine (fld_of_words hwords k 0 16).trans (((hstale _).fld k 0 16 fun j _ _ => by omega).trans ?_)
    exact (Chip.fld_setFld_field _ _ _ _ _ _ _ (by decide)).trans (fld_countFld_same _ _ _ _ (by decide))
  · refine (fld_of_words hwords k 16 8).trans (((hstale _).fld k 16 8 fun j _ _ => by omega).trans ?_)
    exact Chip.fld_setFld_same _ _ _ _ _ (by decide)
  · exact (bit_of_words hwords k 27).trans (Chip.bit_setBit_same _ _ _ _ (by decide))

theorem tripSelfTest_fail_answers (h : s.chip.testable i = true) : Answers (exec (.tripSelfTest i false) s) fun t =>
    t.chip.fld (pwmA (0x400 + 4 * i)) 16 8 = min 255 (s.chip.fld (pwmA (0x400 + 4 * i)) 16 8 + 1) ∧
    t.chip.nat (pwmA 0x034) = min (2 ^ 32 - 1) (s.chip.nat (pwmA 0x034) + 1) ∧
    (s.chip.fld (pwmA (0x400 + 4 * i)) 16 8 = 2 →
      t.chip.bit (pwmA (0x400 + 4 * i)) (if tab 0 s.chip.pwm.testGate i = 0 then 29 else 28) = true) := by
  obtain ⟨hfails, hcount⟩ := testFailed_shows hi s.chip
  obtain ⟨halters, hfault⟩ := selfTest_fails hi s.chip h
  refine ⟨_, (exec_tripSelfTest ..).trans (event_acts _ _ _ _ ha), ?_, ?_, fun h2 => ?_⟩
  · refine (fld_of_words (settle_words ..) _ 16 8).trans ((halters.fld _ 16 8 fun j _ _ => ?_).trans hfails)
    exact not_pathFaultBits_pwmA (by omega) (by omega) (by omega)
  · refine (nat_of_words (settle_words ..) _).trans ((halters.nat _ fun j => ?_).trans hcount)
    exact not_pathFaultBits_pwmA (by decide) (by decide) (by omega)
  · exact (bit_of_words (settle_words ..) ..).trans (hfault (by rw [hfails, h2]; decide))

/-! ### TEST_STALE_EXPIRY (R281) -/

theorem testStaleExpiry_answers (hen : s.chip.bit (pwmA (0x100 + 16 * i)) 31 = true) (htest : s.chip.bit (pwmA (0x100 + 16 * i)) 29 = true) :
    Answers (exec (.testStaleExpiry i) s) fun t => t.chip.bit (pwmA (0x400 + 4 * i)) 27 = true := by
  have heq : s.chip.testStale i = (s.chip.setBit (pwmA (0x400 + 4 * i)) 27 true).cause PWM 0 3 := if_pos (by simp [hi, hen, htest])
  refine ⟨_, (exec_testStaleExpiry ..).trans (event_acts _ _ _ _ ha), (bit_of_words (settle_words ..) ..).trans ?_⟩
  rw [heq, (commonCause_alters _ i 3).bit _ 27 (not_pathFaultBits_pwmA (by omega) (by omega) (by omega))]
  exact Chip.bit_setBit_same _ _ _ _ (by decide)

end

end

/-! ### Two configurations (R276, R279) -/

/-- Input 47 trips pair 95, whose window of 2 ns blanks it. -/
def blankedInput : State := State.ready [(pwmA (0x100 + 16 * 47), 0x805F_0001), (pwmA (0x10C + 16 * 47), 2 ^ 31)]

/-- The same, with an edge of the pair just now. -/
def openWindow : State := { blankedInput with chip := blankedInput.chip.setPair 95 { past := [0] } }

theorem blankedInput_trips : Answers (exec (.tripInputActive (2 ^ 47) 0 0) blankedInput) fun t =>
    t.chip.bit (pwmK 95 0x108) 21 = true ∧ t.chip.fld (pwmK 95 0x108) 22 6 = 47 :=
  ⟨_, (exec_tripInputActive ..).trans (anytime_acts _ _ (by decide +kernel)), by decide +kernel⟩

theorem openWindow_blanks : Answers (exec (.tripInputActive (2 ^ 47) 0 0) openWindow) fun t =>
    t.chip.bit (pwmK 95 0x108) 21 = false ∧ t.chip.pwm.balls = 2 ^ 47 :=
  ⟨_, (exec_tripInputActive ..).trans (anytime_acts _ _ (by decide +kernel)), by decide +kernel⟩

/-- Settles O34: the two configurations are evaluated, and each clause is what the command's own lemma says. -/
theorem tripPath : Obligations.TripPath := by
  unfold Obligations.TripPath
  refine ⟨⟨blankedInput_trips, openWindow_blanks⟩, fun s m i p d hi hp _ => ⟨?_, ?_, fun h hd => tripClear_answers s m hp h hd,
    fun w hw h => tripCfgWrite_answers s m hi hw h, fun copy hheld h => cfgMismatchExpiry_answers s hi hheld h,
    fun ha h => ⟨tripSelfTest_pass_answers s ha h, tripSelfTest_fail_answers hi s ha h⟩,
    fun ha hen htest => testStaleExpiry_answers hi s ha hen htest⟩⟩
  · intro high low sub hheld hrun hhigh hball hen hpol hwin hmem
    exact tripInputActive_answers s hi hheld low sub hrun hhigh hball hen hpol hwin hmem
  · intro sub hheld hrun hseen hopen hmem
    exact blankWindowClose_answers s hi hheld sub hrun hseen hopen hmem

end Sys2Proof.Machine
end

section
/-! PROOFS. The pages of the Feedback Interface: what an operation alters there, and what a command that acts on one comes to (R290, R311). -/

namespace Sys2Proof.Machine

variable {c c' : Chip}

/-! ### Bits of a page -/

/-- Bit `j` of the word at an offset `o` of page `i` of the Feedback Interface where `P o j` holds. -/
def fbkBits (i : Nat) (P : Nat → Nat → Prop) (k j : Nat) : Prop := ∃ o, k = fbkK i o ∧ P o j

theorem fbkK_inj {i o o' : Nat} : fbkK i o = fbkK i o' ↔ o = o' := by simp [fbkK, pageAddr]

@[simp] theorem fbkBits_fbkK {i o j : Nat} {P : Nat → Nat → Prop} : fbkBits i P (fbkK i o) j ↔ P o j := by simp [fbkBits, fbkK_inj]

theorem fbkBits_mono {i : Nat} {P Q : Nat → Nat → Prop} (h : ∀ o j, P o j → Q o j) (k j : Nat) : fbkBits i P k j → fbkBits i Q k j :=
  fun ⟨o, hk, hP⟩ => ⟨o, hk, h o j hP⟩

/-- The words in which a page shows its causes (R74). -/
def causeWord (o : Nat) : Prop := o = PG_EVT_RAW ∨ o = PG_EVT_PEND

theorem fbkCause_alters {P : Nat → Nat → Prop} (c : Chip) (i n : Nat) (h : ∀ o, causeWord o → P o n) :
    c.Alters (fbkBits i P) (c.cause FBK i n) :=
  cause_alters c FBK i n (fbkBits_fbkK.2 (h _ (.inl rfl))) (fbkBits_fbkK.2 (h _ (.inr rfl)))

section
variable {i o : Nat} {P : Nat → Nat → Prop} (h : c.Alters (fbkBits i P) c')
include h

theorem Chip.Alters.fbkWord (ho : ∀ j, ¬ P o j) : c'.word (fbkK i o) = c.word (fbkK i o) := h.word _ fun j => mt fbkBits_fbkK.1 (ho j)
theorem Chip.Alters.fbkNat (ho : ∀ j, ¬ P o j) : c'.nat (fbkK i o) = c.nat (fbkK i o) := h.nat _ fun j => mt fbkBits_fbkK.1 (ho j)
theorem Chip.Alters.fbkBit {j : Nat} (ho : ¬ P o j) : c'.bit (fbkK i o) j = c.bit (fbkK i o) j := h.bit _ _ (mt fbkBits_fbkK.1 ho)
theorem Chip.Alters.fbkFld {lo n : Nat} (ho : ∀ j, lo ≤ j → j < lo + n → ¬ P o j) : c'.fld (fbkK i o) lo n = c.fld (fbkK i o) lo n :=
  h.fld _ _ _ fun j hlo hn => mt fbkBits_fbkK.1 (ho j hlo hn)

/-- The position goes by CPR, COUNT and TURNS (R294). -/
theorem Chip.Alters.fbkPos (ho : ∀ o ∈ [0x104, 0x158, 0x15C], ∀ j, ¬ P o j) : c'.fbkPos i = c.fbkPos i := by
  have hcpr : c'.cpr i = c.cpr i := h.fbkNat (ho 0x104 (by simp))
  rw [Chip.fbkPos, Chip.fbkPos, hcpr, h.fbkNat (ho 0x158 (by simp)), h.fbkNat (ho 0x15C (by simp))]

end

/-! ### What a channel holds outside its page -/

theorem Chip.Notes.fbk (h : c.Notes c') : c'.fbk = c.fbk := by
  obtain ⟨w, n, l, rfl⟩ := h
  rfl

theorem Chip.Notes.chan (h : c.Notes c') (n : Nat) : c'.chan n = c.chan n := by rw [Chip.chan, h.fbk, Chip.chan]

@[simp] theorem chan_setChan_same (c : Chip) (n : Nat) (x : Fbk) : (c.setChan n x).chan n = x := tab_tabPut_same ..

theorem setChan_alters {S : Nat → Nat → Prop} (c : Chip) (n : Nat) (x : Fbk) : c.Alters S (c.setChan n x) := .of_words rfl rfl rfl

/-! ### What a state shows of the Feedback Interface -/

/-- In `t` the registers and the Feedback Interface stand as in `n`. -/
structure Chip.ShowsFeedback (n t : Chip) : Prop where
  words : t.words = n.words
  fbk : t.fbk = n.fbk

namespace Chip.ShowsFeedback

variable {n t : Chip} (h : n.ShowsFeedback t)
include h

theorem word (k : Nat) : t.word k = n.word k := word_of_words h.words k
theorem nat (k : Nat) : t.nat k = n.nat k := nat_of_words h.words k
theorem bit (k j : Nat) : t.bit k j = n.bit k j := bit_of_words h.words k j
theorem fld (k lo w : Nat) : t.fld k lo w = n.fld k lo w := fld_of_words h.words k lo w
theorem chan (i : Nat) : t.chan i = n.chan i := by rw [Chip.chan, h.fbk, Chip.chan]
theorem fbkPos (i : Nat) : t.fbkPos i = n.fbkPos i := by rw [Chip.fbkPos, Chip.cpr, h.nat, h.nat, h.nat]; rfl

end Chip.ShowsFeedback

theorem settle_showsFeedback (s : State) (f : Chip → Chip) : (f s.chip).ShowsFeedback (s.settle f).chip := ⟨rfl, rfl⟩

/-! ### Events -/

/-- Nothing keeps an event from the inputs of channel `n` (R67, R68, R317). -/
structure State.ChannelActs (s : State) (n : Nat) : Prop where
  held : s.chip.pwr.held = none
  resetting : s.chip.resetting FBK n = false
  frozen : s.chip.frozen FBK n = false

theorem fbkEvent_shows {s : State} {n : Nat} (h : s.ChannelActs n) {f : Chip → Chip} {i : Instr} (hi : exec i s = s.fbkEvent n f) :
    Answers (exec i s) fun t => (f s.chip).ShowsFeedback t.chip := by
  have hacts : (s.chip.pwr.held.isNone && !s.chip.resetting FBK n && !s.chip.frozen FBK n) = true := by
    simp [h.held, h.resetting, h.frozen]
  refine ⟨_, hi.trans ?_, settle_showsFeedback s f⟩
  rw [State.fbkEvent, hacts]
  rfl

/-! ### Accepted writes -/

section
variable {i o : Nat} (hi : i < 128) (hlo : 0x034 ≤ o) (ho : o < 0x800)
include hi hlo ho

/-- A register of a page of the Feedback Interface behind its header. -/
theorem applyWrite_fbk (c : Chip) (x : Meets) (m : Nat) (d : Word) (keyed : Bool) :
    c.applyWrite x m (fbkK i o) [d] keyed = c.fbkWrite m (fbkK i o) [d] keyed := by
  have hoff : offOf (fbkK i o) = o := offOf_pageAddr FBK i o (by omega)
  have hblock : blockOf (fbkK i o) = FBK := blockOf_pageAddr FBK i o (by decide) hi (by omega)
  have hres := resultAt_below c.part (show offOf (fbkK i o) < 0x800 by omega)
  have htw : isTw (fbkK i o) = false := isTw_pageAddr FBK i o hi (by omega)
  generalize fbkK i o = a at *
  have hwin : isWindow a = false := by simp [isWindow, hblock, windowPages, FBK, HOI, LOOP, PRF, ADT, TLY, NET, PWR]
  simp [Chip.applyWrite, hres, htw, hoff, show ¬ o < 0x034 by omega, Chip.blockWrite, hwin, hblock, FBK]

/-- What the register window takes there as a write is what the page's registers make of it, and the master sees it done. -/
theorem put_fbk (s : State) (m : Nat) (d : Word) {j : Instr} (hj : exec j s = s.put m (fbkK i o) d)
    (h : s.chip.takes m (fbkK i o) false = true) {n : Chip} (hn : s.chip.fbkWrite m (fbkK i o) [d] false = n) :
    Answers (exec j s) fun t => n.ShowsFeedback t.chip ∧ t.chip.resp.status = .done := by
  have hkey : offOf (fbkK i o) ≠ PG_KEY := by
    rw [fbkK, offOf_pageAddr FBK i o (by omega), PG_KEY]
    omega
  have hblock : blockOf (fbkK i o) ≠ HOI := by
    rw [fbkK, blockOf_pageAddr FBK i o (by decide) hi (by omega)]
    decide
  obtain ⟨q, hw⟩ := writeBy_completes s.chip (s.meets {}) m _ d false h rfl rfl (.inr (.inr hkey))
  rw [afterKey_false, Bool.false_and, applyWrite_fbk hi hlo ho, hn] at hw
  refine ⟨_, hj.trans (put_taken s {} m _ d false h rfl rfl (.inr (.inr hkey)) hblock), ⟨?_, ?_⟩, ?_⟩
  · rw [settle_words, hw]
  · rw [settle_fbk, hw]
  · rw [settle_resp, hw]

end

end Sys2Proof.Machine
end

section
/-! PROOFS. Counting (R292 to R294, R296, R307): the position as it is stored, and the samples of A and B and of the Hall inputs. -/

namespace Sys2Proof.Machine

variable {c c' : Chip} {n : Nat}

/-! ### The position as TURNS and COUNT (R294) -/

/-- COUNT and TURNS of position `p`. -/
def Chip.posStored (c : Chip) (n : Nat) (p : Int) : Chip :=
  (c.setNat (fbkK n 0x158) (p - p.fdiv (c.cpr n) * c.cpr n).toNat).setNat (fbkK n 0x15C) (unsigned 32 (p.fdiv (c.cpr n)))

/-- The words of the position. -/
def posWords (o _j : Nat) : Prop := o = 0x158 ∨ o = 0x15C

/-- What counting shows beside the position: TURNS_WRAP, DIR and FBK_DIR_CNT, and the causes. -/
def countMarks (o j : Nat) : Prop := causeWord o ∨ o = 0x044 ∨ o = 0x150 ∧ (j = 13 ∨ j = 22)

theorem not_countMarks {o : Nat} (ho : 0x044 < o) (h : o ≠ 0x150) (j : Nat) : ¬ countMarks o j := by
  simp only [countMarks, causeWord, PG_EVT_RAW, PG_EVT_PEND]
  omega

theorem posStored_alters (c : Chip) (n : Nat) (p : Int) : c.Alters (fbkBits n posWords) (c.posStored n p) :=
  (setNat_alters c _ _ fun _ => fbkBits_fbkK.2 (.inl rfl)).trans (setNat_alters _ _ _ fun _ => fbkBits_fbkK.2 (.inr rfl))

/-- COUNT is the position modulo CPR. -/
theorem posStored_count (p : Int) (hm : c.cpr n ≠ 0) : ((c.posStored n p).nat (fbkK n 0x158) : Int) = p % c.cpr n := by
  have hpos : (0 : Int) < c.cpr n := by exact_mod_cast Nat.pos_of_ne_zero hm
  have hcount : p - p.fdiv (c.cpr n) * c.cpr n = p % c.cpr n := by
    rw [Int.fdiv_eq_ediv_of_nonneg _ hpos.le, Int.mul_comm, Int.emod_def]
  have hlow := Int.emod_nonneg p hpos.ne'
  have hhigh := Int.emod_lt_of_pos p hpos
  have hcpr : c.cpr n < 2 ^ 32 := (c.word (fbkK n 0x104)).isLt
  have hturns : (fbkK n 0x158) ≠ fbkK n 0x15C := by simp [fbkK_inj]
  rw [Chip.posStored, hcount, Chip.nat, Chip.setNat, Chip.word_setWord_ne _ _ hturns, ← Chip.nat, Chip.nat_setNat_same _ _ _ (by omega),
    Int.toNat_of_nonneg hlow]

theorem unsigned_signed (n v : Nat) : unsigned n (signed n v) = v % 2 ^ n := by
  have hmod : signed n v % (2 ^ n : Nat) = (v % 2 ^ n : Nat) := by
    unfold signed
    dsimp only
    split
    · norm_cast
      exact Nat.mod_mod v _
    · rw [Int.sub_emod_right]
      norm_cast
      exact Nat.mod_mod v _
  rw [unsigned, hmod, Int.toNat_natCast]

/-- The position of a TURNS word and a COUNT below CPR is stored as they are. -/
theorem posStored_words {w : Word} {k : Nat} (hk : k < c.cpr n) : let d := c.posStored n (signed 32 w.toNat * c.cpr n + k)
    d.nat (fbkK n 0x158) = k ∧ d.word (fbkK n 0x15C) = w := by
  have hpos : (0 : Int) < c.cpr n := by exact_mod_cast Nat.zero_lt_of_lt hk
  have hbelow : (k : Int) < c.cpr n := by exact_mod_cast hk
  have hturns : (signed 32 w.toNat * c.cpr n + k).fdiv (c.cpr n) = signed 32 w.toNat := by
    rw [Int.fdiv_eq_ediv_of_nonneg _ hpos.le, Int.add_comm, Int.add_mul_ediv_right _ _ hpos.ne', Int.ediv_eq_zero_of_lt (by omega) hbelow,
      Int.zero_add]
  constructor
  · have hcount := posStored_count (c := c) (n := n) (signed 32 w.toNat * c.cpr n + k) (by omega)
    rw [Int.add_comm, Int.add_mul_emod_self_right, Int.emod_eq_of_lt (by omega) hbelow, Int.add_comm] at hcount
    exact_mod_cast hcount
  · refine (Chip.word_setWord_same ..).trans ?_
    rw [hturns, unsigned_signed, Nat.mod_eq_of_lt w.isLt]
    exact BitVec.ofNat_toNat 32 w |>.trans (BitVec.setWidth_eq w)

theorem putPos_alters (p : Int) (hm : c.cpr n ≠ 0) : (c.posStored n p).Alters (fbkBits n countMarks) (c.putPos n p) := by
  have hm : ¬ (c.cpr n : Int) = 0 := by exact_mod_cast hm
  unfold Chip.putPos
  dsimp only
  rw [if_neg hm]
  refine .ite ?_ (.refl _ _)
  exact (setBit_alters _ _ 22 true (fbkBits_fbkK.2 (.inr (.inr ⟨rfl, .inr rfl⟩)))).trans (fbkCause_alters _ n 9 fun _ => .inl)

theorem putPos_notes (c : Chip) (n : Nat) (p : Int) : c.Notes (c.putPos n p) := by
  have hstored : c.Notes (c.posStored n p) := (setNat_notes ..).trans (setNat_notes ..)
  exact .ite (.refl c) (.ite ((hstored.trans (setBit_notes ..)).trans (cause_notes ..)) hstored)

/-! ### Counts (R292, R307) -/

theorem trackDir_alters (c : Chip) (n : Nat) : c.Alters (fbkBits n countMarks) (c.trackDir n) := by
  have hdir (c : Chip) (b : Bool) : c.Alters (fbkBits n countMarks) (c.fbkFlag n 13 b) :=
    setBit_alters c _ 13 b (fbkBits_fbkK.2 (.inr (.inr ⟨rfl, .inl rfl⟩)))
  have hcount (c : Chip) : c.Alters (fbkBits n countMarks) (c.count (fbkK n 0x044)) :=
    count_alters c _ 1 fun _ => fbkBits_fbkK.2 (.inr (.inl rfl))
  refine .ite ?_ (setChan_alters ..)
  exact (((setChan_alters ..).trans (hdir _ _)).trans (fbkCause_alters _ n 5 fun _ => .inl)).trans (hcount _)

/-- The direction moves the extreme position alone. -/
theorem trackDir_notes (c : Chip) (n : Nat) : ∃ e, (c.setChan n { c.chan n with ext := e }).Notes (c.trackDir n) := by
  unfold Chip.trackDir
  dsimp only
  generalize (if c.bit (fbkK n 0x150) 13 = true then min (c.chan n).ext (c.fbkPos n) else max (c.chan n).ext (c.fbkPos n)) = e
  generalize (if c.bit (fbkK n 0x150) 13 = true then c.fbkPos n - e else e - c.fbkPos n) = back
  split
  · exact ⟨_, ((setBit_notes ..).trans (cause_notes ..)).trans (count_notes ..)⟩
  · exact ⟨_, .refl _⟩

theorem trackDir_levels (c : Chip) (n : Nat) : ((c.trackDir n).chan n).a = (c.chan n).a ∧ ((c.trackDir n).chan n).b = (c.chan n).b := by
  obtain ⟨e, he⟩ := trackDir_notes c n
  rw [he.chan, chan_setChan_same]
  exact ⟨rfl, rfl⟩

/-- The last counted edge is the present one (R306). -/
def Chip.edgeNow (c : Chip) (n : Nat) : Chip :=
  c.setChan n { c.chan n with pb := c.fbkPos n, tb := c.nowNs - c.dIn n, edged := true }

section
variable {d : Int} (hd : d ≠ 0)
include hd

theorem countBy_eq (c : Chip) (n : Nat) : c.countBy n d = ((c.putPos n (c.fbkPos n + d)).edgeNow n).trackDir n := if_neg hd

theorem countBy_alters (hm : c.cpr n ≠ 0) : (c.posStored n (c.fbkPos n + d)).Alters (fbkBits n countMarks) (c.countBy n d) := by
  rw [countBy_eq hd]
  exact ((putPos_alters _ hm).trans (setChan_alters ..)).trans (trackDir_alters ..)

/-- Counts leave the levels from which they come. -/
theorem countBy_levels (c : Chip) (n : Nat) : ((c.countBy n d).chan n).a = (c.chan n).a ∧ ((c.countBy n d).chan n).b = (c.chan n).b := by
  obtain ⟨ha, hb⟩ := trackDir_levels ((c.putPos n (c.fbkPos n + d)).edgeNow n) n
  rw [countBy_eq hd, ha, hb, Chip.edgeNow, chan_setChan_same, (putPos_notes ..).chan]
  exact ⟨rfl, rfl⟩

theorem countBy_count (hm : c.cpr n ≠ 0) : ((c.countBy n d).nat (fbkK n 0x158) : Int) = (c.fbkPos n + d) % c.cpr n := by
  rw [(countBy_alters hd hm).fbkNat (not_countMarks (by decide) (by decide)), posStored_count _ hm]

end

end Sys2Proof.Machine
end

section
/-! PROOFS. What a channel counts, and the positions that are set (R292, R293, R295, R296, R313). -/

namespace Sys2Proof.Machine

variable {c c' : Chip} {n : Nat}

/-- Channel `n` is enabled, and counting runs (R313, R317). -/
structure Chip.ChannelCounts (c : Chip) (n : Nat) : Prop where
  chanOn : c.chanOn n = true
  counting : c.counting = true

/-! ### A and B (R292, R293) -/

/-- The levels of A and B of a filtered sample are accepted. -/
def Chip.levelsSeen (c : Chip) (n : Nat) (a b : Bool) : Chip := c.setChan n { c.chan n with a := a, b := b }

/-- A and B have changed together: the error is noted for each latch, shown and counted. -/
def Chip.quadratureError (c : Chip) (n : Nat) : Chip :=
  (((c.setChan n { c.chan n with qerr := 7 }).fbkFlag n 21 true).count (fbkK n 0x034)).cause FBK n 3

/-- The sample adds `d` counts, in the direction that INV_DIR gives. -/
def Chip.countsSeen (c : Chip) (n : Nat) (d : Int) : Chip := c.countBy n (if c.bit (fbkK n 0x100) 25 then -d else d)

theorem encoderCount_eq {a b : Bool} (h : c.ChannelCounts n) (hsrc : c.fbkSrc n = 0) :
    c.encoderCount n a b = (quadrature (c.fld (fbkK n 0x100) 26 3) (c.chan n).a (c.chan n).b a b).elim
      ((c.levelsSeen n a b).quadratureError n) fun d => (c.levelsSeen n a b).countsSeen n d := by
  have hcond : ¬ (!c.chanOn n || c.fbkSrc n != 0 || !c.counting) = true := by simp [h.chanOn, h.counting, hsrc]
  refine (if_neg hcond).trans ?_
  split
  next hq =>
    rw [show quadrature (c.fld (fbkK n 0x100) 26 3) (c.chan n).a (c.chan n).b a b = none from hq]
    rfl
  next d hq =>
    rw [show quadrature (c.fld (fbkK n 0x100) 26 3) (c.chan n).a (c.chan n).b a b = some d from hq]
    rfl

section
variable {d : Int} (hd : d ≠ 0)
include hd

theorem signed_ne_zero (inv : Bool) : (if inv then -d else d) ≠ 0 := by
  cases inv
  · exact hd
  · exact neg_ne_zero.2 hd

theorem countsSeen_count (hm : c.cpr n ≠ 0) : ((c.countsSeen n d).nat (fbkK n 0x158) : Int) =
    (c.fbkPos n + (if c.bit (fbkK n 0x100) 25 then -d else d)) % c.cpr n := countBy_count (signed_ne_zero hd _) hm

theorem countsSeen_levels (c : Chip) (n : Nat) :
    ((c.countsSeen n d).chan n).a = (c.chan n).a ∧ ((c.countsSeen n d).chan n).b = (c.chan n).b := countBy_levels (signed_ne_zero hd _) c n

theorem countsSeen_alters (hm : c.cpr n ≠ 0) : c.Alters (fbkBits n fun o j => posWords o j ∨ countMarks o j) (c.countsSeen n d) :=
  ((posStored_alters ..).mono (fbkBits_mono fun _ _ => .inl)).trans
    ((countBy_alters (signed_ne_zero hd _) hm).mono (fbkBits_mono fun _ _ => .inr))

end

/-- A flag of FBK_STAT, a counter and a cause. -/
def errorMarks (flag counter o j : Nat) : Prop := causeWord o ∨ o = counter ∨ o = 0x150 ∧ j = flag

/-- An error sets its flag, counts and raises its cause; the position stands. -/
theorem channelError_shows (c : Chip) (n cause : Nat) {flag counter : Nat} (hflag : flag < 32) (hc : 0x034 ≤ counter ∧ counter < 0x100) :
    let e := ((c.fbkFlag n flag true).count (fbkK n counter)).cause FBK n cause
    e.fbkPos n = c.fbkPos n ∧ e.bit (fbkK n 0x150) flag = true ∧ e.nat (fbkK n counter) = min (2 ^ 32 - 1) (c.nat (fbkK n counter) + 1) := by
  have hset : c.Alters (fbkBits n (errorMarks flag counter)) (c.fbkFlag n flag true) :=
    setBit_alters c _ flag true (fbkBits_fbkK.2 (.inr (.inr ⟨rfl, rfl⟩)))
  have hcount (c : Chip) : c.Alters (fbkBits n fun o _ => o = counter) (c.count (fbkK n counter)) :=
    count_alters c _ 1 fun _ => fbkBits_fbkK.2 rfl
  have hcause (c : Chip) : c.Alters (fbkBits n fun o _ => causeWord o) (c.cause FBK n cause) := fbkCause_alters c n cause fun _ => id
  refine ⟨?_, ?_, ?_⟩
  · refine Chip.Alters.fbkPos (hset.trans (((hcount _).mono ?_).trans ((hcause _).mono ?_))) ?_
    · exact fbkBits_mono fun _ _ h => .inr (.inl h)
    · exact fbkBits_mono fun _ _ h => .inl h
    · intro o ho j
      simp only [List.mem_cons, List.not_mem_nil, or_false] at ho
      simp only [errorMarks, causeWord, PG_EVT_RAW, PG_EVT_PEND]
      omega
  · rw [(hcause _).fbkBit (by simp [causeWord, PG_EVT_RAW, PG_EVT_PEND]), (hcount _).fbkBit (by omega)]
    exact Chip.bit_setBit_same _ _ _ _ hflag
  · rw [(hcause _).fbkNat fun _ => by simp only [causeWord, PG_EVT_RAW, PG_EVT_PEND]; omega, Chip.nat_count_same, Chip.fbkFlag, Chip.nat,
      Chip.word_setBit_ne _ _ _ (by rw [Ne, fbkK_inj]; omega), ← Chip.nat]

/-! ### Hall sensors (R296) -/

/-- The code of the Hall inputs is accepted. -/
def Chip.hallSeen (c : Chip) (n h : Nat) : Chip := c.setChan n { c.chan n with hall := h % 8 }

/-- The code gives sector `sec`: HALL_SECTOR and the Hall result word. -/
def Chip.sectorSeen (c : Chip) (n sec : Nat) : Chip :=
  (c.setFld (fbkK n 0x150) 0 3 sec).newResult (fbkK n 0x818) (BitVec.ofNat 32 sec) (256 * n)
    ((c.setFld (fbkK n 0x150) 0 3 sec).stampAt ((c.setFld (fbkK n 0x150) 0 3 sec).nowNs - (c.setFld (fbkK n 0x150) 0 3 sec).fld (fbkK n 0x100) 0 8 * 1000)
      ((c.setFld (fbkK n 0x150) 0 3 sec).tim.frac / 65536))

/-- The words that show a sector. -/
def sectorMarks (o j : Nat) : Prop := o = 0x818 ∨ o = 0x81C ∨ o = 0x150 ∧ j < 3

theorem sectorSeen_alters (c : Chip) (n sec : Nat) : c.Alters (fbkBits n sectorMarks) (c.sectorSeen n sec) := by
  refine (setFld_alters c _ 0 3 sec fun j _ hj => fbkBits_fbkK.2 (.inr (.inr ⟨rfl, by omega⟩))).trans (newResult_alters _ _ _ _ _ ?_ ?_)
  · exact fun j => fbkBits_fbkK.2 (.inl rfl)
  · exact fun j => (fbkBits_fbkK (o := 0x81C)).2 (.inr (.inl rfl))

theorem sectorSeen_sector (c : Chip) (n : Nat) {sec : Nat} (h : sec < 8) : (c.sectorSeen n sec).fld (fbkK n 0x150) 0 3 = sec := by
  have hresult : (c.setFld (fbkK n 0x150) 0 3 sec).Alters (fbkBits n fun o _ => o = 0x818 ∨ o = 0x81C) (c.sectorSeen n sec) :=
    newResult_alters _ _ _ _ _ (fun j => fbkBits_fbkK.2 (.inl rfl)) fun j => (fbkBits_fbkK (o := 0x81C)).2 (.inr rfl)
  rw [hresult.fbkFld fun _ _ _ => by omega, Chip.fld_setFld_same _ _ _ _ _ (by decide)]
  exact Nat.mod_eq_of_lt h

/-- What FBK_HALL_MAP gives for code `h`. -/
def Chip.hallNibble (c : Chip) (n h : Nat) : Nat := c.fld (fbkK n 0x11C) (4 * h) 4

/-- How far, modulo 6, the sector of code `h` lies from the last one. -/
def Chip.hallStep (c : Chip) (n h : Nat) : Nat := (c.hallNibble n h % 8 + 6 - c.fld (fbkK n 0x150) 0 3) % 6

/-- Code `h` is illegal, names no sector or skips one. -/
def Chip.hallFaulty (c : Chip) (n h : Nat) : Bool :=
  decide (c.hallNibble n h < 8) || decide (5 < c.hallNibble n h % 8) ||
    !(decide (c.hallStep n h = 0) || decide (c.hallStep n h = 1) || decide (c.hallStep n h = 5))

/-- The channel with the sector of code `h`. -/
def Chip.hallTaken (c : Chip) (n h : Nat) : Chip := (c.hallSeen n h).sectorSeen n (c.hallNibble n h % 8)

theorem hallChange_eq {h : Nat} (hh : h < 8) (hc : c.ChannelCounts n) (hen : c.bit (fbkK n 0x100) 16 = true) :
    c.hallChange n h =
      if c.hallFaulty n h then (((c.hallSeen n h).fbkFlag n 18 true).count (fbkK n 0x040)).cause FBK n 7
      else if (c.hallTaken n h).fbkSrc n = 1 then
        (c.hallTaken n h).countsSeen n (if c.hallStep n h = 0 then 0 else if c.hallStep n h = 1 then 1 else -1)
      else c.hallTaken n h := by
  have hcond : ¬ (!c.chanOn n || !c.bit (fbkK n 0x100) 16 || !c.counting) = true := by simp [hc.chanOn, hc.counting, hen]
  refine (if_neg hcond).trans ?_
  rw [Nat.mod_eq_of_lt hh]
  unfold Chip.hallTaken Chip.hallSeen
  rw [Nat.mod_eq_of_lt hh]
  rfl

theorem hallTaken_alters (c : Chip) (n h : Nat) : c.Alters (fbkBits n sectorMarks) (c.hallTaken n h) :=
  .trans (setChan_alters ..) (sectorSeen_alters ..)

/-- A step of one sector up or down counts where SRC selects Hall. -/
theorem hallTaken_counts {h : Nat} {up : Bool} (hm : c.cpr n ≠ 0) (hsec : c.hallNibble n h % 8 ≤ 5) :
    let t := (c.hallTaken n h).countsSeen n (if up then 1 else -1)
    (t.nat (fbkK n 0x158) : Int) = (c.fbkPos n + (if c.bit (fbkK n 0x100) 25 = up then -1 else 1)) % c.cpr n ∧
      t.fld (fbkK n 0x150) 0 3 = c.hallNibble n h % 8 := by
  have hkept := hallTaken_alters c n h
  have hcpr : (c.hallTaken n h).cpr n = c.cpr n := hkept.fbkNat fun j => by simp [sectorMarks]
  have hpos : (c.hallTaken n h).fbkPos n = c.fbkPos n := hkept.fbkPos fun o ho j => by
    simp only [List.mem_cons, List.not_mem_nil, or_false] at ho
    simp only [sectorMarks]
    omega
  have hinv : (c.hallTaken n h).bit (fbkK n 0x100) 25 = c.bit (fbkK n 0x100) 25 := hkept.fbkBit (by simp [sectorMarks])
  have hd : (if up then 1 else -1 : Int) ≠ 0 := by cases up <;> decide
  have hsign : (if c.bit (fbkK n 0x100) 25 = true then -(if up then 1 else -1) else if up then 1 else -1 : Int) =
      if c.bit (fbkK n 0x100) 25 = up then -1 else 1 := by
    cases up <;> cases c.bit (fbkK n 0x100) 25 <;> rfl
  constructor
  · rw [countsSeen_count hd (by rwa [hcpr]), hpos, hinv, hcpr]
    rw [hsign]
  · refine ((countsSeen_alters hd (by rwa [hcpr])).fbkFld fun j _ hj => ?_).trans (sectorSeen_sector _ n (by omega))
    simp only [posWords, countMarks, causeWord, PG_EVT_RAW, PG_EVT_PEND]
    omega

end Sys2Proof.Machine
end

section
/-! PROOFS. SET_POS and the enabling of a channel (R295, R313), and the commands that count and set positions. -/

namespace Sys2Proof.Machine

variable {c c' : Chip} {n : Nat}

/-! ### SET_POS (R295) -/

theorem fbkWrite_cmd (hn : n < 32) (c : Chip) (m : Nat) (d : Word) (keyed : Bool) :
    c.fbkWrite m (fbkK n 0x140) [d] keyed = c.fbkCmdWrite n d := by
  have hoff : offOf (fbkK n 0x140) = 0x140 := offOf_pageAddr _ _ _ (by decide)
  have hinst : instOf (fbkK n 0x140) = n := instOf_pageAddr _ _ _ (by omega) (by decide)
  simp [Chip.fbkWrite, hoff, hinst, hn]

/-- What SET_POS clears beside the position: CMD_REFUSED, POS_LOST and FBK_IDX_CORR_SUM. -/
def setPosMarks (o j : Nat) : Prop := o = 0x164 ∨ o = 0x150 ∧ (j = 16 ∨ j = 23)

/-- A COUNT below CPR is taken with its TURNS. -/
theorem fbkSetPos_takes (h : c.nat (fbkK n 0x138) < c.cpr n) : let t := c.fbkSetPos n
    t.nat (fbkK n 0x158) = c.nat (fbkK n 0x138) ∧ t.word (fbkK n 0x15C) = c.word (fbkK n 0x13C) ∧
      t.bit (fbkK n 0x150) 16 = false ∧ t.bit (fbkK n 0x150) 23 = false := by
  let p : Int := signed 32 (c.nat (fbkK n 0x13C)) * c.cpr n + c.nat (fbkK n 0x138)
  let e := (c.shiftPos n p).fbkFlag n 16 false
  have heq : c.fbkSetPos n = (e.fbkFlag n 23 false).setNat (fbkK n 0x164) 0 := if_neg (by omega)
  have hclears : (c.shiftPos n p).Alters (fbkBits n setPosMarks) (c.fbkSetPos n) := by
    rw [heq]
    refine ((setBit_alters _ _ 16 false ?_).trans (setBit_alters _ _ 23 false ?_)).trans (setNat_alters _ _ 0 fun _ => ?_)
    · exact fbkBits_fbkK.2 (.inr ⟨rfl, .inl rfl⟩)
    · exact fbkBits_fbkK.2 (.inr ⟨rfl, .inr rfl⟩)
    · exact fbkBits_fbkK.2 (.inl rfl)
  have hshift : (c.posStored n p).Alters (fbkBits n countMarks) (c.shiftPos n p) := (putPos_alters p (by omega)).trans (setChan_alters ..)
  obtain ⟨hcount, hturns⟩ := posStored_words (c := c) (n := n) (w := c.word (fbkK n 0x13C)) h
  have hsum (c : Chip) : c.Alters (fbkBits n fun o _ => o = 0x164) (c.setNat (fbkK n 0x164) 0) :=
    setNat_alters _ _ 0 fun _ => fbkBits_fbkK.2 rfl
  refine ⟨?_, ?_, ?_, ?_⟩
  · rw [hclears.fbkNat fun j => by simp [setPosMarks], hshift.fbkNat (not_countMarks (by decide) (by decide))]
    exact hcount
  · rw [hclears.fbkWord fun j => by simp [setPosMarks], hshift.fbkWord (not_countMarks (by decide) (by decide))]
    exact hturns
  · rw [heq, (hsum _).fbkBit (by decide), Chip.fbkFlag, Chip.bit_setBit _ _ _ _ _ _ (by decide), if_neg (by simp)]
    exact Chip.bit_setBit_same _ _ _ _ (by decide)
  · rw [heq, (hsum _).fbkBit (by decide)]
    exact Chip.bit_setBit_same _ _ _ _ (by decide)

/-- One that is CPR or more is refused. -/
theorem fbkSetPos_refuses (h : c.cpr n ≤ c.nat (fbkK n 0x138)) :
    (c.fbkSetPos n).fbkPos n = c.fbkPos n ∧ (c.fbkSetPos n).bit (fbkK n 0x150) 16 = true := by
  have heq : c.fbkSetPos n = c.fbkFlag n 16 true := if_pos h
  have hset : c.Alters (fbkBits n fun o _ => o = 0x150) (c.fbkFlag n 16 true) := setBit_alters _ _ 16 true (fbkBits_fbkK.2 rfl)
  rw [heq]
  refine ⟨hset.fbkPos fun o ho j => ?_, Chip.bit_setBit_same _ _ _ _ (by decide)⟩
  simp only [List.mem_cons, List.not_mem_nil, or_false] at ho
  omega

/-! ### Enabling a channel (R313) -/

/-- A disabled channel that passes the checks is enabled at position 0. -/
theorem fbkEnable_clears (hoff : c.bit (fbkK n PG_CTL) 0 = false) (h : c.fbkCode n = 0) :
    (c.fbkEnable n true).nat (fbkK n 0x158) = 0 ∧ (c.fbkEnable n true).nat (fbkK n 0x15C) = 0 := by
  let z := (c.setBit (fbkK n PG_CTL) 0 true).setU64 (fbkK n 0x158) 0
  have hz : z.nat (fbkK n 0x158) = 0 ∧ z.nat (fbkK n 0x15C) = 0 := by
    have hcount : z.word (fbkK n 0x158) = 0 := (Chip.word_setWord_ne _ _ (by simp)).trans (Chip.word_setWord_same ..)
    have hturns : z.word (fbkK n 0x15C) = 0 := Chip.word_setWord_same ..
    rw [Chip.nat, Chip.nat, hcount, hturns]
    exact ⟨rfl, rfl⟩
  have hlatch (c : Chip) (l : Nat) : c.Alters (fbkBits n fun o _ => 0x200 ≤ o) (c.setBit (latchK n l 0x30) 31 false) :=
    setBit_alters _ _ 31 false (fbkBits_fbkK.2 (by omega))
  have hlatches : z.Alters (fbkBits n fun o _ => 0x200 ≤ o) (c.fbkEnable n true) := by
    unfold Chip.fbkEnable
    dsimp only
    rw [if_neg (by decide), hoff, if_neg (by decide), h, if_neg (by decide)]
    generalize hy : Chip.setChan _ n _ = y
    have hchan : z.Alters (fbkBits n fun o _ => 0x200 ≤ o) y := by
      refine .of_words ?_ ?_ ?_ <;> rw [← hy] <;>
        simp only [Chip.setChan, Chip.freeInt_words, Chip.freeNat_words, Chip.freeInt_dip, Chip.freeNat_dip, Chip.freeInt_laneFloor,
          Chip.freeNat_laneFloor, z]
    exact hchan.trans (each_alters _ [0, 1, 2] (fun c l _ => hlatch c l) y)
  obtain ⟨hcount, hturns⟩ := hz
  rw [hlatches.fbkNat fun _ => by omega, hlatches.fbkNat fun _ => by omega]
  exact ⟨hcount, hturns⟩

/-! ### The commands -/

theorem exec_encoderCount (s : State) (n : Nat) (a b : Bool) :
    exec (.encoderCount n a b) s = s.fbkEvent n fun c => c.encoderCount n a b := rfl
theorem exec_hallChange (s : State) (n h : Nat) : exec (.hallChange n h) s = s.fbkEvent n fun c => c.hallChange n h := rfl
theorem exec_fbkSetPos (s : State) (m n : Nat) : exec (.fbkSetPos m n) s = s.put m (fbkK n 0x140) 1 := rfl

section
variable {s : State} (ha : s.ChannelActs n) (hc : s.chip.ChannelCounts n) (hm : s.chip.cpr n ≠ 0)
include ha hc

theorem encoderCount_error_answers {a b : Bool} (hsrc : s.chip.fbkSrc n = 0)
    (hq : quadrature (s.chip.fld (fbkK n 0x100) 26 3) (s.chip.chan n).a (s.chip.chan n).b a b = none) :
    Answers (exec (.encoderCount n a b) s) fun t =>
      t.chip.fbkPos n = s.chip.fbkPos n ∧ t.chip.bit (fbkK n 0x150) 21 = true ∧
        t.chip.nat (fbkK n 0x034) = min (2 ^ 32 - 1) (s.chip.nat (fbkK n 0x034) + 1) := by
  obtain ⟨t, ht, hshow⟩ := fbkEvent_shows ha (exec_encoderCount s n a b)
  rw [encoderCount_eq hc hsrc, hq] at hshow
  obtain ⟨hpos, hflag, hcount⟩ := channelError_shows ((s.chip.levelsSeen n a b).setChan n
    { (s.chip.levelsSeen n a b).chan n with qerr := 7 }) n 3 (flag := 21) (counter := 0x034) (by decide) (by decide)
  exact ⟨t, ht, (hshow.fbkPos n).trans hpos, (hshow.bit ..).trans hflag, (hshow.nat _).trans hcount⟩

theorem hallChange_error_answers {h : Nat} (hh : h < 8) (hen : s.chip.bit (fbkK n 0x100) 16 = true)
    (hbad : s.chip.hallNibble n h < 8 ∨ 5 < s.chip.hallNibble n h % 8 ∨ s.chip.hallStep n h ∈ [2, 3, 4]) :
    Answers (exec (.hallChange n h) s) fun t => t.chip.fbkPos n = s.chip.fbkPos n ∧ t.chip.bit (fbkK n 0x150) 18 = true := by
  have hfaulty : s.chip.hallFaulty n h = true := by
    simp only [List.mem_cons, List.not_mem_nil, or_false] at hbad
    simp only [Chip.hallFaulty, Bool.or_eq_true, Bool.not_eq_true', Bool.or_eq_false_iff, decide_eq_true_eq, decide_eq_false_iff_not]
    omega
  obtain ⟨t, ht, hshow⟩ := fbkEvent_shows ha (exec_hallChange s n h)
  rw [hallChange_eq hh hc hen, if_pos hfaulty] at hshow
  obtain ⟨hpos, hflag, -⟩ := channelError_shows (s.chip.hallSeen n h) n 7 (flag := 18) (counter := 0x040) (by decide) (by decide)
  exact ⟨t, ht, (hshow.fbkPos n).trans hpos, (hshow.bit ..).trans hflag⟩

include hm

theorem encoderCount_step_answers {a b : Bool} {d : Int} (hsrc : s.chip.fbkSrc n = 0)
    (hq : quadrature (s.chip.fld (fbkK n 0x100) 26 3) (s.chip.chan n).a (s.chip.chan n).b a b = some d) (hd : d ≠ 0) :
    Answers (exec (.encoderCount n a b) s) fun t =>
      (t.chip.nat (fbkK n 0x158) : Int) = (s.chip.fbkPos n + (if s.chip.bit (fbkK n 0x100) 25 then -d else d)) % s.chip.cpr n ∧
        (t.chip.chan n).a = a ∧ (t.chip.chan n).b = b := by
  obtain ⟨t, ht, hshow⟩ := fbkEvent_shows ha (exec_encoderCount s n a b)
  rw [encoderCount_eq hc hsrc, hq] at hshow
  have hcount := countsSeen_count (c := s.chip.levelsSeen n a b) (n := n) hd hm
  obtain ⟨hA, hB⟩ := countsSeen_levels hd (s.chip.levelsSeen n a b) n
  rw [Chip.levelsSeen, chan_setChan_same] at hA hB
  refine ⟨t, ht, ?_, (congrArg Fbk.a (hshow.chan n)).trans hA, (congrArg Fbk.b (hshow.chan n)).trans hB⟩
  exact (congrArg Nat.cast (hshow.nat _)).trans hcount

theorem hallChange_step_answers {h : Nat} (hh : h < 8) (hen : s.chip.bit (fbkK n 0x100) 16 = true) (hlegal : 8 ≤ s.chip.hallNibble n h)
    (hsec : s.chip.hallNibble n h % 8 ≤ 5) (hsrc : s.chip.fbkSrc n = 1) {up : Bool} (hstep : s.chip.hallStep n h = if up then 1 else 5) :
    Answers (exec (.hallChange n h) s) fun t =>
      (t.chip.nat (fbkK n 0x158) : Int) = (s.chip.fbkPos n + (if s.chip.bit (fbkK n 0x100) 25 = up then -1 else 1)) % s.chip.cpr n ∧
        t.chip.fld (fbkK n 0x150) 0 3 = s.chip.hallNibble n h % 8 := by
  have hfaultless : ¬ s.chip.hallFaulty n h = true := by
    cases up <;> simp [Chip.hallFaulty, hstep, hlegal, hsec]
  have hsteps : (if s.chip.hallStep n h = 0 then 0 else if s.chip.hallStep n h = 1 then 1 else -1 : Int) = if up then 1 else -1 := by
    cases up <;> simp [hstep]
  have hhall : (s.chip.hallTaken n h).fbkSrc n = 1 :=
    ((hallTaken_alters s.chip n h).fbkFld fun j _ _ => by simp [sectorMarks]).trans hsrc
  obtain ⟨t, ht, hshow⟩ := fbkEvent_shows ha (exec_hallChange s n h)
  rw [hallChange_eq hh hc hen, if_neg hfaultless, if_pos hhall, hsteps] at hshow
  obtain ⟨hcount, hsector⟩ := hallTaken_counts (h := h) (up := up) hm hsec
  exact ⟨t, ht, (congrArg Nat.cast (hshow.nat _)).trans hcount, (hshow.fld ..).trans hsector⟩

end

section
variable (s : State) (m : Nat) (hn : n < 32)
include hn

theorem fbkSetPos_shows (h : s.chip.takes m (fbkK n 0x140) false = true) :
    Answers (exec (.fbkSetPos m n) s) fun t => (s.chip.fbkSetPos n).ShowsFeedback t.chip := by
  obtain ⟨t, ht, hshow, -⟩ := put_fbk (by omega) (by decide) (by decide) s m 1 (exec_fbkSetPos s m n) h (fbkWrite_cmd hn ..)
  exact ⟨t, ht, hshow⟩

theorem fbkSetPos_take_answers (h : s.chip.takes m (fbkK n 0x140) false = true) (hlt : s.chip.nat (fbkK n 0x138) < s.chip.cpr n) :
    Answers (exec (.fbkSetPos m n) s) fun t =>
      t.chip.nat (fbkK n 0x158) = s.chip.nat (fbkK n 0x138) ∧ t.chip.word (fbkK n 0x15C) = s.chip.word (fbkK n 0x13C) ∧
        t.chip.bit (fbkK n 0x150) 16 = false ∧ t.chip.bit (fbkK n 0x150) 23 = false := by
  obtain ⟨t, ht, hshow⟩ := fbkSetPos_shows s m hn h
  obtain ⟨hcount, hturns, hrefused, hlost⟩ := fbkSetPos_takes hlt
  exact ⟨t, ht, (hshow.nat _).trans hcount, (hshow.word _).trans hturns, (hshow.bit ..).trans hrefused, (hshow.bit ..).trans hlost⟩

theorem fbkSetPos_refuse_answers (h : s.chip.takes m (fbkK n 0x140) false = true) (hge : s.chip.cpr n ≤ s.chip.nat (fbkK n 0x138)) :
    Answers (exec (.fbkSetPos m n) s) fun t => t.chip.fbkPos n = s.chip.fbkPos n ∧ t.chip.bit (fbkK n 0x150) 16 = true := by
  obtain ⟨t, ht, hshow⟩ := fbkSetPos_shows s m hn h
  obtain ⟨hpos, hrefused⟩ := fbkSetPos_refuses hge
  exact ⟨t, ht, (hshow.fbkPos n).trans hpos, (hshow.bit ..).trans hrefused⟩

theorem channelEnable_answers (hs : s.settled = true) (h : s.chip.takes m (pageAddr FBK n PG_CTL) true = true)
    (hoff : s.chip.pageOn FBK n = false) (hcode : s.chip.fbkCode n = 0) : Answers (exec (.pageEnable m FBK n 1) s) fun t =>
      t.chip.pageOn FBK n = true ∧ t.chip.nat (fbkK n 0x158) = 0 ∧ t.chip.nat (fbkK n 0x15C) = 0 := by
  let c := s.chip.afterKey m (pageAddr FBK n PG_CTL) true
  have hblock : blockOf (pageAddr FBK n PG_CTL) = FBK := blockOf_pageAddr _ _ _ (by decide) (by omega) (by decide)
  have hinst : instOf (pageAddr FBK n PG_CTL) = n := instOf_pageAddr _ _ _ (by omega) (by decide)
  obtain ⟨u, hu, hon, -⟩ := pageEnable_answers s m 1 (b := FBK) (i := n) (by decide) (by omega) hs h (by decide) fun _ _ =>
    ⟨fun h => absurd h (by decide), fun _ _ => hcode, fun h => absurd h (by decide)⟩
  obtain ⟨t, ht, hshow⟩ := put_ctl s m 1 true (exec_pageEnable ..) h (isTw_pageAddr _ _ _ (by omega) (by decide))
    (offOf_pageAddr _ _ _ (by decide)) fun hh => absurd (hblock.symm.trans hh) (by decide)
  obtain rfl : u = t := by simpa using hu.symm.trans ht
  have hctl : c.bit (pageAddr FBK n PG_CTL) 0 = false := by rw [Chip.bit, afterKey_word]; exact hoff
  have hwrite : c.ctlWrite m (pageAddr FBK n PG_CTL) 1 true = (c.setBit (fbkK n PG_CTL) 2 false).fbkEnable n true := by
    rw [ctlWrite_keyed _ m 1 (by decide), hblock, hinst, hctl]
    change (c.setBit (fbkK n PG_CTL) 2 false).enablePage FBK n true = _
    rw [Chip.enablePage, if_neg (by simp [FBK, PWM]), if_pos (by simp [hn])]
  have hwords (k j : Nat) (hk : offCtl k j) : (c.setBit (fbkK n PG_CTL) 2 false).word k = s.chip.word k := by
    refine (Chip.word_setBit_ne _ _ _ ?_).trans (afterKey_word ..)
    rintro rfl
    exact hk (offOf_pageAddr _ _ _ (by decide))
  obtain ⟨hcount, hturns⟩ := fbkEnable_clears (c := c.setBit (fbkK n PG_CTL) 2 false) (n := n)
    ((Chip.bit_setBit _ _ _ _ _ _ (by decide)).trans ((if_neg (by simp)).trans hctl)) ((fbkCode_congr hwords n).trans hcode)
  rw [hwrite] at hshow
  exact ⟨u, hu, hon, (nat_of_words hshow.words _).trans hcount, (nat_of_words hshow.words _).trans hturns⟩

end

/-- Settles O35: the samples of A and B by `quadrature`, the Hall codes by their step from the last sector, SET_POS by its COUNT, and
an accepted enable. -/
theorem feedbackCounting : Obligations.FeedbackCounting := by
  unfold Obligations.FeedbackCounting
  intro s m n hn hs hm
  refine ⟨fun hheld hreset hfrozen hon hcnt => ?_, fun h => ?_, fun h hoff hcode => channelEnable_answers s m hn hs h hoff hcode⟩
  · have ha : s.ChannelActs n := ⟨hheld, hreset, hfrozen⟩
    have hc : s.chip.ChannelCounts n := ⟨by simp [Chip.chanOn, hn, hon], hcnt⟩
    refine ⟨fun a b hsrc => ⟨fun d hq hd => ?_, fun hq => ?_⟩, fun h hh hen => ⟨fun hlegal hsec hsrc up hstep => ?_, fun hbad => ?_⟩⟩
    · exact encoderCount_step_answers ha hc hm hsrc hq hd
    · exact encoderCount_error_answers ha hc hsrc hq
    · exact hallChange_step_answers ha hc hm hh hen hlegal hsec hsrc hstep
    · exact hallChange_error_answers ha hc hh hen hbad
  · exact ⟨fbkSetPos_take_answers s m hn h, fbkSetPos_refuse_answers s m hn h⟩

end Sys2Proof.Machine
end

section
/-! PROOFS. Frames of the absolute encoders (R297 to R300): each way in which one fails, and a good frame of either kind. -/

namespace Sys2Proof.Machine

variable {c c' : Chip} {n : Nat}

/-! ### A frame fails (R300) -/

/-- From `c` to `t` a frame of channel `n` has ended with reason `why`. -/
structure Chip.FrameFails (c : Chip) (n why : Nat) (t : Chip) : Prop where
  ended : (t.chan n).frame = none
  flag : t.bit (fbkK n 0x150) 19 = true
  reason : t.fld (fbkK n 0x150) 25 3 = why
  counted : t.nat (fbkK n 0x03C) = min (2 ^ 32 - 1) (c.nat (fbkK n 0x03C) + 1)

theorem frameFail_notes (c : Chip) (n why : Nat) : c.Notes (c.frameFail n why) :=
  (((setBit_notes ..).trans (setFld_notes ..)).trans (count_notes ..)).trans (cause_notes ..)

theorem frameFail_fails (hw : c'.words = c.words) (hf : (c'.chan n).frame = none) {why : Nat} (hwhy : why < 8) :
    c.FrameFails n why (c'.frameFail n why) := by
  let e := (c'.fbkFlag n 19 true).setFld (fbkK n 0x150) 25 3 why
  have hcount : e.Alters (fbkBits n fun o _ => o = 0x03C) (e.count (fbkK n 0x03C)) := count_alters e _ 1 fun _ => fbkBits_fbkK.2 rfl
  have hcause : (e.count (fbkK n 0x03C)).Alters (fbkBits n fun o _ => causeWord o) (c'.frameFail n why) :=
    fbkCause_alters _ n 6 fun _ => id
  have hstat : ¬ causeWord 0x150 := by simp [causeWord, PG_EVT_RAW, PG_EVT_PEND]
  have hcounter : e.word (fbkK n 0x03C) = c.word (fbkK n 0x03C) := by
    have hne : fbkK n 0x03C ≠ fbkK n 0x150 := by simp [fbkK_inj]
    rw [Chip.word_setFld, if_neg hne, Chip.fbkFlag, Chip.word_setBit_ne _ _ _ hne, word_of_words hw]
  refine ⟨?_, ?_, ?_, ?_⟩
  · rw [(frameFail_notes c' n why).chan, hf]
  · rw [hcause.fbkBit hstat, hcount.fbkBit (by decide), Chip.bit_setFld, if_neg (by omega)]
    exact Chip.bit_setBit_same _ _ _ _ (by decide)
  · rw [hcause.fbkFld fun _ _ _ => hstat, hcount.fbkFld fun _ _ _ => by decide, Chip.fld_setFld_same _ _ _ _ _ (by decide)]
    exact Nat.mod_eq_of_lt hwhy
  · rw [hcause.fbkNat fun _ => by simp [causeWord, PG_EVT_RAW, PG_EVT_PEND], Chip.nat_count_same, Chip.nat, hcounter, Chip.nat]

/-! ### SSI (R297) -/

/-- What is sent outside changes no register and no channel. -/
theorem when_out_shows (c : Chip) (b : Bool) (o : Out) : c.ShowsFeedback (c.when b (·.out o)) := by
  cases b
  · exact ⟨rfl, rfl⟩
  · exact ⟨rfl, rfl⟩

section
variable (hon : c.chanOn n = true) (hrun : (c.chan n).frame.isSome = true)
include hon hrun

/-- DAT low at the start of the frame, and DAT high at the monoflop check. -/
theorem ssiDone_fails {v why : Nat} {datHigh monoLow : Bool} (hsrc : c.fbkSrc n = 2)
    (h : datHigh = false ∧ why = 1 ∨ datHigh = true ∧ monoLow = false ∧ why = 2) :
    c.FrameFails n why (c.ssiDone n v datHigh monoLow) := by
  obtain ⟨f, hf⟩ := Option.isSome_iff_exists.1 hrun
  unfold Chip.ssiDone
  simp only [hf]
  generalize hd : Chip.when _ _ _ = d
  obtain ⟨x, hx, hshow⟩ : ∃ x : Fbk, x.frame = none ∧ (c.setChan n x).ShowsFeedback d := ⟨_, rfl, hd ▸ when_out_shows ..⟩
  have hw : d.words = c.words := hshow.words
  have hframe : (d.chan n).frame = none := by rw [hshow.chan, chan_setChan_same, hx]
  have hon : d.chanOn n = true := by rw [Chip.chanOn, Chip.pageOn, bit_of_words hw]; exact hon
  have hsrc : d.fbkSrc n = 2 := (fld_of_words hw ..).trans hsrc
  rw [if_neg (by simp [hon, hsrc])]
  rcases h with ⟨rfl, rfl⟩ | ⟨rfl, rfl, rfl⟩
  · exact frameFail_fails hw hframe (by decide)
  · exact frameFail_fails hw hframe (by decide)

/-! ### RS-485 (R298) -/

/-- The channel after an answer has ended its frame. -/
def Chip.answered (c : Chip) (n : Nat) : Chip := c.setChan n { c.chan n with frame := none }

omit hon hrun in
theorem answered_fails {why : Nat} (h : why < 8) : c.FrameFails n why ((c.answered n).frameFail n why) :=
  frameFail_fails (c := c) (c' := c.answered n) rfl (congrArg Fbk.frame (chan_setChan_same ..)) h

/-- The number of position bytes of an answer. -/
def Chip.answerBytes (c : Chip) (n : Nat) : Nat := ceilDiv (c.fld (fbkK n 0x120) 26 6) 8

theorem rsResponse_short {bytes : List Byte} (hsrc : c.fbkSrc n = 3) (hlen : bytes.length ≠ 4 + c.answerBytes n) (low : Bool) :
    c.rsResponse n bytes low = (c.answered n).frameFail n 4 := by
  obtain ⟨f, hf⟩ := Option.isSome_iff_exists.1 hrun
  have hacts : ¬ (!(c.answered n).chanOn n || (c.answered n).fbkSrc n != 3) = true := by
    simp [show (c.answered n).chanOn n = true from hon, show (c.answered n).fbkSrc n = 3 from hsrc]
  unfold Chip.rsResponse
  simp only [hf]
  exact (if_neg hacts).trans (if_pos (bne_iff_ne.2 hlen))

/-- The checks of an answer of the right length: the CRC, the echo and the stop bits. -/
theorem rsResponse_whole {bytes : List Byte} (hsrc : c.fbkSrc n = 3) (hlen : bytes.length = 4 + c.answerBytes n) :
    ∃ good, ∀ low, c.rsResponse n bytes low =
      if crc16 (bytes.take (2 + c.answerBytes n)) !=
          (bytes.getD (2 + c.answerBytes n) 0).toNat * 256 + (bytes.getD (3 + c.answerBytes n) 0).toNat then (c.answered n).frameFail n 5
      else if (bytes.getD 0 0).toNat != 0xA0 + c.fld (fbkK n 0x12C) 12 4 then (c.answered n).frameFail n 6
      else if low then (c.answered n).frameFail n 7 else good := by
  obtain ⟨f, hf⟩ := Option.isSome_iff_exists.1 hrun
  have hacts : ¬ (!(c.answered n).chanOn n || (c.answered n).fbkSrc n != 3) = true := by
    simp [show (c.answered n).chanOn n = true from hon, show (c.answered n).fbkSrc n = 3 from hsrc]
  have hwhole : ¬ (bytes.length != 4 + c.answerBytes n) = true := by simp [hlen]
  unfold Chip.rsResponse
  simp only [hf]
  exact ⟨_, fun _ => (if_neg hacts).trans (if_neg hwhole)⟩

/-- The same for a body and its CRC. -/
theorem rsResponse_checks {body : List Byte} {hi lo : Byte} (hsrc : c.fbkSrc n = 3) (hlen : body.length = 2 + c.answerBytes n) :
    ∃ good, ∀ low, c.rsResponse n (body ++ [hi, lo]) low =
      if crc16 body != hi.toNat * 256 + lo.toNat then (c.answered n).frameFail n 5
      else if (body.getD 0 0).toNat != 0xA0 + c.fld (fbkK n 0x12C) 12 4 then (c.answered n).frameFail n 6
      else if low then (c.answered n).frameFail n 7 else good := by
  have hwhole : (body ++ [hi, lo]).length = 4 + c.answerBytes n := by
    rw [List.length_append, hlen]
    exact Nat.add_right_comm 2 _ 2
  have hbody : (body ++ [hi, lo]).take (2 + c.answerBytes n) = body := List.take_left' hlen
  have hhigh : (body ++ [hi, lo]).getD (2 + c.answerBytes n) 0 = hi := by simp [← hlen]
  have hlow : (body ++ [hi, lo]).getD (3 + c.answerBytes n) 0 = lo := by
    rw [show 3 + c.answerBytes n = body.length + 1 by omega]
    simp
  have hecho : (body ++ [hi, lo]).getD 0 0 = body.getD 0 0 := by
    cases body with
    | nil =>
      rw [List.length_nil] at hlen
      omega
    | cons b r => rfl
  obtain ⟨good, h⟩ := rsResponse_whole hon hrun hsrc hwhole
  rw [hbody, hhigh, hlow, hecho] at h
  exact ⟨good, h⟩

theorem rsTimeout_eq (hsrc : c.fbkSrc n = 3) : c.rsTimeout n = (c.answered n).frameFail n 4 := if_pos (by simp [hon, hrun, hsrc])

end

/-! ### The commands -/

theorem exec_ssiFrameDone (s : State) (n v : Nat) (datHigh monoLow : Bool) :
    exec (.ssiFrameDone n v datHigh monoLow) s = s.enabledEvent FBK n fun c => c.ssiDone n v datHigh monoLow := rfl
theorem exec_rs485Response (s : State) (n : Nat) (bytes : List Byte) (low : Bool) :
    exec (.rs485Response n bytes low) s = s.enabledEvent FBK n fun c => c.rsResponse n bytes low := rfl
theorem exec_rs485RespTimeout (s : State) (n : Nat) : exec (.rs485RespTimeout n) s = s.enabledEvent FBK n fun c => c.rsTimeout n := rfl

/-- What fails in the registers and the Feedback Interface fails in every state that shows them. -/
theorem Chip.FrameFails.shown {why : Nat} {d t : Chip} (h : c.FrameFails n why d) (hshow : d.ShowsFeedback t) : c.FrameFails n why t :=
  ⟨(congrArg Fbk.frame (hshow.chan n)).trans h.ended, (hshow.bit ..).trans h.flag, (hshow.fld ..).trans h.reason, (hshow.nat _).trans h.counted⟩

/-- An event that makes a frame of an enabled channel fail. -/
theorem frameEvent_fails {s : State} (ha : s.chip.acts FBK n = true) (hon : s.chip.pageOn FBK n = true) {f : Chip → Chip} {i : Instr}
    (hi : exec i s = s.enabledEvent FBK n f) {why : Nat} (h : s.chip.FrameFails n why (f s.chip)) :
    Answers (exec i s) fun t => (t.chip.chan n).frame = none ∧ t.chip.bit (fbkK n 0x150) 19 = true ∧ t.chip.fld (fbkK n 0x150) 25 3 = why ∧
      t.chip.nat (fbkK n 0x03C) = min (2 ^ 32 - 1) (s.chip.nat (fbkK n 0x03C) + 1) := by
  obtain ⟨hended, hflag, hreason, hcounted⟩ := h.shown (settle_showsFeedback s f)
  exact ⟨_, hi.trans (enabledEvent_acts s FBK n f ha hon), hended, hflag, hreason, hcounted⟩

/-! ### One configuration each (R299) -/

/-- Channel 5 with 8 position bits and a frame running, on the source `src`. -/
def frameRuns (src : Nat) : State :=
  let w := State.ready [(fbkK 5 8, 1), (fbkK 5 0x100, src * 2 ^ 29), (fbkK 5 0x104, 256), (fbkK 5 0x120, 8 * 2 ^ 26 + 8 * 2 ^ 14 + 8 * 2 ^ 6),
    (fbkK 5 0x124, 100 * 2 ^ 20)]
  { w with chip := w.chip.setChan 5 { frame := some { t0 := 0, frac := 0 } } }

theorem ssiFrame_good : Answers (exec (.ssiFrameDone 5 0x5A true true) (frameRuns 2)) fun t =>
    t.chip.nat (fbkK 5 0x158) = 0x5A ∧ (t.chip.chan 5).frame = none :=
  ⟨_, (exec_ssiFrameDone ..).trans (enabledEvent_acts _ _ _ _ (by decide +kernel) (by decide +kernel)), by decide +kernel⟩

theorem rs485Response_good : let b : List Byte := [0xA0, 0x00, 0x55]
    Answers (exec (.rs485Response 5 (b ++ [BitVec.ofNat 8 (crc16 b / 256), BitVec.ofNat 8 (crc16 b)]) false) (frameRuns 3)) fun t =>
      t.chip.nat (fbkK 5 0x158) = 0x55 :=
  ⟨_, (exec_rs485Response ..).trans (enabledEvent_acts _ _ _ _ (by decide +kernel) (by decide +kernel)), by decide +kernel⟩

/-- Settles O36: each failure is a check of the frame's kind, in the order of the model (log 51), and the two good frames are evaluated. -/
theorem feedbackFrames : Obligations.FeedbackFrames := by
  unfold Obligations.FeedbackFrames
  refine ⟨fun s n hn ha hon hrun => ⟨?_, ?_, ?_, ?_, ?_⟩, ssiFrame_good, rs485Response_good⟩
  all_goals have hchan : s.chip.chanOn n = true := by simp [Chip.chanOn, hn, hon]
  · intro v low hsrc
    exact frameEvent_fails ha hon (exec_ssiFrameDone ..) (ssiDone_fails hchan hrun hsrc (.inl ⟨rfl, rfl⟩))
  · intro v hsrc
    exact frameEvent_fails ha hon (exec_ssiFrameDone ..) (ssiDone_fails hchan hrun hsrc (.inr ⟨rfl, rfl, rfl⟩))
  · intro bytes low hsrc hlen
    refine frameEvent_fails ha hon (exec_rs485Response ..) ?_
    rw [rsResponse_short hchan hrun hsrc hlen]
    exact answered_fails (by decide)
  · intro body hi lo low hsrc hlen
    obtain ⟨good, hchecks⟩ := rsResponse_checks hchan hrun (hi := hi) (lo := lo) hsrc hlen
    refine ⟨fun hcrc => ?_, fun hcrc hecho => ?_, fun hcrc hecho => ?_⟩
    all_goals refine frameEvent_fails ha hon (exec_rs485Response ..) ?_
    · rw [hchecks, if_pos (bne_iff_ne.2 hcrc)]
      exact answered_fails (by decide)
    · rw [hchecks, if_neg (by simp [hcrc]), if_pos (bne_iff_ne.2 hecho)]
      exact answered_fails (by decide)
    · rw [hchecks, if_neg (by simp [hcrc]), if_neg (by rw [hecho]; simp), if_pos rfl]
      exact answered_fails (by decide)
  · intro hsrc
    refine frameEvent_fails ha hon (exec_rs485RespTimeout ..) ?_
    rw [rsTimeout_eq hchan hrun hsrc]
    exact answered_fails (by decide)

end Sys2Proof.Machine
end

section
/-! PROOFS. Latches (R301, R302), and the index and reference edges that take them (R308, R310). -/

namespace Sys2Proof.Machine

variable {c c' : Chip} {n l : Nat}

/-! ### A latch is taken (R301, R304) -/

/-- The words of latch `l`, its result word and its cause. -/
def latchWords (l o j : Nat) : Prop :=
  (0x200 + 0x40 * l ≤ o ∧ o < 0x234 + 0x40 * l) ∨ o = 0x800 + 8 * l ∨ o = 0x804 + 8 * l ∨ causeWord o ∧ j = l

/-- The words of the latch below LSTAT alone. -/
theorem latchK_bits {o j : Nat} (ho : o < 0x34) : fbkBits n (latchWords l) (latchK n l o) j := fbkBits_fbkK.2 (.inl (by omega))

theorem latchK_add (n l o i : Nat) : latchK n l o + 4 * i = latchK n l (o + 4 * i) := by
  simp only [latchK, fbkK, pageAddr]
  omega

theorem setWide_latch_alters (c : Chip) (v : Nat) {o k : Nat} (ho : o + 4 * k ≤ 0x34) :
    c.Alters (fbkBits n (latchWords l)) (c.setWide (latchK n l o) k v) :=
  setWide_alters c _ k v fun i hi j => by
    rw [latchK_add]
    exact latchK_bits (by omega)

/-- LSTAT is stored, and the latch's result word follows with its tag (R305). -/
def Chip.latchResult (c : Chip) (n l lstat : Nat) (t : Tab Stamp) (data : Word) (s : Stamp) : Chip :=
  ({ c.setNat (latchK n l 0x30) lstat with stamps := t } : Chip).newResult (fbkK n (0x800 + 8 * l)) data (256 * n + lstat / 2 ^ 24) s

/-- The completion of a latch, if any, and its cause (R304). -/
def Chip.latchNotice (c : Chip) (n l : Nat) (s : Stamp) : Chip :=
  (c.postIf (c.bit (fbkK n (0x144 + 4 * l)) 31) (c.fld (fbkK n (0x144 + 4 * l)) 0 17) s).cause FBK n l

/-- The words of the latch are stored before LSTAT, whose lowest bits are the next LSEQ. -/
theorem takeLatch_parts (c : Chip) (n l : Nat) (s : Stamp) (age : Nat) (decay zero corrected slip : Bool) :
    ∃ (d : Chip) (lstat : Nat) (t : Tab Stamp) (data : Word), c.takeLatch n l s age decay zero corrected slip = (d.latchResult n l lstat t data s).latchNotice n l s ∧
      c.Alters (fbkBits n (latchWords l)) d ∧ lstat % 65536 = (c.fld (latchK n l 0x30) 0 16 + 1) % 65536 := by
  refine ⟨_, _, _, _, rfl, ?_, ?_⟩
  · have hwide (c : Chip) (v : Nat) {o k : Nat} (ho : o + 4 * k ≤ 0x34) := setWide_latch_alters (n := n) (l := l) c v ho
    have hage (c : Chip) (v : Nat) : c.Alters (fbkBits n (latchWords l)) (c.setNat (latchK n l 0x2C) v) :=
      setNat_alters c _ v fun _ => latchK_bits (by decide)
    exact ((((((setChan_alters ..).trans (hwide _ _ (by decide))).trans (hwide _ _ (by decide))).trans (hwide _ _ (by decide))).trans
      (hwide _ _ (by decide))).trans (hwide _ _ (by decide))).trans (hage _ _)
  · omega

theorem fld_setNat_low (c : Chip) (k v n : Nat) (hn : n ≤ 32) : (c.setNat k v).fld k 0 n = v % 2 ^ n := by
  rw [Chip.fld, Chip.word_setNat, if_pos rfl, getBits, BitVec.toNat_ofNat, Nat.shiftRight_zero]
  exact Nat.mod_mod_of_dvd v (Nat.pow_dvd_pow 2 hn)

/-- What follows on LSTAT. -/
def latchAfter (l o j : Nat) : Prop := o = 0x800 + 8 * l ∨ o = 0x804 + 8 * l ∨ causeWord o ∧ j = l

theorem latchResult_alters (c : Chip) (n l lstat : Nat) (t : Tab Stamp) (data : Word) (s : Stamp) :
    (c.setNat (latchK n l 0x30) lstat).Alters (fbkBits n (latchAfter l)) (c.latchResult n l lstat t data s) := by
  have hstamps (c : Chip) : c.Alters (fbkBits n (latchAfter l)) { c with stamps := t } := .of_words rfl rfl rfl
  have hresult (c : Chip) (info : Nat) : c.Alters (fbkBits n (latchAfter l)) (c.newResult (fbkK n (0x800 + 8 * l)) data info s) := by
    refine newResult_alters c _ data info s (fun j => fbkBits_fbkK.2 (.inl rfl)) fun j => ?_
    rw [show fbkK n (0x800 + 8 * l) + 4 = fbkK n (0x804 + 8 * l) by simp only [fbkK, pageAddr]; omega]
    exact fbkBits_fbkK.2 (.inr (.inl rfl))
  exact (hstamps _).trans (hresult _ _)

theorem postIf_alters {S : Nat → Nat → Prop} (c : Chip) (en : Bool) (head : Nat) (s : Stamp) : c.Alters S (c.postIf en head s) :=
  .ite (.of_words rfl rfl rfl) (.refl _ c)

theorem latchNotice_alters (c : Chip) (n l : Nat) (s : Stamp) : c.Alters (fbkBits n (latchAfter l)) (c.latchNotice n l s) :=
  (postIf_alters ..).trans (fbkCause_alters _ n l fun _ h => .inr (.inr ⟨h, rfl⟩))

/-- A latch that is taken has the next LSEQ, alters its own words alone, and shows its cause. -/
theorem takeLatch_shows (c : Chip) (n : Nat) {l : Nat} (hl : l < 3) (s : Stamp) (age : Nat) (decay zero corrected slip : Bool) :
    let t := c.takeLatch n l s age decay zero corrected slip
    c.Alters (fbkBits n (latchWords l)) t ∧ t.fld (latchK n l 0x30) 0 16 = (c.fld (latchK n l 0x30) 0 16 + 1) % 65536 ∧
      t.bit (fbkK n PG_EVT_RAW) l = true := by
  obtain ⟨d, lstat, u, data, he, hd, hseq⟩ := takeLatch_parts c n l s age decay zero corrected slip
  have hdone := (latchResult_alters d n l lstat u data s).trans (latchNotice_alters _ n l s)
  rw [he]
  refine ⟨(hd.trans (setNat_alters _ _ _ fun _ => latchK_bits (by decide))).trans (hdone.mono (fbkBits_mono fun _ _ => .inr)), ?_,
    cause_raises _ FBK n l (by omega)⟩
  rw [latchK, hdone.fbkFld fun j _ _ => ?_, ← latchK, fld_setNat_low _ _ _ _ (by decide)]
  · exact hseq
  · simp only [latchAfter, causeWord, PG_EVT_RAW, PG_EVT_PEND]
    omega

theorem edgeLatch_shows (c : Chip) (n : Nat) {l : Nat} (hl : l < 3) (delay : Nat) (corrected slip : Bool) :
    let t := c.edgeLatch n l delay corrected slip
    c.Alters (fbkBits n (latchWords l)) t ∧ t.fld (latchK n l 0x30) 0 16 = (c.fld (latchK n l 0x30) 0 16 + 1) % 65536 ∧
      t.bit (fbkK n PG_EVT_RAW) l = true := takeLatch_shows c n hl ..

/-- The latches lie above the channel's configuration and status. -/
theorem not_latchWords {o j : Nat} (ho : 0x034 ≤ o ∧ o < 0x200) : ¬ latchWords l o j := by
  simp only [latchWords, causeWord, PG_EVT_RAW, PG_EVT_PEND]
  omega

/-! ### The index (R308) -/

theorem indexPulse_rises {high : Bool} (hq : c.indexQualified n = true) (hmode : c.fld (fbkK n 0x108) 30 2 = 1)
    (hpend : c.bit (fbkK n 0x150) 14 = false) (hedge : high ≠ c.bit (fbkK n 0x108) 25) :
    c.indexPulse n high = c.edgeLatch n 1 (c.dIn n) false false := by
  have hpend' : (c.edgeLatch n 1 (c.dIn n) false false).bit (fbkK n 0x150) 14 = false := by
    obtain ⟨hkept, -, -⟩ := edgeLatch_shows c n (l := 1) (by decide) (c.dIn n) false false
    rw [hkept.fbkBit (not_latchWords (by decide)), hpend]
  unfold Chip.indexPulse
  rw [if_neg (by simp [hq, hedge])]
  simp [hmode, hpend']

theorem indexPulse_falls {high : Bool} (hedge : high = c.bit (fbkK n 0x108) 25) : c.indexPulse n high = c := if_pos (by simp [hedge])

/-! ### The reference switch (R310) -/

/-- The words in which ARMED shows. -/
def armWords (o j : Nat) : Prop := o = 0x150 ∧ j = 15 ∨ o = 0x110 ∧ j = 29

theorem setRefArmed_alters (c : Chip) (n : Nat) (b : Bool) : c.Alters (fbkBits n armWords) (c.setRefArmed n b) :=
  (setBit_alters c _ 15 b (fbkBits_fbkK.2 (.inl ⟨rfl, rfl⟩))).trans (setBit_alters _ _ 29 b (fbkBits_fbkK.2 (.inr ⟨rfl, rfl⟩)))

theorem setRefArmed_armed (c : Chip) (n : Nat) (b : Bool) : (c.setRefArmed n b).bit (fbkK n 0x150) 15 = b := by
  rw [Chip.setRefArmed, Chip.bit_setBit _ _ _ _ _ _ (by decide), if_neg (by simp)]
  exact Chip.bit_setBit_same _ _ _ _ (by decide)

/-- An armed edge of the selected input and sense, with ONESHOT and without the wait for an index. -/
theorem refEdge_takes {input : Nat} {rising : Bool} (hfrom : c.refFrom n input = true) (hon : c.chanOn n = true) (hrun : c.running = true)
    (hen : c.bit (fbkK n 0x110) 31 = true) (hsel : c.bit (fbkK n 0x110) (if rising then 27 else 28) = true)
    (hshot : c.bit (fbkK n 0x110) 30 = true) (harmed : c.bit (fbkK n 0x150) 15 = true) (hthen : c.bit (fbkK n 0x110) 26 = false) :
    ∃ delay, c.refEdge n input rising = (c.setRefArmed n false).edgeLatch n 2 delay false false := by
  have hsel : (if rising then c.bit (fbkK n 0x110) 27 else c.bit (fbkK n 0x110) 28) = true := by
    cases rising
    · exact hsel
    · exact hsel
  have hthen' : (c.setRefArmed n false).bit (fbkK n 0x110) 26 = false := by
    rw [(setRefArmed_alters c n false).fbkBit (by simp [armWords]), hthen]
  refine ⟨(c.setRefArmed n false).fld (fbkK n 0x110) 0 8 * 1000, ?_⟩
  unfold Chip.refEdge
  rw [if_neg (by simp [hfrom, hon, hrun, hen, hsel, harmed])]
  simp [hshot, hthen']

theorem refEdge_shows (c : Chip) (n delay : Nat) : let t := (c.setRefArmed n false).edgeLatch n 2 delay false false
    t.fld (latchK n 2 0x30) 0 16 = (c.fld (latchK n 2 0x30) 0 16 + 1) % 65536 ∧ t.bit (fbkK n 0x150) 15 = false := by
  obtain ⟨hkept, hseq, -⟩ := edgeLatch_shows (c.setRefArmed n false) n (l := 2) (by decide) delay false false
  refine ⟨hseq.trans ?_, ?_⟩
  · rw [latchK, (setRefArmed_alters c n false).fbkFld fun _ _ _ => by simp [armWords]]
  · rw [hkept.fbkBit (not_latchWords (by decide)), setRefArmed_armed]

/-- ARM is set by a 1 alone; the other fields are taken as written. -/
theorem refCfgWrite_shows (c : Chip) (n : Nat) (d : Word) :
    (c.refCfgWrite n d).bit (fbkK n 0x150) 15 = (d.getLsbD 29 || c.bit (fbkK n 0x150) 15) ∧
      (c.refCfgWrite n d).bit (fbkK n 0x110) 31 = d.getLsbD 31 := by
  refine ⟨setRefArmed_armed .., ?_⟩
  rw [Chip.refCfgWrite, (setRefArmed_alters _ n _).fbkBit (by simp [armWords]), Chip.bit, Chip.word_setWord_same]
  simp

theorem fbkWrite_ref (hn : n < 32) (c : Chip) (m : Nat) (d : Word) (keyed : Bool) :
    c.fbkWrite m (fbkK n 0x110) [d] keyed = c.refCfgWrite n d := by
  have hoff : offOf (fbkK n 0x110) = 0x110 := offOf_pageAddr _ _ _ (by decide)
  have hinst : instOf (fbkK n 0x110) = n := instOf_pageAddr _ _ _ (by omega) (by decide)
  simp [Chip.fbkWrite, hoff, hinst, hn]

end Sys2Proof.Machine
end

section
/-! PROOFS. A latch is read whole (R302, R312); the digital inputs and outputs (R315, R316). -/

namespace Sys2Proof.Machine

variable {c : Chip} {s : State} {m n l : Nat}

/-! ### The read of a latch (R302) -/

theorem findRow_latch (hl : l < 3) : (findRow fbkRows (0x200 + 0x40 * l)).map (·.row.words) = some 13 := by
  have hall : ∀ l : Fin 3, (findRow fbkRows (0x200 + 0x40 * l)).map (·.row.words) = some 13 := by decide
  exact hall ⟨l, hl⟩

theorem valueWords_latch (part : Part) (hn : n < 32) (hl : l < 3) (h : implemented part (fbkK n (0x200 + 0x40 * l)) = true) :
    valueWords part (fbkK n (0x200 + 0x40 * l)) = 13 := by
  have hoff : offOf (fbkK n (0x200 + 0x40 * l)) = 0x200 + 0x40 * l := offOf_pageAddr _ _ _ (by omega)
  have hrows : blockRows FBK n = fbkRows := if_pos hn
  obtain ⟨r, hr, hwords⟩ := Option.map_eq_some_iff.1 (findRow_latch hl)
  have hrow := rowAt_page part (b := FBK) (by decide) (show n < 128 by omega) (by omega) h
  rw [if_neg (by omega), hrows, hr] at hrow
  rw [valueWords, resultAt_below part (by omega)]
  simp only [fbkK, hrow, hwords]

theorem readWords_latch_length (hn : n < 32) (hl : l < 3) (h : c.gives m (fbkK n (0x200 + 0x40 * l)) = true) :
    (c.readWords m (fbkK n (0x200 + 0x40 * l))).length = 13 := by
  have hblock : blockOf (fbkK n (0x200 + 0x40 * l)) = FBK := blockOf_pageAddr FBK n _ (by decide) (by omega) (by omega)
  rw [readWords_live c m _ (by simp [isLock, hblock, FBK, MBX]) (by simp [hblock, FBK, TIM]), Chip.liveWords, List.length_map,
    List.length_range, valueWords_latch _ hn hl (gives_implemented h)]

/-- The words of the latch are captured together. -/
theorem latchCaptureRead_answers (hn : n < 32) (hl : l < 3) (h : s.chip.gives m (fbkK n (0x200 + 0x40 * l)) = true) :
    Answers (exec (.latchCaptureRead m n l 4) s) fun t =>
      t.chip.resp = { status := .done, data := [(s.chip.readWords m (fbkK n (0x200 + 0x40 * l))).getD 0 0] } ∧
      tab [] t.chip.caps (capKey m (fbkK n (0x200 + 0x40 * l))) = (s.chip.readWords m (fbkK n (0x200 + 0x40 * l))).drop 1 :=
  have hlength := readWords_latch_length hn hl h
  ⟨_, rfl, readBy_given_resp _ _ _ h, readBy_given_caps _ _ _ h (by omega)⟩

/-! ### An edge of a general input (R315, R316) -/

/-- The registers that a change of an input alters: INT, its count of changes and the page's causes. -/
def gpioNotice (o _j : Nat) : Prop := (0x120 ≤ o ∧ o < 0x128) ∨ o = 0x034 ∨ causeWord o

theorem gpioLevel_alters (c : Chip) : c.Alters (fbkBits 32 gpioNotice) c.gpioLevel :=
  level_alters c FBK 32 0 _ (fbkBits_fbkK.2 (.inr (.inr (.inl rfl)))) (fbkBits_fbkK.2 (.inr (.inr (.inr rfl))))

/-- The ball as it is accepted. -/
def Chip.gpioBall (c : Chip) (p : Nat) (high : Bool) : Chip := { c with fbk := { c.fbk with gpio := setNatBit c.fbk.gpio p high } }

/-- An edge reports the ball, and what follows on it leaves FBK_GPIO_IN and the balls. -/
theorem gpioEdge_reports {p : Nat} {high : Bool} (hp : p < 64) (hrun : c.running = true) :
    let r := (c.gpioBall p high).gpioReport p
    r.Alters (fbkBits 32 gpioNotice) (c.gpioEdge p high) ∧ r.Notes (c.gpioEdge p high) := by
  intro r
  unfold Chip.gpioEdge
  rw [if_neg (by simp [hrun, hp])]
  refine ⟨.ite ?_ (.refl _ _), .ite ?_ (.refl _)⟩
  · have hint : gpioNotice (0x120 + 4 * (p / 32)) (p % 32) := .inl (by omega)
    have hcount (j : Nat) : gpioNotice 0x034 j := .inr (.inl rfl)
    exact ((setBit_alters _ _ _ _ (fbkBits_fbkK.2 hint)).trans (count_alters _ _ _ fun j => fbkBits_fbkK.2 (hcount j))).trans
      (gpioLevel_alters _)
  · exact ((setBit_notes ..).trans (count_notes ..)).trans (level_notes ..)

theorem gpioReport_shows (c : Chip) {p : Nat} (high : Bool) :
    let r := (c.gpioBall p high).gpioReport p
    natBit r.fbk.gpio p = high ∧ r.bit (fbkK 32 (0x100 + 4 * (p / 32))) (p % 32) = (high != c.bit (gpioK (0x200 + 4 * p)) 30) := by
  have hball : natBit (c.gpioBall p high).fbk.gpio p = high := natBit_setNatBit_same ..
  refine ⟨hball, (Chip.bit_setBit_same _ _ _ _ (by omega)).trans ?_⟩
  rw [hball]
  rfl

theorem gpioInputEdge_answers {p : Nat} {high : Bool} (hp : p < 64) (hacts : s.chip.acts FBK 32 = true) (hrun : s.chip.running = true) :
    Answers (exec (.gpioInputEdge p high) s) fun t =>
      natBit t.chip.fbk.gpio p = high ∧
      t.chip.bit (gpioK (0x100 + 4 * (p / 32))) (p % 32) = (high != s.chip.bit (gpioK (0x200 + 4 * p)) 30) := by
  obtain ⟨halters, hnotes⟩ := gpioEdge_reports (high := high) hp hrun
  obtain ⟨hball, hin⟩ := gpioReport_shows s.chip (p := p) high
  have hshows := settle_showsFeedback s fun c => c.gpioEdge p high
  refine ⟨_, event_acts s FBK 32 _ hacts, ?_, ?_⟩
  · rw [hshows.fbk, hnotes.fbk, hball]
  · rw [hshows.bit, gpioK, ← fbkK, halters.fbkBit ?_, hin]
    simp only [gpioNotice, causeWord, PG_EVT_RAW, PG_EVT_PEND]
    omega

/-! ### Writes of the general outputs (R315, R316) -/

theorem fbkWrite_gpio (c : Chip) (m : Nat) {o : Nat} (d : Word) (keyed : Bool) (hlo : 0x108 ≤ o) (ho : o < 0x120) :
    c.fbkWrite m (fbkK 32 o) [d] keyed = c.gpioOutWrite o d := by
  have hoff : offOf (fbkK 32 o) = o := offOf_pageAddr _ _ _ (by omega)
  have hinst : instOf (fbkK 32 o) = 32 := instOf_pageAddr _ _ _ (by decide) (by omega)
  simp [Chip.fbkWrite, hoff, hinst, hlo, ho, Chip.each]

/-- A write of OUT, SET or CLR at `o` that leaves `v` in an output word. -/
theorem gpioWrite_answers {o k : Nat} {d v : Word} {j : Instr} (hlo : 0x108 ≤ o) (ho : o < 0x120)
    (hj : exec j s = s.put m (fbkK 32 o) d) (h : s.chip.takes m (fbkK 32 o) false = true) (hv : (s.chip.gpioOutWrite o d).word k = v) :
    Answers (exec j s) fun t => t.chip.word k = v ∧ t.chip.resp.status = .done := by
  obtain ⟨t, he, ht, hdone⟩ := put_fbk (by decide) (by omega) (by omega) s m d hj h (fbkWrite_gpio _ _ _ _ hlo ho)
  exact ⟨t, he, (ht.word k).trans hv, hdone⟩

theorem gpioOutWrite_out {off : Nat} (c : Chip) (d : Word) (h : off < 8) :
    (c.gpioOutWrite (0x108 + off) d).word (gpioK (0x108 + off)) = d := by
  rw [Chip.gpioOutWrite, show (0x108 + off) % 8 = off by omega, if_pos (by omega)]
  exact Chip.word_setWord_same ..

theorem gpioOutWrite_set {off : Nat} (c : Chip) (d : Word) (h : off < 8) :
    (c.gpioOutWrite (0x110 + off) d).word (gpioK (0x108 + off)) = (c.word (gpioK (0x108 + off)) ||| d) := by
  rw [Chip.gpioOutWrite, show (0x110 + off) % 8 = off by omega, if_neg (by omega), if_pos (by omega)]
  exact Chip.word_setWord_same ..

theorem gpioOutWrite_clr {off : Nat} (c : Chip) (d : Word) (h : off < 8) :
    (c.gpioOutWrite (0x118 + off) d).word (gpioK (0x108 + off)) = (c.word (gpioK (0x108 + off)) &&& ~~~d) := by
  rw [Chip.gpioOutWrite, show (0x118 + off) % 8 = off by omega, if_neg (by omega), if_neg (by omega)]
  exact Chip.word_setWord_same ..

/-! ### The index and reference edges, and ARM, as commands (R308, R310) -/

theorem indexPulse_answers {high : Bool} (hacts : s.ChannelActs n) (hq : s.chip.indexQualified n = true)
    (hmode : s.chip.fld (fbkK n 0x108) 30 2 = 1) (hpend : s.chip.bit (fbkK n 0x150) 14 = false)
    (hedge : high ≠ s.chip.bit (fbkK n 0x108) 25) :
    Answers (exec (.indexPulse n high) s) fun t =>
      t.chip.fld (latchK n 1 0x30) 0 16 = (s.chip.fld (latchK n 1 0x30) 0 16 + 1) % 65536 ∧ t.chip.fbkPos n = s.chip.fbkPos n ∧
      t.chip.bit (fbkK n PG_EVT_RAW) 1 = true := by
  obtain ⟨halters, hseq, hraw⟩ := edgeLatch_shows s.chip n (l := 1) (by decide) (s.chip.dIn n) false false
  obtain ⟨t, he, ht⟩ := fbkEvent_shows hacts (i := .indexPulse n high) rfl
  rw [indexPulse_rises hq hmode hpend hedge] at ht
  have hpos : (s.chip.edgeLatch n 1 (s.chip.dIn n) false false).fbkPos n = s.chip.fbkPos n :=
    halters.fbkPos fun o ho j => not_latchWords (by simp at ho; omega)
  exact ⟨t, he, (ht.fld ..).trans hseq, (ht.fbkPos n).trans hpos, (ht.bit ..).trans hraw⟩

theorem indexPulse_idle {high : Bool} (hacts : s.ChannelActs n) (hedge : high = s.chip.bit (fbkK n 0x108) 25) :
    Answers (exec (.indexPulse n high) s) fun t => t.chip.words = s.chip.words := by
  obtain ⟨t, he, ht⟩ := fbkEvent_shows hacts (i := .indexPulse n high) rfl
  rw [indexPulse_falls hedge] at ht
  exact ⟨t, he, ht.words⟩

theorem referenceEdge_answers {input : Nat} {rising : Bool} (hacts : s.ChannelActs n)
    (htakes : ∃ delay, s.chip.refEdge n input rising = (s.chip.setRefArmed n false).edgeLatch n 2 delay false false) :
    Answers (exec (.referenceEdge n input rising) s) fun t =>
      t.chip.fld (latchK n 2 0x30) 0 16 = (s.chip.fld (latchK n 2 0x30) 0 16 + 1) % 65536 ∧ t.chip.bit (fbkK n 0x150) 15 = false := by
  obtain ⟨delay, htakes⟩ := htakes
  obtain ⟨t, he, ht⟩ := fbkEvent_shows hacts (i := .referenceEdge n input rising) rfl
  rw [htakes] at ht
  obtain ⟨hseq, harmed⟩ := refEdge_shows s.chip n delay
  exact ⟨t, he, (ht.fld ..).trans hseq, (ht.bit ..).trans harmed⟩

theorem refArm_answers (hn : n < 32) (d : Word) (h : s.chip.takes m (fbkK n 0x110) false = true) :
    Answers (exec (.refArm m n d) s) fun t =>
      t.chip.bit (fbkK n 0x150) 15 = (d.getLsbD 29 || s.chip.bit (fbkK n 0x150) 15) ∧ t.chip.bit (fbkK n 0x110) 31 = d.getLsbD 31 := by
  obtain ⟨t, he, ht, -⟩ := put_fbk (by omega) (by decide) (by decide) s m d (j := .refArm m n d) rfl h (fbkWrite_ref hn ..)
  obtain ⟨harmed, hen⟩ := refCfgWrite_shows s.chip n d
  exact ⟨t, he, (ht.bit ..).trans harmed, (ht.bit ..).trans hen⟩

/-- Settles O37: each clause by the lemma of its command. -/
theorem latchesAndGpio : Obligations.LatchesAndGpio := by
  intro s m n d hn _
  refine ⟨fun held resetting frozen => ?_, refArm_answers hn d, fun l => latchCaptureRead_answers hn, fun p high => gpioInputEdge_answers,
    fun off hoff => ?_⟩
  · have hacts : s.ChannelActs n := ⟨held, resetting, frozen⟩
    refine ⟨fun hq hmode hpend high => ⟨indexPulse_answers hacts hq hmode hpend, indexPulse_idle hacts⟩, ?_⟩
    intro input rising hfrom hon hrun hen hsel hshot harmed hthen
    exact referenceEdge_answers hacts (refEdge_takes hfrom hon hrun hen hsel hshot harmed hthen)
  · have hlt : off < 8 := by
      simp at hoff
      omega
    exact ⟨fun h => gpioWrite_answers (by omega) (by omega) rfl h (gpioOutWrite_out _ d hlt),
      fun h => gpioWrite_answers (by omega) (by omega) rfl h (gpioOutWrite_set _ d hlt),
      fun h => gpioWrite_answers (by omega) (by omega) rfl h (gpioOutWrite_clr _ d hlt)⟩

end Sys2Proof.Machine
end

section
/-! PROOFS. The pages of the Converter Subsystem: what an operation alters there, and what a command that acts on one comes to (R319, R335). -/

namespace Sys2Proof.Machine

variable {c c' : Chip}

/-! ### Bits at an offset of a page -/

/-- Bit `j` of the words at the offsets `o` of the pages where `P o j` holds. -/
def atOffset (P : Nat → Nat → Prop) (k j : Nat) : Prop := P (offOf k) j

theorem offOf_cnvK {i o : Nat} (ho : o < 4096) : offOf (cnvK i o) = o := offOf_pageAddr CNV i o ho

theorem cnvK_inj {i o o' : Nat} : cnvK i o = cnvK i o' ↔ o = o' := by simp [cnvK, pageAddr]

section
variable {P : Nat → Nat → Prop} {i o : Nat} (ho : o < 4096)
include ho

theorem atOffset_cnvK {j : Nat} : atOffset P (cnvK i o) j ↔ P o j := by rw [atOffset, offOf_cnvK ho]

theorem setCnvFld_alters (c : Chip) (lo n v : Nat) (h : ∀ j, lo ≤ j → j < lo + n → P o j) :
    c.Alters (atOffset P) (c.setFld (cnvK i o) lo n v) :=
  setFld_alters c _ lo n v fun j hlo hn => (atOffset_cnvK ho).2 (h j hlo hn)

theorem setCnvBit_alters (c : Chip) (j : Nat) (b : Bool) (h : P o j) : c.Alters (atOffset P) (c.setBit (cnvK i o) j b) :=
  setBit_alters c _ j b ((atOffset_cnvK ho).2 h)

theorem countCnv_alters (c : Chip) (h : ∀ j, P o j) : c.Alters (atOffset P) (c.count (cnvK i o)) :=
  count_alters c _ 1 fun j => (atOffset_cnvK ho).2 (h j)

theorem Chip.Alters.cnvWord (h : c.Alters (atOffset P) c') (hP : ∀ j, ¬ P o j) : c'.word (cnvK i o) = c.word (cnvK i o) :=
  h.word _ fun j => mt (atOffset_cnvK ho).1 (hP j)

theorem Chip.Alters.cnvBit (h : c.Alters (atOffset P) c') {j : Nat} (hP : ¬ P o j) : c'.bit (cnvK i o) j = c.bit (cnvK i o) j :=
  h.bit _ _ (mt (atOffset_cnvK ho).1 hP)

theorem Chip.Alters.cnvFld (h : c.Alters (atOffset P) c') {lo n : Nat} (hP : ∀ j, lo ≤ j → j < lo + n → ¬ P o j) :
    c'.fld (cnvK i o) lo n = c.fld (cnvK i o) lo n :=
  h.fld _ _ _ fun j hlo hn => mt (atOffset_cnvK ho).1 (hP j hlo hn)

end

theorem atOffset_mono {P Q : Nat → Nat → Prop} (h : ∀ o j, P o j → Q o j) (k j : Nat) : atOffset P k j → atOffset Q k j := h _ j

theorem causeAtOffset_alters {P : Nat → Nat → Prop} (c : Chip) (b i n : Nat) (h : ∀ o, causeWord o → P o n) :
    c.Alters (atOffset P) (c.cause b i n) := by
  have hoff (o : Nat) (ho : o < 4096) (hc : causeWord o) : atOffset P (pageAddr b i o) n := by
    rw [atOffset, offOf_pageAddr b i o ho]
    exact h o hc
  exact cause_alters c b i n (hoff _ (by decide) (.inl rfl)) (hoff _ (by decide) (.inr rfl))

/-! ### What a converter holds outside its page -/

@[simp] theorem cv_setCv_same (c : Chip) (i : Nat) (x : Cnv) : (c.setCv i x).cv i = x := tab_tabPut_same ..

theorem setCv_alters {S : Nat → Nat → Prop} (c : Chip) (i : Nat) (x : Cnv) : c.Alters S (c.setCv i x) := .of_words rfl rfl rfl

theorem Chip.Notes.cnv (h : c.Notes c') : c'.cnv = c.cnv := by
  obtain ⟨w, n, l, rfl⟩ := h
  rfl

/-! ### What a state shows of the Converter Subsystem -/

/-- In `t` the registers and the Converter Subsystem stand as in `n`. -/
structure Chip.ShowsConverter (n t : Chip) : Prop where
  words : t.words = n.words
  cnv : t.cnv = n.cnv

namespace Chip.ShowsConverter

variable {n t : Chip} (h : n.ShowsConverter t)
include h

theorem word (k : Nat) : t.word k = n.word k := word_of_words h.words k
theorem bit (k j : Nat) : t.bit k j = n.bit k j := bit_of_words h.words k j
theorem fld (k lo w : Nat) : t.fld k lo w = n.fld k lo w := fld_of_words h.words k lo w
theorem cv (i : Nat) : t.cv i = n.cv i := by rw [Chip.cv, h.cnv, Chip.cv]
theorem plWait (k : Nat) : t.plWait k = n.plWait k := by rw [Chip.plWait, h.cnv, Chip.plWait]

end Chip.ShowsConverter

theorem settle_showsConverter (s : State) (f : Chip → Chip) : (f s.chip).ShowsConverter (s.settle f).chip := ⟨rfl, rfl⟩

/-- An event of an enabled page. -/
theorem cnvEvent_shows {s : State} {i : Nat} (ha : s.chip.acts CNV i = true) (hon : s.chip.pageOn CNV i = true) {f : Chip → Chip} {j : Instr}
    (hj : exec j s = s.enabledEvent CNV i f) : Answers (exec j s) fun t => (f s.chip).ShowsConverter t.chip :=
  ⟨_, hj.trans (enabledEvent_acts s CNV i f ha hon), settle_showsConverter s f⟩

/-! ### Accepted writes -/

section
variable {i o : Nat} (hi : i < 128) (hlo : 0x034 ≤ o) (ho : o < 0x800)
include hi hlo ho

/-- A register of a page of the Converter Subsystem behind its header. -/
theorem applyWrite_cnv (c : Chip) (x : Meets) (m : Nat) (d : Word) (keyed : Bool) :
    c.applyWrite x m (cnvK i o) [d] keyed = c.cnvWrite m (cnvK i o) [d] keyed := by
  have hoff : offOf (cnvK i o) = o := offOf_cnvK (by omega)
  have hblock : blockOf (cnvK i o) = CNV := blockOf_pageAddr CNV i o (by decide) hi (by omega)
  have htw : isTw (cnvK i o) = false := isTw_pageAddr CNV i o hi (by omega)
  have hres : resultAt c.part (cnvK i o) = none := resultAt_below c.part (by omega)
  have hwin : isWindow (cnvK i o) = false := by simp [isWindow, hblock, windowPages, CNV, HOI, LOOP, PRF, ADT, TLY, NET, PWR]
  have hbehind : ¬ offOf (cnvK i o) < 0x034 := by omega
  rw [Chip.applyWrite, hres, htw, Chip.blockWrite, hwin, hblock]
  exact if_neg hbehind

/-- What the register window takes there as a write is what the page's registers make of it, and the master sees it done. -/
theorem put_cnv {s : State} {m : Nat} {d : Word} {j : Instr} (hj : exec j s = s.put m (cnvK i o) d)
    (h : s.chip.takes m (cnvK i o) false = true) {n : Chip} (hn : s.chip.cnvWrite m (cnvK i o) [d] false = n) :
    Answers (exec j s) fun t => t.chip.words = n.words ∧ t.chip.resp.status = .done := by
  have hkey : offOf (cnvK i o) ≠ PG_KEY := by
    rw [offOf_cnvK (by omega), PG_KEY]
    omega
  have hblock : blockOf (cnvK i o) ≠ HOI := by
    rw [cnvK, blockOf_pageAddr CNV i o (by decide) hi (by omega)]
    decide
  obtain ⟨t, ht, hdone⟩ := put_completes s m _ d false hj h (.inr (.inr hkey)) fun he => absurd he hblock
  rw [afterKey_false, Bool.false_and, applyWrite_cnv hi hlo ho, hn] at hdone
  exact ⟨t, ht, hdone.words, hdone.done⟩

end

end Sys2Proof.Machine
end

section
/-! PROOFS. Plausibility units (R331 to R336): failures, the timeout of a waiting result, the clear and the configuration. -/

namespace Sys2Proof.Machine

variable {c c' : Chip} {k : Nat}

/-! ### The registers of a unit -/

theorem plK_eq (k o : Nat) : plK k o = cnvK 4 (0x100 + 16 * k + o) := rfl

theorem cnvWrite_unit (hk : k < 16) (c : Chip) (m w : Nat) (d : Word) (keyed : Bool) (hw : w < 3) :
    c.cnvWrite m (plK k (4 * w)) [d] keyed = c.plausCfgWrite m k w d := by
  have hinst : instOf (plK k (4 * w)) = 4 := instOf_pageAddr _ _ _ (by decide) (by omega)
  have hoff : offOf (plK k (4 * w)) = 0x100 + 16 * k + 4 * w := offOf_cnvK (by omega)
  have hstat : ¬ (0x100 + 16 * k + 4 * w) % 16 = 12 := by omega
  have hunit : (0x100 + 16 * k + 4 * w - 0x100) / 16 = k := by omega
  have hword : (0x100 + 16 * k + 4 * w) % 16 / 4 = w := by omega
  have hrange : 0x100 ≤ 0x100 + 16 * k + 4 * w ∧ 0x100 + 16 * k + 4 * w < 0x200 := by omega
  unfold Chip.cnvWrite
  dsimp only
  rw [hinst, hoff, if_neg (by decide), if_pos (by simpa using hrange), if_neg hstat, hunit, hword]
  rfl

theorem cnvWrite_plausClear (c : Chip) (m : Nat) (d : Word) (keyed : Bool) :
    c.cnvWrite m (cnvK 4 0x200) [d] keyed = c.plausClear d := rfl

/-! ### A failure (R333) -/

/-- FAIL is set, MISSING is as given, and one more consecutive failure is counted. -/
def Chip.failCounted (c : Chip) (k : Nat) (missing : Bool) : Chip :=
  ((c.setBit (plK k 0xC) 30 true).setBit (plK k 0xC) 29 missing).countFld (plK k 0xC) 16 8

theorem failCounted_shows (c : Chip) (k : Nat) (missing : Bool) : let t := c.failCounted k missing
    t.bit (plK k 0xC) 30 = true ∧ t.bit (plK k 0xC) 29 = missing ∧ t.fld (plK k 0xC) 16 8 = min 255 (c.fld (plK k 0xC) 16 8 + 1) := by
  refine ⟨?_, ?_, ?_⟩
  · rw [Chip.failCounted, Chip.countFld, Chip.bit_setFld, if_neg (by omega), Chip.bit_setBit _ _ _ _ _ _ (by decide), if_neg (by omega)]
    exact Chip.bit_setBit_same _ _ _ _ (by decide)
  · rw [Chip.failCounted, Chip.countFld, Chip.bit_setFld, if_neg (by omega)]
    exact Chip.bit_setBit_same _ _ _ _ (by decide)
  · rw [Chip.failCounted, Chip.countFld, Chip.fld_setFld_same _ _ _ _ _ (by decide), Chip.setBit, Chip.fld_setFld_field _ _ _ _ _ _ _ (by omega),
      Chip.setBit, Chip.fld_setFld_field _ _ _ _ _ _ _ (by omega), satAdd]
    omega

/-- What a failure shows beside FAIL, MISSING and its count: FAULT, the count of failures and the causes. -/
def failNotice (o j : Nat) : Prop := causeWord o ∨ o = 0x034 ∨ 0x100 ≤ o ∧ o < 0x200 ∧ j = 31

theorem not_failNotice {j : Nat} (hj : j ≠ 31) : ¬ failNotice (0x100 + 16 * k + 0xC) j := by
  simp only [failNotice, causeWord, PG_EVT_RAW, PG_EVT_PEND]
  omega

theorem plausFail_alters (c : Chip) (hk : k < 16) (missing : Bool) (s : Stamp) :
    (c.failCounted k missing).Alters (atOffset failNotice) (c.plausFail k missing s) := by
  have hcause (c : Chip) (n : Nat) : c.Alters (atOffset failNotice) (c.cause CNV 4 n) := causeAtOffset_alters c CNV 4 n fun _ => .inl
  have hcount (c : Chip) : c.Alters (atOffset failNotice) (c.count (cnvK 4 0x034)) :=
    countCnv_alters (by decide) c fun _ => .inr (.inl rfl)
  have hfault (c : Chip) : c.Alters (atOffset failNotice) (c.setBit (plK k 0xC) 31 true) :=
    setCnvBit_alters (by omega) c 31 true (.inr (.inr (by omega)))
  refine (((hcount _).trans (hcause _ 0)).trans (.when (hcause _ 2))).trans (.ite ?_ (.refl _ _))
  exact ((hfault _).trans (hcause _ 1)).trans (postIf_alters ..)

theorem postIf_cnv (c : Chip) (en : Bool) (head : Nat) (s : Stamp) : (c.postIf en head s).cnv = c.cnv := by
  rw [Chip.postIf, apply_ite Chip.cnv]
  exact ite_self _

theorem plausFail_cnv (c : Chip) (k : Nat) (missing : Bool) (s : Stamp) : (c.plausFail k missing s).cnv = c.cnv := by
  have hcounted : c.Notes (c.failCounted k missing) := ((setBit_notes ..).trans (setBit_notes ..)).trans (setFld_notes ..)
  unfold Chip.plausFail
  dsimp only
  rw [← Chip.failCounted]
  generalize hd : Chip.when _ _ _ = d
  have hnoted : c.Notes d := by
    rw [← hd]
    exact ((hcounted.trans (count_notes ..)).trans (cause_notes ..)).trans (.when (cause_notes ..))
  split
  · rw [postIf_cnv]
    exact ((hnoted.trans (setBit_notes ..)).trans (cause_notes ..)).cnv
  · exact hnoted.cnv

theorem plausFail_shows (c : Chip) (hk : k < 16) (missing : Bool) (s : Stamp) : let t := c.plausFail k missing s
    t.bit (plK k 0xC) 30 = true ∧ t.bit (plK k 0xC) 29 = missing ∧ t.fld (plK k 0xC) 16 8 = min 255 (c.fld (plK k 0xC) 16 8 + 1) := by
  have hkept := plausFail_alters c hk missing s
  have ho : 0x100 + 16 * k + 0xC < 4096 := by omega
  obtain ⟨hfail, hmissing, hcount⟩ := failCounted_shows c k missing
  exact ⟨(hkept.cnvBit ho (not_failNotice (by decide))).trans hfail, (hkept.cnvBit ho (not_failNotice (by decide))).trans hmissing,
    (hkept.cnvFld ho fun j _ _ => not_failNotice (by omega)).trans hcount⟩

/-! ### The timeout (R332) -/

/-- The oldest waiting result is due: it leaves the list and fails. -/
theorem plausTimeout_due {w : PlausWait} {r : List PlausWait} (hwait : c.plWait k = w :: r) (hdue : c.plausDue k w = true) :
    c.plausTimeout k = (c.setPlWait k r).plausFail k true w.stamp := by
  rw [Chip.plausTimeout, hwait, List.find?_cons_of_pos hdue]
  dsimp only
  rw [List.erase_cons_head]

theorem plausTimeout_shows (hk : k < 16) {w : PlausWait} {r : List PlausWait} (hwait : c.plWait k = w :: r) (hdue : c.plausDue k w = true) :
    let t := c.plausTimeout k
    t.plWait k = r ∧ t.bit (plK k 0xC) 30 = true ∧ t.bit (plK k 0xC) 29 = true ∧
      t.fld (plK k 0xC) 16 8 = min 255 (c.fld (plK k 0xC) 16 8 + 1) := by
  rw [plausTimeout_due hwait hdue]
  refine ⟨?_, plausFail_shows (c.setPlWait k r) hk true w.stamp⟩
  rw [Chip.plWait, plausFail_cnv]
  exact tab_tabPut_same ..

/-! ### The clear (R334) -/

/-- Unit `k` is released, unless it fails at present. -/
def Chip.release (c : Chip) (k : Nat) : Chip :=
  if c.bit (plK k 0xC) 30 then c else (c.setBit (plK k 0xC) 31 false).setFld (plK k 0xC) 16 8 0

/-- FAULT and the count of consecutive failures of unit `k` are clear. -/
def Chip.Released (c : Chip) (k : Nat) : Prop := c.bit (plK k 0xC) 31 = false ∧ c.fld (plK k 0xC) 16 8 = 0

theorem plausClear_eq (c : Chip) (d : Word) : c.plausClear d = c.each ((List.range 16).filter (d.getLsbD ·)) Chip.release := rfl

theorem release_alters (c : Chip) (k : Nat) : c.Alters (fun a j => a = plK k 0xC ∧ j ≠ 30) (c.release k) := by
  refine .ite (.refl _ c) ((setBit_alters c _ 31 false ⟨rfl, by decide⟩).trans (setFld_alters _ _ 16 8 0 fun j _ hj => ⟨rfl, by omega⟩))

theorem release_fail (c : Chip) (k k' : Nat) : (c.release k).bit (plK k' 0xC) 30 = c.bit (plK k' 0xC) 30 :=
  (release_alters c k).bit _ _ fun h => h.2 rfl

theorem release_released (h : c.bit (plK k 0xC) 30 = false) : (c.release k).Released k := by
  rw [Chip.release, if_neg (by simp [h])]
  refine ⟨?_, Chip.fld_setFld_same _ _ _ _ _ (by decide)⟩
  rw [Chip.bit_setFld, if_neg (by omega)]
  exact Chip.bit_setBit_same _ _ _ _ (by decide)

theorem release_keeps {k' : Nat} (hne : k' ≠ k) (h : c.Released k') : (c.release k).Released k' := by
  have hword : plK k' 0xC ≠ plK k 0xC := by
    rw [plK_eq, plK_eq, Ne, cnvK_inj]
    omega
  have hkept := release_alters c k
  exact ⟨(hkept.bit _ _ fun hk => hword hk.1).trans h.1, (hkept.fld _ _ _ fun _ _ _ hk => hword hk.1).trans h.2⟩

/-- Every unit named that does not fail at present is released, whatever the units before and after it come to. -/
theorem plausClear_releases (hk : k < 16) {d : Word} (hd : d.getLsbD k = true) (h : c.bit (plK k 0xC) 30 = false) :
    (c.plausClear d).Released k := by
  have hreleases := each_establishes (P := fun k c => c.bit (plK k 0xC) 30 = false → c.Released k) Chip.release
    ((List.range 16).filter (d.getLsbD ·)) (fun c x _ hx => release_released (release_fail c x x ▸ hx)) ?_ c k (by simp [hk, hd])
  · refine hreleases (((each_alters (S := fun _ j => j ≠ 30) Chip.release _ (fun c x _ => ?_) c).bit _ 30 (by simp)).trans h)
    exact (release_alters c x).mono fun _ _ hk => hk.2
  · intro c x y _ _ hy hfail
    rw [release_fail] at hfail
    by_cases hxy : y = x
    · exact hxy ▸ release_released (hxy ▸ hfail)
    · exact release_keeps hxy (hy hfail)

/-! ### The configuration of a disabled unit (R331, R336) -/

theorem plausCfgWrite_lim (hoff : c.bit (plK k 0) 31 = false) (m : Nat) {d : Word} (hd : getBits d 24 8 ≠ 0) :
    c.plausCfgWrite m k 1 d = c.setWord (plK k 4) (d &&& 0xFF00_FFFF#32) := by
  have hmasked : getBits (d &&& 0xFF00_FFFF#32) 24 8 = getBits d 24 8 := getBits_masked d _ (by decide)
  rw [Chip.plausCfgWrite, hoff]
  simp [hmasked, hd]

theorem plausCfgWrite_succ (hoff : c.bit (plK k 0) 31 = false) (m : Nat) (d : Word) :
    c.plausCfgWrite m k 2 d = c.setWord (plK k 8) (d &&& 0x1_FFFF#32) := by
  rw [Chip.plausCfgWrite, hoff]
  rfl

/-! ### The commands -/

theorem exec_plausPartnerTimeout (s : State) (k : Nat) :
    exec (.plausPartnerTimeout k) s = s.enabledEvent CNV 4 fun c => c.plausTimeout k := rfl
theorem exec_plausClear (s : State) (m : Nat) (d : Word) : exec (.plausClear m d) s = s.put m (cnvK 4 0x200) d := rfl
theorem exec_plausCfgWrite (s : State) (m k w : Nat) (d : Word) : exec (.plausCfgWrite m k w d) s = s.put m (plK k (4 * w)) d := rfl

section
variable {s : State} {m : Nat} (hk : k < 16)
include hk

theorem plausPartnerTimeout_answers {w : PlausWait} {r : List PlausWait} (ha : s.chip.acts CNV 4 = true) (hon : s.chip.pageOn CNV 4 = true)
    (hwait : s.chip.plWait k = w :: r) (hdue : w.stamp.fine + (s.chip.fld (plK k 4) 0 16 + 200) * 2 ^ 16 ≤ s.chip.now.fine) :
    Answers (exec (.plausPartnerTimeout k) s) fun t =>
      t.chip.plWait k = r ∧ t.chip.bit (plK k 0xC) 30 = true ∧ t.chip.bit (plK k 0xC) 29 = true ∧
        t.chip.fld (plK k 0xC) 16 8 = min 255 (s.chip.fld (plK k 0xC) 16 8 + 1) := by
  obtain ⟨t, ht, hshow⟩ := cnvEvent_shows ha hon (exec_plausPartnerTimeout s k)
  obtain ⟨hlist, hfail, hmissing, hcount⟩ := plausTimeout_shows hk hwait (decide_eq_true hdue)
  exact ⟨t, ht, (hshow.plWait k).trans hlist, (hshow.bit ..).trans hfail, (hshow.bit ..).trans hmissing, (hshow.fld ..).trans hcount⟩

theorem plausClear_answers {d : Word} (h : s.chip.takes m (cnvK 4 0x200) false = true) (hd : d.getLsbD k = true)
    (hfail : s.chip.bit (plK k 0xC) 30 = false) : Answers (exec (.plausClear m d) s) fun t => t.chip.Released k := by
  obtain ⟨t, ht, hwords, -⟩ := put_cnv (by decide) (by decide) (by decide) (exec_plausClear s m d) h (cnvWrite_plausClear ..)
  obtain ⟨hfault, hcount⟩ := plausClear_releases hk hd hfail
  exact ⟨t, ht, (bit_of_words hwords ..).trans hfault, (fld_of_words hwords ..).trans hcount⟩

/-- A word of a unit that the write stores. -/
theorem plausCfgWrite_answers {w : Nat} {d e : Word} (hw : w < 3) (h : s.chip.takes m (plK k (4 * w)) false = true)
    (hset : s.chip.plausCfgWrite m k w d = s.chip.setWord (plK k (4 * w)) e) :
    Answers (exec (.plausCfgWrite m k w d) s) fun t => t.chip.word (plK k (4 * w)) = e ∧ t.chip.resp.status = .done := by
  obtain ⟨t, ht, hwords, hdone⟩ := put_cnv (by decide) (by omega) (by omega) (exec_plausCfgWrite s m k w d) h
    ((cnvWrite_unit hk _ m w d false hw).trans hset)
  exact ⟨t, ht, (word_of_words hwords _).trans (Chip.word_setWord_same ..), hdone⟩

end

/-- Settles O39: the timeout by the failure that it comes to, the clear unit by unit, and the writes by the branch of each register. -/
theorem plausibility : Obligations.Plausibility := by
  unfold Obligations.Plausibility
  intro s m k d hk _
  refine ⟨fun w r ha hon hwait hdue => plausPartnerTimeout_answers hk ha hon hwait hdue,
    fun htakes hd hfail => plausClear_answers hk htakes hd hfail, fun hoff => ⟨fun htakes hd => ?_, fun htakes => ?_⟩⟩
  · exact plausCfgWrite_answers (w := 1) hk (by decide) htakes (plausCfgWrite_lim hoff m hd)
  · exact plausCfgWrite_answers (w := 2) hk (by decide) htakes (plausCfgWrite_succ hoff m d)

end Sys2Proof.Machine
end

section
/-! PROOFS. Triggers and aborts of sequences, and what a free converter begins (R324, R325, R335). -/

namespace Sys2Proof.Machine

variable {c c' : Chip} {i q : Nat}

/-! ### What a free converter begins (R325, R328) -/

/-- CNV_STAT's field of the entry in conversion. -/
def entryMarks (o j : Nat) : Prop := o = 0x114 ∧ j < 5

theorem beginConv_alters (c : Chip) (i e : Nat) (seq : Option Nat) : c.Alters (atOffset entryMarks) (c.beginConv i e seq) :=
  (setCv_alters ..).trans (setCnvFld_alters (by decide) _ 0 5 e fun _ _ hj => ⟨rfl, by omega⟩)

theorem cnvNext_alters (c : Chip) (i : Nat) : c.Alters (atOffset entryMarks) (c.cnvNext i) := by
  unfold Chip.cnvNext
  refine .ite (.refl _ c) (.ite ?_ ?_)
  · split
    · exact (setCv_alters ..).trans (beginConv_alters ..)
    · exact .refl _ c
  · split
    · exact .refl _ c
    · exact (setCv_alters ..).trans (beginConv_alters ..)

/-- In filtered mode a free converter takes the first entry that the round still holds. -/
theorem cnvNext_round (hcur : (c.cv i).cur = none) (hrun : c.running = true) (hf : c.filtering i = true) :
    ((c.cnvNext i).cv i).cur.map (fun q => (q.entry, q.seq)) = (c.cv i).round.head?.map (fun e => (e, none)) ∧
      ((c.cnvNext i).cv i).round = (c.cv i).round.drop 1 := by
  unfold Chip.cnvNext
  dsimp only
  rw [if_neg (by simp [hcur, hrun]), if_pos hf]
  split
  next e r hround =>
    have hcv : ((c.setCv i { c.cv i with round := r }).beginConv i e none).cv i = _ := cv_setCv_same ..
    rw [hcv, cv_setCv_same, hround]
    exact ⟨rfl, rfl⟩
  next hround =>
    rw [hcur, hround]
    exact ⟨rfl, rfl⟩

/-! ### Triggers (R325) -/

/-- A trigger of sequence `q` reaches it: the page and the sequence are enabled, and the converter runs unfiltered. -/
def Chip.takesTriggers (c : Chip) (i q : Nat) : Bool :=
  c.pageOn CNV i && c.bit (cnvK i (0x120 + 8 * q)) 31 && c.running && !c.filtering i

/-- What a trigger shows: the sequence is active or its restart flag set, and a trigger that is lost is counted. -/
def triggerMarks (o j : Nat) : Prop := causeWord o ∨ o = 0x034 ∨ o = 0x038 ∨ o = 0x114 ∧ 16 ≤ j ∧ j < 24

theorem lostTrigger_alters (c : Chip) (i n : Nat) {o : Nat} (ho : o = 0x034 ∨ o = 0x038) :
    c.Alters (atOffset fun o _ => causeWord o ∨ o = 0x034 ∨ o = 0x038) ((c.count (cnvK i o)).cause CNV i n) :=
  (countCnv_alters (by omega) c fun _ => .inr ho).trans (causeAtOffset_alters _ CNV i n fun _ => .inl)

theorem lostTrigger_marks (o j : Nat) (h : causeWord o ∨ o = 0x034 ∨ o = 0x038) : triggerMarks o j := by
  rcases h with h | h | h
  · exact .inl h
  · exact .inr (.inl h)
  · exact .inr (.inr (.inl h))

theorem seqTrigger_alters (c : Chip) (i : Nat) {s : Nat} (hs : s < 4) : c.Alters (atOffset triggerMarks) (c.seqTrigger i s) := by
  have hlost (n : Nat) {o : Nat} (ho : o = 0x034 ∨ o = 0x038) :=
    (lostTrigger_alters c i n ho).mono (atOffset_mono lostTrigger_marks)
  have hstat (c : Chip) (j : Nat) (hj : 16 ≤ j ∧ j < 24) : c.Alters (atOffset triggerMarks) (c.setBit (cnvK i 0x114) j true) :=
    setCnvBit_alters (by decide) c j true (.inr (.inr (.inr ⟨rfl, hj⟩)))
  refine .ite (.refl _ c) (.ite (hlost 4 (.inr rfl)) (.ite ?_ (.ite (hlost 1 (.inl rfl)) (hstat c _ (by omega)))))
  exact (setCv_alters ..).trans (hstat _ _ (by omega))

theorem takesTriggers_congr (h : c.Alters (atOffset triggerMarks) c') (hq : q < 4) : c'.takesTriggers i q = c.takesTriggers i q := by
  have hword {o : Nat} (ho : 0x038 < o ∧ o < 0x200 ∧ o ≠ 0x114 ∨ o = PG_CTL) : c'.word (cnvK i o) = c.word (cnvK i o) :=
    h.cnvWord (by simp only [PG_CTL] at ho; omega) fun j => by
      simp only [triggerMarks, causeWord, PG_EVT_RAW, PG_EVT_PEND, PG_CTL] at ho ⊢
      omega
  have hpage : c'.pageOn CNV i = c.pageOn CNV i := congrArg (BitVec.getLsbD · 0) (hword (.inr rfl))
  have hmode : c'.filtering i = c.filtering i :=
    h.cnvBit (by decide) (by simp [triggerMarks, causeWord, PG_EVT_RAW, PG_EVT_PEND])
  have hrun : c'.running = c.running := running_congr (h.word _ fun j => by
    simp [atOffset, aPwrStat, offOf_pageAddr, triggerMarks, causeWord, PG_EVT_RAW, PG_EVT_PEND])
  rw [Chip.takesTriggers, hpage, hmode, hrun, Chip.bit, hword (.inl (by omega))]
  rfl

/-- A trigger activates the sequence that takes it, and no trigger ends a sequence. -/
theorem seqActive_seqTrigger (c : Chip) (i : Nat) {s : Nat} (hs : s < 4) (hq : q < 4) :
    (c.seqTrigger i s).seqActive i q = (c.seqActive i q || (decide (s = q) && c.takesTriggers i s)) := by
  have hlost (n : Nat) {o : Nat} (ho : o = 0x034 ∨ o = 0x038) : ((c.count (cnvK i o)).cause CNV i n).seqActive i q = c.seqActive i q :=
    (lostTrigger_alters c i n ho).cnvBit (by decide) (by simp [causeWord, PG_EVT_RAW, PG_EVT_PEND])
  by_cases ht : c.takesTriggers i s
  · obtain ⟨⟨⟨hon, hen⟩, hrun⟩, hmode⟩ : ((c.pageOn CNV i = true ∧ c.bit (cnvK i (0x120 + 8 * s)) 31 = true) ∧ c.running = true) ∧
        c.filtering i = false := by simpa [Chip.takesTriggers] using ht
    unfold Chip.seqTrigger
    dsimp only
    rw [if_neg (by simp [hon, hen, hrun]), if_neg (by simp [hmode]), ht, Bool.and_true]
    by_cases ha : c.seqActive i s
    · rw [if_neg (by simp [ha])]
      have hactive : (c.seqActive i q || decide (s = q)) = c.seqActive i q := by
        by_cases hsq : s = q
        · simp [← hsq, ha]
        · simp [hsq]
      rw [hactive]
      split
      · exact hlost 1 (.inl rfl)
      · rw [Chip.seqActive, Chip.bit_setBit _ _ _ _ _ _ (by omega), if_neg (by omega)]
        rfl
    · rw [if_pos (by simp [ha]), Chip.seqActive, Chip.bit_setBit _ _ _ _ _ _ (by omega)]
      by_cases hsq : s = q
      · simp [hsq]
      · rw [if_neg (by omega), decide_eq_false hsq, Bool.or_false]
        rfl
  · rw [Bool.eq_false_iff.2 ht, Bool.and_false, Bool.or_false]
    unfold Chip.seqTrigger
    dsimp only
    split
    · rfl
    · split
      · exact hlost 4 (.inr rfl)
      next hruns hmode =>
        refine absurd ?_ ht
        simp only [Bool.not_eq_true, Bool.or_eq_false_iff, Bool.not_eq_false'] at hruns
        obtain ⟨⟨hon, hen⟩, hrun⟩ := hruns
        simp [Chip.takesTriggers, hon, hen, hrun, hmode]

/-- Of the triggers of a list, those that are taken activate their sequences. -/
theorem seqActive_each_seqTrigger (l : List Nat) (hl : ∀ s ∈ l, s < 4) (hq : q < 4) (c : Chip) :
    (c.each l fun c s => c.seqTrigger i s).seqActive i q = (c.seqActive i q || (decide (q ∈ l) && c.takesTriggers i q)) := by
  induction l generalizing c with
  | nil => simp [Chip.each]
  | cons s r ih =>
    have hs : s < 4 := hl s (by simp)
    refine (ih (fun x hx => hl x (by simp [hx])) (c.seqTrigger i s)).trans ?_
    rw [seqActive_seqTrigger c i hs hq, takesTriggers_congr (seqTrigger_alters c i hs) hq]
    by_cases hsq : s = q
    · subst hsq
      cases c.takesTriggers i s
      · simp
      · simp
    · simp [hsq, Ne.symm hsq]

/-! ### CNV_CMD (R324, R335) -/

theorem seqActive_cnvCmd (hq : q < 4) (d : Word) : (c.cnvCmd i d).seqActive i q =
    ((if d.getLsbD 31 then c.abortSeqs i else c).seqActive i q ||
      (d.getLsbD q && (if d.getLsbD 31 then c.abortSeqs i else c).takesTriggers i q)) := by
  have hnext (c : Chip) : (c.cnvNext i).seqActive i q = c.seqActive i q :=
    (cnvNext_alters c i).cnvBit (by decide) (by simp only [entryMarks]; omega)
  refine (hnext _).trans ((seqActive_each_seqTrigger _ (fun s hs => ?_) hq _).trans ?_)
  · exact List.mem_range.1 (List.mem_of_mem_filter hs)
  · simp [hq]

theorem seqActive_abortSeqs (hq : q < 4) : (c.abortSeqs i).seqActive i q = false := by
  rw [Chip.seqActive, Chip.abortSeqs, Chip.bit_setFld, if_pos (by omega)]
  exact Nat.zero_testBit _

/-- Every bit of a field that reads 0 is clear. -/
theorem getLsbD_of_getBits_zero {d : Word} {n j : Nat} (h : getBits d 0 n = 0) (hj : j < n) : d.getLsbD j = false := by
  have hbit := testBit_getBits d 0 n j
  rw [h, Nat.zero_testBit, decide_eq_true hj, Bool.true_and, Nat.zero_add] at hbit
  exact hbit.symm

theorem cnvCmd_triggers (hq : q < 4) {d : Word} (hd : d.getLsbD 31 = false) (hdq : d.getLsbD q = true) (h : c.takesTriggers i q = true) :
    (c.cnvCmd i d).seqActive i q = true := by
  rw [seqActive_cnvCmd hq, hd, if_neg (by decide), hdq, h]
  simp

theorem cnvCmd_aborts (hq : q < 4) {d : Word} (hd : d.getLsbD 31 = true) (hd4 : getBits d 0 4 = 0) :
    (c.cnvCmd i d).seqActive i q = false := by
  rw [seqActive_cnvCmd hq, hd, if_pos rfl, seqActive_abortSeqs hq, getLsbD_of_getBits_zero hd4 hq]
  rfl

end Sys2Proof.Machine
end

section
/-! PROOFS. The results of unfiltered conversions and the rounds of filtered mode (R320, R321, R325, R328). -/

namespace Sys2Proof.Machine

variable {c c' : Chip} {i : Nat}

/-! ### What leaves the result words -/

/-- The registers of a page below its result words. -/
def belowResults (o _j : Nat) : Prop := o < 0x800

theorem causeBelow_alters (c : Chip) (b i n : Nat) : c.Alters (atOffset belowResults) (c.cause b i n) :=
  causeAtOffset_alters c b i n fun _ h => by
    simp only [causeWord, PG_EVT_RAW, PG_EVT_PEND, belowResults] at h ⊢
    omega

theorem sample_alters {S : Nat → Nat → Prop} (c : Chip) (sig : Nat) (v : Int) (s : Stamp) : c.Alters S (c.sample sig v s) :=
  .of_words rfl rfl rfl

section
variable {o : Nat} (ho : o < 0x800)
include ho

theorem setFldBelow_alters (c : Chip) (lo n v : Nat) : c.Alters (atOffset belowResults) (c.setFld (cnvK i o) lo n v) :=
  setCnvFld_alters (by omega) c lo n v fun _ _ _ => ho

theorem setBitBelow_alters (c : Chip) (j : Nat) (b : Bool) : c.Alters (atOffset belowResults) (c.setBit (cnvK i o) j b) :=
  setFldBelow_alters ho c j 1 _

theorem countBelow_alters (c : Chip) : c.Alters (atOffset belowResults) (c.count (cnvK i o)) := countCnv_alters (by omega) c fun _ => ho

end

/-! ### A result meets the plausibility units (R332, R333) -/

section
variable {k : Nat} (hk : k < 16)
include hk

theorem plausFailBelow_alters (c : Chip) (missing : Bool) (s : Stamp) : c.Alters (atOffset belowResults) (c.plausFail k missing s) := by
  have hst : 0x100 + 16 * k + 0xC < 0x800 := by omega
  have hcounted : c.Alters (atOffset belowResults) (c.failCounted k missing) :=
    ((setBitBelow_alters hst _ 30 true).trans (setBitBelow_alters hst _ 29 missing)).trans (setFldBelow_alters hst _ 16 8 _)
  refine hcounted.trans ((plausFail_alters c hk missing s).mono (atOffset_mono fun o j h => ?_))
  simp only [failNotice, causeWord, PG_EVT_RAW, PG_EVT_PEND, belowResults] at h ⊢
  omega

theorem plausCompare_alters (c : Chip) (a b : Int) (s : Stamp) : c.Alters (atOffset belowResults) (c.plausCompare k a b s) := by
  have hst : 0x100 + 16 * k + 0xC < 0x800 := by omega
  have hdiff (v : Nat) : c.Alters (atOffset belowResults) (c.setFld (plK k 0xC) 0 16 v) := setFldBelow_alters hst c 0 16 v
  have hgood (c : Chip) : c.Alters (atOffset belowResults) ((c.setBit (plK k 0xC) 30 false).setFld (plK k 0xC) 16 8 0) :=
    (setBitBelow_alters hst c 30 false).trans (setFldBelow_alters hst _ 16 8 0)
  exact .ite ((hdiff _).trans (plausFailBelow_alters hk ..)) ((hdiff _).trans (hgood _))

theorem plausResult_alters (c : Chip) (isX : Bool) (v : Int) (s : Stamp) :
    c.Alters (atOffset belowResults) (c.plausResult k isX v s) := by
  have hwait (l : List PlausWait) : c.Alters (atOffset belowResults) (c.setPlWait k l) := .of_words rfl rfl rfl
  unfold Chip.plausResult
  dsimp only
  split
  · exact (hwait _).trans (plausCompare_alters hk ..)
  · exact hwait _

end

theorem unitsOf_lt {e : Nat} {u : Nat × Bool} (h : u ∈ c.unitsOf i e) : u.1 < 16 := by
  obtain ⟨k, hk, hu⟩ := List.mem_filterMap.1 (List.mem_of_mem_filter h)
  have hunit : u.1 = k := by
    split_ifs at hu
    · rw [← Option.some.inj hu]
    · rw [← Option.some.inj hu]
  rw [hunit]
  exact List.mem_range.1 hk

/-! ### The result of a conversion (R320 to R323) -/

/-- What follows on a result word: clipping and settling are counted, the sample is issued and the units compare. -/
def Chip.resultFollows (c : Chip) (i e : Nat) (data : Word) (v : Int) (clip settling : Bool) (us : List (Nat × Bool)) (s : Stamp) : Chip :=
  let c := if clip then (c.count (cnvK i 0x03C)).cause CNV i 2 else c
  let sig := c.fld (cnvK i 0x10C) 0 25
  if settling then c.count (cnvK i 0x040)
  else
    let c := if sig = 0 then c else c.sample (sig + e) (signed 32 data.toNat) s
    if c.pageOn CNV 4 then c.each us fun c u => c.plausResult u.1 u.2 v s else c

theorem resultFollows_alters (c : Chip) (i e : Nat) (data : Word) (v : Int) (clip settling : Bool) {us : List (Nat × Bool)}
    (hus : ∀ u ∈ us, u.1 < 16) (s : Stamp) : c.Alters (atOffset belowResults) (c.resultFollows i e data v clip settling us s) := by
  have hclip : c.Alters (atOffset belowResults) (if clip then (c.count (cnvK i 0x03C)).cause CNV i 2 else c) :=
    .ite ((countBelow_alters (by decide) c).trans (causeBelow_alters ..)) (.refl _ c)
  have hunits (c : Chip) : c.Alters (atOffset belowResults) (c.each us fun c u => c.plausResult u.1 u.2 v s) :=
    each_alters _ us (fun c u hu => plausResult_alters (hus u hu) c u.2 v s) c
  have hsample (c : Chip) (sig : Nat) :
      c.Alters (atOffset belowResults) (if sig = 0 then c else c.sample (sig + e) (signed 32 data.toNat) s) :=
    .ite (.refl _ c) (sample_alters ..)
  exact .ite (hclip.trans (countBelow_alters (by decide) _)) (.ite ((hclip.trans (hsample ..)).trans (hunits _)) (hclip.trans (hsample ..)))

theorem newResult_data (c : Chip) (a : Nat) (data : Word) (info : Nat) (s : Stamp) (settling : Bool) (n : Nat) :
    (c.newResult a data info s settling n).word (a + 4) = data := by
  obtain ⟨low, f, l, e⟩ : ∃ low f l, c.newResult a data info s settling n =
      { (c.setNat a low).setWord (a + 4) data with fresh := f, stamps := l } := ⟨_, _, _, rfl⟩
  rw [e]
  exact Chip.word_setWord_same (c.setNat a low) (a + 4) data

/-- A lead sends the result to its twin (R500). -/
def Chip.resultSent (c : Chip) (i e : Nat) (data : Word) (s : Stamp) : Chip :=
  if c.role = 3 then c.out (.pair (.convResult i e data (c.nat (cnvK i (0x800 + 8 * e)) % 2 ^ 24) (c.gen (cnvK i (0x800 + 8 * e))) s)) else c

theorem cnvResult_eq (hs : c.standby = false) (q : Conv) (data : Word) (v : Int) (clip filtered : Bool) (mark : Nat) (s : Stamp) :
    ∃ info, c.cnvResult i q data v clip filtered mark s =
      ((c.newResult (cnvK i (0x800 + 8 * q.entry)) data info s (mark != 0) (settleCnt mark)).resultSent i q.entry data s).resultFollows
        i q.entry data v clip (mark != 0) (c.unitsOf i q.entry) s := by
  have hmaster : ¬ c.standby = true := by simp [hs]
  exact ⟨_, if_neg hmaster⟩

/-- A module that is no standby writes the data of the entry's result word, and what follows leaves it. -/
theorem cnvResult_data {q : Conv} (hq : q.entry < 32) (hs : c.standby = false) (data : Word) (v : Int) (clip filtered : Bool) (mark : Nat)
    (s : Stamp) : (c.cnvResult i q data v clip filtered mark s).word (cnvK i (0x804 + 8 * q.entry)) = data := by
  obtain ⟨info, he⟩ := cnvResult_eq hs q data v clip filtered mark s (i := i)
  have hsent (c : Chip) : c.Alters (atOffset belowResults) (c.resultSent i q.entry data s) := .ite (out_alters _ _) (.refl _ c)
  have hfollows (c' : Chip) := resultFollows_alters c' i q.entry data v clip (mark != 0) (us := c.unitsOf i q.entry) (fun _ => unitsOf_lt) s
  have hkey : cnvK i (0x800 + 8 * q.entry) + 4 = cnvK i (0x804 + 8 * q.entry) := by
    simp only [cnvK, pageAddr]
    omega
  rw [he, ((hsent _).trans (hfollows _)).cnvWord (by omega) fun _ => by simp only [belowResults]; omega, ← hkey]
  exact newResult_data ..

/-! ### What follows on a conversion (R325, R328, R335) -/

theorem seqOver_alters (c : Chip) (i : Nat) (s : Nat) : c.Alters (atOffset belowResults) (c.seqOver i s) :=
  .ite ((setCv_alters ..).trans (setBitBelow_alters (by decide) _ _ false))
    ((setBitBelow_alters (by decide) c _ false).trans (setBitBelow_alters (by decide) _ _ false))

theorem seqEnd_alters (c : Chip) (i s : Nat) (t : Stamp) : c.Alters (atOffset belowResults) (c.seqEnd i s t) :=
  Chip.Alters.trans (.ite (.refl _ c) ((causeBelow_alters c CNV i 0).trans (postIf_alters ..))) (seqOver_alters ..)

theorem takeMode_alters (c : Chip) (i : Nat) : c.Alters (atOffset fun o _ => o = 0x114) (c.takeMode i) := by
  have hstat (c : Chip) (j : Nat) (b : Bool) : c.Alters (atOffset fun o _ => o = 0x114) (c.setBit (cnvK i 0x114) j b) :=
    setCnvBit_alters (by decide) c j b rfl
  have hidle : c.Alters (atOffset fun o _ => o = 0x114) (c.setFld (cnvK i 0x114) 16 8 0) :=
    setCnvFld_alters (by decide) c 16 8 0 fun _ _ _ => rfl
  exact .ite (.refl _ c) (((hidle.trans (hstat _ _ _)).trans (hstat _ _ _)).trans (setCv_alters ..))

/-- PACE_SHORT alone shows that a round begins. -/
theorem beginRound_alters (c : Chip) (i : Nat) : c.Alters (atOffset fun o j => o = 0x114 ∧ j = 26) (c.beginRound i) :=
  (setCv_alters ..).trans (setCnvBit_alters (by decide) _ 26 _ ⟨rfl, rfl⟩)

theorem cnvIdle_alters (c : Chip) (i : Nat) : c.Alters (atOffset belowResults) (c.cnvIdle i) :=
  (setCv_alters ..).trans (setFldBelow_alters (by decide) _ 16 8 0)

/-- The sequence of conversion `q`, if any, ends with its last entry or as it has been disabled. -/
def Chip.seqFollows (c : Chip) (i : Nat) (q : Conv) (s : Stamp) : Chip :=
  match q.seq with
  | none => c
  | some sq => if q.entry = q.fin then c.seqEnd i sq s else if q.stop then c.seqOver i sq else c

/-- Where rounds follow each other at once the next one begins. -/
def Chip.roundFollows (c : Chip) (i : Nat) : Chip :=
  if c.filtering i && (c.cv i).round.isEmpty && ((c.cv i).again || c.backToBack i) then c.beginRound i else c

/-- The converter begins what is next, or rests. -/
def Chip.cnvFollows (c : Chip) (i : Nat) : Chip := if c.running then c.cnvNext i else c.cnvIdle i

theorem seqFollows_alters (c : Chip) (i : Nat) (q : Conv) (s : Stamp) : c.Alters (atOffset belowResults) (c.seqFollows i q s) := by
  unfold Chip.seqFollows
  split
  · exact .refl _ c
  · exact .ite (seqEnd_alters ..) (.ite (seqOver_alters ..) (.refl _ c))

theorem roundFollows_alters (c : Chip) (i : Nat) : c.Alters (atOffset belowResults) (c.roundFollows i) :=
  .ite ((beginRound_alters c i).mono (atOffset_mono fun o _ ho => by simp only [belowResults]; omega)) (.refl _ c)

theorem cnvFollows_alters (c : Chip) (i : Nat) : c.Alters (atOffset belowResults) (c.cnvFollows i) :=
  .ite ((cnvNext_alters c i).mono (atOffset_mono fun o _ ho => by simp only [belowResults, entryMarks] at ho ⊢; omega)) (cnvIdle_alters ..)

/-- The conversion in progress is over. -/
def Chip.freed (c : Chip) (i : Nat) : Chip := c.setCv i { c.cv i with cur := none }

/-- The instant at which a conversion that ends now has held its input. -/
def Chip.heldAt (c : Chip) : Stamp := c.stampAt (c.nowNs - 85) (c.tim.frac / 65536)

/-- What a code comes to: a sample of the filter, or a result. -/
def Chip.codeTaken (c : Chip) (i : Nat) (q : Conv) (v : Code) (s : Stamp) : Chip :=
  if c.filtering i then c.sincSample i q v s else c.cnvResult i q (codeData q.ent v.c) v.c v.clip false q.mark s

theorem convDone_eq {q : Conv} (hcur : (c.cv i).cur = some q) (nv : Int) :
    c.convDone i nv = (((((c.freed i).codeTaken i q (codeOf q.ent nv) (c.freed i).heldAt).seqFollows i q (c.freed i).heldAt).takeMode i).roundFollows
      i).cnvFollows i := by
  unfold Chip.convDone
  rw [hcur]
  rfl

/-- The result word of an unfiltered conversion holds the code of the voltage. -/
theorem convDone_data {q : Conv} (hcur : (c.cv i).cur = some q) (hq : q.entry < 32) (hf : c.filtering i = false) (hs : c.standby = false)
    (nv : Int) : (c.convDone i nv).word (cnvK i (0x804 + 8 * q.entry)) = codeData q.ent (codeOf q.ent nv).c := by
  have hmode (c : Chip) : c.Alters (atOffset belowResults) (c.takeMode i) :=
    (takeMode_alters c i).mono (atOffset_mono fun o _ ho => by simp only [belowResults]; omega)
  have hfollows (c : Chip) (s : Stamp) : c.Alters (atOffset belowResults) ((((c.seqFollows i q s).takeMode i).roundFollows i).cnvFollows i) :=
    (((seqFollows_alters ..).trans (hmode _)).trans (roundFollows_alters ..)).trans (cnvFollows_alters ..)
  have hfree : ¬ (c.freed i).filtering i = true := by
    rw [show (c.freed i).filtering i = false from hf]
    decide
  rw [convDone_eq hcur, (hfollows _ _).cnvWord (by omega) fun _ => by simp only [belowResults]; omega, Chip.codeTaken, if_neg hfree]
  exact cnvResult_data (c := c.freed i) hq hs ..

/-! ### Rounds (R328) -/

theorem cv_beginRound (c : Chip) (i : Nat) : (c.beginRound i).cv i = { c.cv i with round := c.roundOf i, again := false } := cv_setCv_same ..

section
variable (hon : c.pageOn CNV i = true) (hrun : c.running = true) (hf : c.filtering i = true)
include hon hrun hf

/-- A round that runs is kept to be followed at once. -/
theorem roundStart_busy (hcur : (c.cv i).cur.isSome = true) : c.roundStart i = c.setCv i { c.cv i with again := true } := by
  unfold Chip.roundStart
  rw [if_neg (by simp [hon, hrun, hf])]
  exact if_pos (by simp [hcur])

theorem roundStart_free (hcur : (c.cv i).cur = none) (hround : (c.cv i).round = []) : c.roundStart i = (c.beginRound i).cnvNext i := by
  unfold Chip.roundStart
  rw [if_neg (by simp [hon, hrun, hf])]
  exact if_neg (by simp [hcur, hround])

/-- A round begins with its first entry and shows PACE_SHORT. -/
theorem roundStart_begins (hcur : (c.cv i).cur = none) (hround : (c.cv i).round = []) : let t := c.roundStart i
    (t.cv i).cur.map (fun q => (q.entry, q.seq)) = (c.roundOf i).head?.map (fun e => (e, none)) ∧
      (t.cv i).round = (c.roundOf i).drop 1 ∧ t.bit (cnvK i 0x114) 26 = c.paceShort i := by
  have hkept := beginRound_alters c i
  have hstill : ((c.beginRound i).cv i).cur = none := (congrArg Cnv.cur (cv_beginRound c i)).trans hcur
  have hruns : (c.beginRound i).running = true :=
    (running_congr (hkept.word _ fun j => by simp [atOffset, aPwrStat, offOf_pageAddr])).trans hrun
  have hmode : (c.beginRound i).filtering i = true := (hkept.cnvBit (by decide) (by decide)).trans hf
  obtain ⟨hfirst, hrest⟩ := cnvNext_round hstill hruns hmode
  rw [cv_beginRound] at hfirst hrest
  rw [roundStart_free hon hrun hf hcur hround]
  refine ⟨hfirst, hrest, ((cnvNext_alters ..).cnvBit (by decide) (by simp [entryMarks])).trans ?_⟩
  exact Chip.bit_setBit_same _ _ _ _ (by decide)

end

end Sys2Proof.Machine
end

section
/-! PROOFS. The configuration of converters, the read of a result word (R322, R328, R335), and the commands of sequences and rounds. -/

namespace Sys2Proof.Machine

variable {c c' : Chip} {i : Nat}

/-! ### CNV_CFG (R328) -/

theorem markFiltered_alters {S : Nat → Nat → Prop} (c : Chip) (i : Nat) : c.Alters S (c.markFiltered i) :=
  each_alters _ _ (fun c _ _ => setCv_alters c i _) c

theorem cnvModeWrite_word (c : Chip) (i : Nat) (d : Word) : (c.cnvModeWrite i d).word (cnvK i 0x100) = d &&& 0x8000_0000#32 := by
  have hmarks (c : Chip) (p : Prop) [Decidable p] : c.Alters (atOffset fun o _ => o = 0x114) (if p then c.markFiltered i else c) :=
    .ite (markFiltered_alters c i) (.refl _ c)
  refine Chip.Alters.cnvWord (by decide) ((hmarks (c.setWord (cnvK i 0x100) (d &&& 0x8000_0000#32)) _).trans (takeMode_alters ..))
    (fun _ => by decide) |>.trans ?_
  exact Chip.word_setWord_same ..

/-! ### An entry (R327, R335) -/

/-- The checks of an entry word pass: an input of the converter's bank, the even one of a pair for DIFF, a GAIN up to 16 and an ACQ of 4
or more. -/
structure EntryLegal (i : Nat) (d : Word) : Prop where
  bank : getBits d 24 6 / 32 = i / 2
  diff : d.getLsbD 23 = true → getBits d 24 6 % 2 = 0
  gain : getBits d 20 3 ≤ 4
  acq : 4 ≤ getBits d 0 10

theorem cnvEntWrite_word {d : Word} (h : EntryLegal i d) (c : Chip) (m e : Nat) :
    (c.cnvEntWrite m i e d).word (cnvK i (0x180 + 4 * e)) = d &&& 0xBFFC_03FF#32 := by
  have hinput : getBits (d &&& 0xBFFC_03FF#32) 24 6 = getBits d 24 6 := getBits_masked d _ (by decide)
  have hgain : getBits (d &&& 0xBFFC_03FF#32) 20 3 = getBits d 20 3 := getBits_masked d _ (by decide)
  have hacq : getBits (d &&& 0xBFFC_03FF#32) 0 10 = getBits d 0 10 := getBits_masked d _ (by decide)
  have hdiff : (d &&& 0xBFFC_03FF#32).getLsbD 23 = d.getLsbD 23 := by simp
  have hpair : ¬ (d.getLsbD 23 = true ∧ getBits d 24 6 % 2 = 1) := fun ⟨hd, h1⟩ => by
    have heven := h.diff hd
    omega
  have hgain4 : ¬ 4 < getBits d 20 3 := Nat.not_lt.2 h.gain
  have hacq4 : ¬ getBits d 0 10 < 4 := Nat.not_lt.2 h.acq
  unfold Chip.cnvEntWrite
  dsimp only
  rw [hinput, hgain, hacq, hdiff, if_neg (by simpa [h.bank, hgain4, hacq4] using hpair)]
  have hmarked (t : Chip) (ht : t.words = (c.setWord (cnvK i (0x180 + 4 * e)) (d &&& 0xBFFC_03FF#32)).words) :
      t.word (cnvK i (0x180 + 4 * e)) = d &&& 0xBFFC_03FF#32 := (word_of_words ht _).trans (Chip.word_setWord_same ..)
  split_ifs
  · exact hmarked _ rfl
  · exact hmarked _ rfl
  · exact hmarked _ rfl
  · exact hmarked _ rfl

/-! ### A sequence (R335) -/

/-- A disabled sequence takes a configuration that is disabled or passes the checks. -/
theorem cnvSeqWrite_word {q : Nat} {d : Word} (hoff : c.bit (cnvK i (0x120 + 8 * q)) 31 = false)
    (hd : d.getLsbD 31 = false ∨ seqCode (d &&& 0xFFF0_7C1F#32) = 0) (m : Nat) :
    (c.cnvSeqWrite m i q d).word (cnvK i (0x120 + 8 * q)) = d &&& 0xFFF0_7C1F#32 := by
  have hen : (d &&& 0xFFF0_7C1F#32).getLsbD 31 = d.getLsbD 31 := by simp
  have hlegal : ¬ (d.getLsbD 31 && seqCode (d &&& 0xFFF0_7C1F#32) != 0) = true := by
    rcases hd with h | h
    · rw [h, Bool.false_and]
      decide
    · rw [h]
      simp
  unfold Chip.cnvSeqWrite
  dsimp only
  rw [if_neg (by rw [← Chip.bit, hoff]; decide), hen, if_neg hlegal]
  exact Chip.word_setWord_same ..

/-! ### The registers that are written -/

section
variable (hi : i < 4) (c : Chip) (m : Nat) (d : Word) (keyed : Bool)
include hi

theorem instOf_cnvK {o : Nat} (ho : o < 4096) : instOf (cnvK i o) = i := instOf_pageAddr CNV i o (by omega) ho

theorem cnvWrite_mode : c.cnvWrite m (cnvK i 0x100) [d] keyed = c.cnvModeWrite i d := by
  simp [Chip.cnvWrite, instOf_cnvK hi, offOf_cnvK, hi]

theorem cnvWrite_cmd : c.cnvWrite m (cnvK i 0x110) [d] keyed = c.cnvCmd i d := by
  simp [Chip.cnvWrite, instOf_cnvK hi, offOf_cnvK, hi]

theorem cnvWrite_seq {q : Nat} (hq : q < 4) : c.cnvWrite m (cnvK i (0x120 + 8 * q)) [d] keyed = c.cnvSeqWrite m i q d := by
  have hrange : 0x120 ≤ 0x120 + 8 * q ∧ 0x120 + 8 * q < 0x140 ∧ (0x120 + 8 * q) % 8 = 0 := by omega
  unfold Chip.cnvWrite
  dsimp only
  rw [instOf_cnvK hi (by omega), offOf_cnvK (by omega), if_pos hi, if_neg (by omega), if_neg (by omega), if_neg (by omega), if_neg (by omega),
    if_pos (by simpa [and_assoc] using hrange), show (0x120 + 8 * q - 0x120) / 8 = q by omega]
  rfl

theorem cnvWrite_entry {e : Nat} (he : e < 32) : c.cnvWrite m (cnvK i (0x180 + 4 * e)) [d] keyed = c.cnvEntWrite m i e d := by
  have hrange : 0x180 ≤ 0x180 + 4 * e ∧ 0x180 + 4 * e < 0x200 := by omega
  have hbehind : ¬ 0x180 + 4 * e < 0x140 := by omega
  unfold Chip.cnvWrite
  dsimp only
  rw [instOf_cnvK hi (by omega), offOf_cnvK (by omega), if_pos hi, if_neg (by omega), if_neg (by omega), if_neg (by omega), if_neg (by omega),
    if_neg (by simp [hbehind]), if_pos (by simpa using hrange), show (0x180 + 4 * e - 0x180) / 4 = e by omega]
  rfl

end

/-! ### The read of a result word (R322) -/

theorem wide_congr {k n : Nat} (h : ∀ j < n, c'.word (k + 4 * j) = c.word (k + 4 * j)) : c'.wide k n = c.wide k n := by
  induction n generalizing k with
  | zero => rfl
  | succ n ih =>
    have hlow : c'.word k = c.word k := h 0 (by omega)
    have hhigh : c'.wide (k + 4) n = c.wide (k + 4) n := ih fun j hj => by
      have hnext := h (j + 1) (by omega)
      rwa [show k + 4 * (j + 1) = k + 4 + 4 * j by omega] at hnext
    rw [Chip.wide, Chip.wide, hlow, hhigh]

theorem wide_setWide_same (c : Chip) (k n v : Nat) : (c.setWide k n v).wide k n = v % 2 ^ (32 * n) := by
  induction n generalizing c k v with
  | zero => simp [Chip.wide, Nat.mod_one]
  | succ n ih =>
    have hlow : (c.setWide k (n + 1) v).word k = BitVec.ofNat 32 v := by
      have hrest := setWide_alters (S := fun a _ => k < a) (c.setWord k (BitVec.ofNat 32 v)) (k + 4) n (v / 2 ^ 32) fun j _ _ => by omega
      exact (hrest.word k fun _ => by omega).trans (Chip.word_setWord_same ..)
    rw [Chip.wide, hlow, Chip.setWide, ih, BitVec.toNat_ofNat, show 32 * (n + 1) = 32 + 32 * n by omega, Nat.pow_add, Nat.mod_mul]

theorem stampOf_setStamp_same (c : Chip) (k : Nat) (s : Stamp) : (c.setStamp k s).stampOf k = s := by
  rw [Chip.stampOf, Chip.setStamp, wide_setWide_same, Nat.mod_eq_of_lt s.isLt]
  exact BitVec.ofNat_toNat 96 s |>.trans (BitVec.setWidth_eq s)

section
variable {m e : Nat} (hi : i < 4) (he : e < 32)
include hi he

theorem resultAt_entry (part : Part) :
    resultAt part (cnvK i (0x800 + 8 * e)) = some { base := cnvK i (0x800 + 8 * e), consuming := false, word := 0 } := by
  have ho : 0x800 + 8 * e < 4096 := by omega
  have htw : isTw (cnvK i (0x800 + 8 * e)) = false := isTw_pageAddr CNV i _ (by omega) ho
  have hblock : blockOf (cnvK i (0x800 + 8 * e)) = CNV := blockOf_pageAddr CNV i _ (by decide) (by omega) ho
  have hpage : pageOf (cnvK i (0x800 + 8 * e)) = pageAddr CNV i 0 := pageOf_pageAddr CNV i _ ho
  have hexists : pageExists part CNV i = true := by
    have hhas : hasPage CNV i = true := decide_eq_true (show i < 5 by omega)
    rw [pageExists, hhas, show absent8620 CNV i = false from rfl]
    cases part <;> rfl
  have hcount : resultCount CNV i = 32 := if_pos hi
  have hbase : pageAddr CNV i 0 + 0x800 + 8 * e = cnvK i (0x800 + 8 * e) := by
    simp only [cnvK, pageAddr]
    omega
  have hbelow : ¬ 0xC00 ≤ 0x800 + 8 * e := by omega
  unfold resultAt
  rw [htw, hblock, instOf_cnvK hi ho, hexists, offOf_cnvK ho, hpage, hcount]
  simp only [hbelow, decide_false, Bool.false_eq_true, if_false, show 0x800 + 8 * e - 0x800 = 8 * e by omega,
    show 8 * e / 8 = e by omega, show 8 * e / 4 % 2 = 0 by omega, he, if_true, show e * 8 = 8 * e by omega, hbase,
    show ¬ 0x800 + 8 * e < 0x800 by omega, Bool.not_true, Bool.or_self]

/-- The read of an entry's result word captures its stamp. -/
theorem readEffect_entry (c : Chip) (m : Nat) : c.readEffect m (cnvK i (0x800 + 8 * e)) = c.cnvCapture m i e := by
  have ho : 0x800 + 8 * e < 4096 := by omega
  have hblock : blockOf (cnvK i (0x800 + 8 * e)) = CNV := blockOf_pageAddr CNV i _ (by decide) (by omega) ho
  rw [Chip.readEffect, resultAt_entry hi he]
  dsimp only
  rw [Chip.resultRead, hblock, instOf_cnvK hi ho, offOf_cnvK ho, if_pos rfl, show (0x800 + 8 * e - 0x800) / 8 = e by omega]
  rfl

end

theorem cnvCapture_alters (c : Chip) (m i e : Nat) : c.Alters (fun k _ => 2 ^ 25 ≤ k) (c.cnvCapture m i e) :=
  setStamp_alters c _ _ fun j _ _ => by
    simp only [viewKey]
    omega

/-! ### The commands -/

theorem exec_cnvSequenceTrigger (s : State) : exec .cnvSequenceTrigger s = s.anytime fun c => c.strobe := rfl
theorem exec_cnvSoftTrigger (s : State) (m i : Nat) (d : Word) : exec (.cnvSoftTrigger m i d) s = s.put m (cnvK i 0x110) d := rfl
theorem exec_cnvAbort (s : State) (m i : Nat) (d : Word) : exec (.cnvAbort m i d) s = s.put m (cnvK i 0x110) d := rfl
theorem exec_filterRoundStart (s : State) (i : Nat) :
    exec (.filterRoundStart i) s = s.enabledEvent CNV i fun c => c.roundStart i := rfl
theorem exec_cnvModeWrite (s : State) (m i : Nat) (d : Word) : exec (.cnvModeWrite m i d) s = s.put m (cnvK i 0x100) d := rfl
theorem exec_cnvEntryWrite (s : State) (m i e : Nat) (d : Word) :
    exec (.cnvEntryWrite m i e d) s = s.put m (cnvK i (0x180 + 4 * e)) d := rfl
theorem exec_cnvSeqCfgWrite (s : State) (m i q : Nat) (d : Word) :
    exec (.cnvSeqCfgWrite m i q d) s = s.put m (cnvK i (0x120 + 8 * q)) d := rfl
theorem exec_cnvResultRead (s : State) (m i e : Nat) :
    exec (.cnvResultRead m i e 4 false) s = s.read m (cnvK i (0x800 + 8 * e)) 4 := rfl

/-- The end of a conversion needs no power (R337), so it takes place wherever the page acts. -/
theorem exec_conversionDone {s : State} {i : Nat} (ha : s.chip.acts CNV i = true) (hon : s.chip.pageOn CNV i = true) (nv : Int) :
    exec (.conversionDone i nv) s = .next (s.settle fun c => c.convDone i nv) := by
  have hacts : (s.chip.pwr.held.isNone && !s.chip.resetting CNV i && !s.chip.frozen CNV i && s.chip.pageOn CNV i) = true := by
    simp only [Chip.acts, Bool.and_eq_true] at ha ⊢
    obtain ⟨⟨⟨⟨hheld, -⟩, hreset⟩, hfrozen⟩, -⟩ := ha
    exact ⟨⟨⟨hheld, hreset⟩, hfrozen⟩, hon⟩
  exact if_pos hacts

/-- The configuration of the statement: sequence 2 of converter D listens to trigger 5, and the line has been raised. -/
def triggerRaised : State :=
  let r := State.ready [(cnvK 3 8, 1), (cnvK 3 (0x120 + 8 * 2), 0x8050_1000 + 7), (cnvK 3 (0x180 + 4 * 4), 0x2000_0000)]
  { r with chip := { r.chip with strobes := [(5, 0)] } }

theorem cnvSequenceTrigger_begins : Answers (exec .cnvSequenceTrigger triggerRaised) fun t =>
    t.chip.strobes = [] ∧ t.chip.seqActive 3 2 = true ∧ (t.chip.cv 3).cur.map (fun q => (q.entry, q.seq)) = some (4, some 2) :=
  ⟨_, (exec_cnvSequenceTrigger _).trans (anytime_acts _ _ (by decide +kernel)), by decide +kernel⟩

section
variable {s : State} {m : Nat} (hi : i < 4) {d : Word}
include hi

theorem cnvSoftTrigger_answers {q : Nat} (hq : q < 4) (h : s.chip.takes m (cnvK i 0x110) false = true) (hd : d.getLsbD 31 = false)
    (hdq : d.getLsbD q = true) (ht : s.chip.takesTriggers i q = true) :
    Answers (exec (.cnvSoftTrigger m i d) s) fun t => t.chip.seqActive i q = true ∧ t.chip.resp.status = .done := by
  obtain ⟨t, he, hwords, hdone⟩ := put_cnv (by omega) (by decide) (by decide) (exec_cnvSoftTrigger s m i d) h (cnvWrite_cmd hi ..)
  exact ⟨t, he, (bit_of_words hwords ..).trans (cnvCmd_triggers hq hd hdq ht), hdone⟩

theorem cnvAbort_answers (h : s.chip.takes m (cnvK i 0x110) false = true) (hd : d.getLsbD 31 = true) (hd4 : getBits d 0 4 = 0) :
    Answers (exec (.cnvAbort m i d) s) fun t => (∀ q, q < 4 → t.chip.seqActive i q = false) ∧ t.chip.resp.status = .done := by
  obtain ⟨t, he, hwords, hdone⟩ := put_cnv (by omega) (by decide) (by decide) (exec_cnvAbort s m i d) h (cnvWrite_cmd hi ..)
  exact ⟨t, he, fun q hq => (bit_of_words hwords ..).trans (cnvCmd_aborts hq hd hd4), hdone⟩

theorem cnvModeWrite_answers (h : s.chip.takes m (cnvK i 0x100) false = true) : Answers (exec (.cnvModeWrite m i d) s) fun t =>
    t.chip.word (cnvK i 0x100) = (d &&& 0x8000_0000#32) ∧ t.chip.resp.status = .done := by
  obtain ⟨t, he, hwords, hdone⟩ := put_cnv (by omega) (by decide) (by decide) (exec_cnvModeWrite s m i d) h (cnvWrite_mode hi ..)
  exact ⟨t, he, (word_of_words hwords _).trans (cnvModeWrite_word ..), hdone⟩

theorem cnvEntryWrite_answers {e : Nat} (he : e < 32) (h : s.chip.takes m (cnvK i (0x180 + 4 * e)) false = true) (hd : EntryLegal i d) :
    Answers (exec (.cnvEntryWrite m i e d) s) fun t => t.chip.word (cnvK i (0x180 + 4 * e)) = (d &&& 0xBFFC_03FF#32) := by
  obtain ⟨t, ht, hwords, -⟩ := put_cnv (by omega) (by omega) (by omega) (exec_cnvEntryWrite s m i e d) h (cnvWrite_entry hi _ _ _ _ he)
  exact ⟨t, ht, (word_of_words hwords _).trans (cnvEntWrite_word hd ..)⟩

theorem cnvSeqCfgWrite_answers {q : Nat} (hq : q < 4) (h : s.chip.takes m (cnvK i (0x120 + 8 * q)) false = true)
    (hoff : s.chip.bit (cnvK i (0x120 + 8 * q)) 31 = false) (hd : d.getLsbD 31 = false ∨ seqCode (d &&& 0xFFF0_7C1F#32) = 0) :
    Answers (exec (.cnvSeqCfgWrite m i q d) s) fun t => t.chip.word (cnvK i (0x120 + 8 * q)) = (d &&& 0xFFF0_7C1F#32) := by
  obtain ⟨t, ht, hwords, -⟩ := put_cnv (by omega) (by omega) (by omega) (exec_cnvSeqCfgWrite s m i q d) h (cnvWrite_seq hi _ _ _ _ hq)
  exact ⟨t, ht, (word_of_words hwords _).trans (cnvSeqWrite_word hoff hd m)⟩

theorem cnvResultRead_answers {e : Nat} (he : e < 32) (h : s.chip.gives m (cnvK i (0x800 + 8 * e)) = true) :
    Answers (exec (.cnvResultRead m i e 4 false) s) fun t =>
      t.chip.resp = { status := .done, data := [(s.chip.readWords m (cnvK i (0x800 + 8 * e))).getD 0 0] } ∧
      t.chip.stampOf (viewKey m (cnvK i 0x300)) = tab 0 s.chip.stamps (cnvK i (0x800 + 8 * e)) ∧
      ∀ k, k < 2 ^ 25 → t.chip.word k = s.chip.word k := by
  obtain ⟨t, ht, hwords, -, hresp⟩ := read_answers s m (exec_cnvResultRead s m i e) h
  rw [readEffect_entry hi he] at hwords
  refine ⟨t, ht, hresp, ?_, fun k hk => ?_⟩
  · rw [Chip.stampOf, wide_congr fun _ _ => word_of_words hwords _]
    exact stampOf_setStamp_same ..
  · rw [word_of_words hwords, (cnvCapture_alters ..).word k fun _ => by omega]

end

section
variable {s : State} (ha : s.chip.acts CNV i = true) (hon : s.chip.pageOn CNV i = true)
include ha hon

theorem conversionDone_answers {q : Conv} (hcur : (s.chip.cv i).cur = some q) (hq : q.entry < 32) (hf : s.chip.filtering i = false)
    (hs : s.chip.standby = false) (nv : Int) : Answers (exec (.conversionDone i nv) s) fun t =>
      t.chip.word (cnvK i (0x804 + 8 * q.entry)) = codeData q.ent (codeOf q.ent nv).c :=
  ⟨_, exec_conversionDone ha hon nv, (settle_word ..).trans (convDone_data hcur hq hf hs nv)⟩

variable (hrun : s.chip.running = true) (hf : s.chip.filtering i = true)
include hrun hf

theorem filterRoundStart_busy_answers (hcur : (s.chip.cv i).cur.isSome = true) : Answers (exec (.filterRoundStart i) s) fun t =>
    (t.chip.cv i).again = true ∧ (t.chip.cv i).cur = (s.chip.cv i).cur ∧ t.chip.words = s.chip.words := by
  obtain ⟨t, ht, hshow⟩ := cnvEvent_shows ha hon (exec_filterRoundStart s i)
  rw [roundStart_busy hon hrun hf hcur] at hshow
  have hcv : t.chip.cv i = { s.chip.cv i with again := true } := (hshow.cv i).trans (cv_setCv_same ..)
  exact ⟨t, ht, by rw [hcv], by rw [hcv], hshow.words⟩

theorem filterRoundStart_free_answers (hcur : (s.chip.cv i).cur = none) (hround : (s.chip.cv i).round = []) :
    Answers (exec (.filterRoundStart i) s) fun t =>
      (t.chip.cv i).cur.map (fun q => (q.entry, q.seq)) = (s.chip.roundOf i).head?.map (fun e => (e, none)) ∧
      (t.chip.cv i).round = (s.chip.roundOf i).drop 1 ∧ t.chip.bit (cnvK i 0x114) 26 = s.chip.paceShort i := by
  obtain ⟨t, ht, hshow⟩ := cnvEvent_shows ha hon (exec_filterRoundStart s i)
  obtain ⟨hfirst, hrest, hpace⟩ := roundStart_begins hon hrun hf hcur hround
  refine ⟨t, ht, ?_, ?_, (hshow.bit ..).trans hpace⟩
  · rw [hshow.cv]
    exact hfirst
  · rw [hshow.cv]
    exact hrest

end

/-- Settles O38: the configuration is evaluated, and each general clause is the lemma of its command. -/
theorem converterSequences : Obligations.ConverterSequences := by
  unfold Obligations.ConverterSequences
  refine ⟨cnvSequenceTrigger_begins, fun s m i d hi _ => ⟨fun h => ⟨?_, ?_⟩, ?_, ?_, cnvModeWrite_answers hi, ?_, ?_, ?_⟩⟩
  · intro q hq hd hdq hon hrun hf hen
    exact cnvSoftTrigger_answers hi hq h hd hdq (by simp [Chip.takesTriggers, hon, hrun, hf, hen])
  · exact fun hd hd4 _ => cnvAbort_answers hi h hd hd4
  · exact fun nv q ha hon hcur hq hf hs => conversionDone_answers ha hon hcur hq hf hs nv
  · exact fun ha hon hf hrun => ⟨filterRoundStart_busy_answers ha hon hrun hf, filterRoundStart_free_answers ha hon hrun hf⟩
  · exact fun e he h hbank hdiff hgain hacq => cnvEntryWrite_answers hi he h ⟨hbank, hdiff, hgain, hacq⟩
  · exact fun q hq h hoff hd => cnvSeqCfgWrite_answers hi hq h hoff hd
  · exact fun e he h => cnvResultRead_answers hi he h

end Sys2Proof.Machine
end
